-- ==== Sys2Proof/Word.lean ====
section
/-!
DEFINITION. Word.lean: the word types of the module and their plainest arithmetic. The control space is 32 bits wide (R6);
an engine's data registers are 16 bits, its address registers 18 bits and its accumulators 40 bits wide (R201).
-/
namespace Sys2Proof

/-- A control-space word (R6). -/
abbrev Word := BitVec 32

/-- A byte of memory. -/
abbrev Byte := BitVec 8

/-- An engine data register D0–D7 (R201). -/
abbrev Data := BitVec 16

/-- An engine address register A0–A7 (R201). -/
abbrev Addr := BitVec 18

/-- An engine accumulator ACA or ACB (R201). -/
abbrev Accum := BitVec 40

end Sys2Proof
end

