-- ==== Sys2Proof/Syntax.lean ====
section
/-!
DEFINITION. Syntax.lean: the commands that the block takes from outside, as data. One constructor of Instr per row of
spec/opcode_table.json. A command is a host or signal-box access, an event at a land or a link, a moment of the module's own clock
that the spec names, or an engine instruction; what only the outside world can know (a measured energy, a phase, the content of an
image slot) is an operand.
-/
namespace Sys2Proof

/-- Who makes a control-space access (R8): host software (BAR0 or MGMT) or the signal box. -/
inductive Source where
  | host
  | signalBox
deriving DecidableEq, Repr

/-- A read of a register by host software: the instant and the byte enables, 15 for the whole word (R7). -/
structure ReadAt where
  at_ : Nat
  be : Nat
deriving DecidableEq, Repr

/-- Where the signal box's composition of a yard (R197) places a section's program and a job's data: the first IMEM word of the program,
the words of the constant regions with the first word of its own constants in each, the scratch regions' first words, and the yard words of the descriptor, the input buffer, the resident
state of job channel 0, the engine's FFT window and the yard constants, and the DRAM byte address of the DRAM state of job channel 0. -/
structure ShareLayout where
  code : Nat
  xConst : Nat
  yConst : Nat
  xAt : Nat
  yAt : Nat
  xScratch : Nat
  yScratch : Nat
  desc : Nat
  input : Nat
  state : Nat
  fft : Nat
  consts : Nat
  dram : Nat
deriving DecidableEq, Repr

/-- One timetable section of an image: the fields of its 64-byte header (R57) with the block-section count, its record table (type, offset and length
of each record), whether the tag of its encrypted engine code verifies (R198), the register values of its records (address and word, R57), its
waveforms (slot and words, R52), the bytes of its record of block sections (R168), those of the plaintext of its engine code (R198), and what the
customer feature code of each section declares: unit (binary32), delay and identity (R156, R160). -/
structure Timetable where
  magic : Nat
  version : Nat
  index : Nat
  flags : Nat
  length : Nat
  minEngines : Nat
  sectionCount : Nat
  tableOff : Nat
  records : List (Nat × Nat × Nat)
  tagOk : Bool
  storeMs : Nat
  loadMips : Nat
  regs : List (Nat × Nat)
  waves : List (Nat × List Nat)
  sectRec : List Nat
  code : List Nat
  feats : List (Nat × Nat × Nat)
deriving DecidableEq, Repr

/-- An image slot's content as the signal box reads it (R396–R398): the fields of its 128-byte header, its module-record table (type, offset and length
of each entry), whether its signature verifies over the bytes before it, the module records (register address and word), the linearisation tables of
its sensor record (table and breakpoints, R271), DM_LOCKED of its optical record and the timetable sections. -/
structure Image where
  magic : Nat
  version : Nat
  partMask : Nat
  flags : Nat
  length : Nat
  build : Nat
  rl : Nat
  ttCount : Nat
  recCount : Nat
  tableOff : Nat
  ttOffs : List Nat
  key : List (BitVec 8)
  entries : List (Nat × Nat × Nat)
  signatureOk : Bool
  records : List (Nat × Nat)
  tables : List (Nat × List (Nat × Int))
  dmLocked : Bool
  timetables : List Timetable
deriving DecidableEq, Repr

/-- What one sampling lane delivers over one sweep (R96, R102, R103): its corrected codes with the number of samples that had each, the samples of
the sweep's launches included; the largest interleave spur in dB below full scale and the measured skew in 0.01 ps. -/
structure LaneMeasure where
  codes : List (Int × Nat)
  spur : Nat
  skew : Int
deriving DecidableEq, Repr

/-- What a calibration pass measures (R282): the delays D_RX, τ_RI and D_BR and EV_TRIGIN_SKEW in their registers' units, the lane skews in
0.01 ps, the receive noise floors of the 16 slots, gain and offset of HKA and HKB, and for each lane its slices' corrections (offset, gain,
timing). -/
structure CalRecord where
  dRx : Nat
  tau : Nat
  dBr : Nat
  trigSkew : Nat
  skews : List Int
  noise : List Nat
  hk : List (Int × Int)
  slices : List (List (Int × Int × Int))
deriving DecidableEq, Repr

/-- A failure that a self-test slice or the quick test finds (R424, R428, R431): unit, failing bit position, and the failing addresses: SRAM
protection words, DRAM words as channel address ÷ 8, or scan chains. -/
structure UnitFail where
  unit : Nat
  bit : Nat
  addrs : List Nat
deriving DecidableEq, Repr

/-- The return of one group launch: the lanes' samples of polarisation X and Y (R113), the first of them 1,023 samples before the input sample of
range bin 0's first reference tap (R115, R119), and the interferometer's values q of the output indices that follow that of bin 0, one for each
further bin (R120). `ri` tells where the interferometer's signal is lost or comes back while the return arrives: from that bin on arg(q) is replaced
by the mean given (in 2⁻⁵⁶ turn), or is used again (R121). -/
structure Return where
  x : List (Int × Int)
  y : List (Int × Int)
  q : List (Int × Int)
  ri : List (Nat × Option Int)
deriving DecidableEq, Repr

/-- A data or address register number. -/
abbrev RegNo := BitVec 3

/-- The parallel moves of a format-M word (R219): enable, target, address register and post-modification of the X and of the Y move. -/
structure Moves where
  ex : Bool
  dx : RegNo
  ax : BitVec 2
  mx : BitVec 2
  ey : Bool
  dy : RegNo
  ay : BitVec 2
  my : BitVec 2
deriving DecidableEq, Repr

/-- An engine instruction with its fields (R219, R220). `mode` is the addressing mode of R207, `off` the offset of mode 100; `b` selects
accumulator B. -/
inductive EOp where
  | nop
  | exit
  | rpt (n : BitVec 13)
  | rptd (s : RegNo)
  | br (c : BitVec 4) (target : BitVec 12)
  | call (target : BitVec 12)
  | ret
  | dbnz (d : RegNo) (target : BitVec 12)
  | add (d s t : RegNo)
  | adds (d s t : RegNo)
  | sub (d s t : RegNo)
  | subs (d s t : RegNo)
  | and (d s t : RegNo)
  | or (d s t : RegNo)
  | xor (d s t : RegNo)
  | min (d s t : RegNo)
  | max (d s t : RegNo)
  | cmp (s t : RegNo)
  | mov (d s : RegNo)
  | abs (d s : RegNo)
  | neg (d s : RegNo)
  | ldi (d : RegNo) (i : BitVec 16)
  | addi (d : RegNo) (i : BitVec 16)
  | cmpi (d : RegNo) (i : BitVec 16)
  | shl (d s : RegNo) (n : BitVec 4)
  | shr (d s : RegNo) (n : BitVec 4)
  | asr (d s : RegNo) (n : BitVec 4)
  | shls (d s : RegNo) (n : BitVec 4)
  | ld (d a : RegNo) (mode : BitVec 3) (off : BitVec 12)
  | st (s a : RegNo) (mode : BitVec 3) (off : BitVec 12)
  | lda (a base : RegNo) (mode : BitVec 3) (off : BitVec 12)
  | sta (a base : RegNo) (mode : BitVec 3) (off : BitVec 12)
  | mova (a : RegNo) (i : BitVec 18)
  | adda (a s : RegNo)
  | movda (d a : RegNo)
  | movmo (k : BitVec 2) (i : BitVec 16)
  | movmm (k : BitVec 2) (i : BitVec 13)
  | movs (d : RegNo) (lc : Bool)
  | movtf (s : RegNo)
  | setq (q : BitVec 3)
  | acld (b : Bool) (s : RegNo) (sh : BitVec 6)
  | acsh (b : Bool) (sh : BitVec 6)
  | acadd (b : Bool)
  | rnd (d : RegNo) (b : Bool) (sh : BitVec 6)
  | acx (d : RegNo) (b : Bool) (f : BitVec 6)
  | rmsq (d : RegNo) (b : Bool) (t : RegNo)
  | log2 (d : RegNo) (b : Bool)
  | setch (s : RegNo)
  | put (p : BitVec 3) (v : BitVec 4) (s : RegNo)
  | trn (v l : RegNo) (k x : BitVec 2)
  | palr (p : Bool)
  | fout
  | ffts (a s : RegNo) (inv hann : Bool)
  | fftw (d : RegNo)
  | fill (a m n : RegNo)
  | spill (a m n : RegNo)
  | dmaw
  | movp (mv : Moves)
  | clr (b : Bool) (mv : Moves)
  | mpy (b : Bool) (s1 s2 : RegNo) (mv : Moves)
  | mac (b : Bool) (s1 s2 : RegNo) (mv : Moves)
  | msu (b : Bool) (s1 s2 : RegNo) (mv : Moves)
deriving DecidableEq, Repr


/-- The commands of the block: one constructor per row of the opcode table, with the row's operands. A command's docstring gives the
table's summary and the rule that describes it. Instants `t` are in ticks of 2⁻¹⁶ ns (R13). -/
inductive Instr where
  /-- REGISTER_WRITE (R8): A host or signal-box write to a control-space register that has no row of its own sets its fields according to their access types. `be` are the byte enables, `allocated` as for BT_RUN where the write is to that register. -/
  | registerWrite (src : Source) (t addr value be : Nat) (allocated : Bool)
  /-- SAT_CLEAR (R470): Writing 1 to a counter SAT bit clears the bit and its counter together. `addr` is the register that holds the SAT bit, `value` the word written. -/
  | satClear (t addr value : Nat)
  /-- FB_UTIL_READ (R195): A read of FB_UTIL returns PEAK and then clears it. -/
  | fbUtilRead (t : ReadAt)
  /-- MGMT_READ (R449): An MGMT transaction with command 0x0B reads consecutive control-space words. `n` is the number of words. -/
  | mgmtRead (t addr n : Nat)
  /-- MGMT_WRITE (R449): An MGMT transaction with command 0x02 writes consecutive control-space words, each taking effect as its fourth byte completes. `words` are the whole words of the transaction, `allocated` as for BT_RUN. -/
  | mgmtWrite (t addr : Nat) (words : List Nat) (allocated : Bool)
  /-- MGMT_INVALID_COMMAND (R449): An MGMT transaction with any other command byte returns 0xFF and acts on nothing. -/
  | mgmtInvalidCommand (t : Nat)
  /-- SWEEP_BOUNDARY (R45): At the end of each sweep the scheduler starts the next sweep, advances the sweep count and applies sweep-boundary changes. `lanes` holds what the six lanes measured over the sweep that ends (R102, R103). -/
  | sweepBoundary (t : Nat) (lanes : List LaneMeasure)
  /-- GROUP_LAUNCH (R53): At a group's launch instant the module forms and plays the summed drive waveform, or withholds it, and advances the slots' pulse sequence numbers. `tx` and `sense` are the energies in pJ that the two monitors measure for the launch, if it is made (R72), and `ret` what the fibre returns of it. -/
  | groupLaunch (t g tx sense : Nat) (ret : Return)
  /-- BRILLOUIN_LAUNCH (R50): On every EVERY-th counted sweep the Brillouin pulse is launched in interval 0 and its return accumulated. `tx` and `sense` as for a group launch; `samples` are the complex codes of lanes BI and BQ from sample s_ℓ + D_BR on (R247). -/
  | brillouinLaunch (t tx sense : Nat) (samples : List (Int × Int))
  /-- DIAGNOSTIC_PULSE (R82): A 100 pJ diagnostic pulse is launched in the reserved window and judged at both monitors. `tx` and `sense` are the energies in pJ that the monitors measure over the pulse. -/
  | diagnosticPulse (t tx sense : Nat)
  /-- RETEST_PULSE (R82): A re-test diagnostic pulse owed after a RESUME is launched at the first permitted launch instant and judged. `tx` and `sense` as for a diagnostic pulse. -/
  | retestPulse (t tx sense : Nat)
  /-- TRIGGERED_LAUNCH (R365): A triggered pulse is launched 28 ns after a qualified TRIG_IN edge, or refused. `t` is the launch instant, 28 ns after the edge; `tx` and `sense` as for a group launch. -/
  | triggeredLaunch (t tx sense : Nat)
  /-- RECEIVE_GUARD_END (R47): At the end of a slot's receive guard the measured power is judged against the noise floor. `level` is the power in the slot band relative to the recorded receive noise floor, in tenths of a dB. -/
  | receiveGuardEnd (t slot : Nat) (level : Int)
  /-- TT_SWITCH_REQUEST (R58): Writing SB_TT_REQUEST with GO submits a timetable switch request. `value` is the word written to SB_TT_REQUEST. -/
  | ttSwitchRequest (src : Source) (t value : Nat)
  /-- TT_SWITCH_CHECK (R59): Within 1 ms the requested index is checked and the switch enters PREPARING or REJECT. -/
  | ttSwitchCheck (t : Nat)
  /-- TT_SHADOW_READY (R59): The shadow sets of every affected block are loaded and the switch becomes READY. -/
  | ttShadowReady (t : Nat)
  /-- EPOCH (R34): At the chosen sweep boundary every shadow set becomes active together. The epoch stands for the sweep boundary at which it falls: it ends the old sweep and starts the first sweep of the new timetable; `lanes` as for a sweep boundary. -/
  | epoch (t : Nat) (lanes : List LaneMeasure)
  /-- TT_SWITCH_DONE (R59): Within 1 ms of the epoch the switch shows DONE and event 0x0D40 is posted. -/
  | ttSwitchDone (t : Nat)
  /-- LASER_UNLOCK (R68): The laser loses LOCKED and the LASER cause is set. -/
  | laserUnlock (t : Nat)
  /-- LASER_LOCKED (R68): The laser regains LOCKED and the LASER cause clears. -/
  | laserLocked (t : Nat)
  /-- DARK (R71): The OP_CTRL DARK command sets the HOST_DARK cause. -/
  | dark (t : Nat)
  /-- PROBE (R71): The OP_CTRL PROBE command sets the HOST_PROBE cause. -/
  | probe (t : Nat)
  /-- RESUME (R71): The OP_CTRL RESUME command clears every DARK cause that it may clear. -/
  | resume (t : Nat)
  /-- RESTORE (R71): The OP_CTRL RESTORE command clears the clearable PROBE causes and any confirmed break. -/
  | restore (t : Nat)
  /-- REBASE (R84): The OP_CTRL REBASE command starts re-establishing the reference end. -/
  | rebase (t : Nat)
  /-- FUSE_ARM (R77): Writing 0x0000_5AFE to OP_FUSE opens or restarts the fuse sequence. -/
  | fuseArm (t : Nat)
  /-- FUSE_BLOW (R77): Writing 0x0000_F05E to OP_FUSE blows the safe-optical fuse if the sequence and conditions hold, or refuses. -/
  | fuseBlow (t : Nat)
  /-- FUSE_OTHER_VALUE (R77): Any other value written to OP_FUSE while a sequence is open ends it with RESULT 5. -/
  | fuseOtherValue (t value : Nat)
  /-- INTERLOCK_OPEN (R78): INTERLOCK# going high closes the gate in hardware and sets the INTERLOCK cause. -/
  | interlockOpen (t : Nat)
  /-- INTERLOCK_OK (R78): INTERLOCK# low without interruption for 100 ms sets LOOP_OK, clearing INTERLOCK when AUTO is 1. -/
  | interlockOk (t : Nat)
  /-- KICK (R79): A write to OP_DM_KICK is judged as a valid kick that reloads the timer or as a bad kick. -/
  | kick (t value : Nat)
  /-- DM_CFG_WRITE (R81): A write to OP_DM_CFG applies the lock limits and reloads the dead-man timer. -/
  | dmCfgWrite (src : Source) (t value : Nat)
  /-- DEADMAN_EXPIRED (R80): The dead-man timer reaches 0 with EN set and the DEADMAN cause is set. -/
  | deadmanExpired (t : Nat)
  /-- BREAK_DETECTION (R84): The probe group's amplitude profile of a launch is evaluated for its end of backscatter. The profile is that of the probe group's latest launch (R127). -/
  | breakDetection (t : Nat)
  /-- AMP_MON_RISE (R89): AMP_MON goes high after AMP_EN# went low and launching may begin. -/
  | ampMonRise (t : Nat)
  /-- AMP_FAULT (R90): AMP_MON low for 1 µs in PROBE or FULL closes the gate and sets AMP_FAULT. -/
  | ampFault (t : Nat)
  /-- AMP_NOT_READY (R89): AMP_MON is not high within READY_TMO and AMP_FAULT is set. -/
  | ampNotReady (t : Nat)
  /-- SLICE_ROTATION (R98): Every 1 ms the offline slice swaps with the next slice in the rotation. -/
  | sliceRotation (t : Nat)
  /-- SLICE_CALIBRATION (R99): A slice's reference calibration or correction update is judged against its limits. `reference` tells a reference calibration (offset and gain, failed unless `ok`) from a timing update. -/
  | sliceCalibration (t lane slice : Nat) (reference ok : Bool) (ofs gain time : Int)
  /-- CLK_LOCKED (R105): The PLL's phase error falls below 10 ps and it enters LOCKED. `ferr` is the frequency offset measured against the reference, in 0.01 ppb. -/
  | clkLocked (t : Nat) (ferr : Int)
  /-- CLK_FAIL (R106): The clock monitor finds the crystal stopped or far off and starts the shutdown sequence. `trained` as for COLD_START. -/
  | clkFail (t : Nat) (trained : Bool)
  /-- UNLOCK_SEEN (R107): The PLL loses lock outside a declared reference loss and handles it as a reference loss. -/
  | unlockSeen (t : Nat)
  /-- SL_SLICE_SEL_WRITE (R111): A write to SL_SLICE_SEL latches the selected slice's corrections. -/
  | slSliceSelWrite (t value : Nat)
  /-- TT_WAVE_DATA_READ (R65): A read of TT_WAVE_DATA returns the selected waveform word and advances ADDR. -/
  | ttWaveDataRead (t : ReadAt)
  /-- SEGMENT_EMIT (R134): The front pipeline completes a segment and the acquisition writer and recorder take it. `index` is the place of the segment in its section, counted from 0 (R134); `full` says that the port-1 write queue is full (R236). -/
  | segmentEmit (t group sect index : Nat) (full : Bool)
  /-- RI_LOST (R121): The interferometer signal stays below threshold for 1,000 indices and RI_OK clears. `mean` is the mean of arg(q) over the last 1 ms with RI_OK set, in units of 2⁻⁵⁶ turn. -/
  | riLost (t : Nat) (mean : Int)
  /-- RI_OK (R121): The interferometer signal stays above threshold for 1 ms and RI_OK is set. -/
  | riOk (t : Nat)
  /-- PROFILE_FREEZE (R140): A write to FP_PROF_SEL sets or releases FREEZE for a group's readback copy. `value` is the word written to FP_PROF_SEL. -/
  | profileFreeze (t value : Nat)
  /-- PROFILE_FROZEN (R140): The readback copy of the group's next complete launch is written and FROZEN is set. -/
  | profileFrozen (t : Nat)
  /-- FP_PROF_DATA_READ (R140): A read of FP_PROF_DATA returns the selected bin and advances BIN. -/
  | fpProfDataRead (t : ReadAt)
  /-- DISPATCH (R177): The dispatcher takes the next segment from the store, with a tag free, and creates a job in its home yard's queue. `ue`: the fetch of the segment meets an uncorrectable word (R298). -/
  | dispatch (t : Nat) (ue : Bool)
  /-- SHARE_START (R178): An available engine swaps banks and starts a share of a READY job. `e` is the engine, 8 × yard + number; with a layout the share then runs instruction by instruction, without one its values are those of its section (chapter 06). -/
  | shareStart (t e : Nat) (layout : Option ShareLayout)
  /-- JOB_PROMOTED (R178): A job's wait from QUEUED exceeds AGE_LIMIT and it is promoted. -/
  | jobPromoted (t : Nat)
  /-- SHARE_TIMEOUT (R179): A share runs longer than JOB_TMO and ends with fault 3. -/
  | shareTimeout (t e : Nat)
  /-- YARD_REHOME (R180): The signal box re-homes the tracks of a yard that has lost all its engines. -/
  | yardRehome (t y : Nat)
  /-- JOB_RETIRE (R181): A DONE job whose earlier jobs have retired releases its values, transitions and palette requests in key order. `ue`: the read of its result area meets an uncorrectable word (R298). -/
  | jobRetire (t sect : Nat) (ue : Bool)
  /-- STORE_OVERRUN_END (R184): The store stays below 50 % fill for 100 ms and OVERRUN clears. -/
  | storeOverrunEnd (t : Nat)
  /-- THROUGHPUT_WINDOW (R186): At the end of each 1.000 ms window the monitor updates U, speed and backlog age and the voltage and shed decisions are made. `speeds` are the mean rates of the four quadrants in 10⁶ weighted instructions per second; `ack` says whether a VOUT_COMMAND sent in this step succeeds, `status` is the STATUS_WORD read if not. -/
  | throughputWindow (t : Nat) (speeds : List Nat) (ack : Bool) (status : Nat)
  /-- READ_VOUT (R188): 2 ms after a voltage change the module reads back VOUT over PMBus and judges the transaction. `ack`: no NAK and no PEC mismatch; `vout` in mV. -/
  | readVout (t : Nat) (ack : Bool) (vout status : Nat)
  /-- YARD_CODE_LOAD (R193): A yard's last old-timetable job is DONE and it loads the new engine code. -/
  | yardCodeLoad (t y : Nat)
  /-- NOP (R220): The engine does nothing for one instruction. `e` is the engine, 8 × yard + number. -/
  | nop (e : Nat)
  /-- EXIT (R203): The share ends once its transfers complete and its results pass to the marshalling buffer. `e` is the engine, 8 × yard + number. -/
  | exit (t e : Nat)
  /-- RPT (R211): The next instruction is repeated n times. `e` is the engine, 8 × yard + number. -/
  | rpt (e : Nat) (n : BitVec 13)
  /-- RPTD (R211): The next instruction is repeated Ds times. `e` is the engine, 8 × yard + number. -/
  | rptd (e : Nat) (x : RegNo)
  /-- BR (R210): A conditional branch with one delay slot. `e` is the engine, 8 × yard + number. -/
  | br (e : Nat) (c : BitVec 4) (target : BitVec 12)
  /-- CALL (R210): A call that pushes the return address, with one delay slot. `e` is the engine, 8 × yard + number. -/
  | call (e : Nat) (target : BitVec 12)
  /-- RET (R210): A return to the popped address, with one delay slot. `e` is the engine, 8 × yard + number. -/
  | ret (e : Nat)
  /-- DBNZ (R220): Decrements Dd and branches when it is not zero. `e` is the engine, 8 × yard + number. -/
  | dbnz (e : Nat) (d : RegNo) (target : BitVec 12)
  /-- ADD (R220): Modular 16-bit addition of two data registers. `e` is the engine, 8 × yard + number. -/
  | add (e : Nat) (d x y : RegNo)
  /-- ADDS (R220): Saturating 16-bit addition. `e` is the engine, 8 × yard + number. -/
  | adds (e : Nat) (d x y : RegNo)
  /-- SUB (R220): Modular 16-bit subtraction. `e` is the engine, 8 × yard + number. -/
  | sub (e : Nat) (d x y : RegNo)
  /-- SUBS (R220): Saturating 16-bit subtraction. `e` is the engine, 8 × yard + number. -/
  | subs (e : Nat) (d x y : RegNo)
  /-- AND (R220): Bitwise and. `e` is the engine, 8 × yard + number. -/
  | and (e : Nat) (d x y : RegNo)
  /-- OR (R220): Bitwise or. `e` is the engine, 8 × yard + number. -/
  | or (e : Nat) (d x y : RegNo)
  /-- XOR (R220): Bitwise exclusive or. `e` is the engine, 8 × yard + number. -/
  | xor (e : Nat) (d x y : RegNo)
  /-- MIN (R220): Signed minimum. `e` is the engine, 8 × yard + number. -/
  | min (e : Nat) (d x y : RegNo)
  /-- MAX (R220): Signed maximum. `e` is the engine, 8 × yard + number. -/
  | max (e : Nat) (d x y : RegNo)
  /-- CMP (R220): Sets flags from Ds − Dt. `e` is the engine, 8 × yard + number. -/
  | cmp (e : Nat) (x y : RegNo)
  /-- MOV (R220): Copies a data register. `e` is the engine, 8 × yard + number. -/
  | mov (e : Nat) (d x : RegNo)
  /-- ABS (R220): Saturating absolute value. `e` is the engine, 8 × yard + number. -/
  | abs (e : Nat) (d x : RegNo)
  /-- NEG (R220): Saturating negation. `e` is the engine, 8 × yard + number. -/
  | neg (e : Nat) (d x : RegNo)
  /-- LDI (R220): Loads an immediate value. `e` is the engine, 8 × yard + number. -/
  | ldi (e : Nat) (d : RegNo) (imm : BitVec 16)
  /-- ADDI (R220): Adds an immediate value modulo 2^16. `e` is the engine, 8 × yard + number. -/
  | addi (e : Nat) (d : RegNo) (imm : BitVec 16)
  /-- CMPI (R220): Sets flags from Dd minus an immediate. `e` is the engine, 8 × yard + number. -/
  | cmpi (e : Nat) (d : RegNo) (imm : BitVec 16)
  /-- SHL (R220): Left shift. `e` is the engine, 8 × yard + number. -/
  | shl (e : Nat) (d x : RegNo) (n : BitVec 4)
  /-- SHR (R220): Logical right shift. `e` is the engine, 8 × yard + number. -/
  | shr (e : Nat) (d x : RegNo) (n : BitVec 4)
  /-- ASR (R220): Arithmetic right shift. `e` is the engine, 8 × yard + number. -/
  | asr (e : Nat) (d x : RegNo) (n : BitVec 4)
  /-- SHLS (R220): Saturating left shift. `e` is the engine, 8 × yard + number. -/
  | shls (e : Nat) (d x : RegNo) (n : BitVec 4)
  /-- LD (R220): Loads a data register from memory. `e` is the engine, 8 × yard + number. `ue`: a word it reads is uncorrectable (R204). -/
  | ld (e : Nat) (d a : RegNo) (mode : BitVec 3) (off : BitVec 12) (ue : Bool)
  /-- ST (R220): Stores a data register to memory. `e` is the engine, 8 × yard + number. -/
  | st (e : Nat) (x a : RegNo) (mode : BitVec 3) (off : BitVec 12)
  /-- LDA (R220): Loads an address register from two memory words. `e` is the engine, 8 × yard + number. `ue`: a word it reads is uncorrectable (R204). -/
  | lda (e : Nat) (a base : RegNo) (mode : BitVec 3) (off : BitVec 12) (ue : Bool)
  /-- STA (R220): Stores an address register in two-word form. `e` is the engine, 8 × yard + number. -/
  | sta (e : Nat) (a base : RegNo) (mode : BitVec 3) (off : BitVec 12)
  /-- MOVA (R220): Loads an address register with an immediate. `e` is the engine, 8 × yard + number. -/
  | mova (e : Nat) (a : RegNo) (imm : BitVec 18)
  /-- ADDA (R220): Adds a sign-extended data register to an address. `e` is the engine, 8 × yard + number. -/
  | adda (e : Nat) (a x : RegNo)
  /-- MOVDA (R220): Copies an address register's low bits to a data register. `e` is the engine, 8 × yard + number. -/
  | movda (e : Nat) (d a : RegNo)
  /-- MOVMO (R220): Sets the OFS field of a post-modify register. `e` is the engine, 8 × yard + number. -/
  | movmo (e : Nat) (k : BitVec 2) (imm : BitVec 16)
  /-- MOVMM (R208): Sets the MOD field of a post-modify register. `e` is the engine, 8 × yard + number. -/
  | movmm (e : Nat) (k : BitVec 2) (imm : BitVec 13)
  /-- MOVS (R220): Copies FLG or LC to a data register. `e` is the engine, 8 × yard + number. -/
  | movs (e : Nat) (d : RegNo) (lc : Bool)
  /-- MOVTF (R220): Writes the RW fields of FLG from a data register. `e` is the engine, 8 × yard + number. -/
  | movtf (e : Nat) (x : RegNo)
  /-- SETQ (R220): Sets the QS, QB and QF quality bits. `e` is the engine, 8 × yard + number. -/
  | setq (e : Nat) (q : BitVec 3)
  /-- ACLD (R220): Loads an accumulator from a shifted data register. `e` is the engine, 8 × yard + number. -/
  | acld (e : Nat) (b : Bool) (x : RegNo) (sh : BitVec 6)
  /-- ACSH (R220): Shifts an accumulator with saturation. `e` is the engine, 8 × yard + number. -/
  | acsh (e : Nat) (b : Bool) (sh : BitVec 6)
  /-- ACADD (R220): Adds the two accumulators with saturation. `e` is the engine, 8 × yard + number. -/
  | acadd (e : Nat) (b : Bool)
  /-- RND (R220): Rounds and saturates a shifted accumulator into a data register. `e` is the engine, 8 × yard + number. -/
  | rnd (e : Nat) (d : RegNo) (b : Bool) (sh : BitVec 6)
  /-- ACX (R220): Extracts a field of an accumulator. `e` is the engine, 8 × yard + number. -/
  | acx (e : Nat) (d : RegNo) (b : Bool) (f : BitVec 6)
  /-- RMSQ (R220): Forms the rounded square root of an accumulator divided by Dt. `e` is the engine, 8 × yard + number. -/
  | rmsq (e : Nat) (d : RegNo) (b : Bool) (t : RegNo)
  /-- LOG2 (R220): Forms 256 times the base-2 logarithm of an accumulator. `e` is the engine, 8 × yard + number. -/
  | log2 (e : Nat) (d : RegNo) (b : Bool)
  /-- SETCH (R212): Sets the channel cursor. `e` is the engine, 8 × yard + number. -/
  | setch (e : Nat) (x : RegNo)
  /-- PUT (R212): Gives a product value with quality bits for the channel at the cursor. `e` is the engine, 8 × yard + number. -/
  | put (e : Nat) (p : BitVec 3) (v : BitVec 4) (x : RegNo)
  /-- TRN (R213): Records a detector transition for the channel at the cursor. `e` is the engine, 8 × yard + number. -/
  | trn (e : Nat) (v l : RegNo) (k x : BitVec 2)
  /-- PALR (R214): Requests a palette. `e` is the engine, 8 × yard + number. -/
  | palr (e : Nat) (p : Bool)
  /-- FOUT (R214): Declares that the job completes a fine output. `e` is the engine, 8 × yard + number. -/
  | fout (e : Nat)
  /-- FFTS (R216): Submits a transform to the yard FFT unit. `e` is the engine, 8 × yard + number. -/
  | ffts (e : Nat) (a x : RegNo) (inv hann : Bool)
  /-- FFTW (R216): Waits for the share's transform and returns its scaling count. `e` is the engine, 8 × yard + number. -/
  | fftw (e : Nat) (d : RegNo)
  /-- FILL (R218): Starts a copy from the share's DRAM state to local memory. `e` is the engine, 8 × yard + number. -/
  | fill (e : Nat) (a m n : RegNo)
  /-- SPILL (R218): Starts a copy from local memory to the share's DRAM state. `e` is the engine, 8 × yard + number. `ue`: a word it reads is uncorrectable (R204). -/
  | spill (e : Nat) (a m n : RegNo) (ue : Bool)
  /-- DMAW (R218): Waits until no FILL or SPILL is outstanding. `e` is the engine, 8 × yard + number. -/
  | dmaw (e : Nat)
  /-- MOVP (R219): Performs the parallel moves only. `e` is the engine, 8 × yard + number. `ue`: a word it reads is uncorrectable (R204). -/
  | movp (e : Nat) (mv : Moves) (ue : Bool)
  /-- CLR (R220): Clears an accumulator, with parallel moves. `e` is the engine, 8 × yard + number. `ue`: a word it reads is uncorrectable (R204). -/
  | clr (e : Nat) (b : Bool) (mv : Moves) (ue : Bool)
  /-- MPY (R220): Multiplies into an accumulator, with parallel moves. `e` is the engine, 8 × yard + number. `ue`: a word it reads is uncorrectable (R204). -/
  | mpy (e : Nat) (b : Bool) (s1 s2 : RegNo) (mv : Moves) (ue : Bool)
  /-- MAC (R220): Multiplies and accumulates with saturation, with parallel moves. `e` is the engine, 8 × yard + number. `ue`: a word it reads is uncorrectable (R204). -/
  | mac (e : Nat) (b : Bool) (s1 s2 : RegNo) (mv : Moves) (ue : Bool)
  /-- MSU (R220): Multiplies and subtracts with saturation, with parallel moves. `e` is the engine, 8 × yard + number. `ue`: a word it reads is uncorrectable (R204). -/
  | msu (e : Nat) (b : Bool) (s1 s2 : RegNo) (mv : Moves) (ue : Bool)
  /-- FFT_TRANSFORM_START (R217): The yard FFT unit takes the next waiting transform request in arrival order. -/
  | fftTransformStart (y : Nat)
  /-- FFT_TRANSFORM_DONE (R216): A transform completes in place and the requester's FB clears. -/
  | fftTransformDone (t y : Nat)
  /-- TRANSFER_DONE (R218): An outstanding FILL or SPILL completes and MB clears. -/
  | transferDone (t e : Nat)
  /-- HOST_TRIGGER (R226): A write to EV_HOST_TRIG places a host trigger on each selected line. `lines` is the word written. -/
  | hostTrigger (t lines : Nat)
  /-- TRIGGER_PROCESS (R227): A placed trigger is processed once its input's row exists, opening, extending, queuing or ignoring a capture. `n` is the line. -/
  | triggerProcess (t n : Nat)
  /-- TRIG_OUT_PULSE_END (R241): The TRIG_OUT pulse ends WIDTH × 100 ns after its latest start. -/
  | trigOutPulseEnd (t : Nat)
  /-- ARM (R236): Writing ARM = 1 arms a capture line, or refuses when the budget is exceeded at H = 7. `n` is the line. -/
  | arm (t n : Nat)
  /-- DISARM (R242): Writing ARM = 0 closes the line's open captures with end cause 3 and puts it in OFF. `n` is the line. -/
  | disarm (t n : Nat)
  /-- BW_SHORT (R235): The port-1 write queue stays above 75 % for a whole 1 ms window and H rises. -/
  | bwShort (t : Nat)
  /-- RATE_LOWER (R236): After 100 ms of a quiet write queue H is lowered by one. -/
  | rateLower (t : Nat)
  /-- EV_REC_RD_WRITE (R239): A write to EV_REC_RDn consumes records or sets RD_ERR. `n` is the line. -/
  | evRecRdWrite (t n value : Nat)
  /-- BS_DFIFO_RD_WRITE (R166): A write to BS_DFIFO_RD consumes detector records or sets RD_ERR. -/
  | bsDfifoRdWrite (t value : Nat)
  /-- BS_ALARM_DATA_READ (R169): A read of BS_ALARM_DATA returns alarm bits and advances WORD. -/
  | bsAlarmDataRead (t : ReadAt)
  /-- BASELINE_COMPLETE (R249): After BASE_S seconds the Brillouin baseline completes and replaces the previous one. -/
  | baselineComplete (t : Nat)
  /-- BASELINE_PERIODIC (R249): PERIOD × 60 s after the previous baseline a new baseline starts. -/
  | baselinePeriodic (t : Nat)
  /-- BASELINE_SIGNATURE (R248): Passing over for signature has lasted 60 s and a new baseline starts. -/
  | baselineSignature (t : Nat)
  /-- BLOCK_CLOSE (R257): A Brillouin accumulation block closes after UPD seconds and a profile is formed. -/
  | blockClose (t : Nat)
  /-- PROFILE_ISSUE (R258): The fitted, anchored profile's frames are issued within 1.0 s of the block close. -/
  | profileIssue (t : Nat)
  /-- BR_SYN_UNLOCK (R263): The Brillouin synthesiser loses lock. -/
  | brSynUnlock (t : Nat)
  /-- BR_SYN_LOCKED (R261): The synthesiser regains lock, restarting the channel after 1 s or more unlocked. -/
  | brSynLocked (t : Nat)
  /-- BR_SPEC_DATA_READ (R264): A read of BR_SPEC_DATA returns a spectrum point and advances POINT. -/
  | brSpecDataRead (t : ReadAt)
  /-- EXCITATION_PERIOD_END (R267): At the end of an RTD excitation period the ratio is formed, checked for wire faults and fed to the filters. `vT` and `vP` are the demodulated amplitudes in nV rms, `high` and `low` say that a lead left the window above (or the force voltage met compliance) or below, `force` is the force voltage in mV peak and `sense` the sense amplitude in 0.01 % of the demodulator's range. -/
  | excitationPeriodEnd (t vT vP : Nat) (high low : Bool) (force sense : Nat)
  /-- HK_REGULAR_TRIGGER (R274): A timer or PWM trigger starts a converter's regular sequence, or is ignored as missed. `x` is the converter: 0 HKA, 1 HKB. -/
  | hkRegularTrigger (t x : Nat)
  /-- HK_INJECTED_TRIGGER (R275): An injected trigger schedules the injected group, or is ignored as missed. -/
  | hkInjectedTrigger (t x : Nat)
  /-- HK_CONVERSION_DONE (R277): A 1.0 µs conversion completes and its result is written to the data and per-entry registers. `code` is the corrected result. -/
  | hkConversionDone (t x code : Nat)
  /-- HK_ENTRY_PROMOTED (R275): A regular entry waits longer than AGE_LIMIT and is promoted. -/
  | hkEntryPromoted (t x : Nat)
  /-- HK_DATA_READ (R277): A read of HK_DATAx returns the result and clears VALID. -/
  | hkDataRead (t : ReadAt) (x : Nat)
  /-- HK_CALIBRATION (R278): A converter calibration starts once injected and regular conversions under way have finished. -/
  | hkCalibration (t x : Nat)
  /-- HK_CALIBRATION_DONE (R278): After 12 µs the converter calibration completes and held injected groups run. `gain` in ppm and `ofs` in 1/16 LSB. -/
  | hkCalibrationDone (t x : Nat) (gain ofs : Int)
  /-- TEC_UPDATE (R279): Every IPER PWM periods the TEC loop updates the bridge drive from the thermistor reading. `temp` is the thermistor's temperature, in 0.001 °C from 25 °C, where HKA has not converted it yet; `uMax` is the drive, in 2⁻¹⁶ of VTEC, at which the supply and the cooler would reach ILIM. -/
  | tecUpdate (t : Nat) (temp : Int) (uMax : Nat)
  /-- TEC_RESTART (R280): 10 s after TEC_FAULT the loop restarts the bridge and the laser warm-up. -/
  | tecRestart (t : Nat)
  /-- MODULE_TEMP_CHECK (R281): Once per second the module temperature is evaluated and may trigger a calibration pass. `temp`, in 0.01 °C, stands in where one of the inputs 10–12 has not been converted in the last second. -/
  | moduleTempCheck (t : Nat) (temp : Int)
  /-- CAL_START (R281): A calibration pass starts, now or when MIN_GAP allows a held trigger. -/
  | calStart (t : Nat)
  /-- CAL_PASS_DONE (R283): A calibration pass completes its record in shadow. `r` is what the pass has measured (R282). -/
  | calPassDone (t : Nat) (r : CalRecord)
  /-- CAL_RECORD_WRITE (R284): A calibration record that has taken effect is written to the free NVM slot and read back. `ok`: the record verifies. -/
  | calRecordWrite (t : Nat) (ok : Bool)
  /-- NVM_SLOT_ERASE (R394): After a record or journal verifies, the other slot of its pair is erased. `journal` tells a journal slot from a calibration slot. -/
  | nvmSlotErase (t : Nat) (journal : Bool)
  /-- DRAM_REQUEST (R300): A port's request arrives at the memory controller and takes a transaction slot or waits. `fill` is the fill of port 0's write FIFO in per cent, `bin` the Brillouin bin whose record a read of port 4 fetches. -/
  | dramRequest (t port : Nat) (write : Bool) (addr n : Nat) (data : List (BitVec 8)) (fill : Nat) (bin : Option Nat)
  /-- DRAM_SERVE (R301): The controller serves the next request by class, checking and correcting its words. `upsets` are the stored bits that have flipped: word number and bit 0–71. -/
  | dramServe (t fill : Nat) (upsets : List (Nat × Nat))
  /-- REQUEST_PROMOTED (R303): A request waits longer than AGE_LIMIT and is promoted to class 3. -/
  | requestPromoted (t : Nat)
  /-- PANIC_CAP (R304): PANIC has held for PANIC_MAX and the oldest promoted request is served. -/
  | panicCap (t : Nat)
  /-- REFRESH_DUE (R307): A bank's refresh falls due and is issued, postponed or forced. `bank` is 16 × channel + bank in the channel, `mult` the rate that the device reports (0–2). -/
  | refreshDue (t bank mult : Nat)
  /-- ACTIVATION_TABLE_CLEAR (R308): At the start of every 32 ms refresh window each bank's activation table clears. -/
  | activationTableClear (t : Nat)
  /-- PATROL_READ (R309): The lengthman reads the next data word with its check byte and acts on its outcome. `upsets` as for a service. -/
  | patrolRead (t : Nat) (upsets : List (Nat × Nat))
  /-- SRAM_PATROL (R317): The on-die patrol checks the next protection word of a macro. `loc` is the location in the form of EC_SUSPECT_B, `flips` the stored bits 0–38 found flipped; `code` and `sect` say what the word holds: code or constants, or state or a window of a section. -/
  | sramPatrol (t loc : Nat) (flips : List Nat) (code : Bool) (sect : Option Nat)
  /-- YARD_CODE_RELOAD (R319): An uncorrectable code or constant word makes the signal box reload the yard between jobs. -/
  | yardCodeReload (t y : Nat)
  /-- EVENT_LOG_WRITE (R316): A remap or region withdrawal is written to the NVM event log. -/
  | eventLogWrite (t : Nat)
  /-- EC_TEST_WRITE_CODED (R299): EC_TEST_CTRL CMD 1 writes test data with its computed check byte. `value` is the word written to EC_TEST_CTRL. -/
  | ecTestWriteCoded (t value : Nat)
  /-- EC_TEST_WRITE_DATA (R299): EC_TEST_CTRL CMD 2 writes test data leaving the check byte. `value` is the word written to EC_TEST_CTRL. -/
  | ecTestWriteData (t value : Nat)
  /-- EC_TEST_WRITE_CHECK (R299): EC_TEST_CTRL CMD 3 writes the check byte leaving the data. `value` is the word written to EC_TEST_CTRL. -/
  | ecTestWriteCheck (t value : Nat)
  /-- EC_TEST_READ (R299): EC_TEST_CTRL CMD 4 reads a test word and reports its syndrome and outcome. `value` is the word written to EC_TEST_CTRL. -/
  | ecTestRead (t value : Nat)
  /-- EC_SUSPECT_SEL_WRITE (R322): A write to EC_SUSPECT_SEL latches the selected suspect entry. -/
  | ecSuspectSelWrite (t value : Nat)
  /-- FRAME_PLACE (R338): A built frame is coded and written into the frame area, a siding or the auxiliary queue as room allows. -/
  | framePlace (t : Nat)
  /-- FRAME_POST (R336): A placed frame is posted into the next platform-ring slot when that slot is owned by the module. `ue` where the slot's Control word reads uncorrectable. -/
  | framePost (t : Nat) (ue : Bool)
  /-- RING_RETURN (R337): A BAR2 write of 0x8000_0000 to a Control word returns the slot to the module. -/
  | ringReturn (t slot : Nat)
  /-- BAR2_WRITE_REJECTED (R334): Any other BAR2 write is discarded and counted. -/
  | bar2WriteRejected (t : Nat)
  /-- DISCARD_JOIN (R339): After DWELL with the ladder full and the builder blocked, the next section joins the discard set. -/
  | discardJoin (t : Nat)
  /-- DISCARD_LEAVE (R339): After HOLD with the builder unblocked, one section leaves the discard set. -/
  | discardLeave (t : Nat)
  /-- SEAL_POST (R340): Within 100 ms of a second's end the seal record of that second is built, signed and posted. -/
  | sealPost (t : Nat)
  /-- SCAN_START (R344): Setting START on a SCAN-mode check unit begins a CRC scan, or refuses it. -/
  | scanStart (t u : Nat)
  /-- SCAN_DONE (R344): A scan completes with its result and DONE. -/
  | scanDone (t u : Nat)
  /-- HW_NB_RD_WRITE (R346): A write to HW_NB_RD consumes notice-board entries or sets RD_ERR. -/
  | hwNbRdWrite (t value : Nat)
  /-- IRQ_PEND_CLEAR (R348): A W1C write to HW_IRQ_PEND clears pending vector bits. -/
  | irqPendClear (t value : Nat)
  /-- FRAME_VECTOR_TIMEOUT (R348): USEC µs after the oldest unannounced post, vector 0 gains a cause. -/
  | frameVectorTimeout (t : Nat)
  /-- MSIX_UNMASK (R348): Unmasking an MSI-X entry with its PBA bit set sends the held message. -/
  | msixUnmask (t v : Nat)
  /-- FUNCTION_RESET (R350): A function-level, hot or fundamental reset resets only the PCIe function's state. -/
  | functionReset (t : Nat)
  /-- LINK_DOWN (R350): The PCIe link goes down and frames wait. -/
  | linkDown (t : Nat)
  /-- LINK_UP (R350): The PCIe link is up again. `speed` is the generation 1–4, `width` the lanes. -/
  | linkUp (t speed width : Nat)
  /-- REF_QUALIFIED (R358): REF10M has been present and within ±50 ppm for 1.000 s and is qualified. -/
  | refQualified (t : Nat)
  /-- REF_LOST (R358): REF10M has had no edge for 500 ns or is off frequency and is lost. `edges` where edges still arrive, off frequency. -/
  | refLost (t : Nat) (edges : Bool)
  /-- PPS_EDGE (R359): A PPS rising edge is stamped and judged for qualification, glitch or steering. -/
  | ppsEdge (t : Nat)
  /-- PPS_LOST (R359): 1.100 s without a good edge, or three glitches, loses PPS. -/
  | ppsLost (t : Nat)
  /-- SECOND_BOUNDARY (R356): The time base passes a second boundary, applying any pending step or epoch and driving PPS_OUT. -/
  | secondBoundary (t : Nat)
  /-- PPS_OUT_PULSE_END (R362): PPS_OUT falls OUT_WIDTH ms after rising. -/
  | ppsOutPulseEnd (t : Nat)
  /-- TB_NOW_READ (R356): A read of TB_NOW0 latches the whole counter. -/
  | tbNowRead (t : ReadAt)
  /-- STAMP_WORD0_READ (R380): A read of word 0 of a TB_ stamp register latches words 1 and 2. `which` is 0 for TB_TRIG_LAST, 1 for TB_TL_LAST, 2 for TB_LAUNCH_LAST. -/
  | stampWord0Read (t : ReadAt) (which : Nat)
  /-- EPOCH_WRITE (R361): Writing TB_EPOCH_HI with SET submits an epoch, or is ignored on modules 1–7. -/
  | epochWrite (t value : Nat)
  /-- TRIG_IN_EDGE (R364): A qualified TRIG_IN edge is stamped, counted and passed to the capture lines and the triggered launch. -/
  | trigInEdge (t : Nat)
  /-- EVT_EDGE (R366): An edge on an event input is detected, stamped and queued. -/
  | evtEdge (t n : Nat) (falling : Bool)
  /-- EVT_TIMEOUT (R368): No edge for TMO ms sets TIMEOUT. -/
  | evtTimeout (t n : Nat)
  /-- EVT_QUEUE_READ (R367): A read of TB_EVT_Q0n removes the oldest entry and latches Q1–Q3. -/
  | evtQueueRead (t : ReadAt) (n : Nat)
  /-- STAT_GO (R371): Setting GO starts or restarts a statistics measurement. `value` is the word written to TB_STAT_CFGn. -/
  | statGo (t n value : Nat)
  /-- STAT_DONE (R371): A measurement ends at its gate or interval count and its results change together. -/
  | statDone (t n : Nat)
  /-- STAT_RESULT_READ (R371): A read of TB_STAT_An_LO latches results A–D and status. -/
  | statResultRead (t : ReadAt) (n : Nat)
  /-- FL_LINK_UP (R372): A Flotis port's link comes up. `port` is 0 for UP, 1 for DOWN. -/
  | flLinkUp (t port : Nat)
  /-- FL_LINK_DOWN (R375): A Flotis port's link goes down, putting a downstream module in holdover. `port` is 0 for UP, 1 for DOWN. -/
  | flLinkDown (t port : Nat)
  /-- ARRAY_RETIMED (R375): A ring module takes array time from its other port once that path is measured. `path` is the path delay in ps that the new source forwards. -/
  | arrayRetimed (t path : Nat)
  /-- FLOTIS_POWER_DOWN (R372): 500 ms after start with no partner PD_FLOTIS powers down. -/
  | flotisPowerDown (t : Nat)
  /-- ARRAY_NUMBERING (R372): The numbering message from module 0 assigns module IDs. `id` is the module's number, `count` the modules of the array. -/
  | arrayNumbering (t id count : Nat) (ring : Bool)
  /-- TIME_EXCHANGE (R373): Every 100 µs a time message exchange measures hop delay and offset and steers the recovered clock. The stamps t_1–t_4 in ticks, the path delay in ps that the source forwards, module 0's TIME_STATE, and the link words that have failed their check at the port since the last exchange. -/
  | timeExchange (t port : Nat) (t1 t2 t3 t4 : Int) (path lead bad : Nat)
  /-- ALIGN_FAULT (R374): θ stays beyond ±1 ns for 100 ms. -/
  | alignFault (t : Nat)
  /-- CROSS_TRIGGER_RECEIVE (R240): A cross-trigger message arrives, is forwarded, and is placed on accepting lines. `at_` is the corrected instant that the message carries. -/
  | crossTriggerReceive (t sender seq line : Nat) (at_ : Int)
  /-- SWITCH_MESSAGE_RECEIVE (R63): A switch coordination message from module 0 arrives and is acted on and forwarded. Kind 0: a request with its index, mode and second and module 0's T_L and G; kind 1: the epoch's instant in `second`; kind 2: a rejection by module `mode`. -/
  | switchMessageReceive (t seq kind index mode second tl g : Nat)
  /-- EPOCH_MESSAGE_RECEIVE (R361): An epoch message from module 0 arrives and is applied at its boundary. `value` is the new SEC, `second` the boundary that it applies to. -/
  | epochMessageReceive (t seq value second : Nat)
  /-- READY_REPORT (R376): A module's ready report reaches module 0, which sets the sweep origin after the last one. -/
  | readyReport (t module : Nat)
  /-- SUPPLY_GOOD (R383): Main supplies become good and a cold start begins. `aonLost`: PD_AON has lost its contents with VBAT. -/
  | supplyGood (t : Nat) (aonLost : Bool)
  /-- COLD_START (R384): The boot ROM begins a cold start, counting the attempt and running the cold forms of the start steps. `mode`: how the NVM answers (0 not at all, 1 in the 1-4-4 fallback, 2 in octal DTR); `cap`: its capacity code; `crystal`: the crystal runs; `calBad`: the calibration slots whose record fails its check; `trained`: how the one DRAM training of SAFE_HOLD ends, should the step lead there. -/
  | coldStart (t mode cap : Nat) (crystal : Bool) (calBad : List Nat) (trained : Bool)
  /-- THERMAL_WAIT_READING (R459): Once per second in the thermal wait the die temperatures are read and the wait may end. The codes of inputs 10, 11 and 12. -/
  | thermalWaitReading (t a b c : Nat)
  /-- SLOT_VERIFIED (R399): Slot selection and signature verification complete. What image slots A and B hold; `calBad` and `trained` as for COLD_START. -/
  | slotVerified (t : Nat) (a b : Option Image) (calBad : List Nat) (trained : Bool)
  /-- DRAM_TRAINED (R384): DRAM training completes. `ok`: the training succeeds; `temp` in 0.01 °C and `bands` are the conditions under which; `trained` as for COLD_START. -/
  | dramTrained (t : Nat) (ok : Bool) (temp : Int) (bands : List Nat) (trained : Bool)
  /-- QUICK_TEST_DONE (R428): The quick self-test completes and failures are counted. `bad`: the journal slots that fail their check; `fails`: the units that the quick test finds failing. -/
  | quickTestDone (t : Nat) (bad : List Nat) (fails : List UnitFail)
  /-- ENGINE_CODE_LOADED (R23): Engine code is decrypted, a timetable chosen and home yards assigned. `trained` as for COLD_START. -/
  | engineCodeLoaded (t : Nat) (trained : Bool)
  /-- LASER_WARM (R92): The 4 s laser warm-up completes. -/
  | laserWarm (t : Nat)
  /-- RECEIVER_CAL_DONE (R103): Receiver calibration completes with skews and noise floors recorded. `r` is what the pass has measured (R282). -/
  | receiverCalDone (t : Nat) (r : CalRecord)
  /-- COMMIT (R387): The signal box locks configuration, places regions, starts the dead-man timer and posts event 0x0D01. `temp` and `bands` are the DRAM conditions now, `crcOk`: the engine code kept passes its check; `ack`, `linear16`, `vout` and `status` are what the VCORE_F regulator answers; `lead`: module 0's T_L and G in an array. -/
  | commit (t : Nat) (temp : Int) (bands : List Nat) (crcOk ack linear16 : Bool) (vout status : Nat) (lead : Option (Nat × Nat))
  /-- START_TIMEOUT (R388): The laser fails to lock within 10 s or commit is not reached within 30 s and the start fails. `trained` as for COLD_START. -/
  | startTimeout (t : Nat) (trained : Bool)
  /-- WATCHDOG_EXPIRY (R388): The signal-box watchdog expires. `trained` as for COLD_START. -/
  | watchdogExpiry (t : Nat) (trained : Bool)
  /-- RETRY_DELAY_END (R390): 1 s after a failed start a cold start begins. -/
  | retryDelayEnd (t : Nat)
  /-- RUN_SETTLED (R389): 60 s in RUN after commit clears the consecutive-failure count and applies AUTO_RAISE. -/
  | runSettled (t : Nat)
  /-- SB_CMD_IDLE (R383): SB_CMD IDLE starts a shutdown sequence to IDLE. -/
  | sbCmdIdle (src : Source) (t : Nat)
  /-- SB_CMD_RUN (R384): SB_CMD RUN in IDLE starts a warm start. -/
  | sbCmdRun (src : Source) (t : Nat)
  /-- SB_CMD_OFF (R403): SB_CMD OFF starts the full shutdown sequence. -/
  | sbCmdOff (src : Source) (t : Nat)
  /-- SB_CMD_RETRY (R392): SB_CMD RETRY in SAFE_HOLD clears HOLD and starts a cold start. -/
  | sbCmdRetry (src : Source) (t : Nat)
  /-- PM_RESET_COLD (R383): PM_RESET COLD runs a full shutdown and then a cold start. -/
  | pmResetCold (src : Source) (t : Nat)
  /-- PM_RESET_WARM (R383): PM_RESET WARM shuts down to IDLE and then warm starts. -/
  | pmResetWarm (src : Source) (t : Nat)
  /-- SHUTDOWN_DRAIN_DONE (R403): Segments, jobs and postable frames are drained and the early seal posted. -/
  | shutdownDrainDone (t : Nat)
  /-- SELF_TEST_SLICE_DONE (R425): A self-test slice completes and its lane starts its next planned slice. `lane`: 0–3 the DRAM channels, 4–15 the yards; `fail` how the slice fails, none for a pass. -/
  | selfTestSliceDone (t lane : Nat) (fail : Option UnitFail)
  /-- SELF_TEST_SLICE_TIMEOUT (R425): A slice unfinished at twice its budget is aborted with TIMEOUT. -/
  | selfTestSliceTimeout (t lane : Nat)
  /-- JOURNAL_WRITTEN (R403): The journal is written and verified, OPEN clears and domains go to the target state. `ok`: the journal verifies. -/
  | journalWritten (t : Nat) (ok : Bool)
  /-- POWER_FAIL (R405): PFW# falling starts or converts to the emergency shutdown. -/
  | powerFail (t : Nat)
  /-- POWER_RESTORED (R405): PFW# high with supplies good for 100 ms starts a cold start. -/
  | powerRestored (t : Nat)
  /-- SUPPLY_FAULT (R442): A main rail leaves its band for 10 µs, closing the gate and powering down domains. `rail` is the row of R439, counted from 0. -/
  | supplyFault (t rail : Nat)
  /-- SUPPLY_RECOVERED (R442): Every rail within band for 100 ms starts a cold start. -/
  | supplyRecovered (t : Nat)
  /-- SUPPLY_LOSS (R383): Main supplies are lost and the module goes to OFF. -/
  | supplyLoss (t : Nat)
  /-- THERMAL_SHUTDOWN (R459): A die at or above 115 °C for 100 ms starts the shutdown to OFF. -/
  | thermalShutdown (t : Nat)
  /-- NV_ERASE (R400): NV_CMD ERASE erases the inactive slot. -/
  | nvErase (src : Source) (t : Nat)
  /-- NV_PROGRAM (R400): NV_CMD PROGRAM programs NV_LEN bytes of NV_BUF into the inactive slot. -/
  | nvProgram (src : Source) (t : Nat)
  /-- NV_VERIFY (R400): NV_CMD VERIFY applies R398 to the inactive slot. -/
  | nvVerify (src : Source) (t : Nat)
  /-- NV_READ (R400): NV_CMD READ copies NVM bytes into NV_BUF. -/
  | nvRead (src : Source) (t : Nat)
  /-- NV_RAISE (R402): NV_CMD RAISE sets the rollback counter to the active image's RL. -/
  | nvRaise (src : Source) (t : Nat)
  /-- NV_DONE (R400): An NV_CMD operation ends with DONE and RESULT. `ok`: no device error; `img` is what the inactive slot holds, for VERIFY. -/
  | nvDone (t : Nat) (ok : Bool) (img : Option Image)
  /-- LC_TRANSITION_FIRST (R412): Writing 0x0000_A500 plus a code opens a lifecycle transition sequence. `code` is the target code. -/
  | lcTransitionFirst (src : Source) (t code : Nat)
  /-- LC_TRANSITION_SECOND (R412): Writing 0x0000_5A00 plus the same code in time makes or refuses the transition. `code` is the target code. -/
  | lcTransitionSecond (src : Source) (t code : Nat)
  /-- PROG_IMAGE_KEY (R415): SE_CMD PROG_IMAGE_KEY programs and verifies the image key. -/
  | progImageKey (src : Source) (t : Nat)
  /-- PROG_VK_HASH (R415): SE_CMD PROG_VK_HASH programs and verifies the verification key hash. -/
  | progVkHash (src : Source) (t : Nat)
  /-- GEN_SEAL (R414): SE_CMD GEN_SEAL generates the seal key pair. -/
  | genSeal (src : Source) (t : Nat)
  /-- PROG_TAMPER (R421): SE_CMD PROG_TAMPER fuses the tamper settings. -/
  | progTamper (src : Source) (t : Nat)
  /-- TAMPER (R419): A debounced tamper input latches its bit and may zeroise. `level` is the level that the pin has held for 1 ms. -/
  | tamper (t pin : Nat) (level : Bool)
  /-- BYPASS (R422): The JTAG BYPASS instruction is selected. -/
  | bypass (t : Nat)
  /-- IDCODE (R454): The JTAG IDCODE instruction returns the identity code. -/
  | idcode (t : Nat)
  /-- SAMPLE_PRELOAD (R422): The JTAG SAMPLE/PRELOAD instruction is selected. -/
  | samplePreload (t : Nat)
  /-- EXTEST (R422): Selecting EXTEST starts the emergency shutdown and sets BSCAN. -/
  | extest (t : Nat)
  /-- CLAMP (R422): Selecting CLAMP starts the emergency shutdown and sets BSCAN. -/
  | clamp (t : Nat)
  /-- HIGHZ (R422): Selecting HIGHZ starts the emergency shutdown and sets BSCAN. -/
  | highz (t : Nat)
  /-- BSCAN_EXIT (R422): The TAP leaves EXTEST, CLAMP or HIGHZ and the module acts as on PM_RESET COLD in OFF. -/
  | bscanExit (t : Nat)
  /-- INTDBG (R423): INTDBG opens internal debug in MANUFACTURE or RETURN, otherwise acts as BYPASS. -/
  | intdbg (t : Nat)
  /-- BT_RUN (R432): Setting GO in BT_RUN runs a host slice on an out-of-service unit, or refuses it. `value` is the word written to BT_RUN, `allocated` whether the DRAM slice that it names holds an allocated region. -/
  | btRun (t value : Nat) (allocated : Bool)
  /-- BT_RUN_DONE (R432): A host-run slice ends with its result. `bit` is the failing bit, `addrs` the failing words or chains, none for a pass. -/
  | btRunDone (t bit : Nat) (addrs : List Nat)
  /-- BT_ACC_WRITE_CODED (R433): BT_ACC_CMD 1 writes data with computed check bits. -/
  | btAccWriteCoded (t : Nat)
  /-- BT_ACC_WRITE_DATA (R433): BT_ACC_CMD 2 writes data alone. -/
  | btAccWriteData (t : Nat)
  /-- BT_ACC_WRITE_CHECK (R433): BT_ACC_CMD 3 writes check bits alone. -/
  | btAccWriteCheck (t : Nat)
  /-- BT_ACC_READ (R433): BT_ACC_CMD 4 reads raw data and check bits. -/
  | btAccRead (t : Nat)
  /-- FAULT_LATCH_CLEAR (R467): A W1C write to PM_FAULT LATCH clears bits whose ACTIVE bit is clear. `value` is the word written to PM_FAULT. -/
  | faultLatchClear (t value : Nat)
  /-- SWITCH_READY_REPORT (R63): A READY or rejection report of a timetable switch from module 1–7 reaches module 0, which then rejects the request or chooses an epoch at least 1 ms after the last READY. `ready` for READY, false for a rejection. -/
  | switchReadyReport (t module : Nat) (ready : Bool)
  /-- D3HOT (R350): The host moves the PCIe function between D0 and D3hot, changing how BAR accesses are answered while processing continues. `on` where the function enters D3hot, false where it returns to D0. -/
  | d3hot (t : Nat) (on : Bool)
deriving DecidableEq, Repr

end Sys2Proof
end

