-- ==== Sys2Proof/Decode.lean ====
section
/-!
DEFINITION. Decode.lean: no row of the opcode table gives bits, so no word spells a command. The engine instruction word of R219 is
encoded and decoded here: every field not listed for an instruction must be 0 (R219, R221), so a word decodes to an instruction only when it
is that instruction's word.
-/
namespace Sys2Proof

/-- The command that a table word spells: none, since no row of the table gives bits. -/
def decodeTableWord (_nbits _w : Nat) : Option Instr := none

/-- A condition as a bit. -/
def bitOf (b : Bool) : Nat := if b then 1 else 0

/-- The move fields of a format-M word (R219). -/
def encodeMoves (m : Moves) : Nat :=
  bitOf m.ex * 0x40000 + m.dx.toNat * 0x8000 + m.ax.toNat * 0x2000 + m.mx.toNat * 0x800 +
  bitOf m.ey * 0x400 + m.dy.toNat * 0x80 + m.ay.toNat * 0x20 + m.my.toNat * 8

/-- The offset field of a format-L word: mode 100 alone has one, and in the others the bits are 0 (R219). -/
def offField (m : BitVec 3) (o : BitVec 12) : Nat := if m = 4 then o.toNat else 0

/-- The 32-bit word of an engine instruction (R219, R220). -/
def encodeEngine : EOp → Nat
  | .nop => 0
  | .exit => 0x01000000
  | .rpt n => 0x02000000 + n.toNat
  | .rptd s => 0x03000000 + s.toNat * 0x200000
  | .br c t => 0x04000000 + c.toNat * 0x100000 + t.toNat
  | .call t => 0x05000000 + t.toNat
  | .ret => 0x06000000
  | .dbnz d t => 0x07000000 + d.toNat * 0x200000 + t.toNat
  | .add d s t => 0x10000000 + d.toNat * 0x200000 + s.toNat * 0x40000 + t.toNat * 0x8000
  | .adds d s t => 0x11000000 + d.toNat * 0x200000 + s.toNat * 0x40000 + t.toNat * 0x8000
  | .sub d s t => 0x12000000 + d.toNat * 0x200000 + s.toNat * 0x40000 + t.toNat * 0x8000
  | .subs d s t => 0x13000000 + d.toNat * 0x200000 + s.toNat * 0x40000 + t.toNat * 0x8000
  | .and d s t => 0x14000000 + d.toNat * 0x200000 + s.toNat * 0x40000 + t.toNat * 0x8000
  | .or d s t => 0x15000000 + d.toNat * 0x200000 + s.toNat * 0x40000 + t.toNat * 0x8000
  | .xor d s t => 0x16000000 + d.toNat * 0x200000 + s.toNat * 0x40000 + t.toNat * 0x8000
  | .min d s t => 0x17000000 + d.toNat * 0x200000 + s.toNat * 0x40000 + t.toNat * 0x8000
  | .max d s t => 0x18000000 + d.toNat * 0x200000 + s.toNat * 0x40000 + t.toNat * 0x8000
  | .cmp s t => 0x19000000 + s.toNat * 0x40000 + t.toNat * 0x8000
  | .mov d s => 0x1A000000 + d.toNat * 0x200000 + s.toNat * 0x40000
  | .abs d s => 0x1B000000 + d.toNat * 0x200000 + s.toNat * 0x40000
  | .neg d s => 0x1C000000 + d.toNat * 0x200000 + s.toNat * 0x40000
  | .ldi d i => 0x20000000 + d.toNat * 0x200000 + i.toNat
  | .addi d i => 0x21000000 + d.toNat * 0x200000 + i.toNat
  | .cmpi d i => 0x22000000 + d.toNat * 0x200000 + i.toNat
  | .shl d s n => 0x24000000 + d.toNat * 0x200000 + s.toNat * 0x40000 + n.toNat
  | .shr d s n => 0x25000000 + d.toNat * 0x200000 + s.toNat * 0x40000 + n.toNat
  | .asr d s n => 0x26000000 + d.toNat * 0x200000 + s.toNat * 0x40000 + n.toNat
  | .shls d s n => 0x27000000 + d.toNat * 0x200000 + s.toNat * 0x40000 + n.toNat
  | .ld r a m o => 0x30000000 + r.toNat * 0x200000 + a.toNat * 0x40000 + m.toNat * 0x8000 + offField m o
  | .st r a m o => 0x31000000 + r.toNat * 0x200000 + a.toNat * 0x40000 + m.toNat * 0x8000 + offField m o
  | .lda r a m o => 0x32000000 + r.toNat * 0x200000 + a.toNat * 0x40000 + m.toNat * 0x8000 + offField m o
  | .sta r a m o => 0x33000000 + r.toNat * 0x200000 + a.toNat * 0x40000 + m.toNat * 0x8000 + offField m o
  | .mova a i => 0x34000000 + a.toNat * 0x200000 + i.toNat
  | .adda a s => 0x35000000 + a.toNat * 0x200000 + s.toNat * 0x40000
  | .movda d a => 0x36000000 + d.toNat * 0x40000 + a.toNat * 0x200000
  | .movmo k i => 0x37000000 + k.toNat * 0x400000 + i.toNat
  | .movmm k i => 0x38000000 + k.toNat * 0x400000 + i.toNat
  | .movs d src => 0x39000000 + d.toNat * 0x200000 + bitOf src
  | .movtf s => 0x3A000000 + s.toNat * 0x40000
  | .setq q => 0x3B000000 + q.toNat
  | .acld b s sh => 0x40000000 + bitOf b * 0x800000 + s.toNat * 0x100000 + sh.toNat
  | .acsh b sh => 0x41000000 + bitOf b * 0x800000 + sh.toNat
  | .acadd b => 0x42000000 + bitOf b * 0x800000
  | .rnd d b sh => 0x43000000 + d.toNat * 0x100000 + bitOf b * 0x800000 + sh.toNat
  | .acx d b f => 0x44000000 + d.toNat * 0x100000 + bitOf b * 0x800000 + f.toNat
  | .rmsq d b t => 0x45000000 + d.toNat * 0x100000 + bitOf b * 0x800000 + t.toNat * 0x20000
  | .log2 d b => 0x46000000 + d.toNat * 0x100000 + bitOf b * 0x800000
  | .setch s => 0x50000000 + s.toNat * 0x200000
  | .put p v s => 0x51000000 + p.toNat * 0x40000 + v.toNat * 0x4000 + s.toNat * 0x200000
  | .trn v l k x => 0x52000000 + v.toNat * 0x200000 + l.toNat * 0x40000 + k.toNat * 0x10000 + x.toNat * 0x4000
  | .palr p => 0x53000000 + bitOf p
  | .fout => 0x54000000
  | .ffts a s inv hann => 0x58000000 + a.toNat * 0x200000 + s.toNat * 0x40000 + bitOf inv * 0x2 + bitOf hann
  | .fftw d => 0x59000000 + d.toNat * 0x200000
  | .fill a m n => 0x5C000000 + a.toNat * 0x200000 + m.toNat * 0x40000 + n.toNat * 0x8000
  | .spill a m n => 0x5D000000 + a.toNat * 0x200000 + m.toNat * 0x40000 + n.toNat * 0x8000
  | .dmaw => 0x5E000000
  | .movp m => 0xE0000000 + encodeMoves m
  | .clr b m => 0xE4000000 + bitOf b * 0x2000000 + encodeMoves m
  | .mpy b s1 s2 m => 0xE8000000 + bitOf b * 0x2000000 + s1.toNat * 0x400000 + s2.toNat * 0x80000 + encodeMoves m
  | .mac b s1 s2 m => 0xEC000000 + bitOf b * 0x2000000 + s1.toNat * 0x400000 + s2.toNat * 0x80000 + encodeMoves m
  | .msu b s1 s2 m => 0xF0000000 + bitOf b * 0x2000000 + s1.toNat * 0x400000 + s2.toNat * 0x80000 + encodeMoves m

/-- Bits of a word from `lo` on, `n` of them. -/
def bitsAt (w lo n : Nat) : BitVec n := BitVec.ofNat n (w / 2 ^ lo)

/-- One bit of a word. -/
def bitAt (w lo : Nat) : Bool := w / 2 ^ lo % 2 == 1

/-- The move fields read back. -/
def decodeMoves (w : Nat) : Moves :=
  { ex := bitAt w 18, dx := bitsAt w 15 3, ax := bitsAt w 13 2, mx := bitsAt w 11 2,
    ey := bitAt w 10, dy := bitsAt w 7 3, ay := bitsAt w 5 2, my := bitsAt w 3 2 }

/-- The fields of a format-M word by its aop. -/
def fieldsM (w : Nat) : Option EOp :=
  let m := decodeMoves w
  match w / 2 ^ 26 % 8 with
  | 0 => some (.movp m)
  | 1 => some (.clr (bitAt w 25) m)
  | 2 => some (.mpy (bitAt w 25) (bitsAt w 22 3) (bitsAt w 19 3) m)
  | 3 => some (.mac (bitAt w 25) (bitsAt w 22 3) (bitsAt w 19 3) m)
  | 4 => some (.msu (bitAt w 25) (bitsAt w 22 3) (bitsAt w 19 3) m)
  | _ => none

/-- The fields of every other word by its opcode. -/
def fieldsOf (w : Nat) : Option EOp :=
  let c := w / 2 ^ 24
  if c > 0x5E then none
  else if c = 0x00 then some .nop
  else if c = 0x01 then some .exit
  else if c = 0x02 then some (.rpt (bitsAt w 0 13))
  else if c = 0x03 then some (.rptd (bitsAt w 21 3))
  else if c = 0x04 then some (.br (bitsAt w 20 4) (bitsAt w 0 12))
  else if c = 0x05 then some (.call (bitsAt w 0 12))
  else if c = 0x06 then some .ret
  else if c = 0x07 then some (.dbnz (bitsAt w 21 3) (bitsAt w 0 12))
  else if c = 0x10 then some (.add (bitsAt w 21 3) (bitsAt w 18 3) (bitsAt w 15 3))
  else if c = 0x11 then some (.adds (bitsAt w 21 3) (bitsAt w 18 3) (bitsAt w 15 3))
  else if c = 0x12 then some (.sub (bitsAt w 21 3) (bitsAt w 18 3) (bitsAt w 15 3))
  else if c = 0x13 then some (.subs (bitsAt w 21 3) (bitsAt w 18 3) (bitsAt w 15 3))
  else if c = 0x14 then some (.and (bitsAt w 21 3) (bitsAt w 18 3) (bitsAt w 15 3))
  else if c = 0x15 then some (.or (bitsAt w 21 3) (bitsAt w 18 3) (bitsAt w 15 3))
  else if c = 0x16 then some (.xor (bitsAt w 21 3) (bitsAt w 18 3) (bitsAt w 15 3))
  else if c = 0x17 then some (.min (bitsAt w 21 3) (bitsAt w 18 3) (bitsAt w 15 3))
  else if c = 0x18 then some (.max (bitsAt w 21 3) (bitsAt w 18 3) (bitsAt w 15 3))
  else if c = 0x19 then some (.cmp (bitsAt w 18 3) (bitsAt w 15 3))
  else if c = 0x1A then some (.mov (bitsAt w 21 3) (bitsAt w 18 3))
  else if c = 0x1B then some (.abs (bitsAt w 21 3) (bitsAt w 18 3))
  else if c = 0x1C then some (.neg (bitsAt w 21 3) (bitsAt w 18 3))
  else if c = 0x20 then some (.ldi (bitsAt w 21 3) (bitsAt w 0 16))
  else if c = 0x21 then some (.addi (bitsAt w 21 3) (bitsAt w 0 16))
  else if c = 0x22 then some (.cmpi (bitsAt w 21 3) (bitsAt w 0 16))
  else if c = 0x24 then some (.shl (bitsAt w 21 3) (bitsAt w 18 3) (bitsAt w 0 4))
  else if c = 0x25 then some (.shr (bitsAt w 21 3) (bitsAt w 18 3) (bitsAt w 0 4))
  else if c = 0x26 then some (.asr (bitsAt w 21 3) (bitsAt w 18 3) (bitsAt w 0 4))
  else if c = 0x27 then some (.shls (bitsAt w 21 3) (bitsAt w 18 3) (bitsAt w 0 4))
  else if c = 0x30 then some (.ld (bitsAt w 21 3) (bitsAt w 18 3) (bitsAt w 15 3) (bitsAt w 0 12))
  else if c = 0x31 then some (.st (bitsAt w 21 3) (bitsAt w 18 3) (bitsAt w 15 3) (bitsAt w 0 12))
  else if c = 0x32 then some (.lda (bitsAt w 21 3) (bitsAt w 18 3) (bitsAt w 15 3) (bitsAt w 0 12))
  else if c = 0x33 then some (.sta (bitsAt w 21 3) (bitsAt w 18 3) (bitsAt w 15 3) (bitsAt w 0 12))
  else if c = 0x34 then some (.mova (bitsAt w 21 3) (bitsAt w 0 18))
  else if c = 0x35 then some (.adda (bitsAt w 21 3) (bitsAt w 18 3))
  else if c = 0x36 then some (.movda (bitsAt w 18 3) (bitsAt w 21 3))
  else if c = 0x37 then some (.movmo (bitsAt w 22 2) (bitsAt w 0 16))
  else if c = 0x38 then some (.movmm (bitsAt w 22 2) (bitsAt w 0 13))
  else if c = 0x39 then some (.movs (bitsAt w 21 3) (bitAt w 0))
  else if c = 0x3A then some (.movtf (bitsAt w 18 3))
  else if c = 0x3B then some (.setq (bitsAt w 0 3))
  else if c = 0x40 then some (.acld (bitAt w 23) (bitsAt w 20 3) (bitsAt w 0 6))
  else if c = 0x41 then some (.acsh (bitAt w 23) (bitsAt w 0 6))
  else if c = 0x42 then some (.acadd (bitAt w 23))
  else if c = 0x43 then some (.rnd (bitsAt w 20 3) (bitAt w 23) (bitsAt w 0 6))
  else if c = 0x44 then some (.acx (bitsAt w 20 3) (bitAt w 23) (bitsAt w 0 6))
  else if c = 0x45 then some (.rmsq (bitsAt w 20 3) (bitAt w 23) (bitsAt w 17 3))
  else if c = 0x46 then some (.log2 (bitsAt w 20 3) (bitAt w 23))
  else if c = 0x50 then some (.setch (bitsAt w 21 3))
  else if c = 0x51 then some (.put (bitsAt w 18 3) (bitsAt w 14 4) (bitsAt w 21 3))
  else if c = 0x52 then some (.trn (bitsAt w 21 3) (bitsAt w 18 3) (bitsAt w 16 2) (bitsAt w 14 2))
  else if c = 0x53 then some (.palr (bitAt w 0))
  else if c = 0x54 then some .fout
  else if c = 0x58 then some (.ffts (bitsAt w 21 3) (bitsAt w 18 3) (bitAt w 1) (bitAt w 0))
  else if c = 0x59 then some (.fftw (bitsAt w 21 3))
  else if c = 0x5C then some (.fill (bitsAt w 21 3) (bitsAt w 18 3) (bitsAt w 15 3))
  else if c = 0x5D then some (.spill (bitsAt w 21 3) (bitsAt w 18 3) (bitsAt w 15 3))
  else if c = 0x5E then some .dmaw
  else none

/-- The engine instruction that a 32-bit word spells; `none` is fault 2 (R179, R221). -/
def decodeEngine (w : Nat) : Option EOp :=
  match (if w / 2 ^ 29 = 7 then fieldsM w else fieldsOf w) with
  | some op => if encodeEngine op = w then some op else none
  | none => none

end Sys2Proof
end

