-- ==== Sys2Proof/Machine/RegMap.lean ====
section
/-!
DEFINITION. Machine/RegMap.lean: the control space of R6–R9 and R38 as tables. Every register of every block table of spec/
(00–18) is one row: its base address, how many copies stand at which strides, and its fields with access type and reset value.
Each field also has a name of its own (F.<REGISTER>_<FIELD>), through which every meaning reads and writes it.
Values are the spec's; the rows follow the order of the chapters.
-/
namespace Sys2Proof.Machine

/-- The access types of R8. -/
inductive Acc where
  | ro | rw | rwl | w1c | w1s | rc | wo
deriving DecidableEq, Repr

/-- One field of a register's field table: bits `hi`–`lo`, its access type (R8) and its reset value. -/
structure FieldRow where
  hi : Nat
  lo : Nat
  acc : Acc
  reset : Nat
deriving DecidableEq, Repr

/-- One register of a block: name, address of its first copy, and two counts with strides (a window of blocks, then an array
inside it; a count of 1 where there is none). -/
structure RegRow where
  name : String
  base : Nat
  n1 : Nat
  s1 : Nat
  n2 : Nat
  s2 : Nat
  fields : List FieldRow
deriving DecidableEq, Repr

/-- A field of one register copy: its key (32 × address + lowest bit), its width and its reset value. -/
structure Fld where
  key : Nat
  width : Nat
  reset : Nat
deriving DecidableEq, Repr

/-- The registers of LC_ identity and lifecycle (spec chapter 16). -/
def regsLC : List RegRow :=
  [⟨"LC_PART", 0x0, 1, 0x0, 1, 0, [⟨15, 12, .ro, 0⟩, ⟨11, 8, .ro, 0⟩, ⟨7, 0, .ro, 0⟩]⟩,
   ⟨"LC_SERIAL_LO", 0x4, 1, 0x0, 1, 0, [⟨31, 0, .ro, 0⟩]⟩,
   ⟨"LC_SERIAL_HI", 0x8, 1, 0x0, 1, 0, [⟨31, 0, .ro, 0⟩]⟩,
   ⟨"LC_STATE", 0xC, 1, 0x0, 1, 0, [⟨31, 31, .ro, 0⟩, ⟨30, 30, .ro, 0⟩, ⟨29, 29, .ro, 0⟩, ⟨2, 0, .ro, 0⟩]⟩,
   ⟨"LC_TRANSITION", 0x10, 1, 0x0, 1, 0, [⟨31, 0, .wo, 0⟩]⟩,
   ⟨"LC_TRANS_STATUS", 0x14, 1, 0x0, 1, 0, [⟨2, 0, .ro, 0⟩]⟩,
   ⟨"LC_RTC", 0x18, 1, 0x0, 1, 0, [⟨31, 0, .ro, 0⟩]⟩,
   ⟨"LC_TAMPER", 0x1C, 1, 0x0, 1, 0, [⟨31, 31, .ro, 0⟩, ⟨9, 8, .ro, 0⟩, ⟨2, 2, .w1c, 0⟩, ⟨1, 1, .w1c, 0⟩, ⟨0, 0, .w1c, 0⟩]⟩]

/-- The registers of PM_ power and reset (spec chapter 15, 18). -/
def regsPM : List RegRow :=
  [⟨"PM_STATE", 0x10000, 1, 0x0, 1, 0, [⟨13, 13, .ro, 0⟩, ⟨12, 12, .ro, 0⟩, ⟨11, 8, .ro, 0⟩, ⟨4, 4, .ro, 0⟩, ⟨1, 0, .ro, 0⟩]⟩,
   ⟨"PM_DOMAINS", 0x10004, 1, 0x0, 1, 0, [⟨31, 16, .ro, 0⟩, ⟨15, 0, .ro, 1⟩]⟩,
   ⟨"PM_START", 0x10008, 1, 0x0, 1, 0, [⟨31, 16, .ro, 0⟩, ⟨7, 7, .ro, 0⟩, ⟨1, 0, .ro, 0⟩]⟩,
   ⟨"PM_RESET", 0x1000C, 1, 0x0, 1, 0, [⟨31, 8, .wo, 0⟩, ⟨1, 0, .wo, 0⟩]⟩,
   ⟨"PM_OFFACC_LO", 0x10010, 1, 0x0, 1, 0, [⟨31, 0, .w1c, 0⟩]⟩,
   ⟨"PM_OFFACC_HI", 0x10014, 1, 0x0, 1, 0, [⟨31, 0, .w1c, 0⟩]⟩,
   ⟨"PM_RET_SCRATCH", 0x10400, 1, 0x0, 128, 4, [⟨31, 0, .rw, 0⟩]⟩,
   ⟨"PM_FAULT", 0x10020, 1, 0x0, 1, 0, [⟨31, 17, .ro, 0⟩, ⟨15, 1, .w1c, 0⟩]⟩,
   ⟨"PM_FAULT_CODE", 0x10024, 1, 0x0, 1, 0, [⟨31, 16, .ro, 0⟩, ⟨15, 0, .ro, 0⟩]⟩]

/-- The registers of SB_ signal box (spec chapter 02, 15). -/
def regsSB : List RegRow :=
  [⟨"SB_TT_REQUEST", 0x20100, 1, 0x0, 1, 0, [⟨31, 31, .w1s, 0⟩, ⟨9, 8, .rw, 0⟩, ⟨1, 0, .rw, 0⟩]⟩,
   ⟨"SB_TT_STATUS", 0x20104, 1, 0x0, 1, 0, [⟨31, 24, .ro, 0⟩, ⟨23, 23, .w1c, 0⟩, ⟨22, 20, .ro, 0⟩, ⟨19, 16, .ro, 0⟩, ⟨12, 12, .w1c, 0⟩, ⟨10, 8, .ro, 0⟩, ⟨7, 7, .ro, 0⟩, ⟨5, 4, .ro, 0⟩, ⟨3, 2, .ro, 0⟩, ⟨1, 0, .ro, 0⟩]⟩,
   ⟨"SB_TT_AT_LO", 0x20108, 1, 0x0, 1, 0, [⟨31, 0, .rw, 0⟩]⟩,
   ⟨"SB_TT_AT_HI", 0x2010C, 1, 0x0, 1, 0, [⟨15, 0, .rw, 0⟩]⟩,
   ⟨"SB_STATUS", 0x20000, 1, 0x0, 1, 0, [⟨31, 31, .ro, 0⟩, ⟨22, 16, .ro, 0⟩, ⟨3, 0, .ro, 0⟩]⟩,
   ⟨"SB_START_INFO", 0x20004, 1, 0x0, 1, 0, [⟨31, 16, .ro, 0⟩, ⟨7, 0, .ro, 0⟩]⟩,
   ⟨"SB_CMD", 0x20008, 1, 0x0, 1, 0, [⟨31, 16, .wo, 0⟩, ⟨2, 0, .wo, 0⟩]⟩,
   ⟨"SB_SHUTDOWN", 0x2000C, 1, 0x0, 1, 0, [⟨31, 24, .rwl, 0xA⟩, ⟨18, 16, .ro, 0⟩, ⟨15, 0, .ro, 0⟩]⟩]

/-- The registers of TT_ timetable (spec chapter 02). -/
def regsTT : List RegRow :=
  [⟨"TT_ID", 0x30000, 1, 0x0, 1, 0, [⟨6, 4, .ro, 0⟩, ⟨1, 0, .ro, 0⟩]⟩,
   ⟨"TT_SCHED", 0x30004, 1, 0x0, 1, 0, [⟨11, 8, .rwl, 0⟩, ⟨4, 0, .rwl, 0⟩]⟩,
   ⟨"TT_LAUNCH_INTERVAL", 0x30008, 1, 0x0, 1, 0, [⟨19, 0, .rwl, 0⟩]⟩,
   ⟨"TT_SWEEP_PERIOD", 0x3000C, 1, 0x0, 1, 0, [⟨23, 0, .ro, 0⟩]⟩,
   ⟨"TT_FIBRE_END", 0x30010, 1, 0x0, 1, 0, [⟨27, 0, .rwl, 0⟩]⟩,
   ⟨"TT_GATE", 0x30014, 1, 0x0, 1, 0, [⟨15, 8, .rwl, 0x1A⟩, ⟨7, 0, .rwl, 0x1A⟩]⟩,
   ⟨"TT_BRIL", 0x30018, 1, 0x0, 1, 0, [⟨24, 16, .rwl, 0⟩, ⟨11, 8, .rwl, 0⟩, ⟨4, 0, .rwl, 1⟩]⟩,
   ⟨"TT_PROBE", 0x3001C, 1, 0x0, 1, 0, [⟨31, 16, .rwl, 0⟩, ⟨8, 0, .rwl, 0⟩]⟩,
   ⟨"TT_STATUS", 0x30020, 1, 0x0, 1, 0, [⟨4, 4, .w1c, 0⟩, ⟨3, 3, .w1c, 0⟩, ⟨2, 2, .ro, 0⟩, ⟨1, 1, .ro, 0⟩, ⟨0, 0, .w1c, 0⟩]⟩,
   ⟨"TT_WITHHELD", 0x30024, 1, 0x0, 1, 0, [⟨31, 0, .ro, 0⟩]⟩,
   ⟨"TT_SWEEP_COUNT", 0x30028, 1, 0x0, 1, 0, [⟨31, 0, .ro, 0⟩]⟩,
   ⟨"TT_WAVE_SEL", 0x30030, 1, 0x0, 1, 0, [⟨19, 16, .rw, 0⟩, ⟨15, 0, .rw, 0⟩]⟩,
   ⟨"TT_WAVE_DATA", 0x30034, 1, 0x0, 1, 0, [⟨31, 0, .ro, 0⟩]⟩,
   ⟨"TT_SLOT_CFG", 0x30100, 1, 0x0, 16, 4, [⟨31, 31, .rwl, 0⟩, ⟨30, 30, .rwl, 0⟩, ⟨27, 24, .rwl, 0⟩, ⟨15, 0, .rwl, 0⟩]⟩,
   ⟨"TT_SLOT_GAIN", 0x30140, 1, 0x0, 16, 4, [⟨11, 0, .rwl, 0x800⟩]⟩,
   ⟨"TT_GROUP_CFG", 0x30200, 1, 0x0, 16, 4, [⟨19, 16, .rwl, 0⟩, ⟨8, 0, .rwl, 0⟩]⟩,
   ⟨"TT_PULSE_SEQ", 0x30300, 1, 0x0, 16, 4, [⟨31, 0, .ro, 0⟩]⟩]

/-- The registers of OP_ optical engine (spec chapter 03). -/
def regsOP : List RegRow :=
  [⟨"OP_STATE", 0x40000, 1, 0x0, 1, 0, [⟨19, 19, .ro, 0⟩, ⟨18, 18, .ro, 0⟩, ⟨17, 17, .ro, 0⟩, ⟨15, 15, .ro, 0⟩, ⟨14, 14, .ro, 0⟩, ⟨13, 13, .ro, 0⟩, ⟨12, 12, .ro, 0⟩, ⟨11, 11, .ro, 0⟩, ⟨10, 10, .ro, 0⟩, ⟨9, 9, .ro, 0⟩, ⟨1, 0, .ro, 0⟩]⟩,
   ⟨"OP_CTRL", 0x40004, 1, 0x0, 1, 0, [⟨4, 4, .wo, 0⟩, ⟨3, 3, .wo, 0⟩, ⟨2, 2, .wo, 0⟩, ⟨1, 1, .wo, 0⟩, ⟨0, 0, .wo, 0⟩]⟩,
   ⟨"OP_CEIL_AVG", 0x40010, 1, 0x0, 1, 0, [⟨31, 16, .ro, 0x96⟩, ⟨15, 0, .rwl, 0x96⟩]⟩,
   ⟨"OP_CEIL_PULSE", 0x40014, 1, 0x0, 1, 0, [⟨31, 16, .ro, 0x1388⟩, ⟨15, 0, .rwl, 0x1388⟩]⟩,
   ⟨"OP_AVG_WIN", 0x40018, 1, 0x0, 1, 0, [⟨31, 12, .ro, 0⟩, ⟨9, 0, .rwl, 0xA⟩]⟩,
   ⟨"OP_MON_AVG", 0x40020, 1, 0x0, 1, 0, [⟨31, 16, .ro, 0⟩, ⟨15, 0, .ro, 0⟩]⟩,
   ⟨"OP_MON_LAST_TX", 0x40024, 1, 0x0, 1, 0, [⟨31, 0, .ro, 0⟩]⟩,
   ⟨"OP_MON_LAST_SENSE", 0x40028, 1, 0x0, 1, 0, [⟨31, 0, .ro, 0⟩]⟩,
   ⟨"OP_LOOP", 0x40030, 1, 0x0, 1, 0, [⟨31, 16, .ro, 0⟩, ⟨15, 8, .rwl, 0xA⟩, ⟨7, 0, .rwl, 0xE2⟩]⟩,
   ⟨"OP_DIAG", 0x40034, 1, 0x0, 1, 0, [⟨27, 16, .rwl, 0x40⟩, ⟨5, 5, .ro, 0⟩, ⟨4, 4, .ro, 0⟩, ⟨3, 2, .ro, 0⟩, ⟨1, 1, .ro, 0⟩, ⟨0, 0, .ro, 0⟩]⟩,
   ⟨"OP_DM_CFG", 0x40040, 1, 0x0, 1, 0, [⟨31, 31, .rw, 1⟩, ⟨30, 30, .ro, 0⟩, ⟨19, 0, .rw, 0x3E8⟩]⟩,
   ⟨"OP_DM_KICK", 0x40044, 1, 0x0, 1, 0, [⟨31, 0, .wo, 0⟩]⟩,
   ⟨"OP_DM_STATUS", 0x40048, 1, 0x0, 1, 0, [⟨31, 31, .w1c, 0⟩, ⟨30, 30, .ro, 0⟩, ⟨19, 0, .ro, 0⟩]⟩,
   ⟨"OP_IL", 0x40050, 1, 0x0, 1, 0, [⟨31, 31, .ro, 0⟩, ⟨30, 30, .ro, 0⟩, ⟨0, 0, .rwl, 0⟩]⟩,
   ⟨"OP_APR", 0x40058, 1, 0x0, 1, 0, [⟨31, 31, .rwl, 1⟩, ⟨15, 0, .rwl, 0xC8⟩]⟩,
   ⟨"OP_REF_END", 0x4005C, 1, 0x0, 1, 0, [⟨27, 0, .ro, 0⟩]⟩,
   ⟨"OP_BREAK_POS", 0x40060, 1, 0x0, 1, 0, [⟨31, 31, .ro, 0⟩, ⟨30, 30, .ro, 0⟩, ⟨27, 0, .ro, 0⟩]⟩,
   ⟨"OP_AMP", 0x40070, 1, 0x0, 1, 0, [⟨31, 31, .rwl, 0⟩, ⟨30, 30, .ro, 0⟩, ⟨29, 29, .ro, 0⟩, ⟨15, 0, .rwl, 0x1F4⟩]⟩,
   ⟨"OP_LASER", 0x40080, 1, 0x0, 1, 0, [⟨31, 31, .ro, 0⟩, ⟨30, 30, .ro, 0⟩, ⟨7, 0, .rwl, 6⟩]⟩,
   ⟨"OP_CUTS", 0x40090, 1, 0x0, 1, 0, [⟨31, 0, .ro, 0⟩]⟩,
   ⟨"OP_BREAKS", 0x40094, 1, 0x0, 1, 0, [⟨31, 0, .ro, 0⟩]⟩,
   ⟨"OP_BADKICKS", 0x40098, 1, 0x0, 1, 0, [⟨31, 0, .ro, 0⟩]⟩,
   ⟨"OP_CNT_SAT", 0x4009C, 1, 0x0, 1, 0, [⟨2, 2, .w1c, 0⟩, ⟨1, 1, .w1c, 0⟩, ⟨0, 0, .w1c, 0⟩]⟩,
   ⟨"OP_FUSE", 0x400A0, 1, 0x0, 1, 0, [⟨31, 0, .wo, 0⟩]⟩,
   ⟨"OP_FUSE_STATUS", 0x400A4, 1, 0x0, 1, 0, [⟨31, 31, .ro, 0⟩, ⟨2, 0, .ro, 0⟩]⟩]

/-- The registers of SL_ sampling lanes (spec chapter 04). -/
def regsSL : List RegRow :=
  [⟨"SL_CTRL", 0x50000, 1, 0x0, 1, 0, [⟨9, 9, .rwl, 0⟩, ⟨8, 8, .rwl, 1⟩, ⟨5, 0, .rwl, 0x3F⟩]⟩,
   ⟨"SL_STATUS", 0x50004, 1, 0x0, 1, 0, [⟨24, 24, .ro, 0⟩, ⟨23, 23, .w1c, 0⟩, ⟨19, 18, .ro, 0⟩, ⟨17, 16, .ro, 0⟩, ⟨15, 15, .ro, 0⟩, ⟨5, 0, .ro, 0⟩]⟩,
   ⟨"SL_CLK_FERR", 0x50008, 1, 0x0, 1, 0, [⟨31, 0, .ro, 0x80000000⟩]⟩,
   ⟨"SL_CLIP_CFG", 0x5000C, 1, 0x0, 1, 0, [⟨15, 0, .rwl, 0x10⟩]⟩,
   ⟨"SL_SKEW_STATUS", 0x50010, 1, 0x0, 1, 0, [⟨15, 0, .ro, 0⟩]⟩,
   ⟨"SL_SKEW", 0x50020, 1, 0x0, 6, 4, [⟨15, 0, .ro, 0⟩]⟩,
   ⟨"SL_LANE_STATUS", 0x50100, 6, 0x20, 1, 0, [⟨31, 31, .w1c, 0⟩, ⟨30, 30, .w1c, 0⟩, ⟨29, 29, .w1c, 0⟩, ⟨22, 16, .ro, 0x7F⟩, ⟨15, 8, .ro, 0⟩, ⟨2, 0, .ro, 0⟩]⟩,
   ⟨"SL_LANE_CLIPS", 0x50104, 6, 0x20, 1, 0, [⟨31, 0, .ro, 0⟩]⟩,
   ⟨"SL_LANE_LIMITS", 0x50108, 6, 0x20, 1, 0, [⟨15, 0, .ro, 0⟩]⟩,
   ⟨"SL_LANE_LEVEL", 0x5010C, 6, 0x20, 1, 0, [⟨27, 16, .ro, 0⟩, ⟨15, 0, .ro, 0⟩]⟩,
   ⟨"SL_SLICE_SEL", 0x50300, 1, 0x0, 1, 0, [⟨18, 16, .rw, 0⟩, ⟨6, 0, .rw, 0⟩]⟩,
   ⟨"SL_SLICE_OFS", 0x50304, 1, 0x0, 1, 0, [⟨31, 31, .ro, 0⟩, ⟨30, 30, .ro, 0⟩, ⟨15, 0, .ro, 0⟩]⟩,
   ⟨"SL_SLICE_GAIN", 0x50308, 1, 0x0, 1, 0, [⟨15, 0, .ro, 0⟩]⟩,
   ⟨"SL_SLICE_TIME", 0x5030C, 1, 0x0, 1, 0, [⟨15, 0, .ro, 0⟩]⟩]

/-- The registers of FP_ front pipeline (spec chapter 05). -/
def regsFP : List RegRow :=
  [⟨"FP_CTRL", 0x60000, 1, 0x0, 1, 0, [⟨1, 0, .rwl, 1⟩]⟩,
   ⟨"FP_STATUS", 0x60004, 1, 0x0, 1, 0, [⟨4, 4, .ro, 0⟩, ⟨3, 3, .ro, 0⟩, ⟨2, 2, .ro, 0⟩, ⟨1, 1, .ro, 0⟩, ⟨0, 0, .w1c, 0⟩]⟩,
   ⟨"FP_ALIGN", 0x60008, 1, 0x0, 1, 0, [⟨31, 16, .ro, 0x40⟩, ⟨11, 8, .rwl, 4⟩, ⟨3, 0, .rwl, 4⟩]⟩,
   ⟨"FP_FADE", 0x6000C, 1, 0x0, 1, 0, [⟨15, 0, .rwl, 0x64⟩]⟩,
   ⟨"FP_STRAIN", 0x60010, 1, 0x0, 1, 0, [⟨31, 16, .ro, 0x3868⟩, ⟨15, 0, .rwl, 0xC7AE⟩]⟩,
   ⟨"FP_RANGE_OFS", 0x60014, 1, 0x0, 1, 0, [⟨31, 0, .ro, 0⟩]⟩,
   ⟨"FP_RI_DELAY", 0x60018, 1, 0x0, 1, 0, [⟨19, 0, .ro, 0x186A0⟩]⟩,
   ⟨"FP_LOAD_BINS", 0x60020, 1, 0x0, 1, 0, [⟨31, 0, .ro, 0⟩]⟩,
   ⟨"FP_LOAD_CHAN", 0x60024, 1, 0x0, 1, 0, [⟨31, 0, .ro, 0⟩]⟩,
   ⟨"FP_LOAD_SEG", 0x60028, 1, 0x0, 1, 0, [⟨31, 0, .ro, 0⟩]⟩,
   ⟨"FP_SAT_COUNT", 0x60030, 1, 0x0, 1, 0, [⟨31, 0, .ro, 0⟩]⟩,
   ⟨"FP_FADE_COUNT", 0x60034, 1, 0x0, 1, 0, [⟨31, 0, .ro, 0⟩]⟩,
   ⟨"FP_CNT_SAT", 0x60038, 1, 0x0, 1, 0, [⟨1, 1, .w1c, 0⟩, ⟨0, 0, .w1c, 0⟩]⟩,
   ⟨"FP_SLOT_CFG", 0x60100, 1, 0x0, 16, 4, [⟨28, 24, .rwl, 0⟩, ⟨10, 0, .rwl, 0⟩]⟩,
   ⟨"FP_SLOT_NOISE", 0x60140, 1, 0x0, 16, 4, [⟨15, 0, .ro, 0⟩]⟩,
   ⟨"FP_GROUP_STAT", 0x60200, 1, 0x0, 16, 4, [⟨31, 31, .ro, 0⟩, ⟨30, 30, .ro, 0⟩, ⟨15, 0, .ro, 0⟩]⟩,
   ⟨"FP_PROF_SEL", 0x60300, 1, 0x0, 1, 0, [⟨31, 28, .rw, 0⟩, ⟨27, 27, .rw, 0⟩, ⟨26, 26, .ro, 0⟩, ⟨17, 0, .rw, 0⟩]⟩,
   ⟨"FP_PROF_DATA", 0x60304, 1, 0x0, 1, 0, [⟨31, 31, .ro, 0⟩, ⟨30, 30, .ro, 0⟩, ⟨15, 0, .ro, 0⟩]⟩,
   ⟨"FP_PROF_TAG", 0x60308, 1, 0x0, 1, 0, [⟨31, 0, .ro, 0⟩]⟩,
   ⟨"FP_PROF_SWEEP", 0x6030C, 1, 0x0, 1, 0, [⟨31, 0, .ro, 0⟩]⟩]

/-- The registers of BS_ block sections (spec chapter 06). -/
def regsBS : List RegRow :=
  [⟨"BS_COUNT", 0x70000, 1, 0x0, 1, 0, [⟨8, 0, .ro, 0⟩]⟩,
   ⟨"BS_TOTAL", 0x70004, 1, 0x0, 1, 0, [⟨17, 0, .ro, 0⟩]⟩,
   ⟨"BS_DFIFO_BASE", 0x70010, 1, 0x0, 1, 0, [⟨29, 0, .ro, 0⟩]⟩,
   ⟨"BS_DFIFO_WR", 0x70014, 1, 0x0, 1, 0, [⟨31, 0, .ro, 0⟩]⟩,
   ⟨"BS_DFIFO_RD", 0x70018, 1, 0x0, 1, 0, [⟨31, 0, .rw, 0⟩]⟩,
   ⟨"BS_DFIFO_STAT", 0x7001C, 1, 0x0, 1, 0, [⟨31, 31, .ro, 0⟩, ⟨30, 30, .w1c, 0⟩, ⟨12, 0, .ro, 0⟩]⟩,
   ⟨"BS_CHAIN_SEL", 0x70020, 1, 0x0, 1, 0, [⟨23, 16, .rw, 0⟩, ⟨7, 0, .rw, 0⟩]⟩,
   ⟨"BS_CHAIN_DATA", 0x70024, 1, 0x0, 1, 0, [⟨31, 28, .ro, 0⟩, ⟨27, 16, .ro, 0⟩, ⟨11, 0, .ro, 0⟩]⟩,
   ⟨"BS_ALARM_SEL", 0x70028, 1, 0x0, 1, 0, [⟨31, 24, .rw, 0⟩, ⟨17, 16, .rw, 0⟩, ⟨11, 0, .rw, 0⟩]⟩,
   ⟨"BS_ALARM_DATA", 0x7002C, 1, 0x0, 1, 0, [⟨31, 0, .ro, 0⟩]⟩,
   ⟨"BS_CFG", 0x78000, 256, 0x80, 1, 0, [⟨31, 31, .ro, 0⟩, ⟨30, 28, .rwl, 0⟩, ⟨26, 24, .rwl, 1⟩, ⟨20, 16, .rwl, 0xA⟩, ⟨12, 8, .rwl, 0xF⟩, ⟨1, 0, .rwl, 0⟩]⟩,
   ⟨"BS_X0", 0x78004, 256, 0x80, 1, 0, [⟨27, 0, .rwl, 0⟩]⟩,
   ⟨"BS_GEOM", 0x78008, 256, 0x80, 1, 0, [⟨31, 24, .rwl, 0⟩, ⟨15, 0, .rwl, 0⟩]⟩,
   ⟨"BS_CHANS", 0x7800C, 256, 0x80, 1, 0, [⟨17, 0, .rwl, 0⟩]⟩,
   ⟨"BS_SCALE", 0x78010, 256, 0x80, 1, 0, [⟨31, 16, .ro, 1⟩, ⟨15, 0, .rwl, 0x4000⟩]⟩,
   ⟨"BS_OUT_LSB", 0x78014, 256, 0x80, 1, 0, [⟨31, 0, .rwl, 0⟩]⟩,
   ⟨"BS_SKETCH", 0x78018, 256, 0x80, 1, 0, [⟨28, 24, .rwl, 0⟩, ⟨8, 0, .rwl, 1⟩]⟩,
   ⟨"BS_DET", 0x7801C, 256, 0x80, 1, 0, [⟨31, 31, .rwl, 0⟩, ⟨27, 24, .rwl, 2⟩, ⟨23, 20, .rwl, 8⟩, ⟨15, 0, .rwl, 0x64⟩]⟩,
   ⟨"BS_PEAK_LVL", 0x78020, 256, 0x80, 1, 0, [⟨31, 16, .rw, 0⟩, ⟨15, 0, .rw, 0⟩]⟩,
   ⟨"BS_RMS_LVL", 0x78024, 256, 0x80, 1, 0, [⟨31, 16, .rw, 0⟩, ⟨15, 0, .rw, 0⟩]⟩,
   ⟨"BS_ENV_LVL", 0x78028, 256, 0x80, 1, 0, [⟨31, 16, .rw, 0⟩, ⟨15, 0, .rw, 0⟩]⟩,
   ⟨"BS_DET_CNT", 0x7802C, 256, 0x80, 1, 0, [⟨15, 8, .rw, 1⟩, ⟨7, 0, .rw, 1⟩]⟩,
   ⟨"BS_BANDS", 0x78030, 256, 0x80, 1, 0, [⟨19, 16, .rwl, 0xA⟩, ⟨3, 0, .rwl, 0⟩]⟩,
   ⟨"BS_FRAME", 0x78034, 256, 0x80, 1, 0, [⟨30, 18, .rwl, 0x100⟩, ⟨17, 0, .rwl, 0x1000⟩]⟩,
   ⟨"BS_FEAT", 0x78038, 256, 0x80, 1, 0, [⟨20, 16, .rwl, 0⟩, ⟨12, 0, .rwl, 1⟩]⟩,
   ⟨"BS_OUT_EN", 0x7803C, 256, 0x80, 1, 0, [⟨4, 0, .rw, 0⟩]⟩,
   ⟨"BS_PAL", 0x78040, 256, 0x80, 1, 0, [⟨31, 31, .ro, 0⟩, ⟨30, 30, .ro, 0⟩, ⟨29, 29, .ro, 0⟩, ⟨28, 28, .ro, 0⟩, ⟨12, 0, .rwl, 0x40⟩]⟩,
   ⟨"BS_PAL_REPL", 0x78044, 256, 0x80, 1, 0, [⟨31, 0, .ro, 0⟩]⟩,
   ⟨"BS_STAT", 0x78048, 256, 0x80, 1, 0, [⟨31, 31, .ro, 0⟩, ⟨30, 28, .ro, 0⟩, ⟨17, 0, .ro, 0⟩]⟩,
   ⟨"BS_DET_EVTS", 0x7804C, 256, 0x80, 1, 0, [⟨31, 0, .ro, 0⟩]⟩,
   ⟨"BS_MERGED", 0x78050, 256, 0x80, 1, 0, [⟨31, 0, .ro, 0⟩]⟩,
   ⟨"BS_SLEW", 0x78054, 256, 0x80, 1, 0, [⟨31, 0, .ro, 0⟩]⟩,
   ⟨"BS_FILLED", 0x78060, 256, 0x80, 1, 0, [⟨31, 0, .ro, 0⟩]⟩,
   ⟨"BS_FRAME_SEQ", 0x78058, 256, 0x80, 1, 0, [⟨31, 0, .ro, 0⟩]⟩,
   ⟨"BS_SAT", 0x7805C, 256, 0x80, 1, 0, [⟨4, 4, .w1c, 0⟩, ⟨3, 3, .w1c, 0⟩, ⟨2, 2, .w1c, 0⟩, ⟨1, 1, .w1c, 0⟩, ⟨0, 0, .w1c, 0⟩]⟩]

/-- The registers of YD_ yards (spec chapter 07). -/
def regsYD : List RegRow :=
  [⟨"YD_STATUS", 0x80000, 12, 0x10000, 1, 0, [⟨31, 31, .ro, 0⟩, ⟨25, 24, .ro, 0⟩, ⟨15, 8, .ro, 0⟩, ⟨7, 0, .ro, 0⟩]⟩,
   ⟨"YD_LOAD", 0x80004, 12, 0x10000, 1, 0, [⟨31, 16, .ro, 0⟩, ⟨15, 0, .ro, 0⟩]⟩,
   ⟨"YD_QUEUE", 0x80008, 12, 0x10000, 1, 0, [⟨25, 16, .ro, 0⟩, ⟨9, 0, .ro, 0⟩]⟩,
   ⟨"YD_TRACKS", 0x8000C, 12, 0x10000, 1, 0, [⟨8, 0, .ro, 0⟩]⟩,
   ⟨"YD_ENG", 0x80100, 12, 0x10000, 8, 4, [⟨31, 30, .ro, 0⟩, ⟨18, 16, .ro, 0⟩, ⟨1, 0, .ro, 0⟩]⟩]

/-- The registers of FB_ fabric (spec chapter 07). -/
def regsFB : List RegRow :=
  [⟨"FB_STATUS", 0x140000, 1, 0x0, 1, 0, [⟨31, 31, .ro, 0⟩, ⟨30, 30, .ro, 0⟩, ⟨29, 29, .ro, 0⟩, ⟨28, 28, .ro, 0⟩, ⟨27, 27, .ro, 0⟩]⟩,
   ⟨"FB_ENGINES", 0x140004, 1, 0x0, 1, 0, [⟨23, 16, .ro, 0⟩, ⟨15, 8, .ro, 0⟩, ⟨7, 0, .ro, 0⟩]⟩,
   ⟨"FB_QUAD", 0x140008, 1, 0x0, 1, 0, [⟨7, 4, .ro, 0⟩, ⟨3, 0, .ro, 0⟩]⟩,
   ⟨"FB_AV_CFG", 0x140010, 1, 0x0, 1, 0, [⟨31, 31, .rwl, 1⟩, ⟨23, 16, .rwl, 0x50⟩, ⟨15, 8, .rwl, 0x3C⟩, ⟨7, 0, .rwl, 0xA⟩]⟩,
   ⟨"FB_AV_LIMITS", 0x140014, 1, 0x0, 1, 0, [⟨31, 16, .rwl, 0x352⟩, ⟨15, 0, .rwl, 0x2A8⟩]⟩,
   ⟨"FB_AV_VOUT", 0x140018, 1, 0x0, 1, 0, [⟨31, 16, .ro, 0⟩, ⟨15, 0, .ro, 0⟩]⟩,
   ⟨"FB_PMBUS", 0x14001C, 1, 0x0, 1, 0, [⟨31, 31, .rwl, 1⟩, ⟨23, 16, .ro, 0⟩, ⟨9, 8, .ro, 0⟩, ⟨6, 0, .rwl, 0x40⟩]⟩,
   ⟨"FB_UTIL", 0x140020, 1, 0x0, 1, 0, [⟨31, 16, .rc, 0⟩, ⟨15, 0, .ro, 0⟩]⟩,
   ⟨"FB_AGE", 0x140024, 1, 0x0, 1, 0, [⟨31, 0, .ro, 0⟩]⟩,
   ⟨"FB_SPEED", 0x140030, 1, 0x0, 4, 4, [⟨15, 0, .ro, 0⟩]⟩,
   ⟨"FB_SHED_CFG", 0x140040, 1, 0x0, 1, 0, [⟨31, 24, .rwl, 0x14⟩, ⟨23, 16, .rwl, 5⟩, ⟨15, 8, .rwl, 2⟩, ⟨7, 0, .rwl, 0x64⟩]⟩,
   ⟨"FB_SHED_POS", 0x140044, 1, 0x0, 1, 0, [⟨25, 16, .ro, 0⟩, ⟨15, 8, .ro, 0⟩, ⟨1, 0, .ro, 0⟩]⟩,
   ⟨"FB_STORE_SIZE", 0x140050, 1, 0x0, 1, 0, [⟨31, 16, .ro, 0⟩, ⟨15, 0, .ro, 0⟩]⟩,
   ⟨"FB_STORE_FILL", 0x140054, 1, 0x0, 1, 0, [⟨31, 16, .ro, 0⟩, ⟨15, 0, .ro, 0⟩]⟩,
   ⟨"FB_JOBS", 0x140058, 1, 0x0, 1, 0, [⟨25, 16, .ro, 0⟩, ⟨9, 0, .ro, 0⟩]⟩,
   ⟨"FB_DISPATCH", 0x14005C, 1, 0x0, 1, 0, [⟨31, 16, .rwl, 0x7D0⟩, ⟨15, 0, .rwl, 0x1F4⟩]⟩,
   ⟨"FB_DONE", 0x140060, 1, 0x0, 1, 0, [⟨31, 0, .ro, 0⟩]⟩,
   ⟨"FB_PROMOTED", 0x140064, 1, 0x0, 1, 0, [⟨31, 0, .ro, 0⟩]⟩,
   ⟨"FB_FAULTS", 0x140068, 1, 0x0, 1, 0, [⟨31, 0, .ro, 0⟩]⟩,
   ⟨"FB_DISCARDS", 0x14006C, 1, 0x0, 1, 0, [⟨31, 0, .ro, 0⟩]⟩,
   ⟨"FB_CNT_SAT", 0x140070, 1, 0x0, 1, 0, [⟨3, 3, .w1c, 0⟩, ⟨2, 2, .w1c, 0⟩, ⟨1, 1, .w1c, 0⟩, ⟨0, 0, .w1c, 0⟩]⟩]

/-- The registers of EV_ event recorder (spec chapter 09). -/
def regsEV : List RegRow :=
  [⟨"EV_STATUS", 0x150000, 1, 0x0, 1, 0, [⟨31, 16, .ro, 0⟩, ⟨15, 0, .ro, 0⟩]⟩,
   ⟨"EV_BUDGET", 0x150004, 1, 0x0, 1, 0, [⟨15, 0, .rwl, 0x320⟩]⟩,
   ⟨"EV_DEMAND", 0x150008, 1, 0x0, 1, 0, [⟨31, 16, .ro, 0⟩, ⟨15, 0, .ro, 0⟩]⟩,
   ⟨"EV_RATE", 0x15000C, 1, 0x0, 1, 0, [⟨8, 8, .ro, 0⟩, ⟨7, 4, .ro, 0⟩, ⟨3, 0, .ro, 0⟩]⟩,
   ⟨"EV_TRIGIN_SKEW", 0x150010, 1, 0x0, 1, 0, [⟨15, 0, .ro, 0⟩]⟩,
   ⟨"EV_TRIG_OUT", 0x150014, 1, 0x0, 1, 0, [⟨31, 16, .rwl, 0⟩, ⟨7, 0, .rwl, 0xA⟩]⟩,
   ⟨"EV_HOST_TRIG", 0x150018, 1, 0x0, 1, 0, [⟨15, 0, .wo, 0⟩]⟩,
   ⟨"EV_DROPPED", 0x15001C, 1, 0x0, 1, 0, [⟨31, 0, .ro, 0⟩]⟩,
   ⟨"EV_SAT", 0x150020, 1, 0x0, 1, 0, [⟨0, 0, .w1c, 0⟩]⟩,
   ⟨"EV_LCFG", 0x150100, 16, 0x80, 1, 0, [⟨31, 31, .rwl, 0⟩, ⟨30, 30, .rwl, 0⟩, ⟨29, 29, .rwl, 0⟩, ⟨28, 28, .rwl, 0⟩, ⟨27, 27, .rwl, 0⟩, ⟨26, 24, .rwl, 0⟩, ⟨23, 16, .rwl, 0⟩, ⟨7, 0, .rwl, 0⟩]⟩,
   ⟨"EV_LCHAN", 0x150104, 16, 0x80, 1, 0, [⟨31, 19, .rwl, 1⟩, ⟨16, 0, .rwl, 0⟩]⟩,
   ⟨"EV_PRE", 0x150108, 16, 0x80, 1, 0, [⟨23, 0, .rwl, 0⟩]⟩,
   ⟨"EV_POST", 0x15010C, 16, 0x80, 1, 0, [⟨23, 0, .rwl, 1⟩]⟩,
   ⟨"EV_MAX_LEN", 0x150110, 16, 0x80, 1, 0, [⟨23, 0, .rwl, 1⟩]⟩,
   ⟨"EV_OFFSET", 0x150114, 16, 0x80, 1, 0, [⟨31, 0, .rwl, 0⟩]⟩,
   ⟨"EV_XT", 0x150118, 16, 0x80, 1, 0, [⟨23, 16, .rwl, 0⟩, ⟨15, 0, .rwl, 0⟩]⟩,
   ⟨"EV_CTRL", 0x15011C, 16, 0x80, 1, 0, [⟨31, 31, .rw, 0⟩, ⟨30, 30, .w1c, 0⟩, ⟨29, 28, .rw, 0⟩]⟩,
   ⟨"EV_STATE", 0x150120, 16, 0x80, 1, 0, [⟨15, 12, .ro, 0⟩, ⟨10, 8, .ro, 0⟩, ⟨2, 0, .ro, 0⟩]⟩,
   ⟨"EV_RING", 0x150124, 16, 0x80, 1, 0, [⟨31, 16, .ro, 0⟩, ⟨15, 0, .ro, 0⟩]⟩,
   ⟨"EV_ROWS", 0x150128, 16, 0x80, 1, 0, [⟨31, 0, .ro, 0⟩]⟩,
   ⟨"EV_DATA_BASE", 0x15012C, 16, 0x80, 1, 0, [⟨29, 0, .ro, 0⟩]⟩,
   ⟨"EV_HDR_BASE", 0x150130, 16, 0x80, 1, 0, [⟨29, 0, .ro, 0⟩]⟩,
   ⟨"EV_REC_WR", 0x150134, 16, 0x80, 1, 0, [⟨31, 0, .ro, 0⟩]⟩,
   ⟨"EV_REC_RD", 0x150138, 16, 0x80, 1, 0, [⟨31, 0, .rw, 0⟩]⟩,
   ⟨"EV_DEAD", 0x15013C, 16, 0x80, 1, 0, [⟨31, 0, .ro, 0⟩]⟩,
   ⟨"EV_IGNORED", 0x150140, 16, 0x80, 1, 0, [⟨31, 0, .ro, 0⟩]⟩,
   ⟨"EV_MERGED", 0x150144, 16, 0x80, 1, 0, [⟨31, 0, .ro, 0⟩]⟩,
   ⟨"EV_LSAT", 0x150148, 16, 0x80, 1, 0, [⟨2, 2, .w1c, 0⟩, ⟨1, 1, .w1c, 0⟩, ⟨0, 0, .w1c, 0⟩]⟩]

/-- The registers of BR_ Brillouin (spec chapter 10). -/
def regsBR : List RegRow :=
  [⟨"BR_CTRL", 0x160000, 1, 0x0, 1, 0, [⟨31, 31, .ro, 0⟩, ⟨25, 24, .rwl, 0⟩, ⟨21, 16, .rwl, 0x18⟩, ⟨9, 0, .rwl, 0x64⟩]⟩,
   ⟨"BR_STATUS", 0x160004, 1, 0x0, 1, 0, [⟨31, 31, .ro, 0⟩, ⟨30, 30, .ro, 0⟩, ⟨29, 29, .ro, 0⟩, ⟨28, 28, .ro, 0⟩, ⟨27, 27, .ro, 0⟩, ⟨14, 8, .ro, 0⟩, ⟨2, 0, .ro, 0⟩]⟩,
   ⟨"BR_NOMINAL", 0x160008, 1, 0x0, 1, 0, [⟨31, 0, .rwl, 0xA58ED0⟩]⟩,
   ⟨"BR_SYN", 0x16000C, 1, 0x0, 1, 0, [⟨23, 0, .ro, 0⟩]⟩,
   ⟨"BR_COEF_T", 0x160010, 1, 0x0, 1, 0, [⟨31, 16, .rwl, 0x29CC⟩, ⟨15, 0, .rwl, 0x9C4⟩]⟩,
   ⟨"BR_COEF_E", 0x160014, 1, 0x0, 1, 0, [⟨15, 0, .rwl, 0x1342⟩]⟩,
   ⟨"BR_ACC", 0x160018, 1, 0x0, 1, 0, [⟨31, 16, .rwl, 0x12C⟩, ⟨15, 0, .rwl, 0xA⟩]⟩,
   ⟨"BR_BASE", 0x16001C, 1, 0x0, 1, 0, [⟨31, 16, .rwl, 0x3C⟩, ⟨15, 0, .rwl, 0xA⟩]⟩,
   ⟨"BR_COIL_CFG", 0x160020, 1, 0x0, 1, 0, [⟨31, 31, .rwl, 0⟩, ⟨2, 0, .rwl, 0⟩]⟩,
   ⟨"BR_COIL_BINS", 0x160024, 1, 0x0, 1, 0, [⟨30, 16, .rwl, 0⟩, ⟨14, 0, .rwl, 0⟩]⟩,
   ⟨"BR_ANCHOR_MAX", 0x160028, 1, 0x0, 1, 0, [⟨15, 0, .rwl, 0x1F4⟩]⟩,
   ⟨"BR_ANCHOR", 0x16002C, 1, 0x0, 1, 0, [⟨31, 16, .ro, 0x8000⟩, ⟨15, 0, .ro, 0⟩]⟩,
   ⟨"BR_RANGE_OFS", 0x160030, 1, 0x0, 1, 0, [⟨31, 0, .ro, 0⟩]⟩,
   ⟨"BR_BINS", 0x160034, 1, 0x0, 1, 0, [⟨14, 0, .ro, 0⟩]⟩,
   ⟨"BR_FRAME", 0x160038, 1, 0x0, 1, 0, [⟨14, 0, .rwl, 0x1000⟩]⟩,
   ⟨"BR_FRAME_SEQ", 0x16003C, 1, 0x0, 1, 0, [⟨31, 0, .ro, 0⟩]⟩,
   ⟨"BR_PROFILE", 0x160040, 1, 0x0, 1, 0, [⟨31, 0, .ro, 0⟩]⟩,
   ⟨"BR_NOFIT", 0x160044, 1, 0x0, 1, 0, [⟨14, 0, .ro, 0⟩]⟩,
   ⟨"BR_SKIPPED", 0x160048, 1, 0x0, 1, 0, [⟨31, 0, .ro, 0⟩]⟩,
   ⟨"BR_SAT", 0x16004C, 1, 0x0, 1, 0, [⟨0, 0, .w1c, 0⟩]⟩,
   ⟨"BR_SPEC_SEL", 0x160100, 1, 0x0, 1, 0, [⟨30, 16, .rw, 0⟩, ⟨6, 0, .rw, 0⟩]⟩,
   ⟨"BR_SPEC_DATA", 0x160104, 1, 0x0, 1, 0, [⟨31, 0, .ro, 0x7FC00000⟩]⟩,
   ⟨"BR_ZONE_A", 0x160200, 16, 0x10, 1, 0, [⟨31, 31, .rwl, 0⟩, ⟨29, 28, .rwl, 0⟩, ⟨26, 24, .rwl, 0⟩, ⟨14, 0, .rwl, 0⟩]⟩,
   ⟨"BR_ZONE_B", 0x160204, 16, 0x10, 1, 0, [⟨31, 31, .rwl, 0⟩, ⟨30, 16, .rwl, 0⟩, ⟨14, 0, .rwl, 0⟩]⟩,
   ⟨"BR_ZONE_C", 0x160208, 16, 0x10, 1, 0, [⟨31, 16, .rwl, 0⟩]⟩]

/-- The registers of SF_ sensor front end (spec chapter 11). -/
def regsSF : List RegRow :=
  [⟨"SF_CTRL", 0x170000, 1, 0x0, 1, 0, [⟨7, 0, .rwl, 0⟩]⟩,
   ⟨"SF_PREC", 0x170004, 1, 0x0, 1, 0, [⟨31, 0, .rwl, 0x30D40⟩]⟩,
   ⟨"SF_STATUS", 0x170008, 1, 0x0, 1, 0, [⟨31, 31, .ro, 0⟩, ⟨18, 16, .ro, 0⟩, ⟨15, 0, .ro, 0⟩]⟩,
   ⟨"SF_CFG", 0x170100, 8, 0x20, 1, 0, [⟨30, 28, .rwl, 0⟩, ⟨25, 24, .rwl, 0⟩, ⟨17, 16, .rwl, 0⟩, ⟨6, 0, .rwl, 0x10⟩]⟩,
   ⟨"SF_STAT", 0x170104, 8, 0x20, 1, 0, [⟨31, 29, .ro, 0⟩, ⟨28, 28, .ro, 0⟩, ⟨27, 26, .ro, 0⟩]⟩,
   ⟨"SF_TEMP", 0x170108, 8, 0x20, 1, 0, [⟨31, 0, .ro, 0x80000000⟩]⟩,
   ⟨"SF_RATIO", 0x17010C, 8, 0x20, 1, 0, [⟨23, 0, .ro, 0⟩]⟩,
   ⟨"SF_FAULTS", 0x170110, 8, 0x20, 1, 0, [⟨31, 0, .ro, 0⟩]⟩,
   ⟨"SF_ABANDON", 0x170114, 8, 0x20, 1, 0, [⟨31, 0, .ro, 0⟩]⟩,
   ⟨"SF_SAT", 0x170118, 8, 0x20, 1, 0, [⟨1, 1, .w1c, 0⟩, ⟨0, 0, .w1c, 0⟩]⟩]

/-- The registers of HK_ housekeeping and TEC (spec chapter 11). -/
def regsHK : List RegRow :=
  [⟨"HK_CFG", 0x180000, 2, 0x100, 1, 0, [⟨31, 31, .rwl, 0⟩, ⟨30, 29, .rwl, 0⟩, ⟨23, 20, .rwl, 0⟩, ⟨19, 18, .rwl, 3⟩, ⟨17, 16, .rwl, 2⟩]⟩,
   ⟨"HK_TIMER", 0x180004, 2, 0x100, 1, 0, [⟨31, 16, .rwl, 0x32⟩, ⟨15, 0, .rwl, 0x3E8⟩]⟩,
   ⟨"HK_DELAY", 0x180008, 2, 0x100, 1, 0, [⟨31, 16, .rwl, 0x32⟩, ⟨7, 0, .rwl, 0x64⟩]⟩,
   ⟨"HK_SEQ", 0x180020, 2, 0x100, 16, 4, [⟨3, 0, .rwl, 0⟩]⟩,
   ⟨"HK_INJ", 0x180060, 2, 0x100, 4, 4, [⟨3, 0, .rwl, 0⟩]⟩,
   ⟨"HK_DATA", 0x180070, 2, 0x100, 1, 0, [⟨31, 31, .rc, 0⟩, ⟨30, 30, .ro, 0⟩, ⟨29, 29, .ro, 0⟩, ⟨28, 28, .ro, 0⟩, ⟨27, 24, .ro, 0⟩, ⟨19, 16, .ro, 0⟩, ⟨11, 0, .ro, 0⟩]⟩,
   ⟨"HK_STAT", 0x180074, 2, 0x100, 1, 0, [⟨31, 31, .w1c, 0⟩, ⟨30, 30, .ro, 0⟩, ⟨2, 2, .w1c, 0⟩, ⟨1, 1, .w1c, 0⟩, ⟨0, 0, .w1c, 0⟩]⟩,
   ⟨"HK_OVRS", 0x180078, 2, 0x100, 1, 0, [⟨31, 0, .ro, 0⟩]⟩,
   ⟨"HK_MISS", 0x18007C, 2, 0x100, 1, 0, [⟨31, 0, .ro, 0⟩]⟩,
   ⟨"HK_PROM", 0x1800F0, 2, 0x100, 1, 0, [⟨31, 0, .ro, 0⟩]⟩,
   ⟨"HK_LAST", 0x180080, 2, 0x100, 20, 4, [⟨31, 31, .ro, 0⟩, ⟨11, 0, .ro, 0⟩]⟩,
   ⟨"HK_CAL", 0x1800D0, 2, 0x100, 1, 0, [⟨31, 16, .ro, 0⟩, ⟨15, 0, .ro, 0⟩]⟩,
   ⟨"HK_TEC_CFG", 0x180200, 1, 0x0, 1, 0, [⟨31, 16, .ro, 0⟩, ⟨10, 0, .rwl, 0x5DC⟩]⟩,
   ⟨"HK_TEC_GAIN", 0x180204, 1, 0x0, 1, 0, [⟨31, 16, .rwl, 0x800⟩, ⟨15, 0, .rwl, 0x10⟩]⟩,
   ⟨"HK_TEC_STAT", 0x180208, 1, 0x0, 1, 0, [⟨31, 31, .ro, 0⟩, ⟨30, 30, .ro, 0⟩, ⟨29, 29, .ro, 0⟩, ⟨15, 0, .ro, 0⟩]⟩]

/-- The registers of CL_ calibration (spec chapter 11). -/
def regsCL : List RegRow :=
  [⟨"CL_STATUS", 0x190000, 1, 0x0, 1, 0, [⟨31, 31, .ro, 0⟩, ⟨30, 30, .ro, 0⟩, ⟨29, 29, .ro, 0⟩, ⟨28, 28, .ro, 0⟩, ⟨25, 24, .ro, 0⟩, ⟨17, 17, .ro, 0⟩, ⟨16, 16, .ro, 0⟩]⟩,
   ⟨"CL_DELTA_T", 0x190004, 1, 0x0, 1, 0, [⟨31, 16, .rwl, 0x3C⟩, ⟨15, 0, .rwl, 0xC8⟩]⟩,
   ⟨"CL_TEMP", 0x190008, 1, 0x0, 1, 0, [⟨31, 16, .ro, 0⟩, ⟨15, 0, .ro, 0⟩]⟩,
   ⟨"CL_SEQ_A", 0x19000C, 1, 0x0, 1, 0, [⟨31, 0, .ro, 0⟩]⟩,
   ⟨"CL_SEQ_B", 0x190010, 1, 0x0, 1, 0, [⟨31, 0, .ro, 0⟩]⟩,
   ⟨"CL_PASSES", 0x190014, 1, 0x0, 1, 0, [⟨31, 0, .ro, 0⟩]⟩,
   ⟨"CL_SAT", 0x190018, 1, 0x0, 1, 0, [⟨0, 0, .w1c, 0⟩]⟩]

/-- The registers of DC_ DRAM controller (spec chapter 12). -/
def regsDC : List RegRow :=
  [⟨"DC_CFG", 0x1A0000, 1, 0x0, 1, 0, [⟨31, 28, .ro, 0⟩, ⟨27, 27, .ro, 0⟩, ⟨4, 0, .rwl, 0xC⟩]⟩,
   ⟨"DC_CAP", 0x1A0004, 1, 0x0, 1, 0, [⟨31, 0, .ro, 0⟩]⟩,
   ⟨"DC_HASH", 0x1A0010, 1, 0x0, 4, 4, [⟨17, 0, .rwl, 0⟩]⟩,
   ⟨"DC_PANIC", 0x1A0020, 1, 0x0, 1, 0, [⟨31, 31, .ro, 0⟩, ⟨15, 8, .rwl, 0x4B⟩, ⟨7, 0, .rwl, 0x32⟩]⟩,
   ⟨"DC_AGING", 0x1A0024, 1, 0x0, 1, 0, [⟨31, 16, .rwl, 0x14⟩, ⟨15, 0, .rwl, 0xA⟩]⟩,
   ⟨"DC_REFRESH", 0x1A0028, 1, 0x0, 1, 0, [⟨7, 4, .ro, 0⟩, ⟨3, 0, .ro, 0⟩]⟩,
   ⟨"DC_RH_CFG", 0x1A002C, 1, 0x0, 1, 0, [⟨15, 0, .rwl, 0x1000⟩]⟩,
   ⟨"DC_INFLIGHT", 0x1A0030, 1, 0x0, 1, 0, [⟨24, 16, .ro, 0⟩, ⟨8, 0, .ro, 0⟩]⟩,
   ⟨"DC_FORCED_REF", 0x1A0040, 1, 0x0, 1, 0, [⟨31, 0, .ro, 0⟩]⟩,
   ⟨"DC_RH_REFRESHES", 0x1A0044, 1, 0x0, 1, 0, [⟨31, 0, .ro, 0⟩]⟩,
   ⟨"DC_PANIC_CAPS", 0x1A0048, 1, 0x0, 1, 0, [⟨31, 0, .ro, 0⟩]⟩,
   ⟨"DC_PROMOTED", 0x1A004C, 1, 0x0, 1, 0, [⟨31, 0, .ro, 0⟩]⟩,
   ⟨"DC_CNT_SAT", 0x1A0050, 1, 0x0, 1, 0, [⟨3, 3, .w1c, 0⟩, ⟨2, 2, .w1c, 0⟩, ⟨1, 1, .w1c, 0⟩, ⟨0, 0, .w1c, 0⟩]⟩,
   ⟨"DC_PORT_CFG", 0x1A0100, 1, 0x0, 7, 4, [⟨7, 0, .rwl, 0x10⟩]⟩]

/-- The registers of EC_ error correction (spec chapter 12). -/
def regsEC : List RegRow :=
  [⟨"EC_SCRUB_CFG", 0x1B0004, 1, 0x0, 1, 0, [⟨31, 16, .rwl, 0xA⟩, ⟨15, 0, .rwl, 0xC⟩]⟩,
   ⟨"EC_SCRUB_PASS", 0x1B0008, 1, 0x0, 1, 0, [⟨31, 0, .ro, 0⟩]⟩,
   ⟨"EC_SCRUB_POS", 0x1B000C, 1, 0x0, 1, 0, [⟨15, 0, .ro, 0⟩]⟩,
   ⟨"EC_CORR", 0x1B0010, 1, 0x0, 4, 4, [⟨15, 0, .ro, 0⟩]⟩,
   ⟨"EC_SRAM_CORR", 0x1B0020, 1, 0x0, 1, 0, [⟨15, 0, .ro, 0⟩]⟩,
   ⟨"EC_CORR_SAT", 0x1B0024, 1, 0x0, 1, 0, [⟨4, 4, .w1c, 0⟩, ⟨3, 0, .w1c, 0⟩]⟩,
   ⟨"EC_UE", 0x1B0028, 1, 0x0, 1, 0, [⟨31, 0, .ro, 0⟩]⟩,
   ⟨"EC_SUSPECT_LOST", 0x1B002C, 1, 0x0, 1, 0, [⟨31, 0, .ro, 0⟩]⟩,
   ⟨"EC_UNHANDLED", 0x1B0030, 1, 0x0, 1, 0, [⟨31, 0, .ro, 0⟩]⟩,
   ⟨"EC_CNT_SAT", 0x1B0034, 1, 0x0, 1, 0, [⟨2, 2, .w1c, 0⟩, ⟨1, 1, .w1c, 0⟩, ⟨0, 0, .w1c, 0⟩]⟩,
   ⟨"EC_SUSPECT_SEL", 0x1B0040, 1, 0x0, 1, 0, [⟨5, 0, .rw, 0⟩]⟩,
   ⟨"EC_SUSPECT_A", 0x1B0044, 1, 0x0, 1, 0, [⟨31, 31, .ro, 0⟩, ⟨30, 30, .ro, 0⟩, ⟨29, 29, .ro, 0⟩, ⟨26, 24, .ro, 0⟩, ⟨23, 20, .ro, 0⟩, ⟨19, 12, .ro, 0⟩, ⟨11, 10, .ro, 0⟩, ⟨1, 0, .ro, 0⟩]⟩,
   ⟨"EC_SUSPECT_B", 0x1B0048, 1, 0x0, 1, 0, [⟨31, 0, .ro, 0⟩]⟩,
   ⟨"EC_REMAP", 0x1B0050, 1, 0x0, 4, 4, [⟨4, 0, .ro, 0⟩]⟩,
   ⟨"EC_WITHDRAWN", 0x1B0060, 1, 0x0, 1, 0, [⟨8, 0, .ro, 0⟩]⟩,
   ⟨"EC_REGION_SEL", 0x1B0064, 1, 0x0, 1, 0, [⟨7, 0, .rw, 0⟩]⟩,
   ⟨"EC_REGION_DATA", 0x1B0068, 1, 0x0, 1, 0, [⟨31, 31, .ro, 0⟩, ⟨30, 30, .ro, 0⟩, ⟨25, 24, .ro, 0⟩, ⟨13, 0, .ro, 0⟩]⟩,
   ⟨"EC_TEST_CTRL", 0x1B0100, 1, 0x0, 1, 0, [⟨31, 31, .ro, 0⟩, ⟨17, 16, .rw, 0⟩, ⟨11, 3, .rw, 0⟩, ⟨2, 0, .wo, 0⟩]⟩,
   ⟨"EC_TEST_DATA_LO", 0x1B0104, 1, 0x0, 1, 0, [⟨31, 0, .rw, 0⟩]⟩,
   ⟨"EC_TEST_DATA_HI", 0x1B0108, 1, 0x0, 1, 0, [⟨31, 0, .rw, 0⟩]⟩,
   ⟨"EC_TEST_CHECK", 0x1B010C, 1, 0x0, 1, 0, [⟨7, 0, .rw, 0⟩]⟩,
   ⟨"EC_TEST_RESULT", 0x1B0110, 1, 0x0, 1, 0, [⟨31, 30, .ro, 0⟩, ⟨15, 8, .ro, 0⟩, ⟨7, 0, .ro, 0xFF⟩]⟩]

/-- The registers of CX_ compressor (spec chapter 13). -/
def regsCX : List RegRow :=
  [⟨"CX_STATUS", 0x1C0000, 1, 0x0, 1, 0, [⟨31, 31, .ro, 0⟩, ⟨30, 30, .ro, 0⟩, ⟨29, 29, .ro, 0⟩, ⟨28, 28, .ro, 0⟩, ⟨8, 0, .ro, 0⟩]⟩,
   ⟨"CX_CFG", 0x1C0004, 1, 0x0, 1, 0, [⟨2, 0, .rwl, 4⟩]⟩,
   ⟨"CX_AUX", 0x1C0008, 1, 0x0, 1, 0, [⟨31, 31, .rw, 1⟩, ⟨30, 30, .rw, 1⟩, ⟨14, 8, .rwl, 0x64⟩, ⟨4, 4, .rwl, 1⟩, ⟨0, 0, .rwl, 1⟩]⟩,
   ⟨"CX_SEAL_SEQ", 0x1C000C, 1, 0x0, 1, 0, [⟨31, 0, .ro, 0⟩]⟩,
   ⟨"CX_RTD_SEQ", 0x1C0010, 1, 0x0, 1, 0, [⟨31, 0, .ro, 0⟩]⟩,
   ⟨"CX_SIDE_FILL", 0x1C0014, 1, 0x0, 1, 0, [⟨31, 16, .ro, 0⟩, ⟨15, 0, .ro, 0⟩]⟩,
   ⟨"CX_NOSHRINK", 0x1C0020, 1, 0x0, 1, 0, [⟨31, 0, .ro, 0⟩]⟩,
   ⟨"CX_DISCARDED", 0x1C0024, 1, 0x0, 1, 0, [⟨31, 0, .ro, 0⟩]⟩,
   ⟨"CX_SEAL_LOST", 0x1C0028, 1, 0x0, 1, 0, [⟨31, 0, .ro, 0⟩]⟩,
   ⟨"CX_SIDED", 0x1C002C, 1, 0x0, 1, 0, [⟨31, 0, .ro, 0⟩]⟩,
   ⟨"CX_CNT_SAT", 0x1C0030, 1, 0x0, 1, 0, [⟨3, 3, .w1c, 0⟩, ⟨2, 2, .w1c, 0⟩, ⟨1, 1, .w1c, 0⟩, ⟨0, 0, .w1c, 0⟩]⟩,
   ⟨"CX_SECT", 0x1C1000, 1, 0x0, 256, 4, [⟨30, 24, .rwl, 0x64⟩, ⟨14, 12, .rwl, 0⟩, ⟨11, 9, .rwl, 0⟩, ⟨8, 6, .rwl, 0⟩, ⟨5, 3, .rwl, 0⟩, ⟨2, 0, .rwl, 0⟩]⟩]

/-- The registers of CK_ check units (spec chapter 13). -/
def regsCK : List RegRow :=
  [⟨"CK_CTRL", 0x1D0000, 4, 0x100, 1, 0, [⟨31, 31, .w1s, 0⟩, ⟨30, 30, .ro, 0⟩, ⟨29, 29, .w1c, 0⟩, ⟨28, 26, .ro, 0⟩, ⟨1, 0, .rwl, 1⟩]⟩,
   ⟨"CK_FMT", 0x1D0004, 4, 0x100, 1, 0, [⟨9, 9, .rw, 1⟩, ⟨8, 8, .rw, 1⟩, ⟨6, 0, .rw, 0x20⟩]⟩,
   ⟨"CK_POLY_LO", 0x1D0008, 4, 0x100, 1, 0, [⟨31, 0, .rw, 0x1EDC6F41⟩]⟩,
   ⟨"CK_POLY_HI", 0x1D000C, 4, 0x100, 1, 0, [⟨31, 0, .rw, 0⟩]⟩,
   ⟨"CK_INIT_LO", 0x1D0010, 4, 0x100, 1, 0, [⟨31, 0, .rw, 0xFFFFFFFF⟩]⟩,
   ⟨"CK_INIT_HI", 0x1D0014, 4, 0x100, 1, 0, [⟨31, 0, .rw, 0⟩]⟩,
   ⟨"CK_XOR_LO", 0x1D0018, 4, 0x100, 1, 0, [⟨31, 0, .rw, 0xFFFFFFFF⟩]⟩,
   ⟨"CK_XOR_HI", 0x1D001C, 4, 0x100, 1, 0, [⟨31, 0, .rw, 0⟩]⟩,
   ⟨"CK_SRC", 0x1D0020, 4, 0x100, 1, 0, [⟨31, 30, .rw, 0⟩, ⟨7, 0, .rw, 0⟩]⟩,
   ⟨"CK_ADDR", 0x1D0024, 4, 0x100, 1, 0, [⟨31, 0, .rw, 0⟩]⟩,
   ⟨"CK_LEN", 0x1D0028, 4, 0x100, 1, 0, [⟨31, 0, .rw, 0⟩]⟩,
   ⟨"CK_RES_LO", 0x1D002C, 4, 0x100, 1, 0, [⟨31, 0, .ro, 0⟩]⟩,
   ⟨"CK_RES_HI", 0x1D0030, 4, 0x100, 1, 0, [⟨31, 0, .ro, 0⟩]⟩]

/-- The registers of HW_ host window (spec chapter 13). -/
def regsHW : List RegRow :=
  [⟨"HW_LINK", 0x1E0000, 1, 0x0, 1, 0, [⟨31, 31, .ro, 0⟩, ⟨19, 16, .ro, 0⟩, ⟨13, 8, .ro, 0⟩]⟩,
   ⟨"HW_RING_SIZE", 0x1E0004, 1, 0x0, 1, 0, [⟨16, 0, .rwl, 0x1000⟩]⟩,
   ⟨"HW_FRAME_SIZE", 0x1E0008, 1, 0x0, 1, 0, [⟨16, 0, .rwl, 0x100⟩]⟩,
   ⟨"HW_NB_SIZE", 0x1E000C, 1, 0x0, 1, 0, [⟨16, 0, .rwl, 0x1000⟩]⟩,
   ⟨"HW_RING_BASE", 0x1E0010, 1, 0x0, 1, 0, [⟨29, 0, .ro, 0⟩]⟩,
   ⟨"HW_NB_BASE", 0x1E0014, 1, 0x0, 1, 0, [⟨29, 0, .ro, 0⟩]⟩,
   ⟨"HW_SEAL_BASE", 0x1E0018, 1, 0x0, 1, 0, [⟨29, 0, .ro, 0⟩]⟩,
   ⟨"HW_FRAME_BASE", 0x1E001C, 1, 0x0, 1, 0, [⟨29, 0, .ro, 0⟩]⟩,
   ⟨"HW_SIDING_BASE", 0x1E0020, 1, 0x0, 4, 4, [⟨29, 0, .ro, 0⟩]⟩,
   ⟨"HW_AUX_BASE", 0x1E0030, 1, 0x0, 1, 0, [⟨29, 0, .ro, 0⟩]⟩,
   ⟨"HW_RING_NEXT", 0x1E0040, 1, 0x0, 1, 0, [⟨31, 16, .ro, 0⟩, ⟨15, 0, .ro, 0⟩]⟩,
   ⟨"HW_RING_POSTED", 0x1E0044, 1, 0x0, 1, 0, [⟨31, 0, .ro, 0⟩]⟩,
   ⟨"HW_NB_WR", 0x1E0050, 1, 0x0, 1, 0, [⟨31, 0, .ro, 0⟩]⟩,
   ⟨"HW_NB_RD", 0x1E0054, 1, 0x0, 1, 0, [⟨31, 0, .rw, 0⟩]⟩,
   ⟨"HW_NB_STAT", 0x1E0058, 1, 0x0, 1, 0, [⟨31, 31, .w1c, 0⟩, ⟨16, 0, .ro, 0⟩]⟩,
   ⟨"HW_IRQ_PEND", 0x1E0060, 1, 0x0, 1, 0, [⟨31, 0, .w1c, 0⟩]⟩,
   ⟨"HW_IRQ_CFG", 0x1E0064, 1, 0x0, 1, 0, [⟨31, 16, .rwl, 0⟩, ⟨7, 0, .rwl, 1⟩]⟩,
   ⟨"HW_VEC_MAP", 0x1E0070, 1, 0x0, 4, 4, [⟨7, 0, .rwl, 0⟩, ⟨15, 8, .rwl, 0⟩, ⟨23, 16, .rwl, 0⟩, ⟨31, 24, .rwl, 0⟩]⟩,
   ⟨"HW_BAD_WRITES", 0x1E0080, 1, 0x0, 1, 0, [⟨31, 0, .ro, 0⟩]⟩,
   ⟨"HW_SKIPPED", 0x1E0084, 1, 0x0, 1, 0, [⟨31, 0, .ro, 0⟩]⟩,
   ⟨"HW_NB_LOST", 0x1E0088, 1, 0x0, 1, 0, [⟨31, 0, .ro, 0⟩]⟩,
   ⟨"HW_CNT_SAT", 0x1E008C, 1, 0x0, 1, 0, [⟨2, 2, .w1c, 0⟩, ⟨1, 1, .w1c, 0⟩, ⟨0, 0, .w1c, 0⟩]⟩]

/-- The registers of TB_ time base (spec chapter 14). -/
def regsTB : List RegRow :=
  [⟨"TB_STATUS", 0x1F0000, 1, 0x0, 1, 0, [⟨31, 31, .ro, 0⟩, ⟨30, 30, .ro, 0⟩, ⟨29, 29, .ro, 0⟩, ⟨28, 28, .ro, 0⟩, ⟨27, 27, .ro, 0⟩, ⟨1, 0, .ro, 0⟩]⟩,
   ⟨"TB_NOW0", 0x1F0004, 1, 0x0, 1, 0, [⟨31, 0, .ro, 0⟩]⟩,
   ⟨"TB_NOW1", 0x1F0008, 1, 0x0, 1, 0, [⟨31, 0, .ro, 0⟩]⟩,
   ⟨"TB_NOW2", 0x1F000C, 1, 0x0, 1, 0, [⟨31, 0, .ro, 0⟩]⟩,
   ⟨"TB_EPOCH_LO", 0x1F0010, 1, 0x0, 1, 0, [⟨31, 0, .rw, 0⟩]⟩,
   ⟨"TB_EPOCH_HI", 0x1F0014, 1, 0x0, 1, 0, [⟨31, 31, .w1s, 0⟩, ⟨30, 30, .w1c, 0⟩, ⟨15, 0, .rw, 0⟩]⟩,
   ⟨"TB_PPS_CFG", 0x1F0018, 1, 0x0, 1, 0, [⟨31, 31, .rwl, 1⟩, ⟨24, 16, .rwl, 0x64⟩, ⟨15, 0, .rwl, 0⟩]⟩,
   ⟨"TB_PPS_ERR", 0x1F001C, 1, 0x0, 1, 0, [⟨31, 0, .ro, 0x80000000⟩]⟩,
   ⟨"TB_HOLD_S", 0x1F0020, 1, 0x0, 1, 0, [⟨31, 0, .ro, 0⟩]⟩,
   ⟨"TB_TRIG_CFG", 0x1F0030, 1, 0x0, 1, 0, [⟨31, 31, .rwl, 0⟩, ⟨19, 16, .rwl, 5⟩, ⟨15, 0, .rwl, 0xA⟩]⟩,
   ⟨"TB_TRIG_LAST0", 0x1F0034, 1, 0x0, 1, 0, [⟨31, 0, .ro, 0⟩]⟩,
   ⟨"TB_TRIG_LAST1", 0x1F0038, 1, 0x0, 1, 0, [⟨31, 0, .ro, 0⟩]⟩,
   ⟨"TB_TRIG_LAST2", 0x1F003C, 1, 0x0, 1, 0, [⟨31, 0, .ro, 0⟩]⟩,
   ⟨"TB_TL_LAST0", 0x1F0044, 1, 0x0, 1, 0, [⟨31, 0, .ro, 0⟩]⟩,
   ⟨"TB_TL_LAST1", 0x1F0048, 1, 0x0, 1, 0, [⟨31, 0, .ro, 0⟩]⟩,
   ⟨"TB_TL_LAST2", 0x1F004C, 1, 0x0, 1, 0, [⟨31, 0, .ro, 0⟩]⟩,
   ⟨"TB_LAUNCH_LAST0", 0x1F0060, 1, 0x0, 1, 0, [⟨31, 0, .ro, 0⟩]⟩,
   ⟨"TB_LAUNCH_LAST1", 0x1F0064, 1, 0x0, 1, 0, [⟨31, 0, .ro, 0⟩]⟩,
   ⟨"TB_LAUNCH_LAST2", 0x1F0068, 1, 0x0, 1, 0, [⟨31, 0, .ro, 0⟩]⟩,
   ⟨"TB_TL_CFG", 0x1F0040, 1, 0x0, 1, 0, [⟨31, 31, .rwl, 0⟩, ⟨28, 25, .rwl, 0⟩, ⟨24, 16, .rwl, 0⟩, ⟨10, 0, .rwl, 0x64⟩]⟩,
   ⟨"TB_TL_COUNT", 0x1F0050, 1, 0x0, 1, 0, [⟨31, 0, .ro, 0⟩]⟩,
   ⟨"TB_TL_REFUSED", 0x1F0054, 1, 0x0, 1, 0, [⟨31, 0, .ro, 0⟩]⟩,
   ⟨"TB_TRIG_COUNT", 0x1F0058, 1, 0x0, 1, 0, [⟨31, 0, .ro, 0⟩]⟩,
   ⟨"TB_CNT_SAT", 0x1F0070, 1, 0x0, 1, 0, [⟨2, 2, .w1c, 0⟩, ⟨1, 1, .w1c, 0⟩, ⟨0, 0, .w1c, 0⟩]⟩,
   ⟨"TB_EVT_CFG", 0x1F0100, 8, 0x80, 1, 0, [⟨31, 31, .rwl, 0⟩, ⟨30, 29, .rwl, 0⟩, ⟨15, 0, .rwl, 0⟩]⟩,
   ⟨"TB_EVT_STAT", 0x1F0104, 8, 0x80, 1, 0, [⟨31, 31, .w1c, 0⟩, ⟨30, 30, .w1c, 0⟩, ⟨26, 16, .ro, 0⟩, ⟨15, 0, .ro, 0⟩]⟩,
   ⟨"TB_EVT_Q0", 0x1F0108, 8, 0x80, 1, 0, [⟨31, 0, .ro, 0⟩]⟩,
   ⟨"TB_EVT_Q1", 0x1F010C, 8, 0x80, 1, 0, [⟨31, 0, .ro, 0⟩]⟩,
   ⟨"TB_EVT_Q2", 0x1F0110, 8, 0x80, 1, 0, [⟨31, 0, .ro, 0⟩]⟩,
   ⟨"TB_EVT_Q3", 0x1F0114, 8, 0x80, 1, 0, [⟨31, 0, .ro, 0⟩]⟩,
   ⟨"TB_STAT_CFG", 0x1F0118, 8, 0x80, 1, 0, [⟨31, 31, .w1s, 0⟩, ⟨30, 30, .rw, 0⟩, ⟨29, 29, .rw, 0⟩, ⟨28, 28, .rw, 0⟩, ⟨23, 0, .rw, 0x3E8⟩]⟩,
   ⟨"TB_STAT_STAT", 0x1F011C, 8, 0x80, 1, 0, [⟨31, 31, .ro, 0⟩, ⟨30, 30, .w1c, 0⟩, ⟨29, 29, .ro, 0⟩, ⟨28, 28, .ro, 0⟩, ⟨23, 0, .ro, 0⟩]⟩,
   ⟨"TB_STAT_A_LO", 0x1F0120, 8, 0x80, 1, 0, [⟨31, 0, .ro, 0⟩]⟩,
   ⟨"TB_STAT_A_HI", 0x1F0124, 8, 0x80, 1, 0, [⟨31, 0, .ro, 0⟩]⟩,
   ⟨"TB_STAT_B_LO", 0x1F0128, 8, 0x80, 1, 0, [⟨31, 0, .ro, 0⟩]⟩,
   ⟨"TB_STAT_B_HI", 0x1F012C, 8, 0x80, 1, 0, [⟨31, 0, .ro, 0⟩]⟩,
   ⟨"TB_STAT_C_LO", 0x1F0130, 8, 0x80, 1, 0, [⟨31, 0, .ro, 0⟩]⟩,
   ⟨"TB_STAT_C_HI", 0x1F0134, 8, 0x80, 1, 0, [⟨31, 0, .ro, 0⟩]⟩,
   ⟨"TB_STAT_D_LO", 0x1F0138, 8, 0x80, 1, 0, [⟨31, 0, .ro, 0⟩]⟩,
   ⟨"TB_STAT_D_HI", 0x1F013C, 8, 0x80, 1, 0, [⟨31, 0, .ro, 0⟩]⟩]

/-- The registers of FL_ Flotis (spec chapter 14). -/
def regsFL : List RegRow :=
  [⟨"FL_STATUS", 0x200000, 1, 0x0, 1, 0, [⟨31, 31, .ro, 0⟩, ⟨30, 30, .ro, 0⟩, ⟨29, 28, .ro, 0⟩, ⟨27, 27, .ro, 0⟩, ⟨26, 26, .ro, 0⟩, ⟨18, 16, .ro, 0⟩, ⟨2, 0, .ro, 0⟩]⟩,
   ⟨"FL_DELAY_UP", 0x200004, 1, 0x0, 1, 0, [⟨31, 31, .ro, 0⟩, ⟨30, 0, .ro, 0⟩]⟩,
   ⟨"FL_DELAY_DOWN", 0x200008, 1, 0x0, 1, 0, [⟨31, 31, .ro, 0⟩, ⟨30, 0, .ro, 0⟩]⟩,
   ⟨"FL_ASYM_UP", 0x20000C, 1, 0x0, 1, 0, [⟨15, 0, .rwl, 0⟩]⟩,
   ⟨"FL_ASYM_DOWN", 0x200010, 1, 0x0, 1, 0, [⟨15, 0, .rwl, 0⟩]⟩,
   ⟨"FL_OFFSET", 0x200014, 1, 0x0, 1, 0, [⟨31, 0, .ro, 0⟩]⟩,
   ⟨"FL_PATH", 0x200018, 1, 0x0, 1, 0, [⟨31, 0, .ro, 0⟩]⟩,
   ⟨"FL_XT_SENT", 0x200020, 1, 0x0, 1, 0, [⟨31, 0, .ro, 0⟩]⟩,
   ⟨"FL_XT_RECV", 0x200024, 1, 0x0, 1, 0, [⟨31, 0, .ro, 0⟩]⟩,
   ⟨"FL_ERR_UP", 0x200028, 1, 0x0, 1, 0, [⟨31, 0, .ro, 0⟩]⟩,
   ⟨"FL_ERR_DOWN", 0x20002C, 1, 0x0, 1, 0, [⟨31, 0, .ro, 0⟩]⟩,
   ⟨"FL_CNT_SAT", 0x200030, 1, 0x0, 1, 0, [⟨3, 3, .w1c, 0⟩, ⟨2, 2, .w1c, 0⟩, ⟨1, 1, .w1c, 0⟩, ⟨0, 0, .w1c, 0⟩]⟩]

/-- The registers of BT_ self-test (spec chapter 16). -/
def regsBT : List RegRow :=
  [⟨"BT_STATUS", 0x210000, 1, 0x0, 1, 0, [⟨31, 31, .ro, 0⟩, ⟨30, 30, .ro, 0⟩, ⟨29, 29, .ro, 0⟩, ⟨28, 27, .ro, 0⟩]⟩,
   ⟨"BT_SUMMARY0", 0x210004, 1, 0x0, 1, 0, [⟨25, 16, .ro, 0⟩, ⟨9, 0, .ro, 0⟩]⟩,
   ⟨"BT_SUMMARY1", 0x210008, 1, 0x0, 1, 0, [⟨25, 16, .ro, 0⟩, ⟨9, 0, .ro, 0⟩]⟩,
   ⟨"BT_LAST_TEST", 0x21000C, 1, 0x0, 1, 0, [⟨31, 0, .ro, 0⟩]⟩,
   ⟨"BT_ROTATION", 0x210010, 1, 0x0, 1, 0, [⟨31, 0, .ro, 0⟩]⟩,
   ⟨"BT_UNIT_SEL", 0x210020, 1, 0x0, 1, 0, [⟨31, 0, .rw, 0⟩]⟩,
   ⟨"BT_UNIT_DATA", 0x210024, 1, 0x0, 1, 0, [⟨31, 0, .ro, 0⟩]⟩,
   ⟨"BT_FAIL_SEL", 0x210028, 1, 0x0, 1, 0, [⟨31, 0, .rw, 0⟩]⟩,
   ⟨"BT_FAIL_DATA0", 0x21002C, 1, 0x0, 1, 0, [⟨31, 0, .ro, 0⟩]⟩,
   ⟨"BT_FAIL_DATA1", 0x210030, 1, 0x0, 1, 0, [⟨31, 0, .ro, 0⟩]⟩,
   ⟨"BT_FAIL_DATA2", 0x210034, 1, 0x0, 1, 0, [⟨31, 0, .ro, 0⟩]⟩,
   ⟨"BT_FAIL_DATA3", 0x210038, 1, 0x0, 1, 0, [⟨31, 0, .ro, 0⟩]⟩,
   ⟨"BT_RUN", 0x210100, 1, 0x0, 1, 0, [⟨31, 31, .w1s, 0⟩, ⟨17, 16, .rw, 0⟩, ⟨15, 0, .rw, 0⟩]⟩,
   ⟨"BT_RUN_STATUS", 0x210104, 1, 0x0, 1, 0, [⟨31, 31, .ro, 0⟩, ⟨30, 30, .w1c, 0⟩, ⟨29, 29, .w1c, 0⟩, ⟨28, 26, .ro, 0⟩, ⟨25, 0, .ro, 0⟩]⟩,
   ⟨"BT_SEED", 0x210108, 1, 0x0, 1, 0, [⟨31, 0, .rw, 1⟩]⟩,
   ⟨"BT_ACC_ADDR", 0x210110, 1, 0x0, 1, 0, [⟨31, 0, .rw, 0⟩]⟩,
   ⟨"BT_ACC_DATA_LO", 0x210114, 1, 0x0, 1, 0, [⟨31, 0, .rw, 0⟩]⟩,
   ⟨"BT_ACC_DATA_HI", 0x210118, 1, 0x0, 1, 0, [⟨31, 0, .rw, 0⟩]⟩,
   ⟨"BT_ACC_CHECK", 0x21011C, 1, 0x0, 1, 0, [⟨31, 0, .rw, 0⟩]⟩,
   ⟨"BT_ACC_CMD", 0x210120, 1, 0x0, 1, 0, [⟨2, 0, .wo, 0⟩]⟩]

/-- The registers of NV_ NVM and image (spec chapter 15). -/
def regsNV : List RegRow :=
  [⟨"NV_STATUS", 0x220000, 1, 0x0, 1, 0, [⟨31, 31, .ro, 0⟩, ⟨30, 30, .ro, 0⟩, ⟨29, 29, .w1c, 0⟩, ⟨28, 28, .ro, 0⟩, ⟨27, 24, .ro, 0⟩, ⟨23, 16, .ro, 0⟩, ⟨1, 0, .ro, 0⟩]⟩,
   ⟨"NV_SLOTA", 0x220004, 1, 0x0, 1, 0, [⟨31, 31, .ro, 0⟩, ⟨30, 28, .ro, 0⟩, ⟨22, 16, .ro, 0⟩, ⟨15, 0, .ro, 0⟩]⟩,
   ⟨"NV_SLOTB", 0x220008, 1, 0x0, 1, 0, [⟨31, 31, .ro, 0⟩, ⟨30, 28, .ro, 0⟩, ⟨22, 16, .ro, 0⟩, ⟨15, 0, .ro, 0⟩]⟩,
   ⟨"NV_ROLLBACK", 0x22000C, 1, 0x0, 1, 0, [⟨7, 7, .ro, 0⟩, ⟨6, 0, .ro, 0⟩]⟩,
   ⟨"NV_WRITES", 0x220010, 1, 0x0, 1, 0, [⟨31, 0, .ro, 0⟩]⟩,
   ⟨"NV_CMD", 0x220014, 1, 0x0, 1, 0, [⟨31, 31, .w1s, 0⟩, ⟨2, 0, .rw, 0⟩]⟩,
   ⟨"NV_ADDR", 0x220018, 1, 0x0, 1, 0, [⟨31, 0, .rw, 0⟩]⟩,
   ⟨"NV_LEN", 0x22001C, 1, 0x0, 1, 0, [⟨31, 0, .rw, 0⟩]⟩,
   ⟨"NV_BUF", 0x228000, 1, 0x0, 8192, 4, [⟨31, 0, .rw, 0⟩]⟩]

/-- The registers of SE_ security engine (spec chapter 16). -/
def regsSE : List RegRow :=
  [⟨"SE_STATUS", 0x230000, 1, 0x0, 1, 0, [⟨31, 31, .ro, 0⟩, ⟨30, 28, .ro, 0⟩, ⟨27, 27, .w1c, 0⟩, ⟨5, 5, .ro, 0⟩, ⟨4, 4, .ro, 0⟩, ⟨3, 3, .ro, 0⟩, ⟨2, 2, .ro, 0⟩, ⟨1, 1, .ro, 0⟩, ⟨0, 0, .ro, 0⟩]⟩,
   ⟨"SE_CMD", 0x230004, 1, 0x0, 1, 0, [⟨31, 31, .w1s, 0⟩, ⟨2, 0, .rw, 0⟩]⟩,
   ⟨"SE_KEY_DATA", 0x230010, 1, 0x0, 8, 4, [⟨31, 0, .wo, 0⟩]⟩,
   ⟨"SE_VK_HASH", 0x230040, 1, 0x0, 8, 4, [⟨31, 0, .ro, 0⟩]⟩,
   ⟨"SE_SEAL_PUB", 0x230080, 1, 0x0, 16, 4, [⟨31, 0, .ro, 0⟩]⟩,
   ⟨"SE_KCV", 0x230060, 1, 0x0, 1, 0, [⟨31, 0, .ro, 0⟩]⟩,
   ⟨"SE_TAMPER_CFG", 0x2300C0, 1, 0x0, 1, 0, [⟨31, 31, .rw, 0⟩, ⟨15, 15, .rw, 0⟩, ⟨13, 12, .rw, 0⟩, ⟨7, 7, .rw, 0⟩, ⟨5, 4, .rw, 0⟩]⟩]

namespace F

abbrev LC_PART_STEP_LETTER : Fld := ⟨12, 4, 0⟩
abbrev LC_PART_STEP_DIGIT : Fld := ⟨8, 4, 0⟩
abbrev LC_PART_PART : Fld := ⟨0, 8, 0⟩
abbrev LC_SERIAL_LO_SERIAL : Fld := ⟨128, 32, 0⟩
abbrev LC_SERIAL_HI_SERIAL : Fld := ⟨256, 32, 0⟩
abbrev LC_STATE_ZEROISED : Fld := ⟨415, 1, 0⟩
abbrev LC_STATE_DEBUG_OPEN : Fld := ⟨414, 1, 0⟩
abbrev LC_STATE_BSCAN : Fld := ⟨413, 1, 0⟩
abbrev LC_STATE_STATE : Fld := ⟨384, 3, 0⟩
abbrev LC_TRANSITION_VALUE : Fld := ⟨512, 32, 0⟩
abbrev LC_TRANS_STATUS_RESULT : Fld := ⟨640, 3, 0⟩
abbrev LC_RTC_SECONDS : Fld := ⟨768, 32, 0⟩
abbrev LC_TAMPER_PENDING : Fld := ⟨927, 1, 0⟩
abbrev LC_TAMPER_LEVEL : Fld := ⟨904, 2, 0⟩
abbrev LC_TAMPER_VBAT_LOST : Fld := ⟨898, 1, 0⟩
abbrev LC_TAMPER_TAMP1 : Fld := ⟨897, 1, 0⟩
abbrev LC_TAMPER_TAMP0 : Fld := ⟨896, 1, 0⟩
abbrev PM_STATE_THERM_WAIT : Fld := ⟨2097165, 1, 0⟩
abbrev PM_STATE_SHUTTING : Fld := ⟨2097164, 1, 0⟩
abbrev PM_STATE_LAST_RESET : Fld := ⟨2097160, 4, 0⟩
abbrev PM_STATE_KIND : Fld := ⟨2097156, 1, 0⟩
abbrev PM_STATE_STATE : Fld := ⟨2097152, 2, 0⟩
abbrev PM_DOMAINS_RETAINED : Fld := ⟨2097296, 16, 0⟩
abbrev PM_DOMAINS_ON : Fld := ⟨2097280, 16, 1⟩
abbrev PM_START_ATTEMPTS : Fld := ⟨2097424, 16, 0⟩
abbrev PM_START_HOLD : Fld := ⟨2097415, 1, 0⟩
abbrev PM_START_FAILS : Fld := ⟨2097408, 2, 0⟩
abbrev PM_RESET_KEY : Fld := ⟨2097544, 24, 0⟩
abbrev PM_RESET_KIND : Fld := ⟨2097536, 2, 0⟩
abbrev PM_OFFACC_LO_BLOCK : Fld := ⟨2097664, 32, 0⟩
abbrev PM_OFFACC_HI_BLOCK : Fld := ⟨2097792, 32, 0⟩
abbrev PM_RET_SCRATCH_VALUE (i : Nat) : Fld := ⟨32 * (0x10400 + 4 * i) + 0, 32, 0⟩
abbrev PM_FAULT_ACTIVE : Fld := ⟨2098193, 15, 0⟩
abbrev PM_FAULT_LATCH : Fld := ⟨2098177, 15, 0⟩
abbrev PM_FAULT_CODE_FIRST : Fld := ⟨2098320, 16, 0⟩
abbrev PM_FAULT_CODE_LAST : Fld := ⟨2098304, 16, 0⟩
abbrev SB_TT_REQUEST_GO : Fld := ⟨4202527, 1, 0⟩
abbrev SB_TT_REQUEST_MODE : Fld := ⟨4202504, 2, 0⟩
abbrev SB_TT_REQUEST_INDEX : Fld := ⟨4202496, 2, 0⟩
abbrev SB_TT_STATUS_REPLACED : Fld := ⟨4202648, 8, 0⟩
abbrev SB_TT_STATUS_RSAT : Fld := ⟨4202647, 1, 0⟩
abbrev SB_TT_STATUS_REJ_MODULE : Fld := ⟨4202644, 3, 0⟩
abbrev SB_TT_STATUS_REJ_CAUSE : Fld := ⟨4202640, 4, 0⟩
abbrev SB_TT_STATUS_LATE : Fld := ⟨4202636, 1, 0⟩
abbrev SB_TT_STATUS_STATE : Fld := ⟨4202632, 3, 0⟩
abbrev SB_TT_STATUS_QUEUED : Fld := ⟨4202631, 1, 0⟩
abbrev SB_TT_STATUS_PENDING_INDEX : Fld := ⟨4202628, 2, 0⟩
abbrev SB_TT_STATUS_QUEUED_INDEX : Fld := ⟨4202626, 2, 0⟩
abbrev SB_TT_STATUS_ACTIVE : Fld := ⟨4202624, 2, 0⟩
abbrev SB_TT_AT_LO_SEC_LO : Fld := ⟨4202752, 32, 0⟩
abbrev SB_TT_AT_HI_SEC_HI : Fld := ⟨4202880, 16, 0⟩
abbrev SB_STATUS_COMMITTED : Fld := ⟨4194335, 1, 0⟩
abbrev SB_STATUS_STEPS : Fld := ⟨4194320, 7, 0⟩
abbrev SB_STATUS_PHASE : Fld := ⟨4194304, 4, 0⟩
abbrev SB_START_INFO_MS : Fld := ⟨4194448, 16, 0⟩
abbrev SB_START_INFO_CAUSE : Fld := ⟨4194432, 8, 0⟩
abbrev SB_CMD_KEY : Fld := ⟨4194576, 16, 0⟩
abbrev SB_CMD_CMD : Fld := ⟨4194560, 3, 0⟩
abbrev SB_SHUTDOWN_BUDGET : Fld := ⟨4194712, 8, 0xA⟩
abbrev SB_SHUTDOWN_STEP : Fld := ⟨4194704, 3, 0⟩
abbrev SB_SHUTDOWN_ABANDONED : Fld := ⟨4194688, 16, 0⟩
abbrev TT_ID_COUNT : Fld := ⟨6291460, 3, 0⟩
abbrev TT_ID_ACTIVE : Fld := ⟨6291456, 2, 0⟩
abbrev TT_SCHED_PROBE_GROUP : Fld := ⟨6291592, 4, 0⟩
abbrev TT_SCHED_G : Fld := ⟨6291584, 5, 0⟩
abbrev TT_LAUNCH_INTERVAL_T_L : Fld := ⟨6291712, 20, 0⟩
abbrev TT_SWEEP_PERIOD_T : Fld := ⟨6291840, 24, 0⟩
abbrev TT_FIBRE_END_L_F : Fld := ⟨6291968, 28, 0⟩
abbrev TT_GATE_LAG : Fld := ⟨6292104, 8, 0x1A⟩
abbrev TT_GATE_LEAD : Fld := ⟨6292096, 8, 0x1A⟩
abbrev TT_BRIL_PEAK : Fld := ⟨6292240, 9, 0⟩
abbrev TT_BRIL_WRANK : Fld := ⟨6292232, 4, 0⟩
abbrev TT_BRIL_EVERY : Fld := ⟨6292224, 5, 1⟩
abbrev TT_PROBE_RESTORE_SWEEPS : Fld := ⟨6292368, 16, 0⟩
abbrev TT_PROBE_PROBE_PEAK : Fld := ⟨6292352, 9, 0⟩
abbrev TT_STATUS_WSAT : Fld := ⟨6292484, 1, 0⟩
abbrev TT_STATUS_TAIL_LIGHT : Fld := ⟨6292483, 1, 0⟩
abbrev TT_STATUS_PROBE : Fld := ⟨6292482, 1, 0⟩
abbrev TT_STATUS_WITHHOLDING : Fld := ⟨6292481, 1, 0⟩
abbrev TT_STATUS_CLIP : Fld := ⟨6292480, 1, 0⟩
abbrev TT_WITHHELD_COUNT : Fld := ⟨6292608, 32, 0⟩
abbrev TT_SWEEP_COUNT_COUNT : Fld := ⟨6292736, 32, 0⟩
abbrev TT_WAVE_SEL_SLOT : Fld := ⟨6293008, 4, 0⟩
abbrev TT_WAVE_SEL_ADDR : Fld := ⟨6292992, 16, 0⟩
abbrev TT_WAVE_DATA_WORD : Fld := ⟨6293120, 32, 0⟩
abbrev TT_SLOT_CFG_EN (i : Nat) : Fld := ⟨32 * (0x30100 + 4 * i) + 31, 1, 0⟩
abbrev TT_SLOT_CFG_BRIL (i : Nat) : Fld := ⟨32 * (0x30100 + 4 * i) + 30, 1, 0⟩
abbrev TT_SLOT_CFG_GROUP (i : Nat) : Fld := ⟨32 * (0x30100 + 4 * i) + 24, 4, 0⟩
abbrev TT_SLOT_CFG_WLEN (i : Nat) : Fld := ⟨32 * (0x30100 + 4 * i) + 0, 16, 0⟩
abbrev TT_SLOT_GAIN_GAIN (i : Nat) : Fld := ⟨32 * (0x30140 + 4 * i) + 0, 12, 0x800⟩
abbrev TT_GROUP_CFG_WRANK (i : Nat) : Fld := ⟨32 * (0x30200 + 4 * i) + 16, 4, 0⟩
abbrev TT_GROUP_CFG_PEAK (i : Nat) : Fld := ⟨32 * (0x30200 + 4 * i) + 0, 9, 0⟩
abbrev TT_PULSE_SEQ_SEQ (i : Nat) : Fld := ⟨32 * (0x30300 + 4 * i) + 0, 32, 0⟩
abbrev OP_STATE_HOST_PROBE : Fld := ⟨8388627, 1, 0⟩
abbrev OP_STATE_BREAK : Fld := ⟨8388626, 1, 0⟩
abbrev OP_STATE_DEADMAN : Fld := ⟨8388625, 1, 0⟩
abbrev OP_STATE_HOST_DARK : Fld := ⟨8388623, 1, 0⟩
abbrev OP_STATE_LASER : Fld := ⟨8388622, 1, 0⟩
abbrev OP_STATE_AMP_FAULT : Fld := ⟨8388621, 1, 0⟩
abbrev OP_STATE_LAUNCH_OPEN : Fld := ⟨8388620, 1, 0⟩
abbrev OP_STATE_LOOP_FAULT : Fld := ⟨8388619, 1, 0⟩
abbrev OP_STATE_OVERPOWER : Fld := ⟨8388618, 1, 0⟩
abbrev OP_STATE_INTERLOCK : Fld := ⟨8388617, 1, 0⟩
abbrev OP_STATE_STATE : Fld := ⟨8388608, 2, 0⟩
abbrev OP_CTRL_REBASE : Fld := ⟨8388740, 1, 0⟩
abbrev OP_CTRL_DARK : Fld := ⟨8388739, 1, 0⟩
abbrev OP_CTRL_PROBE : Fld := ⟨8388738, 1, 0⟩
abbrev OP_CTRL_RESTORE : Fld := ⟨8388737, 1, 0⟩
abbrev OP_CTRL_RESUME : Fld := ⟨8388736, 1, 0⟩
abbrev OP_CEIL_AVG_EFFECTIVE : Fld := ⟨8389136, 16, 0x96⟩
abbrev OP_CEIL_AVG_AVG : Fld := ⟨8389120, 16, 0x96⟩
abbrev OP_CEIL_PULSE_EFFECTIVE : Fld := ⟨8389264, 16, 0x1388⟩
abbrev OP_CEIL_PULSE_PULSE : Fld := ⟨8389248, 16, 0x1388⟩
abbrev OP_AVG_WIN_SWEEPS : Fld := ⟨8389388, 20, 0⟩
abbrev OP_AVG_WIN_WIN : Fld := ⟨8389376, 10, 0xA⟩
abbrev OP_MON_AVG_SENSE_AVG : Fld := ⟨8389648, 16, 0⟩
abbrev OP_MON_AVG_TX_AVG : Fld := ⟨8389632, 16, 0⟩
abbrev OP_MON_LAST_TX_ENERGY : Fld := ⟨8389760, 32, 0⟩
abbrev OP_MON_LAST_SENSE_ENERGY : Fld := ⟨8389888, 32, 0⟩
abbrev OP_LOOP_GAIN : Fld := ⟨8390160, 16, 0⟩
abbrev OP_LOOP_MAX : Fld := ⟨8390152, 8, 0xA⟩
abbrev OP_LOOP_MIN : Fld := ⟨8390144, 8, 0xE2⟩
abbrev OP_DIAG_PERIOD : Fld := ⟨8390288, 12, 0x40⟩
abbrev OP_DIAG_MISS_SENSE : Fld := ⟨8390277, 1, 0⟩
abbrev OP_DIAG_MISS_TX : Fld := ⟨8390276, 1, 0⟩
abbrev OP_DIAG_MISSED : Fld := ⟨8390274, 2, 0⟩
abbrev OP_DIAG_ACTIVE : Fld := ⟨8390273, 1, 0⟩
abbrev OP_DIAG_SEEN : Fld := ⟨8390272, 1, 0⟩
abbrev OP_DM_CFG_EN : Fld := ⟨8390687, 1, 1⟩
abbrev OP_DM_CFG_LOCKED : Fld := ⟨8390686, 1, 0⟩
abbrev OP_DM_CFG_TIMEOUT : Fld := ⟨8390656, 20, 0x3E8⟩
abbrev OP_DM_KICK_VALUE : Fld := ⟨8390784, 32, 0⟩
abbrev OP_DM_STATUS_BADKICK : Fld := ⟨8390943, 1, 0⟩
abbrev OP_DM_STATUS_EXPIRED : Fld := ⟨8390942, 1, 0⟩
abbrev OP_DM_STATUS_REMAIN : Fld := ⟨8390912, 20, 0⟩
abbrev OP_IL_PIN : Fld := ⟨8391199, 1, 0⟩
abbrev OP_IL_LOOP_OK : Fld := ⟨8391198, 1, 0⟩
abbrev OP_IL_AUTO : Fld := ⟨8391168, 1, 0⟩
abbrev OP_APR_EN : Fld := ⟨8391455, 1, 1⟩
abbrev OP_APR_MARGIN : Fld := ⟨8391424, 16, 0xC8⟩
abbrev OP_REF_END_POS : Fld := ⟨8391552, 28, 0⟩
abbrev OP_BREAK_POS_VALID : Fld := ⟨8391711, 1, 0⟩
abbrev OP_BREAK_POS_FRESNEL : Fld := ⟨8391710, 1, 0⟩
abbrev OP_BREAK_POS_POS : Fld := ⟨8391680, 28, 0⟩
abbrev OP_AMP_USE : Fld := ⟨8392223, 1, 0⟩
abbrev OP_AMP_EN_OUT : Fld := ⟨8392222, 1, 0⟩
abbrev OP_AMP_MON : Fld := ⟨8392221, 1, 0⟩
abbrev OP_AMP_READY_TMO : Fld := ⟨8392192, 16, 0x1F4⟩
abbrev OP_LASER_LOCKED : Fld := ⟨8392735, 1, 0⟩
abbrev OP_LASER_WARM : Fld := ⟨8392734, 1, 0⟩
abbrev OP_LASER_CH : Fld := ⟨8392704, 8, 6⟩
abbrev OP_CUTS_COUNT : Fld := ⟨8393216, 32, 0⟩
abbrev OP_BREAKS_COUNT : Fld := ⟨8393344, 32, 0⟩
abbrev OP_BADKICKS_COUNT : Fld := ⟨8393472, 32, 0⟩
abbrev OP_CNT_SAT_KICK_SAT : Fld := ⟨8393602, 1, 0⟩
abbrev OP_CNT_SAT_BREAK_SAT : Fld := ⟨8393601, 1, 0⟩
abbrev OP_CNT_SAT_CUT_SAT : Fld := ⟨8393600, 1, 0⟩
abbrev OP_FUSE_VALUE : Fld := ⟨8393728, 32, 0⟩
abbrev OP_FUSE_STATUS_FUSED : Fld := ⟨8393887, 1, 0⟩
abbrev OP_FUSE_STATUS_RESULT : Fld := ⟨8393856, 3, 0⟩
abbrev SL_CTRL_BG_FREEZE : Fld := ⟨10485769, 1, 0⟩
abbrev SL_CTRL_BG_EN : Fld := ⟨10485768, 1, 1⟩
abbrev SL_CTRL_LANE_EN : Fld := ⟨10485760, 6, 0x3F⟩
abbrev SL_STATUS_CLK_FAIL : Fld := ⟨10485912, 1, 0⟩
abbrev SL_STATUS_UNLOCK_SEEN : Fld := ⟨10485911, 1, 0⟩
abbrev SL_STATUS_REF_SRC : Fld := ⟨10485906, 2, 0⟩
abbrev SL_STATUS_CLK_STATE : Fld := ⟨10485904, 2, 0⟩
abbrev SL_STATUS_SKEW_VALID : Fld := ⟨10485903, 1, 0⟩
abbrev SL_STATUS_LANE_OK : Fld := ⟨10485888, 6, 0⟩
abbrev SL_CLK_FERR_FERR : Fld := ⟨10486016, 32, 0x80000000⟩
abbrev SL_CLIP_CFG_LIMIT : Fld := ⟨10486144, 16, 0x10⟩
abbrev SL_SKEW_STATUS_RESIDUAL : Fld := ⟨10486272, 16, 0⟩
abbrev SL_SKEW_SKEW (i : Nat) : Fld := ⟨32 * (0x50020 + 4 * i) + 0, 16, 0⟩
abbrev SL_LANE_STATUS_CLIP (i : Nat) : Fld := ⟨32 * (0x50100 + 32 * i) + 31, 1, 0⟩
abbrev SL_LANE_STATUS_CLIP_SAT (i : Nat) : Fld := ⟨32 * (0x50100 + 32 * i) + 30, 1, 0⟩
abbrev SL_LANE_STATUS_LIM_SAT (i : Nat) : Fld := ⟨32 * (0x50100 + 32 * i) + 29, 1, 0⟩
abbrev SL_LANE_STATUS_RETIRED (i : Nat) : Fld := ⟨32 * (0x50100 + 32 * i) + 16, 7, 0x7F⟩
abbrev SL_LANE_STATUS_SPUR (i : Nat) : Fld := ⟨32 * (0x50100 + 32 * i) + 8, 8, 0⟩
abbrev SL_LANE_STATUS_STATE (i : Nat) : Fld := ⟨32 * (0x50100 + 32 * i) + 0, 3, 0⟩
abbrev SL_LANE_CLIPS_COUNT (i : Nat) : Fld := ⟨32 * (0x50104 + 32 * i) + 0, 32, 0⟩
abbrev SL_LANE_LIMITS_HITS (i : Nat) : Fld := ⟨32 * (0x50108 + 32 * i) + 0, 16, 0⟩
abbrev SL_LANE_LEVEL_PEAK (i : Nat) : Fld := ⟨32 * (0x5010C + 32 * i) + 16, 12, 0⟩
abbrev SL_LANE_LEVEL_RMS (i : Nat) : Fld := ⟨32 * (0x5010C + 32 * i) + 0, 16, 0⟩
abbrev SL_SLICE_SEL_LANE : Fld := ⟨10510352, 3, 0⟩
abbrev SL_SLICE_SEL_SLICE : Fld := ⟨10510336, 7, 0⟩
abbrev SL_SLICE_OFS_RETIRED : Fld := ⟨10510495, 1, 0⟩
abbrev SL_SLICE_OFS_OFFLINE : Fld := ⟨10510494, 1, 0⟩
abbrev SL_SLICE_OFS_OFS : Fld := ⟨10510464, 16, 0⟩
abbrev SL_SLICE_GAIN_GAIN : Fld := ⟨10510592, 16, 0⟩
abbrev SL_SLICE_TIME_TIME : Fld := ⟨10510720, 16, 0⟩
abbrev FP_CTRL_MF_WIN : Fld := ⟨12582912, 2, 1⟩
abbrev FP_STATUS_POL_X : Fld := ⟨12583044, 1, 0⟩
abbrev FP_STATUS_POL_Y : Fld := ⟨12583043, 1, 0⟩
abbrev FP_STATUS_RI_OK : Fld := ⟨12583042, 1, 0⟩
abbrev FP_STATUS_SETTLING : Fld := ⟨12583041, 1, 0⟩
abbrev FP_STATUS_SAT : Fld := ⟨12583040, 1, 0⟩
abbrev FP_ALIGN_SETTLE : Fld := ⟨12583184, 16, 0x40⟩
abbrev FP_ALIGN_GRP_K : Fld := ⟨12583176, 4, 4⟩
abbrev FP_ALIGN_POL_K : Fld := ⟨12583168, 4, 4⟩
abbrev FP_FADE_FLOOR : Fld := ⟨12583296, 16, 0x64⟩
abbrev FP_STRAIN_N_PHI : Fld := ⟨12583440, 16, 0x3868⟩
abbrev FP_STRAIN_XI : Fld := ⟨12583424, 16, 0xC7AE⟩
abbrev FP_RANGE_OFS_D_RX : Fld := ⟨12583552, 32, 0⟩
abbrev FP_RI_DELAY_TAU : Fld := ⟨12583680, 20, 0x186A0⟩
abbrev FP_LOAD_BINS_RATE : Fld := ⟨12583936, 32, 0⟩
abbrev FP_LOAD_CHAN_RATE : Fld := ⟨12584064, 32, 0⟩
abbrev FP_LOAD_SEG_RATE : Fld := ⟨12584192, 32, 0⟩
abbrev FP_SAT_COUNT_COUNT : Fld := ⟨12584448, 32, 0⟩
abbrev FP_FADE_COUNT_COUNT : Fld := ⟨12584576, 32, 0⟩
abbrev FP_CNT_SAT_FADE_SAT : Fld := ⟨12584705, 1, 0⟩
abbrev FP_CNT_SAT_SAT_SAT : Fld := ⟨12584704, 1, 0⟩
abbrev FP_SLOT_CFG_SHIFT (i : Nat) : Fld := ⟨32 * (0x60100 + 4 * i) + 24, 5, 0⟩
abbrev FP_SLOT_CFG_NR (i : Nat) : Fld := ⟨32 * (0x60100 + 4 * i) + 0, 11, 0⟩
abbrev FP_SLOT_NOISE_NOISE (i : Nat) : Fld := ⟨32 * (0x60140 + 4 * i) + 0, 16, 0⟩
abbrev FP_GROUP_STAT_ACTIVE (i : Nat) : Fld := ⟨32 * (0x60200 + 4 * i) + 31, 1, 0⟩
abbrev FP_GROUP_STAT_SETTLE (i : Nat) : Fld := ⟨32 * (0x60200 + 4 * i) + 30, 1, 0⟩
abbrev FP_GROUP_STAT_FADED (i : Nat) : Fld := ⟨32 * (0x60200 + 4 * i) + 0, 16, 0⟩
abbrev FP_PROF_SEL_GROUP : Fld := ⟨12607516, 4, 0⟩
abbrev FP_PROF_SEL_FREEZE : Fld := ⟨12607515, 1, 0⟩
abbrev FP_PROF_SEL_FROZEN : Fld := ⟨12607514, 1, 0⟩
abbrev FP_PROF_SEL_BIN : Fld := ⟨12607488, 18, 0⟩
abbrev FP_PROF_DATA_VALID : Fld := ⟨12607647, 1, 0⟩
abbrev FP_PROF_DATA_FADED : Fld := ⟨12607646, 1, 0⟩
abbrev FP_PROF_DATA_AMP : Fld := ⟨12607616, 16, 0⟩
abbrev FP_PROF_TAG_SEQ : Fld := ⟨12607744, 32, 0⟩
abbrev FP_PROF_SWEEP_COUNT : Fld := ⟨12607872, 32, 0⟩
abbrev BS_COUNT_SECTIONS : Fld := ⟨14680064, 9, 0⟩
abbrev BS_TOTAL_CHANNELS : Fld := ⟨14680192, 18, 0⟩
abbrev BS_DFIFO_BASE_OFFSET : Fld := ⟨14680576, 30, 0⟩
abbrev BS_DFIFO_WR_COUNT : Fld := ⟨14680704, 32, 0⟩
abbrev BS_DFIFO_RD_COUNT : Fld := ⟨14680832, 32, 0⟩
abbrev BS_DFIFO_STAT_STORM : Fld := ⟨14680991, 1, 0⟩
abbrev BS_DFIFO_STAT_RD_ERR : Fld := ⟨14680990, 1, 0⟩
abbrev BS_DFIFO_STAT_OCCUPANCY : Fld := ⟨14680960, 13, 0⟩
abbrev BS_CHAIN_SEL_SECTION : Fld := ⟨14681104, 8, 0⟩
abbrev BS_CHAIN_SEL_ITEM : Fld := ⟨14681088, 8, 0⟩
abbrev BS_CHAIN_DATA_D : Fld := ⟨14681244, 4, 0⟩
abbrev BS_CHAIN_DATA_L_HI : Fld := ⟨14681232, 12, 0⟩
abbrev BS_CHAIN_DATA_SH_LO : Fld := ⟨14681216, 12, 0⟩
abbrev BS_ALARM_SEL_SECTION : Fld := ⟨14681368, 8, 0⟩
abbrev BS_ALARM_SEL_DET : Fld := ⟨14681360, 2, 0⟩
abbrev BS_ALARM_SEL_WORD : Fld := ⟨14681344, 12, 0⟩
abbrev BS_ALARM_DATA_ALARM : Fld := ⟨14681472, 32, 0⟩
abbrev BS_CFG_EN (i : Nat) : Fld := ⟨32 * (0x78000 + 128 * i) + 31, 1, 0⟩
abbrev BS_CFG_PRIO (i : Nat) : Fld := ⟨32 * (0x78000 + 128 * i) + 28, 3, 0⟩
abbrev BS_CFG_STAGES (i : Nat) : Fld := ⟨32 * (0x78000 + 128 * i) + 24, 3, 1⟩
abbrev BS_CFG_OFS_K (i : Nat) : Fld := ⟨32 * (0x78000 + 128 * i) + 16, 5, 0xA⟩
abbrev BS_CFG_SC_SHIFT (i : Nat) : Fld := ⟨32 * (0x78000 + 128 * i) + 8, 5, 0xF⟩
abbrev BS_CFG_PAL_SRC (i : Nat) : Fld := ⟨32 * (0x78000 + 128 * i) + 0, 2, 0⟩
abbrev BS_X0_X0 (i : Nat) : Fld := ⟨32 * (0x78004 + 128 * i) + 0, 28, 0⟩
abbrev BS_GEOM_GAUGE (i : Nat) : Fld := ⟨32 * (0x78008 + 128 * i) + 24, 8, 0⟩
abbrev BS_GEOM_PITCH (i : Nat) : Fld := ⟨32 * (0x78008 + 128 * i) + 0, 16, 0⟩
abbrev BS_CHANS_N (i : Nat) : Fld := ⟨32 * (0x7800C + 128 * i) + 0, 18, 0⟩
abbrev BS_SCALE_DTOTAL (i : Nat) : Fld := ⟨32 * (0x78010 + 128 * i) + 16, 16, 1⟩
abbrev BS_SCALE_SCALE (i : Nat) : Fld := ⟨32 * (0x78010 + 128 * i) + 0, 16, 0x4000⟩
abbrev BS_OUT_LSB_LSB (i : Nat) : Fld := ⟨32 * (0x78014 + 128 * i) + 0, 32, 0⟩
abbrev BS_SKETCH_SK_SHIFT (i : Nat) : Fld := ⟨32 * (0x78018 + 128 * i) + 24, 5, 0⟩
abbrev BS_SKETCH_DK (i : Nat) : Fld := ⟨32 * (0x78018 + 128 * i) + 0, 9, 1⟩
abbrev BS_DET_SRC (i : Nat) : Fld := ⟨32 * (0x7801C + 128 * i) + 31, 1, 0⟩
abbrev BS_DET_ATT (i : Nat) : Fld := ⟨32 * (0x7801C + 128 * i) + 24, 4, 2⟩
abbrev BS_DET_REL (i : Nat) : Fld := ⟨32 * (0x7801C + 128 * i) + 20, 4, 8⟩
abbrev BS_DET_W (i : Nat) : Fld := ⟨32 * (0x7801C + 128 * i) + 0, 16, 0x64⟩
abbrev BS_PEAK_LVL_OFF (i : Nat) : Fld := ⟨32 * (0x78020 + 128 * i) + 16, 16, 0⟩
abbrev BS_PEAK_LVL_ON (i : Nat) : Fld := ⟨32 * (0x78020 + 128 * i) + 0, 16, 0⟩
abbrev BS_RMS_LVL_OFF (i : Nat) : Fld := ⟨32 * (0x78024 + 128 * i) + 16, 16, 0⟩
abbrev BS_RMS_LVL_ON (i : Nat) : Fld := ⟨32 * (0x78024 + 128 * i) + 0, 16, 0⟩
abbrev BS_ENV_LVL_OFF (i : Nat) : Fld := ⟨32 * (0x78028 + 128 * i) + 16, 16, 0⟩
abbrev BS_ENV_LVL_ON (i : Nat) : Fld := ⟨32 * (0x78028 + 128 * i) + 0, 16, 0⟩
abbrev BS_DET_CNT_OFF_COUNT (i : Nat) : Fld := ⟨32 * (0x7802C + 128 * i) + 8, 8, 1⟩
abbrev BS_DET_CNT_ON_COUNT (i : Nat) : Fld := ⟨32 * (0x7802C + 128 * i) + 0, 8, 1⟩
abbrev BS_BANDS_LOG2NF (i : Nat) : Fld := ⟨32 * (0x78030 + 128 * i) + 16, 4, 0xA⟩
abbrev BS_BANDS_NB (i : Nat) : Fld := ⟨32 * (0x78030 + 128 * i) + 0, 4, 0⟩
abbrev BS_FRAME_FS (i : Nat) : Fld := ⟨32 * (0x78034 + 128 * i) + 18, 13, 0x100⟩
abbrev BS_FRAME_FC (i : Nat) : Fld := ⟨32 * (0x78034 + 128 * i) + 0, 18, 0x1000⟩
abbrev BS_FEAT_V (i : Nat) : Fld := ⟨32 * (0x78038 + 128 * i) + 16, 5, 0⟩
abbrev BS_FEAT_FDIV (i : Nat) : Fld := ⟨32 * (0x78038 + 128 * i) + 0, 13, 1⟩
abbrev BS_OUT_EN_EN (i : Nat) : Fld := ⟨32 * (0x7803C + 128 * i) + 0, 5, 0⟩
abbrev BS_PAL_ACTIVE (i : Nat) : Fld := ⟨32 * (0x78040 + 128 * i) + 31, 1, 0⟩
abbrev BS_PAL_FADING (i : Nat) : Fld := ⟨32 * (0x78040 + 128 * i) + 30, 1, 0⟩
abbrev BS_PAL_PENDING (i : Nat) : Fld := ⟨32 * (0x78040 + 128 * i) + 29, 1, 0⟩
abbrev BS_PAL_TARGET (i : Nat) : Fld := ⟨32 * (0x78040 + 128 * i) + 28, 1, 0⟩
abbrev BS_PAL_PAL_FADE (i : Nat) : Fld := ⟨32 * (0x78040 + 128 * i) + 0, 13, 0x40⟩
abbrev BS_PAL_REPL_COUNT (i : Nat) : Fld := ⟨32 * (0x78044 + 128 * i) + 0, 32, 0⟩
abbrev BS_STAT_SETTLE (i : Nat) : Fld := ⟨32 * (0x78048 + 128 * i) + 31, 1, 0⟩
abbrev BS_STAT_SHED (i : Nat) : Fld := ⟨32 * (0x78048 + 128 * i) + 28, 3, 0⟩
abbrev BS_STAT_ALARMED (i : Nat) : Fld := ⟨32 * (0x78048 + 128 * i) + 0, 18, 0⟩
abbrev BS_DET_EVTS_COUNT (i : Nat) : Fld := ⟨32 * (0x7804C + 128 * i) + 0, 32, 0⟩
abbrev BS_MERGED_COUNT (i : Nat) : Fld := ⟨32 * (0x78050 + 128 * i) + 0, 32, 0⟩
abbrev BS_SLEW_COUNT (i : Nat) : Fld := ⟨32 * (0x78054 + 128 * i) + 0, 32, 0⟩
abbrev BS_FILLED_COUNT (i : Nat) : Fld := ⟨32 * (0x78060 + 128 * i) + 0, 32, 0⟩
abbrev BS_FRAME_SEQ_NEXT (i : Nat) : Fld := ⟨32 * (0x78058 + 128 * i) + 0, 32, 0⟩
abbrev BS_SAT_FILL_SAT (i : Nat) : Fld := ⟨32 * (0x7805C + 128 * i) + 4, 1, 0⟩
abbrev BS_SAT_SLEW_SAT (i : Nat) : Fld := ⟨32 * (0x7805C + 128 * i) + 3, 1, 0⟩
abbrev BS_SAT_MERGE_SAT (i : Nat) : Fld := ⟨32 * (0x7805C + 128 * i) + 2, 1, 0⟩
abbrev BS_SAT_EVT_SAT (i : Nat) : Fld := ⟨32 * (0x7805C + 128 * i) + 1, 1, 0⟩
abbrev BS_SAT_REPL_SAT (i : Nat) : Fld := ⟨32 * (0x7805C + 128 * i) + 0, 1, 0⟩
abbrev YD_STATUS_HOME (i : Nat) : Fld := ⟨32 * (0x80000 + 65536 * i) + 31, 1, 0⟩
abbrev YD_STATUS_QUAD (i : Nat) : Fld := ⟨32 * (0x80000 + 65536 * i) + 24, 2, 0⟩
abbrev YD_STATUS_WD_MASK (i : Nat) : Fld := ⟨32 * (0x80000 + 65536 * i) + 8, 8, 0⟩
abbrev YD_STATUS_AV_MASK (i : Nat) : Fld := ⟨32 * (0x80000 + 65536 * i) + 0, 8, 0⟩
abbrev YD_LOAD_PLAN (i : Nat) : Fld := ⟨32 * (0x80004 + 65536 * i) + 16, 16, 0⟩
abbrev YD_LOAD_UTIL (i : Nat) : Fld := ⟨32 * (0x80004 + 65536 * i) + 0, 16, 0⟩
abbrev YD_QUEUE_PEAK (i : Nat) : Fld := ⟨32 * (0x80008 + 65536 * i) + 16, 10, 0⟩
abbrev YD_QUEUE_QUEUED (i : Nat) : Fld := ⟨32 * (0x80008 + 65536 * i) + 0, 10, 0⟩
abbrev YD_TRACKS_COUNT (i : Nat) : Fld := ⟨32 * (0x8000C + 65536 * i) + 0, 9, 0⟩
abbrev YD_ENG_STATE (i j : Nat) : Fld := ⟨32 * (0x80100 + 65536 * i + 4 * j) + 30, 2, 0⟩
abbrev YD_ENG_LAST_FAULT (i j : Nat) : Fld := ⟨32 * (0x80100 + 65536 * i + 4 * j) + 16, 3, 0⟩
abbrev YD_ENG_FAULTS_1S (i j : Nat) : Fld := ⟨32 * (0x80100 + 65536 * i + 4 * j) + 0, 2, 0⟩
abbrev FB_STATUS_OVERRUN : Fld := ⟨41943071, 1, 0⟩
abbrev FB_STATUS_AV_FAULT : Fld := ⟨41943070, 1, 0⟩
abbrev FB_STATUS_AV_CEIL : Fld := ⟨41943069, 1, 0⟩
abbrev FB_STATUS_SHEDDING : Fld := ⟨41943068, 1, 0⟩
abbrev FB_STATUS_BLOCKED : Fld := ⟨41943067, 1, 0⟩
abbrev FB_ENGINES_MIN : Fld := ⟨41943184, 8, 0⟩
abbrev FB_ENGINES_WITHDRAWN : Fld := ⟨41943176, 8, 0⟩
abbrev FB_ENGINES_PRESENT : Fld := ⟨41943168, 8, 0⟩
abbrev FB_QUAD_HOMES : Fld := ⟨41943300, 4, 0⟩
abbrev FB_QUAD_POWERED : Fld := ⟨41943296, 4, 0⟩
abbrev FB_AV_CFG_EN : Fld := ⟨41943583, 1, 1⟩
abbrev FB_AV_CFG_HI : Fld := ⟨41943568, 8, 0x50⟩
abbrev FB_AV_CFG_LO : Fld := ⟨41943560, 8, 0x3C⟩
abbrev FB_AV_CFG_STEP : Fld := ⟨41943552, 8, 0xA⟩
abbrev FB_AV_LIMITS_CEIL : Fld := ⟨41943696, 16, 0x352⟩
abbrev FB_AV_LIMITS_FLOOR : Fld := ⟨41943680, 16, 0x2A8⟩
abbrev FB_AV_VOUT_READBACK : Fld := ⟨41943824, 16, 0⟩
abbrev FB_AV_VOUT_COMMAND : Fld := ⟨41943808, 16, 0⟩
abbrev FB_PMBUS_PEC : Fld := ⟨41943967, 1, 1⟩
abbrev FB_PMBUS_STATUS : Fld := ⟨41943952, 8, 0⟩
abbrev FB_PMBUS_FAILS : Fld := ⟨41943944, 2, 0⟩
abbrev FB_PMBUS_ADDR : Fld := ⟨41943936, 7, 0x40⟩
abbrev FB_UTIL_PEAK : Fld := ⟨41944080, 16, 0⟩
abbrev FB_UTIL_LAST : Fld := ⟨41944064, 16, 0⟩
abbrev FB_AGE_A : Fld := ⟨41944192, 32, 0⟩
abbrev FB_SPEED_SPEED (i : Nat) : Fld := ⟨32 * (0x140030 + 4 * i) + 0, 16, 0⟩
abbrev FB_SHED_CFG_ON : Fld := ⟨41945112, 8, 0x14⟩
abbrev FB_SHED_CFG_OFF : Fld := ⟨41945104, 8, 5⟩
abbrev FB_SHED_CFG_DWELL : Fld := ⟨41945096, 8, 2⟩
abbrev FB_SHED_CFG_HOLD : Fld := ⟨41945088, 8, 0x64⟩
abbrev FB_SHED_POS_RUNGS : Fld := ⟨41945232, 10, 0⟩
abbrev FB_SHED_POS_SECTION : Fld := ⟨41945224, 8, 0⟩
abbrev FB_SHED_POS_STEP : Fld := ⟨41945216, 2, 0⟩
abbrev FB_STORE_SIZE_MS : Fld := ⟨41945616, 16, 0⟩
abbrev FB_STORE_SIZE_MIB : Fld := ⟨41945600, 16, 0⟩
abbrev FB_STORE_FILL_PEAK : Fld := ⟨41945744, 16, 0⟩
abbrev FB_STORE_FILL_FILL : Fld := ⟨41945728, 16, 0⟩
abbrev FB_JOBS_PEAK : Fld := ⟨41945872, 10, 0⟩
abbrev FB_JOBS_INFLIGHT : Fld := ⟨41945856, 10, 0⟩
abbrev FB_DISPATCH_AGE_LIMIT : Fld := ⟨41946000, 16, 0x7D0⟩
abbrev FB_DISPATCH_JOB_TMO : Fld := ⟨41945984, 16, 0x1F4⟩
abbrev FB_DONE_COUNT : Fld := ⟨41946112, 32, 0⟩
abbrev FB_PROMOTED_COUNT : Fld := ⟨41946240, 32, 0⟩
abbrev FB_FAULTS_COUNT : Fld := ⟨41946368, 32, 0⟩
abbrev FB_DISCARDS_COUNT : Fld := ⟨41946496, 32, 0⟩
abbrev FB_CNT_SAT_DISC_SAT : Fld := ⟨41946627, 1, 0⟩
abbrev FB_CNT_SAT_FAULT_SAT : Fld := ⟨41946626, 1, 0⟩
abbrev FB_CNT_SAT_PROM_SAT : Fld := ⟨41946625, 1, 0⟩
abbrev FB_CNT_SAT_DONE_SAT : Fld := ⟨41946624, 1, 0⟩
abbrev EV_STATUS_BLOCKED : Fld := ⟨44040208, 16, 0⟩
abbrev EV_STATUS_ARMED : Fld := ⟨44040192, 16, 0⟩
abbrev EV_BUDGET_BUDGET : Fld := ⟨44040320, 16, 0x320⟩
abbrev EV_DEMAND_DH : Fld := ⟨44040464, 16, 0⟩
abbrev EV_DEMAND_D0 : Fld := ⟨44040448, 16, 0⟩
abbrev EV_RATE_BW_SHORT : Fld := ⟨44040584, 1, 0⟩
abbrev EV_RATE_HMAX : Fld := ⟨44040580, 4, 0⟩
abbrev EV_RATE_H : Fld := ⟨44040576, 4, 0⟩
abbrev EV_TRIGIN_SKEW_SKEW : Fld := ⟨44040704, 16, 0⟩
abbrev EV_TRIG_OUT_LINES : Fld := ⟨44040848, 16, 0⟩
abbrev EV_TRIG_OUT_WIDTH : Fld := ⟨44040832, 8, 0xA⟩
abbrev EV_HOST_TRIG_LINES : Fld := ⟨44040960, 16, 0⟩
abbrev EV_DROPPED_COUNT : Fld := ⟨44041088, 32, 0⟩
abbrev EV_SAT_DROP_SAT : Fld := ⟨44041216, 1, 0⟩
abbrev EV_LCFG_TRIGIN_EN (i : Nat) : Fld := ⟨32 * (0x150100 + 128 * i) + 31, 1, 0⟩
abbrev EV_LCFG_XT_EN (i : Nat) : Fld := ⟨32 * (0x150100 + 128 * i) + 30, 1, 0⟩
abbrev EV_LCFG_DET_EN (i : Nat) : Fld := ⟨32 * (0x150100 + 128 * i) + 29, 1, 0⟩
abbrev EV_LCFG_XT_OUT (i : Nat) : Fld := ⟨32 * (0x150100 + 128 * i) + 28, 1, 0⟩
abbrev EV_LCFG_DET_RANGE (i : Nat) : Fld := ⟨32 * (0x150100 + 128 * i) + 27, 1, 0⟩
abbrev EV_LCFG_DET_KINDS (i : Nat) : Fld := ⟨32 * (0x150100 + 128 * i) + 24, 3, 0⟩
abbrev EV_LCFG_DET_SECTION (i : Nat) : Fld := ⟨32 * (0x150100 + 128 * i) + 16, 8, 0⟩
abbrev EV_LCFG_SECTION (i : Nat) : Fld := ⟨32 * (0x150100 + 128 * i) + 0, 8, 0⟩
abbrev EV_LCHAN_COUNT (i : Nat) : Fld := ⟨32 * (0x150104 + 128 * i) + 19, 13, 1⟩
abbrev EV_LCHAN_FIRST (i : Nat) : Fld := ⟨32 * (0x150104 + 128 * i) + 0, 17, 0⟩
abbrev EV_PRE_INPUTS (i : Nat) : Fld := ⟨32 * (0x150108 + 128 * i) + 0, 24, 0⟩
abbrev EV_POST_INPUTS (i : Nat) : Fld := ⟨32 * (0x15010C + 128 * i) + 0, 24, 1⟩
abbrev EV_MAX_LEN_INPUTS (i : Nat) : Fld := ⟨32 * (0x150110 + 128 * i) + 0, 24, 1⟩
abbrev EV_OFFSET_OFFSET (i : Nat) : Fld := ⟨32 * (0x150114 + 128 * i) + 0, 32, 0⟩
abbrev EV_XT_XT_MODULES (i : Nat) : Fld := ⟨32 * (0x150118 + 128 * i) + 16, 8, 0⟩
abbrev EV_XT_XT_LINES (i : Nat) : Fld := ⟨32 * (0x150118 + 128 * i) + 0, 16, 0⟩
abbrev EV_CTRL_ARM (i : Nat) : Fld := ⟨32 * (0x15011C + 128 * i) + 31, 1, 0⟩
abbrev EV_CTRL_ARM_REJ (i : Nat) : Fld := ⟨32 * (0x15011C + 128 * i) + 30, 1, 0⟩
abbrev EV_CTRL_POLICY (i : Nat) : Fld := ⟨32 * (0x15011C + 128 * i) + 28, 2, 0⟩
abbrev EV_STATE_WAITING (i : Nat) : Fld := ⟨32 * (0x150120 + 128 * i) + 12, 4, 0⟩
abbrev EV_STATE_OPEN (i : Nat) : Fld := ⟨32 * (0x150120 + 128 * i) + 8, 3, 0⟩
abbrev EV_STATE_STATE (i : Nat) : Fld := ⟨32 * (0x150120 + 128 * i) + 0, 3, 0⟩
abbrev EV_RING_ROW_BYTES (i : Nat) : Fld := ⟨32 * (0x150124 + 128 * i) + 16, 16, 0⟩
abbrev EV_RING_MIB (i : Nat) : Fld := ⟨32 * (0x150124 + 128 * i) + 0, 16, 0⟩
abbrev EV_ROWS_ROWS (i : Nat) : Fld := ⟨32 * (0x150128 + 128 * i) + 0, 32, 0⟩
abbrev EV_DATA_BASE_OFFSET (i : Nat) : Fld := ⟨32 * (0x15012C + 128 * i) + 0, 30, 0⟩
abbrev EV_HDR_BASE_OFFSET (i : Nat) : Fld := ⟨32 * (0x150130 + 128 * i) + 0, 30, 0⟩
abbrev EV_REC_WR_COUNT (i : Nat) : Fld := ⟨32 * (0x150134 + 128 * i) + 0, 32, 0⟩
abbrev EV_REC_RD_COUNT (i : Nat) : Fld := ⟨32 * (0x150138 + 128 * i) + 0, 32, 0⟩
abbrev EV_DEAD_INPUTS (i : Nat) : Fld := ⟨32 * (0x15013C + 128 * i) + 0, 32, 0⟩
abbrev EV_IGNORED_COUNT (i : Nat) : Fld := ⟨32 * (0x150140 + 128 * i) + 0, 32, 0⟩
abbrev EV_MERGED_COUNT (i : Nat) : Fld := ⟨32 * (0x150144 + 128 * i) + 0, 32, 0⟩
abbrev EV_LSAT_RD_ERR (i : Nat) : Fld := ⟨32 * (0x150148 + 128 * i) + 2, 1, 0⟩
abbrev EV_LSAT_MRG_SAT (i : Nat) : Fld := ⟨32 * (0x150148 + 128 * i) + 1, 1, 0⟩
abbrev EV_LSAT_IGN_SAT (i : Nat) : Fld := ⟨32 * (0x150148 + 128 * i) + 0, 1, 0⟩
abbrev BR_CTRL_EN : Fld := ⟨46137375, 1, 0⟩
abbrev BR_CTRL_WB : Fld := ⟨46137368, 2, 0⟩
abbrev BR_CTRL_SPAN_HW : Fld := ⟨46137360, 6, 0x18⟩
abbrev BR_CTRL_SNR_MIN : Fld := ⟨46137344, 10, 0x64⟩
abbrev BR_STATUS_SYN_LOCK : Fld := ⟨46137503, 1, 0⟩
abbrev BR_STATUS_ANCHOR_HELD : Fld := ⟨46137502, 1, 0⟩
abbrev BR_STATUS_SKIPPING : Fld := ⟨46137501, 1, 0⟩
abbrev BR_STATUS_BASE_VALID : Fld := ⟨46137500, 1, 0⟩
abbrev BR_STATUS_REBASING : Fld := ⟨46137499, 1, 0⟩
abbrev BR_STATUS_BLOCKS : Fld := ⟨46137480, 7, 0⟩
abbrev BR_STATUS_STATE : Fld := ⟨46137472, 3, 0⟩
abbrev BR_NOMINAL_NU_N : Fld := ⟨46137600, 32, 0xA58ED0⟩
abbrev BR_SYN_FREQ : Fld := ⟨46137728, 24, 0⟩
abbrev BR_COEF_T_CT : Fld := ⟨46137872, 16, 0x29CC⟩
abbrev BR_COEF_T_T0 : Fld := ⟨46137856, 16, 0x9C4⟩
abbrev BR_COEF_E_CE : Fld := ⟨46137984, 16, 0x1342⟩
abbrev BR_ACC_ACC : Fld := ⟨46138128, 16, 0x12C⟩
abbrev BR_ACC_UPD : Fld := ⟨46138112, 16, 0xA⟩
abbrev BR_BASE_PERIOD : Fld := ⟨46138256, 16, 0x3C⟩
abbrev BR_BASE_BASE_S : Fld := ⟨46138240, 16, 0xA⟩
abbrev BR_COIL_CFG_EN : Fld := ⟨46138399, 1, 0⟩
abbrev BR_COIL_CFG_RTD : Fld := ⟨46138368, 3, 0⟩
abbrev BR_COIL_BINS_LAST : Fld := ⟨46138512, 15, 0⟩
abbrev BR_COIL_BINS_FIRST : Fld := ⟨46138496, 15, 0⟩
abbrev BR_ANCHOR_MAX_MAX : Fld := ⟨46138624, 16, 0x1F4⟩
abbrev BR_ANCHOR_COIL_T : Fld := ⟨46138768, 16, 0x8000⟩
abbrev BR_ANCHOR_OFFSET : Fld := ⟨46138752, 16, 0⟩
abbrev BR_RANGE_OFS_D_BR : Fld := ⟨46138880, 32, 0⟩
abbrev BR_BINS_NB : Fld := ⟨46139008, 15, 0⟩
abbrev BR_FRAME_FC : Fld := ⟨46139136, 15, 0x1000⟩
abbrev BR_FRAME_SEQ_NEXT : Fld := ⟨46139264, 32, 0⟩
abbrev BR_PROFILE_LAUNCHES : Fld := ⟨46139392, 32, 0⟩
abbrev BR_NOFIT_COUNT : Fld := ⟨46139520, 15, 0⟩
abbrev BR_SKIPPED_COUNT : Fld := ⟨46139648, 32, 0⟩
abbrev BR_SAT_SKIP_SAT : Fld := ⟨46139776, 1, 0⟩
abbrev BR_SPEC_SEL_BIN : Fld := ⟨46145552, 15, 0⟩
abbrev BR_SPEC_SEL_POINT : Fld := ⟨46145536, 7, 0⟩
abbrev BR_SPEC_DATA_S : Fld := ⟨46145664, 32, 0x7FC00000⟩
abbrev BR_ZONE_A_EN (i : Nat) : Fld := ⟨32 * (0x160200 + 16 * i) + 31, 1, 0⟩
abbrev BR_ZONE_A_MODE (i : Nat) : Fld := ⟨32 * (0x160200 + 16 * i) + 28, 2, 0⟩
abbrev BR_ZONE_A_RTD (i : Nat) : Fld := ⟨32 * (0x160200 + 16 * i) + 24, 3, 0⟩
abbrev BR_ZONE_A_FIRST (i : Nat) : Fld := ⟨32 * (0x160200 + 16 * i) + 0, 15, 0⟩
abbrev BR_ZONE_B_DIR (i : Nat) : Fld := ⟨32 * (0x160204 + 16 * i) + 31, 1, 0⟩
abbrev BR_ZONE_B_PAIR (i : Nat) : Fld := ⟨32 * (0x160204 + 16 * i) + 16, 15, 0⟩
abbrev BR_ZONE_B_LAST (i : Nat) : Fld := ⟨32 * (0x160204 + 16 * i) + 0, 15, 0⟩
abbrev BR_ZONE_C_OFS (i : Nat) : Fld := ⟨32 * (0x160208 + 16 * i) + 16, 16, 0⟩
abbrev SF_CTRL_SCAN_EN : Fld := ⟨48234496, 8, 0⟩
abbrev SF_PREC_R_P : Fld := ⟨48234624, 32, 0x30D40⟩
abbrev SF_STATUS_PREC_FAULT : Fld := ⟨48234783, 1, 0⟩
abbrev SF_STATUS_CUR : Fld := ⟨48234768, 3, 0⟩
abbrev SF_STATUS_SCANS : Fld := ⟨48234752, 16, 0⟩
abbrev SF_CFG_FEXC (i : Nat) : Fld := ⟨32 * (0x170100 + 32 * i) + 28, 3, 0⟩
abbrev SF_CFG_RANGE (i : Nat) : Fld := ⟨32 * (0x170100 + 32 * i) + 24, 2, 0⟩
abbrev SF_CFG_TABLE (i : Nat) : Fld := ⟨32 * (0x170100 + 32 * i) + 16, 2, 0⟩
abbrev SF_CFG_NAVG (i : Nat) : Fld := ⟨32 * (0x170100 + 32 * i) + 0, 7, 0x10⟩
abbrev SF_STAT_STATE (i : Nat) : Fld := ⟨32 * (0x170104 + 32 * i) + 29, 3, 0⟩
abbrev SF_STAT_STALE (i : Nat) : Fld := ⟨32 * (0x170104 + 32 * i) + 28, 1, 0⟩
abbrev SF_STAT_AMP (i : Nat) : Fld := ⟨32 * (0x170104 + 32 * i) + 26, 2, 0⟩
abbrev SF_TEMP_T (i : Nat) : Fld := ⟨32 * (0x170108 + 32 * i) + 0, 32, 0x80000000⟩
abbrev SF_RATIO_Q (i : Nat) : Fld := ⟨32 * (0x17010C + 32 * i) + 0, 24, 0⟩
abbrev SF_FAULTS_COUNT (i : Nat) : Fld := ⟨32 * (0x170110 + 32 * i) + 0, 32, 0⟩
abbrev SF_ABANDON_COUNT (i : Nat) : Fld := ⟨32 * (0x170114 + 32 * i) + 0, 32, 0⟩
abbrev SF_SAT_ABN_SAT (i : Nat) : Fld := ⟨32 * (0x170118 + 32 * i) + 1, 1, 0⟩
abbrev SF_SAT_FLT_SAT (i : Nat) : Fld := ⟨32 * (0x170118 + 32 * i) + 0, 1, 0⟩
abbrev HK_CFG_PAIR (i : Nat) : Fld := ⟨32 * (0x180000 + 256 * i) + 31, 1, 0⟩
abbrev HK_CFG_RTRIG (i : Nat) : Fld := ⟨32 * (0x180000 + 256 * i) + 29, 2, 0⟩
abbrev HK_CFG_LEN (i : Nat) : Fld := ⟨32 * (0x180000 + 256 * i) + 20, 4, 0⟩
abbrev HK_CFG_ILEN (i : Nat) : Fld := ⟨32 * (0x180000 + 256 * i) + 18, 2, 3⟩
abbrev HK_CFG_ITRIG (i : Nat) : Fld := ⟨32 * (0x180000 + 256 * i) + 16, 2, 2⟩
abbrev HK_TIMER_IPER (i : Nat) : Fld := ⟨32 * (0x180004 + 256 * i) + 16, 16, 0x32⟩
abbrev HK_TIMER_RPER (i : Nat) : Fld := ⟨32 * (0x180004 + 256 * i) + 0, 16, 0x3E8⟩
abbrev HK_DELAY_AGE_LIMIT (i : Nat) : Fld := ⟨32 * (0x180008 + 256 * i) + 16, 16, 0x32⟩
abbrev HK_DELAY_DELAY (i : Nat) : Fld := ⟨32 * (0x180008 + 256 * i) + 0, 8, 0x64⟩
abbrev HK_SEQ_INPUT (i j : Nat) : Fld := ⟨32 * (0x180020 + 256 * i + 4 * j) + 0, 4, 0⟩
abbrev HK_INJ_INPUT (i j : Nat) : Fld := ⟨32 * (0x180060 + 256 * i + 4 * j) + 0, 4, if i = 0 then j else 0⟩
abbrev HK_DATA_VALID (i : Nat) : Fld := ⟨32 * (0x180070 + 256 * i) + 31, 1, 0⟩
abbrev HK_DATA_INJ (i : Nat) : Fld := ⟨32 * (0x180070 + 256 * i) + 30, 1, 0⟩
abbrev HK_DATA_CAL_DELAYED (i : Nat) : Fld := ⟨32 * (0x180070 + 256 * i) + 29, 1, 0⟩
abbrev HK_DATA_UNPAIRED (i : Nat) : Fld := ⟨32 * (0x180070 + 256 * i) + 28, 1, 0⟩
abbrev HK_DATA_ENTRY (i : Nat) : Fld := ⟨32 * (0x180070 + 256 * i) + 24, 4, 0⟩
abbrev HK_DATA_INPUT (i : Nat) : Fld := ⟨32 * (0x180070 + 256 * i) + 16, 4, 0⟩
abbrev HK_DATA_CODE (i : Nat) : Fld := ⟨32 * (0x180070 + 256 * i) + 0, 12, 0⟩
abbrev HK_STAT_OVR (i : Nat) : Fld := ⟨32 * (0x180074 + 256 * i) + 31, 1, 0⟩
abbrev HK_STAT_CAL (i : Nat) : Fld := ⟨32 * (0x180074 + 256 * i) + 30, 1, 0⟩
abbrev HK_STAT_PROM_SAT (i : Nat) : Fld := ⟨32 * (0x180074 + 256 * i) + 2, 1, 0⟩
abbrev HK_STAT_MISS_SAT (i : Nat) : Fld := ⟨32 * (0x180074 + 256 * i) + 1, 1, 0⟩
abbrev HK_STAT_OVR_SAT (i : Nat) : Fld := ⟨32 * (0x180074 + 256 * i) + 0, 1, 0⟩
abbrev HK_OVRS_COUNT (i : Nat) : Fld := ⟨32 * (0x180078 + 256 * i) + 0, 32, 0⟩
abbrev HK_MISS_COUNT (i : Nat) : Fld := ⟨32 * (0x18007C + 256 * i) + 0, 32, 0⟩
abbrev HK_PROM_COUNT (i : Nat) : Fld := ⟨32 * (0x1800F0 + 256 * i) + 0, 32, 0⟩
abbrev HK_LAST_SEEN (i j : Nat) : Fld := ⟨32 * (0x180080 + 256 * i + 4 * j) + 31, 1, 0⟩
abbrev HK_LAST_CODE (i j : Nat) : Fld := ⟨32 * (0x180080 + 256 * i + 4 * j) + 0, 12, 0⟩
abbrev HK_CAL_GAIN (i : Nat) : Fld := ⟨32 * (0x1800D0 + 256 * i) + 16, 16, 0⟩
abbrev HK_CAL_OFS (i : Nat) : Fld := ⟨32 * (0x1800D0 + 256 * i) + 0, 16, 0⟩
abbrev HK_TEC_CFG_T_SET : Fld := ⟨50348048, 16, 0⟩
abbrev HK_TEC_CFG_ILIM : Fld := ⟨50348032, 11, 0x5DC⟩
abbrev HK_TEC_GAIN_KP : Fld := ⟨50348176, 16, 0x800⟩
abbrev HK_TEC_GAIN_KI : Fld := ⟨50348160, 16, 0x10⟩
abbrev HK_TEC_STAT_FAULT : Fld := ⟨50348319, 1, 0⟩
abbrev HK_TEC_STAT_LIMIT : Fld := ⟨50348318, 1, 0⟩
abbrev HK_TEC_STAT_SETTLED : Fld := ⟨50348317, 1, 0⟩
abbrev HK_TEC_STAT_ERR : Fld := ⟨50348288, 16, 0⟩
abbrev CL_STATUS_RUNNING : Fld := ⟨52428831, 1, 0⟩
abbrev CL_STATUS_HELD : Fld := ⟨52428830, 1, 0⟩
abbrev CL_STATUS_NVM_PENDING : Fld := ⟨52428829, 1, 0⟩
abbrev CL_STATUS_FACTORY : Fld := ⟨52428828, 1, 0⟩
abbrev CL_STATUS_ACTIVE : Fld := ⟨52428824, 2, 0⟩
abbrev CL_STATUS_B_VALID : Fld := ⟨52428817, 1, 0⟩
abbrev CL_STATUS_A_VALID : Fld := ⟨52428816, 1, 0⟩
abbrev CL_DELTA_T_MIN_GAP : Fld := ⟨52428944, 16, 0x3C⟩
abbrev CL_DELTA_T_DT : Fld := ⟨52428928, 16, 0xC8⟩
abbrev CL_TEMP_T_REF : Fld := ⟨52429072, 16, 0⟩
abbrev CL_TEMP_T_NOW : Fld := ⟨52429056, 16, 0⟩
abbrev CL_SEQ_A_SEQ : Fld := ⟨52429184, 32, 0⟩
abbrev CL_SEQ_B_SEQ : Fld := ⟨52429312, 32, 0⟩
abbrev CL_PASSES_COUNT : Fld := ⟨52429440, 32, 0⟩
abbrev CL_SAT_PASS_SAT : Fld := ⟨52429568, 1, 0⟩
abbrev DC_CFG_CHANNELS : Fld := ⟨54525980, 4, 0⟩
abbrev DC_CFG_HASH : Fld := ⟨54525979, 1, 0⟩
abbrev DC_CFG_GRAIN : Fld := ⟨54525952, 5, 0xC⟩
abbrev DC_CAP_MIB : Fld := ⟨54526080, 32, 0⟩
abbrev DC_HASH_MASK (i : Nat) : Fld := ⟨32 * (0x1A0010 + 4 * i) + 0, 18, 0⟩
abbrev DC_PANIC_PANIC : Fld := ⟨54527007, 1, 0⟩
abbrev DC_PANIC_ON : Fld := ⟨54526984, 8, 0x4B⟩
abbrev DC_PANIC_OFF : Fld := ⟨54526976, 8, 0x32⟩
abbrev DC_AGING_PANIC_MAX : Fld := ⟨54527120, 16, 0x14⟩
abbrev DC_AGING_AGE_LIMIT : Fld := ⟨54527104, 16, 0xA⟩
abbrev DC_REFRESH_MULT : Fld := ⟨54527236, 4, 0⟩
abbrev DC_REFRESH_POSTPONED : Fld := ⟨54527232, 4, 0⟩
abbrev DC_RH_CFG_THRESH : Fld := ⟨54527360, 16, 0x1000⟩
abbrev DC_INFLIGHT_PEAK : Fld := ⟨54527504, 9, 0⟩
abbrev DC_INFLIGHT_NOW : Fld := ⟨54527488, 9, 0⟩
abbrev DC_FORCED_REF_COUNT : Fld := ⟨54528000, 32, 0⟩
abbrev DC_RH_REFRESHES_COUNT : Fld := ⟨54528128, 32, 0⟩
abbrev DC_PANIC_CAPS_COUNT : Fld := ⟨54528256, 32, 0⟩
abbrev DC_PROMOTED_COUNT : Fld := ⟨54528384, 32, 0⟩
abbrev DC_CNT_SAT_PROM_SAT : Fld := ⟨54528515, 1, 0⟩
abbrev DC_CNT_SAT_CAP_SAT : Fld := ⟨54528514, 1, 0⟩
abbrev DC_CNT_SAT_RH_SAT : Fld := ⟨54528513, 1, 0⟩
abbrev DC_CNT_SAT_REF_SAT : Fld := ⟨54528512, 1, 0⟩
abbrev DC_PORT_CFG_WEIGHT (i : Nat) : Fld := ⟨32 * (0x1A0100 + 4 * i) + 0, 8, 0x10⟩
abbrev EC_SCRUB_CFG_SRAM_PASS : Fld := ⟨56623248, 16, 0xA⟩
abbrev EC_SCRUB_CFG_PERIOD : Fld := ⟨56623232, 16, 0xC⟩
abbrev EC_SCRUB_PASS_PASS : Fld := ⟨56623360, 32, 0⟩
abbrev EC_SCRUB_POS_PROGRESS : Fld := ⟨56623488, 16, 0⟩
abbrev EC_CORR_COUNT (i : Nat) : Fld := ⟨32 * (0x1B0010 + 4 * i) + 0, 16, 0⟩
abbrev EC_SRAM_CORR_COUNT : Fld := ⟨56624128, 16, 0⟩
abbrev EC_CORR_SAT_SRAM_SAT : Fld := ⟨56624260, 1, 0⟩
abbrev EC_CORR_SAT_CH_SAT : Fld := ⟨56624256, 4, 0⟩
abbrev EC_UE_COUNT : Fld := ⟨56624384, 32, 0⟩
abbrev EC_SUSPECT_LOST_COUNT : Fld := ⟨56624512, 32, 0⟩
abbrev EC_UNHANDLED_COUNT : Fld := ⟨56624640, 32, 0⟩
abbrev EC_CNT_SAT_UNH_SAT : Fld := ⟨56624770, 1, 0⟩
abbrev EC_CNT_SAT_LOST_SAT : Fld := ⟨56624769, 1, 0⟩
abbrev EC_CNT_SAT_UE_SAT : Fld := ⟨56624768, 1, 0⟩
abbrev EC_SUSPECT_SEL_INDEX : Fld := ⟨56625152, 6, 0⟩
abbrev EC_SUSPECT_A_VALID : Fld := ⟨56625311, 1, 0⟩
abbrev EC_SUSPECT_A_SRAM : Fld := ⟨56625310, 1, 0⟩
abbrev EC_SUSPECT_A_UE : Fld := ⟨56625309, 1, 0⟩
abbrev EC_SUSPECT_A_CORRECTED : Fld := ⟨56625304, 3, 0⟩
abbrev EC_SUSPECT_A_AGE : Fld := ⟨56625300, 4, 0⟩
abbrev EC_SUSPECT_A_SYNDROME : Fld := ⟨56625292, 8, 0⟩
abbrev EC_SUSPECT_A_CHANNEL : Fld := ⟨56625290, 2, 0⟩
abbrev EC_SUSPECT_A_ADDR_HI : Fld := ⟨56625280, 2, 0⟩
abbrev EC_SUSPECT_B_LOC : Fld := ⟨56625408, 32, 0⟩
abbrev EC_REMAP_USED (i : Nat) : Fld := ⟨32 * (0x1B0050 + 4 * i) + 0, 5, 0⟩
abbrev EC_WITHDRAWN_REGIONS : Fld := ⟨56626176, 9, 0⟩
abbrev EC_REGION_SEL_INDEX : Fld := ⟨56626304, 8, 0⟩
abbrev EC_REGION_DATA_VALID : Fld := ⟨56626463, 1, 0⟩
abbrev EC_REGION_DATA_PENDING : Fld := ⟨56626462, 1, 0⟩
abbrev EC_REGION_DATA_CHANNEL : Fld := ⟨56626456, 2, 0⟩
abbrev EC_REGION_DATA_REGION : Fld := ⟨56626432, 14, 0⟩
abbrev EC_TEST_CTRL_BUSY : Fld := ⟨56631327, 1, 0⟩
abbrev EC_TEST_CTRL_CHANNEL : Fld := ⟨56631312, 2, 0⟩
abbrev EC_TEST_CTRL_WORD : Fld := ⟨56631299, 9, 0⟩
abbrev EC_TEST_CTRL_CMD : Fld := ⟨56631296, 3, 0⟩
abbrev EC_TEST_DATA_LO_DATA : Fld := ⟨56631424, 32, 0⟩
abbrev EC_TEST_DATA_HI_DATA : Fld := ⟨56631552, 32, 0⟩
abbrev EC_TEST_CHECK_CHECK : Fld := ⟨56631680, 8, 0⟩
abbrev EC_TEST_RESULT_RESULT : Fld := ⟨56631838, 2, 0⟩
abbrev EC_TEST_RESULT_SYNDROME : Fld := ⟨56631816, 8, 0⟩
abbrev EC_TEST_RESULT_POSITION : Fld := ⟨56631808, 8, 0xFF⟩
abbrev CX_STATUS_BLOCKED : Fld := ⟨58720287, 1, 0⟩
abbrev CX_STATUS_DISCARDING : Fld := ⟨58720286, 1, 0⟩
abbrev CX_STATUS_SIDED : Fld := ⟨58720285, 1, 0⟩
abbrev CX_STATUS_AUX_DISCARD : Fld := ⟨58720284, 1, 0⟩
abbrev CX_STATUS_DISCARD_SECTS : Fld := ⟨58720256, 9, 0⟩
abbrev CX_CFG_SIDINGS : Fld := ⟨58720384, 3, 4⟩
abbrev CX_AUX_BR_EN : Fld := ⟨58720543, 1, 1⟩
abbrev CX_AUX_RTD_EN : Fld := ⟨58720542, 1, 1⟩
abbrev CX_AUX_TARGET : Fld := ⟨58720520, 7, 0x64⟩
abbrev CX_AUX_RTD_MODE : Fld := ⟨58720516, 1, 1⟩
abbrev CX_AUX_BR_MODE : Fld := ⟨58720512, 1, 1⟩
abbrev CX_SEAL_SEQ_SEQ : Fld := ⟨58720640, 32, 0⟩
abbrev CX_RTD_SEQ_NEXT : Fld := ⟨58720768, 32, 0⟩
abbrev CX_SIDE_FILL_PEAK : Fld := ⟨58720912, 16, 0⟩
abbrev CX_SIDE_FILL_FILL : Fld := ⟨58720896, 16, 0⟩
abbrev CX_NOSHRINK_COUNT : Fld := ⟨58721280, 32, 0⟩
abbrev CX_DISCARDED_COUNT : Fld := ⟨58721408, 32, 0⟩
abbrev CX_SEAL_LOST_COUNT : Fld := ⟨58721536, 32, 0⟩
abbrev CX_SIDED_COUNT : Fld := ⟨58721664, 32, 0⟩
abbrev CX_CNT_SAT_SIDE_SAT : Fld := ⟨58721795, 1, 0⟩
abbrev CX_CNT_SAT_LOST_SAT : Fld := ⟨58721794, 1, 0⟩
abbrev CX_CNT_SAT_DISC_SAT : Fld := ⟨58721793, 1, 0⟩
abbrev CX_CNT_SAT_NOSH_SAT : Fld := ⟨58721792, 1, 0⟩
abbrev CX_SECT_TARGET (i : Nat) : Fld := ⟨32 * (0x1C1000 + 4 * i) + 24, 7, 0x64⟩
abbrev CX_SECT_FEATURE (i : Nat) : Fld := ⟨32 * (0x1C1000 + 4 * i) + 12, 3, 0⟩
abbrev CX_SECT_BANDS (i : Nat) : Fld := ⟨32 * (0x1C1000 + 4 * i) + 9, 3, 0⟩
abbrev CX_SECT_DETECT (i : Nat) : Fld := ⟨32 * (0x1C1000 + 4 * i) + 6, 3, 0⟩
abbrev CX_SECT_SKETCH (i : Nat) : Fld := ⟨32 * (0x1C1000 + 4 * i) + 3, 3, 0⟩
abbrev CX_SECT_FINE (i : Nat) : Fld := ⟨32 * (0x1C1000 + 4 * i) + 0, 3, 0⟩
abbrev CK_CTRL_START (i : Nat) : Fld := ⟨32 * (0x1D0000 + 256 * i) + 31, 1, 0⟩
abbrev CK_CTRL_BUSY (i : Nat) : Fld := ⟨32 * (0x1D0000 + 256 * i) + 30, 1, 0⟩
abbrev CK_CTRL_DONE (i : Nat) : Fld := ⟨32 * (0x1D0000 + 256 * i) + 29, 1, 0⟩
abbrev CK_CTRL_REFUSED (i : Nat) : Fld := ⟨32 * (0x1D0000 + 256 * i) + 26, 3, 0⟩
abbrev CK_CTRL_MODE (i : Nat) : Fld := ⟨32 * (0x1D0000 + 256 * i) + 0, 2, if i = 0 then 1 else 0⟩
abbrev CK_FMT_REFOUT (i : Nat) : Fld := ⟨32 * (0x1D0004 + 256 * i) + 9, 1, 1⟩
abbrev CK_FMT_REFIN (i : Nat) : Fld := ⟨32 * (0x1D0004 + 256 * i) + 8, 1, 1⟩
abbrev CK_FMT_WIDTH (i : Nat) : Fld := ⟨32 * (0x1D0004 + 256 * i) + 0, 7, 0x20⟩
abbrev CK_POLY_LO_VALUE (i : Nat) : Fld := ⟨32 * (0x1D0008 + 256 * i) + 0, 32, 0x1EDC6F41⟩
abbrev CK_POLY_HI_VALUE (i : Nat) : Fld := ⟨32 * (0x1D000C + 256 * i) + 0, 32, 0⟩
abbrev CK_INIT_LO_VALUE (i : Nat) : Fld := ⟨32 * (0x1D0010 + 256 * i) + 0, 32, 0xFFFFFFFF⟩
abbrev CK_INIT_HI_VALUE (i : Nat) : Fld := ⟨32 * (0x1D0014 + 256 * i) + 0, 32, 0⟩
abbrev CK_XOR_LO_VALUE (i : Nat) : Fld := ⟨32 * (0x1D0018 + 256 * i) + 0, 32, 0xFFFFFFFF⟩
abbrev CK_XOR_HI_VALUE (i : Nat) : Fld := ⟨32 * (0x1D001C + 256 * i) + 0, 32, 0⟩
abbrev CK_SRC_SPACE (i : Nat) : Fld := ⟨32 * (0x1D0020 + 256 * i) + 30, 2, 0⟩
abbrev CK_SRC_ADDR_HI (i : Nat) : Fld := ⟨32 * (0x1D0020 + 256 * i) + 0, 8, 0⟩
abbrev CK_ADDR_VALUE (i : Nat) : Fld := ⟨32 * (0x1D0024 + 256 * i) + 0, 32, 0⟩
abbrev CK_LEN_VALUE (i : Nat) : Fld := ⟨32 * (0x1D0028 + 256 * i) + 0, 32, 0⟩
abbrev CK_RES_LO_VALUE (i : Nat) : Fld := ⟨32 * (0x1D002C + 256 * i) + 0, 32, 0⟩
abbrev CK_RES_HI_VALUE (i : Nat) : Fld := ⟨32 * (0x1D0030 + 256 * i) + 0, 32, 0⟩
abbrev HW_LINK_UP : Fld := ⟨62914591, 1, 0⟩
abbrev HW_LINK_SPEED : Fld := ⟨62914576, 4, 0⟩
abbrev HW_LINK_WIDTH : Fld := ⟨62914568, 6, 0⟩
abbrev HW_RING_SIZE_SIZE : Fld := ⟨62914688, 17, 0x1000⟩
abbrev HW_FRAME_SIZE_SIZE : Fld := ⟨62914816, 17, 0x100⟩
abbrev HW_NB_SIZE_SIZE : Fld := ⟨62914944, 17, 0x1000⟩
abbrev HW_RING_BASE_OFFSET : Fld := ⟨62915072, 30, 0⟩
abbrev HW_NB_BASE_OFFSET : Fld := ⟨62915200, 30, 0⟩
abbrev HW_SEAL_BASE_OFFSET : Fld := ⟨62915328, 30, 0⟩
abbrev HW_FRAME_BASE_OFFSET : Fld := ⟨62915456, 30, 0⟩
abbrev HW_SIDING_BASE_OFFSET (i : Nat) : Fld := ⟨32 * (0x1E0020 + 4 * i) + 0, 30, 0⟩
abbrev HW_AUX_BASE_OFFSET : Fld := ⟨62916096, 30, 0⟩
abbrev HW_RING_NEXT_LAP : Fld := ⟨62916624, 16, 0⟩
abbrev HW_RING_NEXT_SLOT : Fld := ⟨62916608, 16, 0⟩
abbrev HW_RING_POSTED_COUNT : Fld := ⟨62916736, 32, 0⟩
abbrev HW_NB_WR_COUNT : Fld := ⟨62917120, 32, 0⟩
abbrev HW_NB_RD_COUNT : Fld := ⟨62917248, 32, 0⟩
abbrev HW_NB_STAT_RD_ERR : Fld := ⟨62917407, 1, 0⟩
abbrev HW_NB_STAT_OCCUPANCY : Fld := ⟨62917376, 17, 0⟩
abbrev HW_IRQ_PEND_PEND : Fld := ⟨62917632, 32, 0⟩
abbrev HW_IRQ_CFG_USEC : Fld := ⟨62917776, 16, 0⟩
abbrev HW_IRQ_CFG_FRAMES : Fld := ⟨62917760, 8, 1⟩
abbrev HW_VEC_MAP_VEC0 (i : Nat) : Fld := ⟨32 * (0x1E0070 + 4 * i) + 0, 8, 4 * i + 0⟩
abbrev HW_VEC_MAP_VEC1 (i : Nat) : Fld := ⟨32 * (0x1E0070 + 4 * i) + 8, 8, 4 * i + 1⟩
abbrev HW_VEC_MAP_VEC2 (i : Nat) : Fld := ⟨32 * (0x1E0070 + 4 * i) + 16, 8, 4 * i + 2⟩
abbrev HW_VEC_MAP_VEC3 (i : Nat) : Fld := ⟨32 * (0x1E0070 + 4 * i) + 24, 8, 4 * i + 3⟩
abbrev HW_BAD_WRITES_COUNT : Fld := ⟨62918656, 32, 0⟩
abbrev HW_SKIPPED_COUNT : Fld := ⟨62918784, 32, 0⟩
abbrev HW_NB_LOST_COUNT : Fld := ⟨62918912, 32, 0⟩
abbrev HW_CNT_SAT_LOST_SAT : Fld := ⟨62919042, 1, 0⟩
abbrev HW_CNT_SAT_SKIP_SAT : Fld := ⟨62919041, 1, 0⟩
abbrev HW_CNT_SAT_BADW_SAT : Fld := ⟨62919040, 1, 0⟩
abbrev TB_STATUS_REF_PRESENT : Fld := ⟨65011743, 1, 0⟩
abbrev TB_STATUS_REF_QUAL : Fld := ⟨65011742, 1, 0⟩
abbrev TB_STATUS_PPS_PRESENT : Fld := ⟨65011741, 1, 0⟩
abbrev TB_STATUS_PPS_QUAL : Fld := ⟨65011740, 1, 0⟩
abbrev TB_STATUS_EPOCH_PENDING : Fld := ⟨65011739, 1, 0⟩
abbrev TB_STATUS_TIME_STATE : Fld := ⟨65011712, 2, 0⟩
abbrev TB_NOW0_VALUE : Fld := ⟨65011840, 32, 0⟩
abbrev TB_NOW1_VALUE : Fld := ⟨65011968, 32, 0⟩
abbrev TB_NOW2_VALUE : Fld := ⟨65012096, 32, 0⟩
abbrev TB_EPOCH_LO_SEC_LO : Fld := ⟨65012224, 32, 0⟩
abbrev TB_EPOCH_HI_SET : Fld := ⟨65012383, 1, 0⟩
abbrev TB_EPOCH_HI_IGNORED : Fld := ⟨65012382, 1, 0⟩
abbrev TB_EPOCH_HI_SEC_HI : Fld := ⟨65012352, 16, 0⟩
abbrev TB_PPS_CFG_OUT_EN : Fld := ⟨65012511, 1, 1⟩
abbrev TB_PPS_CFG_OUT_WIDTH : Fld := ⟨65012496, 9, 0x64⟩
abbrev TB_PPS_CFG_IN_COMP : Fld := ⟨65012480, 16, 0⟩
abbrev TB_PPS_ERR_E : Fld := ⟨65012608, 32, 0x80000000⟩
abbrev TB_HOLD_S_SECONDS : Fld := ⟨65012736, 32, 0⟩
abbrev TB_TRIG_CFG_EDGE : Fld := ⟨65013279, 1, 0⟩
abbrev TB_TRIG_CFG_MINW : Fld := ⟨65013264, 4, 5⟩
abbrev TB_TRIG_CFG_HOLDOFF : Fld := ⟨65013248, 16, 0xA⟩
abbrev TB_TRIG_LAST0_VALUE : Fld := ⟨65013376, 32, 0⟩
abbrev TB_TRIG_LAST1_VALUE : Fld := ⟨65013504, 32, 0⟩
abbrev TB_TRIG_LAST2_VALUE : Fld := ⟨65013632, 32, 0⟩
abbrev TB_TL_LAST0_VALUE : Fld := ⟨65013888, 32, 0⟩
abbrev TB_TL_LAST1_VALUE : Fld := ⟨65014016, 32, 0⟩
abbrev TB_TL_LAST2_VALUE : Fld := ⟨65014144, 32, 0⟩
abbrev TB_LAUNCH_LAST0_VALUE : Fld := ⟨65014784, 32, 0⟩
abbrev TB_LAUNCH_LAST1_VALUE : Fld := ⟨65014912, 32, 0⟩
abbrev TB_LAUNCH_LAST2_VALUE : Fld := ⟨65015040, 32, 0⟩
abbrev TB_TL_CFG_EN : Fld := ⟨65013791, 1, 0⟩
abbrev TB_TL_CFG_MAX : Fld := ⟨65013785, 4, 0⟩
abbrev TB_TL_CFG_PEAK : Fld := ⟨65013776, 9, 0⟩
abbrev TB_TL_CFG_LEN : Fld := ⟨65013760, 11, 0x64⟩
abbrev TB_TL_COUNT_COUNT : Fld := ⟨65014272, 32, 0⟩
abbrev TB_TL_REFUSED_COUNT : Fld := ⟨65014400, 32, 0⟩
abbrev TB_TRIG_COUNT_COUNT : Fld := ⟨65014528, 32, 0⟩
abbrev TB_CNT_SAT_TRIG_SAT : Fld := ⟨65015298, 1, 0⟩
abbrev TB_CNT_SAT_REF_SAT : Fld := ⟨65015297, 1, 0⟩
abbrev TB_CNT_SAT_TL_SAT : Fld := ⟨65015296, 1, 0⟩
abbrev TB_EVT_CFG_EN (i : Nat) : Fld := ⟨32 * (0x1F0100 + 128 * i) + 31, 1, 0⟩
abbrev TB_EVT_CFG_EDGE (i : Nat) : Fld := ⟨32 * (0x1F0100 + 128 * i) + 29, 2, 0⟩
abbrev TB_EVT_CFG_TMO (i : Nat) : Fld := ⟨32 * (0x1F0100 + 128 * i) + 0, 16, 0⟩
abbrev TB_EVT_STAT_TIMEOUT (i : Nat) : Fld := ⟨32 * (0x1F0104 + 128 * i) + 31, 1, 0⟩
abbrev TB_EVT_STAT_DSAT (i : Nat) : Fld := ⟨32 * (0x1F0104 + 128 * i) + 30, 1, 0⟩
abbrev TB_EVT_STAT_LEVEL (i : Nat) : Fld := ⟨32 * (0x1F0104 + 128 * i) + 16, 11, 0⟩
abbrev TB_EVT_STAT_DROPPED (i : Nat) : Fld := ⟨32 * (0x1F0104 + 128 * i) + 0, 16, 0⟩
abbrev TB_EVT_Q0_WORD (i : Nat) : Fld := ⟨32 * (0x1F0108 + 128 * i) + 0, 32, 0⟩
abbrev TB_EVT_Q1_WORD (i : Nat) : Fld := ⟨32 * (0x1F010C + 128 * i) + 0, 32, 0⟩
abbrev TB_EVT_Q2_WORD (i : Nat) : Fld := ⟨32 * (0x1F0110 + 128 * i) + 0, 32, 0⟩
abbrev TB_EVT_Q3_WORD (i : Nat) : Fld := ⟨32 * (0x1F0114 + 128 * i) + 0, 32, 0⟩
abbrev TB_STAT_CFG_GO (i : Nat) : Fld := ⟨32 * (0x1F0118 + 128 * i) + 31, 1, 0⟩
abbrev TB_STAT_CFG_CONT (i : Nat) : Fld := ⟨32 * (0x1F0118 + 128 * i) + 30, 1, 0⟩
abbrev TB_STAT_CFG_EVT (i : Nat) : Fld := ⟨32 * (0x1F0118 + 128 * i) + 29, 1, 0⟩
abbrev TB_STAT_CFG_MODE (i : Nat) : Fld := ⟨32 * (0x1F0118 + 128 * i) + 28, 1, 0⟩
abbrev TB_STAT_CFG_PARAM (i : Nat) : Fld := ⟨32 * (0x1F0118 + 128 * i) + 0, 24, 0x3E8⟩
abbrev TB_STAT_STAT_BUSY (i : Nat) : Fld := ⟨32 * (0x1F011C + 128 * i) + 31, 1, 0⟩
abbrev TB_STAT_STAT_DONE (i : Nat) : Fld := ⟨32 * (0x1F011C + 128 * i) + 30, 1, 0⟩
abbrev TB_STAT_STAT_INVALID (i : Nat) : Fld := ⟨32 * (0x1F011C + 128 * i) + 29, 1, 0⟩
abbrev TB_STAT_STAT_LOSS (i : Nat) : Fld := ⟨32 * (0x1F011C + 128 * i) + 28, 1, 0⟩
abbrev TB_STAT_STAT_COUNT (i : Nat) : Fld := ⟨32 * (0x1F011C + 128 * i) + 0, 24, 0⟩
abbrev TB_STAT_A_LO_VALUE (i : Nat) : Fld := ⟨32 * (0x1F0120 + 128 * i) + 0, 32, 0⟩
abbrev TB_STAT_A_HI_VALUE (i : Nat) : Fld := ⟨32 * (0x1F0124 + 128 * i) + 0, 32, 0⟩
abbrev TB_STAT_B_LO_VALUE (i : Nat) : Fld := ⟨32 * (0x1F0128 + 128 * i) + 0, 32, 0⟩
abbrev TB_STAT_B_HI_VALUE (i : Nat) : Fld := ⟨32 * (0x1F012C + 128 * i) + 0, 32, 0⟩
abbrev TB_STAT_C_LO_VALUE (i : Nat) : Fld := ⟨32 * (0x1F0130 + 128 * i) + 0, 32, 0⟩
abbrev TB_STAT_C_HI_VALUE (i : Nat) : Fld := ⟨32 * (0x1F0134 + 128 * i) + 0, 32, 0⟩
abbrev TB_STAT_D_LO_VALUE (i : Nat) : Fld := ⟨32 * (0x1F0138 + 128 * i) + 0, 32, 0⟩
abbrev TB_STAT_D_HI_VALUE (i : Nat) : Fld := ⟨32 * (0x1F013C + 128 * i) + 0, 32, 0⟩
abbrev FL_STATUS_UP_LINK : Fld := ⟨67108895, 1, 0⟩
abbrev FL_STATUS_DOWN_LINK : Fld := ⟨67108894, 1, 0⟩
abbrev FL_STATUS_TOPOLOGY : Fld := ⟨67108892, 2, 0⟩
abbrev FL_STATUS_SRC_PORT : Fld := ⟨67108891, 1, 0⟩
abbrev FL_STATUS_MISMATCH : Fld := ⟨67108890, 1, 0⟩
abbrev FL_STATUS_COUNT : Fld := ⟨67108880, 3, 0⟩
abbrev FL_STATUS_ID : Fld := ⟨67108864, 3, 0⟩
abbrev FL_DELAY_UP_VALID : Fld := ⟨67109023, 1, 0⟩
abbrev FL_DELAY_UP_D : Fld := ⟨67108992, 31, 0⟩
abbrev FL_DELAY_DOWN_VALID : Fld := ⟨67109151, 1, 0⟩
abbrev FL_DELAY_DOWN_D : Fld := ⟨67109120, 31, 0⟩
abbrev FL_ASYM_UP_A : Fld := ⟨67109248, 16, 0⟩
abbrev FL_ASYM_DOWN_A : Fld := ⟨67109376, 16, 0⟩
abbrev FL_OFFSET_THETA : Fld := ⟨67109504, 32, 0⟩
abbrev FL_PATH_D : Fld := ⟨67109632, 32, 0⟩
abbrev FL_XT_SENT_COUNT : Fld := ⟨67109888, 32, 0⟩
abbrev FL_XT_RECV_COUNT : Fld := ⟨67110016, 32, 0⟩
abbrev FL_ERR_UP_COUNT : Fld := ⟨67110144, 32, 0⟩
abbrev FL_ERR_DOWN_COUNT : Fld := ⟨67110272, 32, 0⟩
abbrev FL_CNT_SAT_ERRD_SAT : Fld := ⟨67110403, 1, 0⟩
abbrev FL_CNT_SAT_ERRU_SAT : Fld := ⟨67110402, 1, 0⟩
abbrev FL_CNT_SAT_RECV_SAT : Fld := ⟨67110401, 1, 0⟩
abbrev FL_CNT_SAT_SENT_SAT : Fld := ⟨67110400, 1, 0⟩
abbrev BT_STATUS_QUICK : Fld := ⟨69206047, 1, 0⟩
abbrev BT_STATUS_CLEAN : Fld := ⟨69206046, 1, 0⟩
abbrev BT_STATUS_OPEN_SEEN : Fld := ⟨69206045, 1, 0⟩
abbrev BT_STATUS_JOURNAL : Fld := ⟨69206043, 2, 0⟩
abbrev BT_SUMMARY0_A : Fld := ⟨69206160, 10, 0⟩
abbrev BT_SUMMARY0_B : Fld := ⟨69206144, 10, 0⟩
abbrev BT_SUMMARY1_A : Fld := ⟨69206288, 10, 0⟩
abbrev BT_SUMMARY1_B : Fld := ⟨69206272, 10, 0⟩
abbrev BT_LAST_TEST_VALUE : Fld := ⟨69206400, 32, 0⟩
abbrev BT_ROTATION_VALUE : Fld := ⟨69206528, 32, 0⟩
abbrev BT_UNIT_SEL_VALUE : Fld := ⟨69207040, 32, 0⟩
abbrev BT_UNIT_DATA_VALUE : Fld := ⟨69207168, 32, 0⟩
abbrev BT_FAIL_SEL_VALUE : Fld := ⟨69207296, 32, 0⟩
abbrev BT_FAIL_DATA0_VALUE : Fld := ⟨69207424, 32, 0⟩
abbrev BT_FAIL_DATA1_VALUE : Fld := ⟨69207552, 32, 0⟩
abbrev BT_FAIL_DATA2_VALUE : Fld := ⟨69207680, 32, 0⟩
abbrev BT_FAIL_DATA3_VALUE : Fld := ⟨69207808, 32, 0⟩
abbrev BT_RUN_GO : Fld := ⟨69214239, 1, 0⟩
abbrev BT_RUN_ALGO : Fld := ⟨69214224, 2, 0⟩
abbrev BT_RUN_UNIT : Fld := ⟨69214208, 16, 0⟩
abbrev BT_RUN_STATUS_BUSY : Fld := ⟨69214367, 1, 0⟩
abbrev BT_RUN_STATUS_DONE : Fld := ⟨69214366, 1, 0⟩
abbrev BT_RUN_STATUS_REFUSED : Fld := ⟨69214365, 1, 0⟩
abbrev BT_RUN_STATUS_RESULT : Fld := ⟨69214362, 3, 0⟩
abbrev BT_RUN_STATUS_FAILS : Fld := ⟨69214336, 26, 0⟩
abbrev BT_SEED_VALUE : Fld := ⟨69214464, 32, 1⟩
abbrev BT_ACC_ADDR_VALUE : Fld := ⟨69214720, 32, 0⟩
abbrev BT_ACC_DATA_LO_VALUE : Fld := ⟨69214848, 32, 0⟩
abbrev BT_ACC_DATA_HI_VALUE : Fld := ⟨69214976, 32, 0⟩
abbrev BT_ACC_CHECK_VALUE : Fld := ⟨69215104, 32, 0⟩
abbrev BT_ACC_CMD_CMD : Fld := ⟨69215232, 3, 0⟩
abbrev NV_STATUS_BUSY : Fld := ⟨71303199, 1, 0⟩
abbrev NV_STATUS_FALLBACK : Fld := ⟨71303198, 1, 0⟩
abbrev NV_STATUS_DONE : Fld := ⟨71303197, 1, 0⟩
abbrev NV_STATUS_ACTIVE : Fld := ⟨71303196, 1, 0⟩
abbrev NV_STATUS_RESULT : Fld := ⟨71303192, 4, 0⟩
abbrev NV_STATUS_SLOT_MIB : Fld := ⟨71303184, 8, 0⟩
abbrev NV_STATUS_CAP : Fld := ⟨71303168, 2, 0⟩
abbrev NV_SLOTA_VALID : Fld := ⟨71303327, 1, 0⟩
abbrev NV_SLOTA_FAIL : Fld := ⟨71303324, 3, 0⟩
abbrev NV_SLOTA_RL : Fld := ⟨71303312, 7, 0⟩
abbrev NV_SLOTA_BUILD : Fld := ⟨71303296, 16, 0⟩
abbrev NV_SLOTB_VALID : Fld := ⟨71303455, 1, 0⟩
abbrev NV_SLOTB_FAIL : Fld := ⟨71303452, 3, 0⟩
abbrev NV_SLOTB_RL : Fld := ⟨71303440, 7, 0⟩
abbrev NV_SLOTB_BUILD : Fld := ⟨71303424, 16, 0⟩
abbrev NV_ROLLBACK_EXHAUSTED : Fld := ⟨71303559, 1, 0⟩
abbrev NV_ROLLBACK_COUNT : Fld := ⟨71303552, 7, 0⟩
abbrev NV_WRITES_COUNT : Fld := ⟨71303680, 32, 0⟩
abbrev NV_CMD_GO : Fld := ⟨71303839, 1, 0⟩
abbrev NV_CMD_CMD : Fld := ⟨71303808, 3, 0⟩
abbrev NV_ADDR_VALUE : Fld := ⟨71303936, 32, 0⟩
abbrev NV_LEN_VALUE : Fld := ⟨71304064, 32, 0⟩
abbrev NV_BUF_DATA (i : Nat) : Fld := ⟨32 * (0x228000 + 4 * i) + 0, 32, 0⟩
abbrev SE_STATUS_BUSY : Fld := ⟨73400351, 1, 0⟩
abbrev SE_STATUS_RESULT : Fld := ⟨73400348, 3, 0⟩
abbrev SE_STATUS_DONE : Fld := ⟨73400347, 1, 0⟩
abbrev SE_STATUS_RETIRED : Fld := ⟨73400325, 1, 0⟩
abbrev SE_STATUS_ZEROISED : Fld := ⟨73400324, 1, 0⟩
abbrev SE_STATUS_TAMPER_CFG : Fld := ⟨73400323, 1, 0⟩
abbrev SE_STATUS_SEAL_KEY : Fld := ⟨73400322, 1, 0⟩
abbrev SE_STATUS_VK_HASH : Fld := ⟨73400321, 1, 0⟩
abbrev SE_STATUS_IMAGE_KEY : Fld := ⟨73400320, 1, 0⟩
abbrev SE_CMD_GO : Fld := ⟨73400479, 1, 0⟩
abbrev SE_CMD_CMD : Fld := ⟨73400448, 3, 0⟩
abbrev SE_KEY_DATA_DATA (i : Nat) : Fld := ⟨32 * (0x230010 + 4 * i) + 0, 32, 0⟩
abbrev SE_VK_HASH_DATA (i : Nat) : Fld := ⟨32 * (0x230040 + 4 * i) + 0, 32, 0⟩
abbrev SE_SEAL_PUB_DATA (i : Nat) : Fld := ⟨32 * (0x230080 + 4 * i) + 0, 32, 0⟩
abbrev SE_KCV_KCV : Fld := ⟨73403392, 32, 0⟩
abbrev SE_TAMPER_CFG_VBATLOSS : Fld := ⟨73406495, 1, 0⟩
abbrev SE_TAMPER_CFG_LEVEL1 : Fld := ⟨73406479, 1, 0⟩
abbrev SE_TAMPER_CFG_MODE1 : Fld := ⟨73406476, 2, 0⟩
abbrev SE_TAMPER_CFG_LEVEL0 : Fld := ⟨73406471, 1, 0⟩
abbrev SE_TAMPER_CFG_MODE0 : Fld := ⟨73406468, 2, 0⟩

end F

/-- The rows of the 64 KiB block with number `b` (R38); a reserved block has none. -/
def blockRows (b : Nat) : List RegRow :=
  if b = 0 then regsLC else
  if b = 1 then regsPM else
  if b = 2 then regsSB else
  if b = 3 then regsTT else
  if b = 4 then regsOP else
  if b = 5 then regsSL else
  if b = 6 then regsFP else
  if b = 7 then regsBS else
  if 8 ≤ b ∧ b ≤ 19 then regsYD else
  if b = 20 then regsFB else
  if b = 21 then regsEV else
  if b = 22 then regsBR else
  if b = 23 then regsSF else
  if b = 24 then regsHK else
  if b = 25 then regsCL else
  if b = 26 then regsDC else
  if b = 27 then regsEC else
  if b = 28 then regsCX else
  if b = 29 then regsCK else
  if b = 30 then regsHW else
  if b = 31 then regsTB else
  if b = 32 then regsFL else
  if b = 33 then regsBT else
  if b = 34 then regsNV else
  if b = 35 then regsSE else
  []

/-- Is `addr` a copy of row `r`? -/
def RegRow.has (r : RegRow) (addr : Nat) : Bool :=
  decide (r.base ≤ addr) &&
  (let d := addr - r.base
   let i := if r.n1 ≤ 1 then 0 else min (d / r.s1) (r.n1 - 1)
   let e := d - i * r.s1
   if r.n2 ≤ 1 then e == 0 else (e % r.s2 == 0) && decide (e / r.s2 < r.n2))

/-- The register row at a control-space address, if the spec defines one there (R38). -/
def findReg (addr : Nat) : Option RegRow := (blockRows (addr / 0x10000)).find? (·.has addr)

/-- The field of row `fr` in the copy of its register at `addr`. Three resets depend on the copy: HW_VEC_MAPr holds VECi = 4r + i
(R348), and CK_CTRLu MODE is 1 for unit 0 alone (R343), and HKA's
injected entry i reads input i (R288). -/
def FieldRow.at (fr : FieldRow) (addr : Nat) : Fld :=
  let rst :=
    if 0x1E0070 ≤ addr ∧ addr < 0x1E0080 then (addr - 0x1E0070) + fr.lo / 8
    else if addr / 0x10000 = 0x1D ∧ addr % 0x100 = 0 ∧ addr ≠ 0x1D0000 ∧ fr.hi = 1 then 0
    else if 0x180060 ≤ addr ∧ addr < 0x180070 then (addr - 0x180060) / 4
    else fr.reset
  ⟨32 * addr + fr.lo, fr.hi + 1 - fr.lo, rst⟩

/-- The access type of a field in its copy: in HKA the injected group's fields are RO, and PAIR exists in HKA alone (R288); byte 0
of HW_VEC_MAP0 is reserved (R355). -/
def FieldRow.accAt (fr : FieldRow) (addr : Nat) : Acc :=
  if (addr = 0x180000 ∧ fr.hi ≤ 19 ∧ 16 ≤ fr.lo ∧ fr.hi ≠ 23) ∨ (0x180060 ≤ addr ∧ addr < 0x180070)
    ∨ (addr = 0x180100 ∧ fr.hi = 31) ∨ (addr = 0x1E0070 ∧ fr.lo = 0) then .ro else fr.acc

end Sys2Proof.Machine
end

