-- ==== Sys2Proof/Config.lean ====
section
/-!
DEFINITION. Config.lean: what one implementation or one part fixes and the spec does not, and the free values. A constant
declared here with opaque has no body a proof can see: every statement about it holds for every value. The assumption log names
each one.
-/
namespace Sys2Proof.Config

/-- A value the spec leaves open (log entry 1): the n-th free value drawn by the machine, as `w` bits. -/
opaque freeValue : (w : Nat) → (n : Nat) → BitVec w

/-- The code that a section's program issues for a band (R155, log entry 1): fixed by the image, here its build number and the timetable's index, the
section, the band and the block's inputs. -/
opaque bandCode : (build timetable section_ : Nat) → (nf lo hi : Nat) → (inputs : List Int) → BitVec 16

/-- Value `i` of a feature sample of a channel (R156, log entry 1): what the customer code of the image makes of the channel's fine outputs up to the
launch with the given stamp, the latest of them given. -/
opaque featureValue : (build timetable section_ chan stamp i : Nat) → (fines : List Int) → BitVec 16

/-- Whether the C flag of a 16-bit subtraction is the borrow, or its complement (log entry 9): R220 says that C is written and R200 calls it
the carry. -/
opaque subCarryIsBorrow : Bool

/-- How far breakpoint j of factory linearisation table 0 or 1 lies above the one before it, less 1 mΩ, and the temperature (0.001 °C) of a breakpoint
between the first and the last: the spec names the tables by their standard (R271, log entry 41). -/
opaque rtdStep : (table j : Nat) → Nat
opaque rtdTemp : (table j : Nat) → Int

/-- The thermistor's temperature by the TEC loop's factory curve, in 0.001 °C from 25 °C (log entry 123): R273 and R279 name the curve alone. -/
opaque thermistor : (code : Nat) → Int

/-- T_SET for a grid channel from the factory laser calibration, in 0.001 °C from 25 °C (log entry 123): R279 names the calibration alone. -/
opaque laserSet : (channel : Int) → Int

/-- The first half of the channeliser's prototype filter in units of 2⁻³⁰ (log entry 7): R115 gives it 1,024 real, symmetric taps, and R116 bounds
its response without stating a tap. -/
opaque prototype : (i : Nat) → Int

/-- Value m of n of a reference window of FP_CTRL MF_WIN other than the rectangular one (log entry 7), in units of 2⁻¹⁶: R139 names the windows
and not how they are sampled. -/
opaque windowTap : (window n m : Nat) → Nat

/-- The binary places by which stage 6 of the front pipeline brings a product of two 24-bit values to its format (log entry 8): R113 gives the
format, and no rule the scale. -/
opaque diffShift : Nat

/-- The receive noise power of a slot at the matched filter's output (log entry 7), for the noise floor of FP_SLOT_NOISE, the reference and the
shift: R126 derives it from the floor and does not say how. -/
opaque slotNoise : (floor : Int) → (taps : List (Int × Int)) → (shift : Nat) → Nat

/-- The word that the signal box makes of a code word which the relocation table of its program names with a kind, for the places at which the yard's
composition puts the program (log entry 107): R197 and R198 say that programs are relocated and give no kind a meaning. -/
opaque relocated : (word kind : Nat) → (places : List Nat) → BitVec 32

/-- The SHA-256 of the Kamros factory key, held in boot ROM (R413, log entry 2): the spec does not state it. -/
opaque factoryKeyHash : List (BitVec 8)

/-- How many recently used check lines the memory controller keeps on die (log entry 122): R291 gives no number. -/
opaque checkLines : Nat

end Sys2Proof.Config
end

