-- ==== Sys2Proof/Machine/State.lean ====
section
/-!
DEFINITION. Machine/State.lean: everything the spec gives the machine, as plain data. Register fields stand in `regs` (one entry for
each field that differs from its reset value; Machine/RegMap.lean names them), bytes of memory in `mem`, and what the spec describes
without a register of its own in one structure per block. Instants are in ticks of 2⁻¹⁶ ns since the model's origin.
-/
namespace Sys2Proof.Machine

/-- One stage of a decimation chain as a block-section descriptor declares it (R168): decimation, length, shift and coefficients. -/
structure ChainStage where
  d : Nat
  sh : Nat
  coef : List Int
deriving DecidableEq, Repr

/-- The figures of a program header (R198): its section, code words and entry, constants, scratch, resident and DRAM state words, FFT window, yard
constants, the weights of an input (in 1/256), of a share and of its longest share, and the FFT load (in 1/256); the
byte offsets of its code with the constants, and of its relocation table. -/
structure ProgHeader where
  sect : Nat
  codeWords : Nat
  entry : Nat
  xConst : Nat
  yConst : Nat
  xScratch : Nat
  yScratch : Nat
  sw : Nat
  ext : Nat
  fftWindow : Nat
  yardConst : Nat
  inputWeight : Nat
  shareWeight : Nat
  longest : Nat
  fftLoad : Nat
  codeOff : Nat
  relocOff : Nat
deriving DecidableEq, Repr

/-- What a timetable declares of one block section (R168): the 32 words of its descriptor, its chain block with palette A as the coefficients of the
last stage, palette B and the bands LO–HI, whether the chain block is long enough, its program header (R198), and what its customer feature code
declares: unit (binary32), delay and identity (R156, R160). -/
structure SectionDesc where
  words : List Nat
  stages : List ChainStage
  paletteB : List Int
  bands : List (Nat × Nat)
  chainOk : Bool
  prog : ProgHeader
  featUnit : Nat
  featDelay : Nat
  featId : Nat
deriving DecidableEq, Repr

/-- An event as it is raised (R464): code, instance, suppressed raises, the value of bytes 4–7 and the instant of its stamp. `whole`
replaces the whole argument where R464 says so. -/
structure Ev where
  code : Nat
  inst : Nat
  supp : Nat
  val : Nat
  whole : Option Nat
  stamp : Nat
deriving DecidableEq, Repr

/-- A notice-board entry (R346): stamp (96 bits), code, module ID, argument and entry number. -/
structure NbEntry where
  stamp : Nat
  code : Nat
  modId : Nat
  arg : Nat
  number : Nat
deriving DecidableEq, Repr

/-- Event posting (R346–R348, R387, R463–R469): events raised and not yet posted, the notice board, the start log, the F conditions in
force, the rate-limit record of R465 and the MSI-X table. -/
structure Events where
  outbox : List Ev := []
  placed : Bool := false
  nb : List (Nat × NbEntry) := []
  lostDue : Nat := 0
  log : List Ev := []
  logLost : Nat := 0
  conds : List (Nat × Nat) := []
  rate : List (Nat × (Nat × Nat)) := []
  masked : Nat := 0xFFFFFFFF
  pba : Nat := 0
  messages : List (Nat × Nat) := []
  unannounced : Nat := 0
  oldest : Option Nat := none
deriving DecidableEq, Repr

/-- The launch scheduler (R45–R55, R472): the sweeps started since commit (unwrapped) and since the last epoch, the start of the sweep in
progress, the waveform words of each slot (active and shadow, R52), the withheld launches with the latest withheld first, each launch's
latest energies (key: group, or 16 for the Brillouin pulse), the launches whose instant in the present sweep has been taken (R17; key as before,
and 17 for the reserved diagnostic window), the run of R47 for each slot (last sweep, length), the drive waveform last
played with its peak power in tenths of a dBm, the light under way (from, to), the stamps of the latest scheduled and triggered
launches, and the triggered launches of the sweep. -/
structure Sched where
  sweeps : Nat := 0
  brilCount : Nat := 0
  sweepStart : Nat := 0
  wave : List (Nat × List Nat) := []
  waveShadow : List (Nat × List Nat) := []
  withheld : List Nat := []
  energy : List (Nat × (Nat × Nat)) := []
  taken : List Nat := []
  tailRun : List (Nat × (Nat × Nat)) := []
  played : List (Int × Int) := []
  playedPeak : Int := 0
  light : Option (Nat × Nat) := none
  launchStamp : Nat := 0
  trigStamp : Nat := 0
  trigCount : Nat := 0
  trigWindows : List (Nat × Nat) := []
deriving DecidableEq, Repr

/-- Why a re-test pulse is owed (R76, R83). -/
inductive Retest where
  | loop
  | launchOpen
deriving DecidableEq, Repr

/-- The optical engine (R69–R91, R472) beside its registers. The causes and the state are in OP_STATE. `examined` is the instant of the probe
group's launch that break detection has judged last (R85), `breakAt` that of the latest confirmation (R86). -/
structure Optics where
  off : Bool := true
  window : List (Nat × (Nat × Nat)) := []
  cuts : List Nat := []
  loopChecked : Bool := false
  loopFailed : Bool := false
  loopRun : Bool := false
  diagSweep : Option Nat := none
  diagFrom : Option Nat := none
  owed : List Retest := []
  fuseOpen : Option Nat := none
  dmRunning : Bool := false
  dmDeadline : Option Nat := none
  dmLimit : Nat := 0
  lastKick : Option Nat := none
  kickSince : Bool := false
  ends : List Nat := []
  collecting : Bool := false
  refValid : Bool := false
  breakRun : Nat := 0
  breakFirst : Nat := 0
  examined : Option Nat := none
  breakAt : Nat := 0
  cleanRun : Nat := 0
  beyondRef : Bool := false
  ampSeen : Bool := false
  ampSince : Nat := 0
deriving DecidableEq, Repr

/-- A timetable switch request (R58–R61): index, mode and the requested second, and on a module 1–7 of an array module 0's T_L and G for the
index (R63, R376). -/
structure SwitchReq where
  index : Nat
  mode : Nat
  second : Nat
  grid : Option (Nat × Nat) := none
deriving DecidableEq, Repr

/-- The timetable switch (R58–R63): the timetables of the running image, which of them may be selected (R23, R44, R57), the lead with how far it
has come (0 no lead, 1 PENDING, 2 PREPARING, 3 READY) and the queued request, the instant of READY, an epoch whose switch is not shown as DONE yet (new and old index), for an array the modules that have
reported READY with the instants and the epoch chosen by module 0, the number of epochs since commit, the instant of the last one and the
timetable that was active before it (R193). -/
structure Switch where
  timetables : List Timetable := []
  selectable : List Nat := []
  lead : Option SwitchReq := none
  phase : Nat := 0
  queued : Option SwitchReq := none
  readyAt : Nat := 0
  done : Option (Nat × Nat) := none
  reports : List (Nat × Nat) := []
  arrayEpoch : Option Nat := none
  epochs : Nat := 0
  epochAt : Nat := 0
  prev : Option Nat := none
deriving DecidableEq, Repr

/-- One SAR slice of a lane (R98, R99): its corrections (offset in 1/64 LSB, gain in ppm, timing in 0.01 ps), failed reference
calibrations in a row, whether one has completed since start, and retirement. -/
structure Slice where
  ofs : Int := 0
  gain : Int := 0
  time : Int := 0
  fails : Nat := 0
  done : Bool := false
  retired : Bool := false
deriving DecidableEq, Repr

/-- A sampling lane (R98–R103): its 65 slices, the slice that is offline for reference calibration (none once a slice is retired, R99), and the
sweeps in a row in which its skew lay off. -/
structure Lane where
  slices : List (Nat × Slice) := []
  offline : Option Nat := some 64
  skewRun : Nat := 0
deriving DecidableEq, Repr

/-- The alignment of one slot at each range bin (R122): is X the pivot polarisation, and the tracked alignment a_k[b] with 16 fraction
bits. -/
structure SlotAlign where
  pivX : List Bool := []
  a : List (Int × Int) := []
deriving DecidableEq, Repr

/-- One diversity group in the front pipeline (R122–R127): its slots' alignment, the pivot slot and the tracked alignment e_k[b] at each
bin, and of its latest complete launch the values v[b], fade bits, noise power, sequence number, sweep count, stamp, instant and segment
flags, with the fraction of D_RX and the lowest member slot that held at it; whether a restart is due, whether it is the commit's, and the
launches left of the SETTLE run. -/
structure GroupPipe where
  slots : List (Nat × SlotAlign) := []
  pivot : List Nat := []
  e : List (Nat × List (Int × Int)) := []
  v : List (Int × Int) := []
  faded : List Bool := []
  noise : Nat := 0
  seq : Nat := 0
  sweep : Nat := 0
  stamp : Nat := 0
  at_ : Nat := 0
  flags : Nat := 0
  launched : Bool := false
  restart : Bool := true
  atCommit : Bool := true
  settleLeft : Nat := 0
  frac : Nat := 0
  low : Nat := 0
deriving DecidableEq, Repr

/-- Where a section's channels lie (R129, R141): x_0 and p in mm, g in bins, and N. -/
structure SectGeom where
  x0 : Nat
  pitch : Nat
  gauge : Nat
  n : Nat
deriving DecidableEq, Repr

/-- A segment (R133): section, group, flags, pulse sequence number, first channel, pivot slot, launch stamp, sweep count, the phase code,
FADE and BEYOND_END bit of each channel, and the instant of the launch. -/
structure Segment where
  section_ : Nat
  group : Nat
  flags : Nat
  seq : Nat
  first : Nat
  pivot : Nat
  stamp : Nat
  sweep : Nat
  codes : List Int
  fade : List Bool
  beyond : List Bool
  launch : Nat
deriving DecidableEq, Repr

/-- The front pipeline (R113–R140): the groups, the polarisations present at the last launch, the mean of the interferometer's argument
that stands in while RI_OK is 0 (2⁻⁵⁶ turn), the bins to be copied for R140 (amplitude and fade bit) with the pulse sequence number and
sweep count of their launch, the bins of the copy that stands in DRAM, the counts of the second in progress, the segments that wait to be emitted with the number of epochs before their launch
(R134, R193), and the matched-filter references. -/
structure FrontPipe where
  groups : List (Nat × GroupPipe) := []
  presX : Bool := true
  presY : Bool := true
  riMean : Int := 0
  copy : List (Option Int × Bool) := []
  copyOf : Option (Nat × Nat) := none
  copyLen : Nat := 0
  bins : Nat := 0
  chans : Nat := 0
  segs : Nat := 0
  queue : List (Segment × Nat) := []
  refs : List (Nat × List (Int × Int)) := []
deriving DecidableEq, Repr

/-- How far back a stream of values has been free of SETTLE, of BEYOND_END and of HOLDOVER, and for how long it has carried FADE (R149). -/
structure Runs where
  settle : Nat := 0
  fade : Nat := 0
  beyond : Nat := 0
  hold : Nat := 0
deriving DecidableEq, Repr

/-- The quality of one value (R149). -/
structure Quality where
  fade : Bool := false
  beyond : Bool := false
  settle : Bool := false
  hold : Bool := false
deriving DecidableEq, Repr

/-- A product value of one channel for one sample (R159): sample index, values, quality, launch stamp, shed level and palette bits. -/
structure Val where
  m : Nat
  vs : List Int
  q : Quality
  stamp : Nat
  shed : Nat
  pal : Nat
deriving DecidableEq, Repr

/-- A detector window in progress (R152): samples taken, samples without FADE, largest magnitude, sum of squares, and the envelope. -/
structure Window where
  taken : Nat := 0
  live : Nat := 0
  peak : Nat := 0
  sumsq : Nat := 0
  env : Nat := 0
deriving DecidableEq, Repr

/-- The alarm of one detector of one channel (R153): in alarm, and the windows of the present run. -/
structure Alarm where
  on : Bool := false
  run : Nat := 0
deriving DecidableEq, Repr

/-- One channel of a section (R143–R156): the index after its last received input, the phase code of that input, how many inputs were
received and taken since the restart, the group offsets, the input history (newest first), the delay lines and phases of the chain, its
output count, the halving pair, the sketch sum, the detector window, the three alarms, the band and feature phases, the quality runs
of inputs, chain inputs and detector source, and the index of the input that the fine chain began with. -/
structure Chan where
  next : Nat := 0
  theta : Int := 0
  received : Nat := 0
  taken : Nat := 0
  offs : List (Nat × Int) := []
  hist : List Int := []
  inRuns : Runs := {}
  halved : Bool := false
  pair : Option (Int × Quality) := none
  lines : List (Nat × List Int) := []
  chainRuns : Runs := {}
  fine : Nat := 0
  sketchSum : Int := 0
  window : Window := {}
  detRuns : Runs := {}
  windows : Nat := 0
  alarms : List (Nat × Alarm) := []
  featQ : List (Int × Quality) := []
  fineFrom : Nat := 0
deriving DecidableEq, Repr

/-- The settings of a section that its values depend on, as its timetable gives them (R141–R163), with the timetable's index. -/
structure SecCfg where
  tt : Nat := 0
  g : Nat := 1
  tl : Nat := 0
  lF : Nat := 0
  prio : Nat := 0
  stages : List ChainStage := []
  paletteB : List Int := []
  bands : List (Nat × Nat) := []
  x0 : Nat := 0
  pitch : Nat := 0
  gauge : Nat := 0
  n : Nat := 0
  ofsK : Nat := 10
  scShift : Nat := 15
  scale : Int := 16384
  outLsb : Nat := 0
  skShift : Nat := 0
  dk : Nat := 1
  src : Nat := 0
  att : Nat := 2
  rel : Nat := 8
  w : Nat := 100
  log2nf : Nat := 10
  nb : Nat := 0
  fs : Nat := 256
  fc : Nat := 4096
  v : Nat := 0
  fdiv : Nat := 1
  palSrc : Nat := 0
  palFade : Nat := 64
  featUnit : Nat := 0
  featDelay : Nat := 0
  featId : Nat := 0
deriving DecidableEq, Repr

/-- The values of one product that wait for their frames (R161): for each channel the samples of the range in progress, whether the product
was enabled when the range began (R162), and the sample of the range's start. -/
structure Queue where
  vals : List (Nat × List Val) := []
  enabled : Bool := false
deriving DecidableEq, Repr

/-- A storm accumulator (R165). -/
structure Storm where
  stamp : Nat
  low : Nat
  high : Nat
  ons : Nat
  offs : Nat
deriving DecidableEq, Repr

/-- A block section (R141–R165): its settings in force and the ones that an epoch has brought (with whether it restarts), the restart due
(`some true` raises 0x0443), the restart input, its channels, product queues, the fine outputs
evaluated for a palette request, the fades (first output, palette and length, newest first), the products inside their SETTLE run, the requests,
the storm accumulator, the live levels that launches before an epoch keep (R150, R154), and the launch whose fine output the palette
controller has counted last (R214), and the restart input that the dispatcher counts from: the epoch that it was in, its sweep and group (R143,
R202). -/
structure Section where
  cfg : SecCfg := {}
  next : List (Nat × (SecCfg × Bool)) := []
  epoch : Nat := 0
  restart : Option Bool := none
  s0 : Nat := 0
  g0 : Nat := 0
  chans : List (Nat × Chan) := []
  queues : List (Nat × Queue) := []
  palDone : Nat := 0
  fades : List (Nat × (Nat × Nat)) := []
  settling : List Nat := []
  collected : Option Nat := none
  pendingReq : Option Nat := none
  chainBase : Nat := 0
  halved : Bool := false
  level : Nat := 0
  storm : Option Storm := none
  oldLevels : Option (Nat × List Nat) := none
  lastOut : Option (Nat × Nat) := none
  start : Option (Nat × (Nat × Nat)) := none
deriving DecidableEq, Repr

/-- A detector record (R164, R165): the 32 bytes as one number, least significant byte first. -/
abbrev DetRecord := Nat

/-- A built frame before it is coded and placed (R324): stream, product, sequence number, first-sample stamp, first channel, channel and
sample counts, flags (R325), preamble, values of the value array with their number for each channel and sample, and quality map. -/
structure Frame where
  stream : Nat
  product : Nat
  seq : Nat
  stamp : Nat
  first : Nat
  chans : Nat
  samples : Nat
  flags : Nat
  preamble : List (BitVec 8)
  v : Nat
  vals : List Int
  qmap : List (BitVec 8)
deriving DecidableEq, Repr

/-- One write to an engine register that later instructions may not see yet (R209): the writer's place in instruction order, from which
following instruction the two classes of readers see it, and the value. -/
structure Wr where
  ic : Nat
  d1 : Nat
  d2 : Nat
  v : Int
deriving DecidableEq, Repr

/-- An engine register: its settled value and the recent writes, newest first (R209). -/
structure Cell where
  base : Int := 0
  log : List Wr := []
deriving DecidableEq, Repr

/-- A PUT (R212): channel within the share, product, index, value and the QF, QB and QS bits. -/
structure PutVal where
  ch : Nat
  p : Nat
  v : Nat
  val : Int
  qf : Bool
  qb : Bool
  qs : Bool
deriving DecidableEq, Repr

/-- A TRN (R213): channel within the share, detector, transition, value and level. -/
structure TrnRec where
  ch : Nat
  k : Nat
  x : Nat
  val : Nat
  level : Nat
deriving DecidableEq, Repr

/-- What one share hands to the marshalling buffer (R203, R212–R214). -/
structure ShareOut where
  idx : Nat
  puts : List PutVal := []
  trns : List TrnRec := []
  palr : Option Nat := none
  fout : Bool := false
deriving DecidableEq, Repr

/-- An outstanding FILL or SPILL (R218): direction, first DRAM byte, whether the local end is in the yard, its first word, X or Y memory,
and the words. -/
structure Transfer where
  spill : Bool
  dram : Nat
  yard : Bool
  word : Nat
  xmem : Bool
  n : Nat
deriving DecidableEq, Repr

/-- The share that an engine runs: its job's tag, its number, first channel within the job and channel count, the instant of its start,
and, where it runs instruction by instruction, the layout and the program header. -/
structure ShareRun where
  tag : Nat
  idx : Nat
  first : Nat
  count : Nat
  start : Nat
  layout : Option ShareLayout
  hdr : Option ProgHeader
deriving DecidableEq, Repr

/-- One copy of an engine's banked registers (R199): data, addresses, accumulators and flags. -/
structure Bank where
  d : List (Nat × Cell) := []
  a : List (Nat × Cell) := []
  aca : Cell := {}
  acb : Cell := {}
  flg : Nat := 0
deriving DecidableEq, Repr

/-- An engine (R199, R209–R218): the registers of the bank in use and the idle bank (R201), the instruction counter of R209, the delay slot (`some target` in one,
with the address that a taken branch goes to), the repeat that the next instruction runs under, the instruction that waits for the FFT unit
or a transfer, the scratch words written since share entry, the transform in hand with its scaling count, the outstanding transfer and
the results so far. -/
structure Eng where
  run : Option ShareRun := none
  d : List (Nat × Cell) := []
  a : List (Nat × Cell) := []
  m : List (Nat × Cell) := []
  aca : Cell := {}
  acb : Cell := {}
  flg : Nat := 0
  lc : Nat := 0
  pc : Nat := 0
  stack : List Nat := []
  cursor : Nat := 0
  ic : Nat := 0
  slot : Option (Option Nat) := none
  rep : Option Nat := none
  wait : Option (EOp × Bool) := none
  written : List (Nat × Bool) := []
  fb : Bool := false
  scal : Nat := 0
  xfer : Option Transfer := none
  out : ShareOut := { idx := 0 }
  idle : Bank := {}
deriving DecidableEq, Repr

/-- A request for a yard's FFT unit (R216, R217): engine number in the yard (8 for the Brillouin channel), first yard word, log₂ N and the
options; for the Brillouin channel its bin and the sequence to be transformed, empty once the profile is given up (R251). -/
structure FftReq where
  eng : Nat
  word : Nat
  log2n : Nat
  inv : Bool
  hann : Bool
  bin : Nat := 0
  seq : List (Int × Int) := []
deriving DecidableEq, Repr

/-- A yard's FFT unit: the requests that wait, in arrival order, and the one it serves. -/
structure FftUnit where
  queue : List FftReq := []
  busy : Option FftReq := none
deriving DecidableEq, Repr

/-- A job (R176–R181): tag, segment, epoch, home yard, the levels and shed level it was created with (R154, R192), the instant it was
queued, shares started and ended, a faulted share, promotion, and what its shares handed over; for shares run instruction by
instruction, whether it is a restart input, with the restart input's sweep and group, and its input index and gap (R143, R202). -/
structure Job where
  tag : Nat
  seg : Segment
  epoch : Nat
  yard : Nat
  levels : List Nat
  shed : Nat
  queued : Nat
  taken : Nat := 0
  ended : Nat := 0
  faulted : Bool := false
  promoted : Bool := false
  stepped : Bool := false
  restart : Bool := false
  start : Nat × Nat := (0, 0)
  index : Nat := 0
  gap : Nat := 0
  outs : List ShareOut := []
deriving DecidableEq, Repr

/-- A track (R172, R173): section, run, home yard, planned weights per launch in 1/256, and of its last completed input the index plus 1,
the restart input's sweep and group, the epoch and whether its
fine path was halved (R163); the home yard before the last epoch (R193; 12: none); and where its channel state lies: yard, first word of the
resident state and DRAM byte address (R173, R193). -/
structure Track where
  sect : Nat
  run : Nat
  yard : Nat
  weight : Nat
  next : Option Nat := none
  start : Nat × Nat := (0, 0)
  epoch : Nat := 0
  halved : Bool := false
  oldYard : Nat := 12
  place : Option (Nat × (Nat × Nat)) := none
deriving DecidableEq, Repr

/-- The engine fabric (R170–R193): the segment store, oldest first, with each segment's epoch; the tracks and those of the timetable being
prepared; the jobs in flight in order of creation; engines, FFT units and the epoch of each yard's code; the fault instants of each
engine; engine time spent in shares in the window, the window's start, since when the dispatcher has been stopped, windows below LO in a
row, instants of the last rung change and removal and since when the ladder may fall; and the yard memory banks (8 × yard + bank) and yard
FFT units that this start has taken out of service (R318, R429); since when the store has been below half (R184); the utilisation of each quadrant
in the last window (R186), which no register shows; and the 16-bit words of engine and yard memory that stand uncorrectable, by byte address, each
with whether it holds code or constants (R204, R298, R319). -/
structure Fabric where
  store : List (Segment × Nat) := []
  tracks : List Track := []
  nextTracks : List Track := []
  jobs : List Job := []
  engines : List (Nat × Eng) := []
  fft : List (Nat × FftUnit) := []
  code : List (Nat × Nat) := []
  faultAt : List (Nat × List Nat) := []
  busy : List (Nat × Nat) := []
  winFrom : Nat := 0
  stopped : Option Nat := none
  lowRun : Nat := 0
  rungAt : Option Nat := none
  removedAt : Option Nat := none
  calmFrom : Option Nat := none
  banksOut : List Nat := []
  fftOut : List Nat := []
  halfFrom : Option Nat := none
  quadUtil : List Nat := []
  bad : List (Nat × Bool) := []
deriving DecidableEq, Repr

/-- A trigger placed on a capture line (R226–R228): source (0 TRIG_IN, 1 Flotis, 2 detector, 3 host), corrected instant in ticks of the time
base, and, once its input's row exists, the instant of that and the input. -/
structure Trig where
  src : Nat
  at_ : Int
  ready : Option (Nat × Int) := none
deriving DecidableEq, Repr

/-- An open capture (R230–R234, R238): its window and trigger input in unbroken input numbers, the trigger's input n and instant, sources,
counts, whether MAX_LEN cut it, first slot, rows, their flags, H at the first row, GAP, opened by QUEUE, and dead time. -/
structure Capture where
  start : Int
  stop : Int
  trig : Int
  trigN : Nat
  at_ : Int
  sources : Nat
  merged : Nat := 0
  cut : Bool := false
  slot : Option Nat := none
  rows : Nat := 0
  flags : Nat := 0
  h0 : Nat := 0
  gap : Bool := false
  queued : Bool := false
  dead : Nat := 0
deriving DecidableEq, Repr

/-- A row that a line retains (R224, R237): unbroken input number, slot, flags and H. -/
structure RowKept where
  input : Int
  slot : Nat
  flags : Nat
  h : Nat
deriving DecidableEq, Repr

/-- The row being gathered from the segments of one launch: its first segment, and the codes and quality bits so far. -/
structure PartRow where
  seg : Segment
  flags : Nat
  codes : List Int
  fade : List Bool
  beyond : List Bool
deriving DecidableEq, Repr

/-- The rows of a record not consumed, in the ring as it was when they were stored (R237, R239): record number, first slot, rows, row size and the
slots of the ring. -/
structure HeldRows where
  no : Nat
  first : Nat
  rows : Nat
  size : Nat
  ring : Nat
deriving DecidableEq, Repr

/-- A capture line (R223–R239) beside its registers: the row being gathered, triggers, open captures in order of opening, fill start, the input
at which it entered ARMED, rows retained (newest first), the next slot, the last input stored or passed with its instant, the rows of
records not consumed, triggers ignored since the previous record, the policy in force, whether a write of
ARM = 0 awaits the next input, whether it is BLOCKED, the inputs from the fill start to that of entering ARMED (R234), the instant of
the epoch that set the line up, the instant after which the next input is the fill start (R230), and the inputs at which the line has met another H
than before, newest first, with that H (R235). -/
structure Line where
  part : Option PartRow := none
  trigs : List Trig := []
  caps : List Capture := []
  fill : Int := 0
  armedAt : Option Int := none
  kept : List RowKept := []
  wrSlot : Nat := 0
  last : Option (Int × Int) := none
  held : List HeldRows := []
  ignored : Nat := 0
  policy : Nat := 0
  armed : Bool := false
  disarm : Bool := false
  blocked : Bool := false
  deadLen : Nat := 0
  setAt : Nat := 0
  fresh : Option Nat := none
  rates : List (Int × Nat) := []
deriving DecidableEq, Repr

/-- The launches of a section as the recorder numbers them (R143, R224): sweep and group of the latest, its unbroken number, its input n, and
whether the next one restarts the numbering. -/
structure Stream where
  seen : Bool := false
  sweep : Nat := 0
  group : Nat := 0
  abs : Int := 0
  n : Nat := 0
  restart : Bool := true
deriving DecidableEq, Repr

/-- The event recorder (R223–R242): lines, section streams, the rate level that the next sweep boundary brings, the instants of the latest
BW_SHORT and lowering, the end of the TRIG_OUT pulse with the pin's level, and the cross-triggers sent (line, corrected instant). -/
structure Recorder where
  lines : List (Nat × Line) := []
  streams : List (Nat × Stream) := []
  target : Nat := 0
  shortAt : Option Nat := none
  loweredAt : Option Nat := none
  trigOut : Bool := false
  trigOutEnd : Nat := 0
  crossSent : List (Nat × Int) := []
deriving DecidableEq, Repr

/-- A sum of lag products (R247, R298): the area of DRAM records that holds it, the flushes into it, the launches and their lag products that still
stand on the die, bin by bin, and the bins whose record has been cleared. -/
structure LagSum where
  slot : Nat := 0
  flushes : Nat := 0
  dieN : Nat := 0
  die : List (List (Int × Int)) := []
  bad : List Nat := []
deriving DecidableEq, Repr

/-- A Brillouin accumulation block (R247, R257): launches, lag sums, first and last launch instant, the stamp of the last launch,
holdover, and, once closed, the coil's RTD reading in 0.001 °C and whether it was faulty. -/
structure BrBlock where
  n : Nat := 0
  sum : LagSum := {}
  first : Nat := 0
  last : Nat := 0
  stamp : Nat := 0
  hold : Bool := false
  coil : Option Int := none
  coilBad : Bool := false
deriving DecidableEq, Repr

/-- A Brillouin baseline (R248–R250): launches, lag sums, the launch signature (group and peak, once a launch has given it), the timetable
index, RWL values, laser channel and delay under which it was taken, and the CRC-32C of its records. -/
structure BrBase where
  n : Nat := 0
  sum : LagSum := {}
  sig : Option (List (Nat × Nat)) := none
  key : List Nat := []
  crc : Nat := 0
deriving DecidableEq, Repr

/-- A profile being formed (R251, R257): its blocks, M, the bins that lost a record, each bin's power of two, the bins whose transform is not
complete, and, for a bin that is transformed, the scaling count and the real parts. -/
structure BrJob where
  blocks : List BrBlock := []
  m : Nat := 0
  bad : List Nat := []
  scale : List Int := []
  left : List Nat := []
  points : List (Nat × (Nat × List Int)) := []
deriving DecidableEq, Repr

/-- The Brillouin channel (R245–R264): the baseline held and the one being taken with its start, the end of the last baseline, the block in
progress, its number and the blocks held (oldest first), t_B, the profile that is due, since when launches have been passed over for signature
and since when the synthesiser has been unlocked, the last good anchor offset (binary64 bits), and the last profile's spectra as binary32 words
of the points −M to +M for each bin. -/
structure Bril where
  base : Option BrBase := none
  basing : Option (Nat × BrBase) := none
  baseAt : Nat := 0
  block : BrBlock := {}
  k : Nat := 0
  blocks : List BrBlock := []
  tB : Nat := 0
  job : Option BrJob := none
  skipFrom : Option Nat := none
  unlockFrom : Option Nat := none
  anchor : Option Nat := none
  spec : List (List Nat) := []
  specM : Nat := 0
deriving DecidableEq, Repr

/-- An RTD channel (R266–R271): the excitation it uses (1–3, 0 before its first dwell), its last good fine value with its Q, whether it has
had a good value since commit, whether it is out of service after a fault, and whether it keeps the coarse value of an interrupted dwell. -/
structure Rtd where
  amp : Nat := 0
  fine : Option (Nat × Nat) := none
  any : Bool := false
  fault : Bool := false
  kept : Bool := false
deriving DecidableEq, Repr

/-- A housekeeping converter (R274–R278): the regular entry it converts next and the instant its sequence was triggered, the conversion under way
(injected, entry, CAL_DELAYED or UNPAIRED), the injected group running (entry, CAL_DELAYED) and pending, a calibration waited for, and
the promotion of the waiting entry with whether one has run since the injected trigger. -/
structure HkConv where
  reg : Option Nat := none
  regAt : Nat := 0
  conv : Option (Bool × Nat × Bool) := none
  inj : Option (Nat × Bool) := none
  pend : Option Bool := none
  calReq : Bool := false
  promoted : Bool := false
  promRun : Bool := false
deriving DecidableEq, Repr

/-- The TEC loop (R279, R280): since when the bridge runs, I and u in units of 2⁻¹⁶ ÷ 1000 of VTEC, whether u is at its limit, since when |e|
has been above 0.5 °C after warm-up, since when u has been at and off its limit, and the instant of the fault that switched the bridge off. -/
structure Tec where
  startAt : Option Nat := none
  i : Int := 0
  u : Int := 0
  atMax : Bool := false
  errFrom : Option Nat := none
  limFrom : Option Nat := none
  offFrom : Option Nat := none
  faultAt : Nat := 0
deriving DecidableEq, Repr

/-- Calibration (R281–R285): a pass due, the module temperature and kind of the pass in progress, the end of the last pass, a completed record
that waits for its boundary, the record in force with the stamp, temperature and kind of its pass, the records of slots A (0) and B (1)
with their sequence numbers, and the slots that hold bytes which fail their check. -/
structure Cal where
  due : Bool := false
  startTemp : Int := 0
  lastEnd : Option Nat := none
  shadow : Option (CalRecord × Nat × Int × Bool) := none
  force : Option (CalRecord × Nat × Int × Bool) := none
  seq : Nat := 0
  slots : List (Nat × (Nat × CalRecord)) := []
  bad : List Nat := []
  eraseAt : Option Nat := none
deriving DecidableEq, Repr

/-- Sensors (chapter 11): the RTD channels, periods and sum of Q of the dwell in progress, whether V_P has stayed in its window in it, a switch
that a calibration pass takes at the end of the period, periods in a row with V_P outside, the linearisation tables of the image, the
converters, since when inputs 10–12 have read 115 °C, the sum and number of their codes since the module temperature was last evaluated (R281), which of them have been warned of (R459), the TEC loop and calibration. -/
structure Sens where
  rtd : List (Nat × Rtd) := []
  n : Nat := 0
  sum : Nat := 0
  clean : Bool := true
  calSwitch : Bool := false
  precRun : Nat := 0
  tables : List (Nat × List (Nat × Int)) := []
  hk : List (Nat × HkConv) := []
  hot : List (Nat × Nat) := []
  temps : List (Nat × (Nat × Nat)) := []
  warned : List Nat := []
  tec : Tec := {}
  cal : Cal := {}
deriving DecidableEq, Repr

/-- A request at the memory controller (R300–R306): port, direction, system address, length, the bytes of a write, arrival, promotion, and, on
port 4, the Brillouin bin whose record it reads. -/
structure MemReq where
  port : Nat
  write : Bool
  addr : Nat
  n : Nat
  data : List (BitVec 8)
  at_ : Nat
  promoted : Bool
  bin : Option Nat
deriving DecidableEq, Repr

/-- An entry of the suspect list (R310–R317): an SRAM address or a DRAM channel and channel address, found uncorrectable, corrected passes,
the pass of its entry, the pass that counted it last and its last syndrome. -/
structure Suspect where
  sram : Bool
  chan : Nat
  addr : Nat
  ue : Bool
  corrected : Nat
  entry : Nat
  last : Option Nat
  synd : Nat
deriving DecidableEq, Repr

/-- The memory system (chapter 12): requests in flight and, per port, those held for a slot (both in order of arrival), the port whose turn it
is with its services left, since when PANIC is set and whether a promotion is served at once, outstanding refreshes per bank and the banks
whose refresh is forced, the open row and the activation table of each bank, the check lines kept on die, the patrol's next system address, the suspect list,
the words served from spares (channel × 2³⁴ + address), the withdrawn regions (channel, region, still in service), SRAM passes with the
patrol's last location, yard banks marked, yards that wait for a reload, remaps and withdrawals to log
(withdrawal, channel, word or region), and whether AER holds an uncorrectable internal error. -/
structure Dram where
  wait : List MemReq := []
  held : List MemReq := []
  turn : Nat := 0
  left : Nat := 0
  panicFrom : Option Nat := none
  capDue : Bool := false
  refs : List (Nat × Nat) := []
  forced : List Nat := []
  open_ : List (Nat × Nat) := []
  acts : List (Nat × List (Nat × Nat)) := []
  checks : List Nat := []
  patrol : Nat := 0
  suspects : List Suspect := []
  remaps : List Nat := []
  regions : List (Nat × (Nat × Bool)) := []
  sramPass : Nat := 0
  sramLoc : Nat := 0
  marked : List Nat := []
  reload : List Nat := []
  logDue : List (Bool × (Nat × Nat)) := []
  aer : Bool := false
deriving DecidableEq, Repr

/-- A platform-ring descriptor (R335): its first three words and its Control word. -/
structure Desc where
  offset : Nat := 0
  length : Nat := 0
  status : Nat := 0
  control : Nat := 2147483648
deriving DecidableEq, Repr

/-- A frame that stands in an area of the BAR2 window and whose space is not free again (R337, R338): area (0 frame area, 1 sidings, 5 seal
area, 6 auxiliary queue; the sidings form one chain), place in the area, length, stream, product, the slot that it was posted to, and whether the
slot has been returned. -/
structure Placed where
  area : Nat
  offset : Nat
  len : Nat
  stream : Nat
  product : Nat
  slot : Option Nat := none
  back : Bool := false
deriving DecidableEq, Repr

/-- What a seal says of one stream in one second (R340, R341): first and last frame sequence, frames issued, and their digests in order. -/
structure SealStream where
  first : Nat
  last : Nat
  n : Nat
  digests : List (BitVec 8)
deriving DecidableEq, Repr

/-- A second of the seal chain (R340): its sequence, the stamp of its start, whether any frame carries HOLDOVER, the streams, and the discard
runs (stream, first sequence, frames). -/
structure SealSecond where
  seq : Nat := 0
  stamp : Nat := 0
  hold : Bool := false
  streams : List (Nat × SealStream) := []
  gaps : List (Nat × (Nat × Nat)) := []
deriving DecidableEq, Repr

/-- The output path (chapter 13) beside its registers: the alive counter of each stream, the ring's descriptors, the frames in the areas in
the order written with the position up to which each area is used, the instants at which the builder was blocked and unblocked, the
discard set (latest first) with the instant of its last change, the seal second in progress and those due, the hash and count that the
next seal carries, whether it starts the chain, the seal stream's sequence, the scans that run (unit, start), whether the function is
in D3hot, and the words of the MSI-X table. -/
structure Output where
  alive : List (Nat × Nat) := []
  ring : List (Nat × Desc) := []
  placed : List Placed := []
  heads : List (Nat × Nat) := []
  blockedAt : Option Nat := none
  freeAt : Option Nat := none
  disc : List Nat := []
  discAt : Nat := 0
  cur : SealSecond := {}
  due : List SealSecond := []
  prevHash : List (BitVec 8) := []
  chainStart : Bool := true
  sealLost : Nat := 0
  sealSeq : Nat := 0
  sealSlot : Nat := 0
  scans : List (Nat × Nat) := []
  d3 : Bool := false
  msix : List (Nat × Nat) := []
deriving DecidableEq, Repr

/-- A stamp in the queue of an event input (R367): stamp, falling edge, HOLDOVER, LOSS and edge count. -/
structure EvtEntry where
  stamp : Nat
  falling : Bool
  hold : Bool
  loss : Bool
  count : Nat
deriving DecidableEq, Repr

/-- A measurement that runs (R369, R370): whether the first edge has come, its stamp and edge count, the previous stamp and its edge count, the
stamps taken relative to the first, and whether an edge was lost. -/
structure Meas where
  first : Option (Nat × Nat) := none
  prev : Option (Nat × Nat) := none
  pts : List (Nat × Nat) := []
  deltas : List Int := []
  loss : Bool := false
deriving DecidableEq, Repr

/-- The results of a measurement: A–D, INVALID, LOSS and the count. -/
structure StatRes where
  a : Int := 0
  b : Int := 0
  c : Int := 0
  d : Int := 0
  invalid : Bool := false
  loss : Bool := false
  count : Nat := 0
deriving DecidableEq, Repr

/-- An event input (R366–R371): its queue, edge count, the instant of the last detected edge, whether the next stamp carries LOSS, the instant from
which the timeout counts and whether it has been reported, the measurement, its last results and whether they are latched for reading. -/
structure EvtIn where
  queue : List EvtEntry := []
  edges : Nat := 0
  last : Option Nat := none
  loss : Bool := false
  from_ : Nat := 0
  silent : Bool := false
  meas : Option Meas := none
  res : StatRes := {}
  latched : Bool := false
deriving DecidableEq, Repr

/-- Time references (R358–R362, R364): the stamps of the PPS edges in a row that may qualify, glitches in a row, the instant of the last edge
and of the last good one, edges in a row within 10 ns, e of the last edge, a step that waits, an epoch that waits with whether it waits for an edge first and, from
module 0, the second at which it applies, the
instant at which ALIGNED was left, the rising edge of PPS_OUT with the pin's level, and the last qualified TRIG_IN edge with its stamp. -/
structure TimeRef where
  run : List Nat := []
  glitches : Nat := 0
  edgeAt : Option Nat := none
  goodAt : Option Nat := none
  small : Nat := 0
  lastE : Int := 0
  step : Option Int := none
  epoch : Option (Nat × Bool) := none
  epochAt : Option Nat := none
  leftAt : Option Nat := none
  ppsRise : Option Nat := none
  ppsOut : Bool := false
  trigAt : Option Nat := none
  trigStamp : Nat := 0
deriving DecidableEq, Repr

/-- A message of the switch coordination that this module has sent (R63, R377): module 0 passes a request with its own T_L and G, the instant of
the epoch that it has chosen, and a rejection with the module that caused it; a module 1–7 reports READY or rejects. -/
inductive SwitchMsg where
  | request (index mode second tl g : Nat)
  | epochAt (instant : Nat)
  | rejected (module : Nat)
  | ready (module : Nat)
  | refused (module : Nat)
deriving DecidableEq, Repr

/-- The Flotis link (R372–R377): whether numbering is complete, θ of the exchanges of the last 10 ms (in ps), since when θ lies beyond 1 ns and
within it, the latest sequence number of each sender, the modules that have reported ready with the instants, the sweep origin,
the epochs that module 0 has sent (value, second of the boundary), the messages forwarded, and the switch coordination sent, newest first. -/
structure Flotis where
  numbered : Bool := false
  thetas : List Int := []
  beyondFrom : Option Nat := none
  withinFrom : Option Nat := none
  seen : List (Nat × Nat) := []
  ready : List (Nat × Nat) := []
  origin : Option Nat := none
  epochs : List (Nat × Nat) := []
  forwarded : Nat := 0
  sent : List SwitchMsg := []
deriving DecidableEq, Repr

/-- The result of one self-test unit (R430): 0 untested, 1 pass, 2 QUICK, 3 pass repaired, 4 FAIL, 6 UNKNOWN; withdrawn, one pass towards return,
UNREPAIRED; the journal sequence of its last test and its failure record. -/
structure UnitRes where
  result : Nat := 0
  withdrawn : Bool := false
  onePass : Bool := false
  unrepaired : Bool := false
  seq : Nat := 0
  fail : Nat := 65535
deriving DecidableEq, Repr

/-- A failure record (R431): unit, cause, bit, address, LC_RTC and journal sequence. -/
structure FailRec where
  unit : Nat
  cause : Nat
  bit : Nat
  addr : Nat
  rtc : Nat
  seq : Nat
deriving DecidableEq, Repr

/-- A journal (R430): sequence, clean, emergency form, RTC valid, LC_RTC, LAST_TEST, lane pointers, unit table, failure records, withdrawn
regions (channel, region), SRAM repairs (unit, row, spare), DRAM remaps (channel, spare, word) and frames abandoned. -/
structure Journal where
  seq : Nat := 0
  clean : Bool := false
  emergency : Bool := false
  rtcOk : Bool := true
  rtc : Nat := 0
  lastTest : Nat := 0
  ptrs : List Nat := []
  units : List (Nat × UnitRes) := []
  fails : List FailRec := []
  regions : List (Nat × Nat) := []
  sram : List (Nat × (Nat × Nat)) := []
  remaps : List (Nat × (Nat × Nat)) := []
  abandoned : Nat := 0
deriving DecidableEq, Repr

/-- Self-test (R424–R433): the journals of slots A (0) and B (1), the slot in force, what the next journal will hold, the plan of the shutdown (for
each lane its slices, first the one that runs, and when that began), when its step 4 began, the OPEN flag, event-log entries (journal sequence,
withdrawal, channel, word or region), the host slice that runs (unit, start), the unit last run, its words that BT_ACC_CMD has reached since
(address, data, check), failure records of host slices, the journal slot to erase with its due instant, whether this start has read the journals,
the slots whose bytes are no good journal, and when the last slice of step 4 ended. -/
structure Bist where
  journals : List (Nat × Journal) := []
  force : Option Nat := none
  work : Journal := {}
  plan : List (Nat × (List Nat × Nat)) := []
  testFrom : Option Nat := none
  open_ : Bool := false
  evlog : List (Nat × (Bool × (Nat × Nat))) := []
  run : Option (Nat × Nat) := none
  lastRun : Option Nat := none
  acc : List (Nat × (Nat × Nat)) := []
  hostFails : List FailRec := []
  eraseAt : Option (Nat × Nat) := none
  loaded : Bool := false
  bad : List Nat := []
  testEnd : Option Nat := none
deriving DecidableEq, Repr

/-- A shutdown sequence (R403–R405): target (1 IDLE, 3 OFF), what follows it (0 nothing, 1 a cold start, 2 a warm start), the emergency form, the
last step complete and the instant of its acceptance. -/
structure Shutdown where
  target : Nat
  then_ : Nat
  emergency : Bool
  step : Nat
  at_ : Nat
deriving DecidableEq, Repr

/-- Start and power (chapter 15): whether a cold start is due, the start in progress (instant of its step 1), which of the steps of R384 are
complete, whether a warm start runs every step in its cold form (R385), the slot and image it runs from, the timetable chosen, when
PD_LASER was powered, the image hash cached (slot and NV_WRITES), the temperature and supply bands of the DRAM training kept, whether DRAM and
yards have been retained, the commit, whether 60 s in RUN have passed, the instant of a failed start's end, the shutdown sequence and one that
waits for an NVM operation (target, then), whether PFW# is low, the rail that left its band, whether the main supplies are good, when VBAT was
applied, whether PD_AON has kept its contents since the last journal, the notice-board size of the last committed image, and whether the coming start finds
PD_AON without its contents. -/
structure Power where
  coldDue : Bool := false
  startAt : Option Nat := none
  steps : List Nat := []
  allCold : Bool := false
  image : Option (Nat × Image) := none
  tt : Option Nat := none
  laserAt : Option Nat := none
  cache : Option (Nat × Nat) := none
  trained : Option (Int × List Nat) := none
  retained : Bool := false
  commitAt : Option Nat := none
  settled : Bool := false
  failedAt : Option Nat := none
  shut : Option Shutdown := none
  held : Option (Nat × Nat) := none
  pfwLow : Bool := false
  rail : Option Nat := none
  supplies : Bool := false
  vbatAt : Nat := 0
  rtcOk : Bool := true
  nbSize : Option Nat := none
  aonLost : Bool := false
deriving DecidableEq, Repr

/-- The NVM controller (R395, R400, R401): the command under way with its result, and a command that waits for the end of a start or a
shutdown. -/
structure Nvm where
  op : Option (Nat × Nat) := none
  wait : Option Nat := none
deriving DecidableEq, Repr

/-- Lifecycle (R412, R422): the first write of a transition with its target and instant, and the JTAG instruction (0 BYPASS, 1 IDCODE,
2 SAMPLE/PRELOAD, 3 EXTEST, 4 CLAMP, 5 HIGHZ, 6 INTDBG). -/
structure Lifecycle where
  first : Option (Nat × Nat) := none
  jtag : Nat := 1
deriving DecidableEq, Repr

/-- One-time-programmable bits and the identity of the part (R1, R77, R285, R402, R410–R421): the part, the safe-optical fuse, silicon step
(letter, digit) and serial number, the lifecycle state, the image key, the hash of the verification key, the seal key pair, ZEROISED, the
tamper settings (the word of SE_TAMPER_CFG), the rollback counter and the factory calibration record. -/
structure Otp where
  px940 : Bool := false
  safeOpt : Bool := false
  step : Nat := 32
  serial : Nat := 0
  life : Nat := 1
  imageKey : Option (List (BitVec 8)) := none
  vkHash : Option (List (BitVec 8)) := none
  sealKey : Option (List (BitVec 8)) := none
  sealPub : Option (List (BitVec 8)) := none
  zeroised : Bool := false
  tamper : Option Nat := none
  rollback : Nat := 0
  factory : CalRecord := ⟨0, 0, 0, 0, [], [], [], []⟩
deriving DecidableEq, Repr

/-- The time base (R356–R364): at instant t the counter reads t + `off` ticks, plus what the slew in progress has added since `slewFrom`
towards its whole correction `slew` (R360). -/
structure TimeBase where
  off : Int := 0
  slew : Int := 0
  slewFrom : Nat := 0
deriving DecidableEq, Repr

/-- The state of the block. -/
structure State where
  regs : List (Nat × Nat)
  mem : List Host.Cell
  now : Nat
  freeCtr : Nat
  resp : List Nat
  ev : Events
  sched : Sched
  opt : Optics
  sw : Switch
  lanes : List (Nat × Lane)
  fp : FrontPipe
  secs : List (Nat × Section)
  dfifo : List (Nat × DetRecord)
  built : List Frame
  fab : Fabric
  recd : Recorder
  br : Bril
  sens : Sens
  dram : Dram
  out : Output
  evt : List (Nat × EvtIn)
  tref : TimeRef
  fl : Flotis
  bt : Bist
  pw : Power
  nv : Nvm
  lc : Lifecycle
  tb : TimeBase
  otp : Otp
  pending : List Instr
deriving DecidableEq, Repr

/-- Why the machine stops with a fault. -/
inductive Fault where
  /-- A DRAM address outside the populated channels (R292): raised by the commands that name a DRAM address. Safe: the spec gives no
  effect of such an access. -/
  | noSuchAddress (addr : Nat)
deriving DecidableEq, Repr

/-- Why the machine refuses a command. -/
inductive Refusal where
  /-- The command has no meaning in the model. Safe: nothing can be proved about such a step. -/
  | notModelled (mnemonic : String)
  /-- An access that is not to a naturally aligned word (R7), or an MGMT address that is not a multiple of 4 (R449): raised by the access
  commands. Safe: the spec gives no effect of it. -/
  | misaligned (addr : Nat)
deriving DecidableEq, Repr

/-- The machine right after power is applied, every field at the value the spec gives for reset. -/
def State.reset : State :=
  { regs := [], mem := [], now := 0, freeCtr := 0, resp := [], ev := {}, sched := {}, opt := {}, sw := {}, lanes := [], fp := {}, secs := [], dfifo := [], built := [], fab := {}, recd := {}, br := {}, sens := {}, dram := {}, out := {}, evt := [], tref := {}, fl := {},
    bt := {}, pw := {}, nv := {}, lc := {}, tb := {}, otp := {}, pending := [] }

end Sys2Proof.Machine
end

