-- ==== Sys2Proof/Machine/Ops.lean ====
section
/-!
DEFINITION. Machine/Ops.lean: the named operations over sparse maps, register fields, memory, time and counters. Every meaning reads
and writes the state through these.
-/
namespace Sys2Proof.Machine

/-! ## Sparse maps in one canonical form -/

/-- The value at key `k`, `d` where the map lists none. -/
def kvGet {α : Type} (d : α) : List (Nat × α) → Nat → α
  | [], _ => d
  | (a, v) :: m, k => if a = k then v else kvGet d m k

/-- The map without key `k`. -/
def kvDel {α : Type} (k : Nat) : List (Nat × α) → List (Nat × α)
  | [] => []
  | (a, v) :: m => if a = k then kvDel k m else (a, v) :: kvDel k m

/-- The map with `(k, v)` put before the first larger key. -/
def kvIns {α : Type} (k : Nat) (v : α) : List (Nat × α) → List (Nat × α)
  | [] => [(k, v)]
  | (a, w) :: m => if k < a then (k, v) :: (a, w) :: m else (a, w) :: kvIns k v m

/-- The map with `v` at key `k`; a value equal to the default `d` is not listed. -/
def kvSet {α : Type} [DecidableEq α] (d : α) (m : List (Nat × α)) (k : Nat) (v : α) : List (Nat × α) :=
  if v = d then kvDel k m else kvIns k v (kvDel k m)

/-- Are the keys strictly rising? -/
def kvSorted {α : Type} : List (Nat × α) → Bool
  | [] => true
  | [_] => true
  | (a, _) :: (b, w) :: m => decide (a < b) && kvSorted ((b, w) :: m)

/-! ## Register fields -/

/-- The value of a register field. -/
def State.get (s : State) (f : Fld) : Nat := kvGet f.reset s.regs f.key

/-- The value of a field as a two's complement number. -/
def State.getS (s : State) (f : Fld) : Int :=
  let v := s.get f
  if 2 * v < 2 ^ f.width then v else (v : Int) - 2 ^ f.width

/-- Is a one-bit field 1? -/
def State.is (s : State) (f : Fld) : Bool := s.get f == 1

/-- A field set to the low bits of `v`. -/
def State.put (s : State) (f : Fld) (v : Nat) : State :=
  { s with regs := kvSet f.reset s.regs f.key (v % 2 ^ f.width) }

/-- A field set to a two's complement value, saturated to its width. -/
def State.putS (s : State) (f : Fld) (v : Int) : State :=
  let h : Int := 2 ^ (f.width - 1)
  let w := if v < -h then -h else if v > h - 1 then h - 1 else v
  s.put f (w % 2 ^ f.width).toNat

/-- A field set to `v`, saturated at its largest value. -/
def State.putSat (s : State) (f : Fld) (v : Nat) : State := s.put f (min v (2 ^ f.width - 1))

/-- A one-bit field set from a condition. -/
def State.putB (s : State) (f : Fld) (b : Bool) : State := s.put f (if b then 1 else 0)

/-- A wrapping counter advanced by `n` (R471). -/
def State.bumpWrap (s : State) (f : Fld) (n : Nat) : State := s.put f (s.get f + n)

/-- A saturating counter advanced by `n`; at its largest value it stays there and its SAT bit is set (R470, R471). -/
def State.bump (s : State) (c sat : Fld) (n : Nat) : State :=
  let top := 2 ^ c.width - 1
  let v := s.get c + n
  if v ≥ top then (s.put c top).put sat 1 else s.put c v

/-- A saturating counter without a flag, advanced by `n` (R471). -/
def State.bumpNoFlag (s : State) (c : Fld) (n : Nat) : State := s.putSat c (s.get c + n)

/-! ## Memory -/

/-- What a byte of memory that nothing has written reads as (log entry 3): erased NOR bytes in the NVM's space read 0xFF, every other
byte 0. -/
def memDefault (a : Nat) : BitVec 8 := if 0x30000000000 ≤ a ∧ a < 0x40000000000 then 0xFF else 0

/-- The byte at address `a`. -/
def State.rdByte (s : State) (a : Nat) : BitVec 8 := kvGet (memDefault a) s.mem a

/-- The memory with byte `v` at `a`. -/
def State.wrByte (s : State) (a : Nat) (v : BitVec 8) : State := { s with mem := kvSet (memDefault a) s.mem a v }

/-- The entries of bytes `a`, `a + 1`, … that differ from what an unlisted byte reads as. -/
def cellsFrom (a : Nat) : List (BitVec 8) → List Host.Cell
  | [] => []
  | b :: bs => if b = memDefault a then cellsFrom (a + 1) bs else (a, b) :: cellsFrom (a + 1) bs

/-- The bytes `a`, `a + 1`, … written from a list. -/
def State.wrBytes (s : State) (a : Nat) (bs : List (BitVec 8)) : State :=
  { s with mem := s.mem.filter (fun c => decide (c.1 < a)) ++ (cellsFrom a bs ++ s.mem.filter (fun c => decide (a + bs.length ≤ c.1))) }

/-- `n` bytes from `a` on. -/
def State.rdBytes (s : State) (a : Nat) : Nat → List (BitVec 8)
  | 0 => []
  | n + 1 => s.rdByte a :: s.rdBytes (a + 1) n

/-- A little-endian number of `n` bytes at `a` (R6, R13). -/
def State.rdLE (s : State) (a : Nat) : Nat → Nat
  | 0 => 0
  | n + 1 => (s.rdByte a).toNat + 256 * s.rdLE (a + 1) n

/-- The `n` bytes of a number, least significant first. -/
def leBytes (v : Nat) : Nat → List (BitVec 8)
  | 0 => []
  | n + 1 => BitVec.ofNat 8 v :: leBytes (v / 256) n

/-- A number written as `n` little-endian bytes. -/
def State.wrLE (s : State) (a n v : Nat) : State := s.wrBytes a (leBytes v n)

/-- Does every entry of a list of cells differ from what an unlisted byte reads as? -/
def cellsProper : List Host.Cell → Bool
  | [] => true
  | (a, v) :: m => decide (v ≠ memDefault a) && cellsProper m

/-- The canonical form of memory: addresses strictly rising, no entry equal to what an unlisted address reads as. -/
def Memory.wf (m : List Host.Cell) : Bool := kvSorted m && cellsProper m

/-! ## Spaces of memory. Each space of the spec has its own range of model addresses. -/

/-- The BAR2 window (R333): window offset 0. -/
def spaceBar2 : Nat := 0
/-- DRAM data by system address (R292). -/
def spaceDram : Nat := 0x10000000000
/-- DRAM check bytes, one for each data word, by word number (R295). -/
def spaceCheck : Nat := 0x20000000000
/-- The NVM by byte offset (R393). -/
def spaceNvm : Nat := 0x30000000000
/-- Yard memories: yard y at offset 2²⁰ × y (R205). -/
def spaceYard : Nat := 0x40000000000
/-- The protection test region: word w of channel c at 8,192 × c + 16 × w, data then check byte (R299). -/
def spaceTest : Nat := 0x50000000000
/-- Engine-local memories: engine e at offset 2²⁰ × e (R204). -/
def spaceEngine : Nat := 0x60000000000

/-! ## Time -/

/-- Ticks of 2⁻¹⁶ ns in one nanosecond. -/
def ns : Nat := 65536
/-- Ticks in one microsecond. -/
def us : Nat := 1000 * ns
/-- Ticks in one millisecond. -/
def ms : Nat := 1000 * us
/-- Ticks in one second. -/
def sec : Nat := 1000 * ms

/-! ## Reads of fewer than four bytes (R7) -/

/-- The addressed bytes of a word, the others 0. -/
def pickBytes (be w : Nat) : Nat :=
  (List.range 4).foldl (fun a i => if be.testBit i then a + w / 256 ^ i % 256 * 256 ^ i else a) 0

/-- A read with byte enables `be`: the addressed bytes are the answer, and the side effects are those of the whole register (R7). -/
def readBytes (be : Nat) (f : State → State) (s : State) : State :=
  let u := f s
  { u with resp := u.resp.map (pickBytes be) }

/-! ## Free values -/

/-- A value the spec leaves open, `w` bits wide, and the state with the free-value counter advanced (log entry 1). -/
def State.free (s : State) (w : Nat) : Nat × State :=
  ((Config.freeValue w s.freeCtr).toNat, { s with freeCtr := s.freeCtr + 1 })

/-- A field set to a free value. -/
def State.putFree (s : State) (f : Fld) : State :=
  let (v, s) := s.free f.width
  s.put f v

/-- A step repeated for each element of a list. -/
def each {α : Type} (xs : List α) (f : α → State → State) (s : State) : State := xs.foldl (fun s x => f x s) s

/-- Apply `f` where `c` holds. -/
def State.when (s : State) (c : Bool) (f : State → State) : State := if c then f s else s

/-- A number rounded to the nearest integer quotient, ties away from zero (R53). -/
def divRound (a : Int) (b : Nat) : Int :=
  if a ≥ 0 then (2 * a + b) / (2 * b) else -((2 * -a + b) / (2 * b))

/-- A value limited to `lo`–`hi`. -/
def clampI (lo hi v : Int) : Int := if v < lo then lo else if v > hi then hi else v

/-- The difference of two 32-bit indices, modulo 2³² (R15). -/
def sub32 (a b : Nat) : Nat := (((a : Int) - b) % 4294967296).toNat

/-- The half-range comparison of R15: is `a` newer than `b`? -/
def newer (a b : Nat) : Bool := let d := sub32 a b; decide (1 ≤ d ∧ d < 2 ^ 31)

/-- May a consumption index move to `v`: neither backwards nor beyond WR (R166, R239, R346)? -/
def indexOk (wr rd v : Nat) : Bool := decide (sub32 v rd ≤ sub32 wr rd)

/-! ## Fields with a range -/

/-- The fields with a fixed range, by key: PEAK and PROBE_PEAK (R66), CH (R68), STEP and CEIL (R195), BUDGET (R244), SPAN_HW (R264), R_P (R287),
AGE_LIMIT of the converters (R288), MIN_GAP and DT (R289), GRAIN, PANIC_MAX and AGE_LIMIT of the controller (R321), LEN and PEAK of the triggered
launch (R380). -/
def heldRanges : List (Nat × (Int × Int)) :=
  [(F.OP_LASER_CH.key, (-30, 61)), (F.TT_BRIL_PEAK.key, (-200, 210)), (F.TT_PROBE_PROBE_PEAK.key, (-200, 210)), (F.TB_TL_CFG_PEAK.key, (-200, 210)),
   (F.TB_TL_CFG_LEN.key, (100, 2000)), (F.FB_AV_CFG_STEP.key, (1, 25)), (F.FB_AV_LIMITS_CEIL.key, (680, 850)), (F.EV_BUDGET_BUDGET.key, (10, 1600)),
   (F.BR_CTRL_SPAN_HW.key, (8, 32)), (F.SF_PREC_R_P.key, (100000, 5000000)), ((F.HK_DELAY_AGE_LIMIT 0).key, (2, 1000)),
   ((F.HK_DELAY_AGE_LIMIT 1).key, (2, 1000)), (F.CL_DELTA_T_MIN_GAP.key, (10, 3600)), (F.CL_DELTA_T_DT.key, (10, 2000)), (F.DC_CFG_GRAIN.key, (8, 16)),
   (F.DC_AGING_PANIC_MAX.key, (5, 1000)), (F.DC_AGING_AGE_LIMIT.key, (1, 1000))] ++
  (List.range 16).map (fun g => ((F.TT_GROUP_CFG_PEAK g).key, (-200, 210)))

/-- The range that a field is held in (R66, R68 and the register tables: "values outside are clamped"); none for any other field. FLOOR of
FB_AV_LIMITS goes up to CEIL, which the same word sets before it. -/
def State.rangeOf (s : State) (f : Fld) : Option (Int × Int) :=
  if f.key = F.FB_AV_LIMITS_FLOOR.key then some (680, s.get F.FB_AV_LIMITS_CEIL)
  else (heldRanges.find? (fun r => r.1 == f.key)).map (·.2)

/-- A value for a field held in its range (log entry 113). -/
def State.heldIn (s : State) (f : Fld) (v : Nat) : Nat :=
  match s.rangeOf f with
  | none => v
  | some (lo, hi) =>
    let w := v % 2 ^ f.width
    let x : Int := if lo < 0 ∧ 2 * w ≥ 2 ^ f.width then (w : Int) - 2 ^ f.width else w
    (clampI lo hi x % 2 ^ f.width).toNat

end Sys2Proof.Machine

namespace Sys2Proof

/-! ## What a timetable's header says (R57) -/

/-- The header's flag bits. -/
def Timetable.fusedTarget (t : Timetable) : Bool := t.flags.testBit 0
def Timetable.inlineAmp (t : Timetable) : Bool := t.flags.testBit 1
def Timetable.brillouin (t : Timetable) : Bool := t.flags.testBit 2

/-- Magic and format version are those of R57. -/
def Timetable.headerOk (t : Timetable) : Bool := decide (t.magic = 0x4C425454) && decide (t.version = 1)

/-- The record table, of 12 bytes an entry, and every record that it names lie inside the section (R57). -/
def Timetable.tableOk (t : Timetable) : Bool :=
  decide (t.tableOff + 12 * t.records.length ≤ t.length) && t.records.all (fun r => decide (r.2.1 + r.2.2 ≤ t.length))

/-! ## Its block sections (R168, R198) -/

/-- A little-endian number of `n` bytes at byte `i`; bytes beyond the end read 0. -/
def leAt (bs : List Nat) (i : Nat) : Nat → Nat
  | 0 => 0
  | n + 1 => bs.getD i 0 % 256 + 256 * leAt bs (i + 1) n

/-- A 16-bit two's complement number at byte `i`. -/
def leS16 (bs : List Nat) (i : Nat) : Int := let v := leAt bs i 2; if v < 32768 then v else (v : Int) - 65536

/-- The program header of section k (R198), 64 bytes in section order. -/
def Timetable.header (t : Timetable) (k : Nat) : Machine.ProgHeader :=
  let f := fun (off n : Nat) => leAt t.code (64 * k + off) n
  { sect := f 0 2, codeWords := f 2 2, entry := f 4 2, xConst := f 6 2, yConst := f 8 2, xScratch := f 10 2, yScratch := f 12 2, sw := f 14 2, ext := f 16 2,
    fftWindow := f 18 2, yardConst := f 20 4, inputWeight := f 24 4, shareWeight := f 28 4, longest := f 32 4, fftLoad := f 36 4, codeOff := f 40 4,
    relocOff := f 44 4 }

/-- The coefficients of one stage at byte `i` of a chain block. -/
def coefsAt (chain : List Nat) (i n : Nat) : List Int := (List.range n).map (fun c => leS16 chain (i + 2 * c))

/-- The stages of a chain block from its stage words (R168, the encoding of BS_CHAIN_DATA), the coefficients following one another from byte `at_`. -/
def stagesFrom (chain : List Nat) : List Nat → Nat → List Machine.ChainStage
  | [], _ => []
  | w :: ws, at_ =>
    let l := w / 2 ^ 16 % 512
    ⟨w / 2 ^ 28 % 16, w % 32, coefsAt chain at_ l⟩ :: stagesFrom chain ws (at_ + 2 * l)

/-- Section k of a timetable, from its descriptor and its chain block (R168). -/
def Timetable.section_ (t : Timetable) (k : Nat) : Machine.SectionDesc :=
  let words := (List.range 32).map (fun i => leAt t.sectRec (128 * k + 4 * i) 4)
  let chain := (t.sectRec.drop (words.getD 25 0)).take (words.getD 26 0)
  let n := min 6 (words.getD 0 0 / 2 ^ 24 % 8)
  let stageWords := (List.range n).map (fun s => leAt chain (4 * s) 4)
  let taps := fun (w : Nat) => w / 2 ^ 16 % 512
  let last := taps (stageWords.getD (n - 1) 0)
  let need := 56 + 2 * (stageWords.foldl (fun a w => a + taps w) 0 + last)
  let f := t.feats.getD k (0, 0, 0)
  { words := words, stages := stagesFrom chain stageWords 56, paletteB := coefsAt chain (need - 2 * last) last,
    bands := (List.range 8).map (fun b => let w := leAt chain (24 + 4 * b) 4; (w % 4096, w / 2 ^ 16 % 4096)),
    chainOk := decide (chain.length ≥ need) && decide (128 * (k + 1) ≤ t.sectRec.length), prog := t.header k,
    featUnit := f.1, featDelay := f.2.1, featId := f.2.2 }

/-- The block sections of a timetable, in section order. -/
def Timetable.sections (t : Timetable) : List Machine.SectionDesc := (List.range t.sectionCount).map t.section_

end Sys2Proof
end

