-- ==== Sys2Proof/Machine/Events.lean ====
section
/-!
DEFINITION. Machine/Events.lean: raising and posting events (R346–R348, R387, R463–R469), the F, W and I classes, FAULT#, and the
form that every meaning has: its effect on the state, followed by `settle`, which brings OP_STATE to what the causes give (R70) and
posts what was raised.
-/
namespace Sys2Proof.Machine

/-! ## Stamps -/

/-- What the slew has added at instant `t`: 10 ppm of the time since it began, at most the whole correction (R360, log entry 6). -/
def State.slewed (s : State) (t : Nat) : Int :=
  let a : Int := ((t - s.tb.slewFrom) / 100000 : Nat)
  if s.tb.slew ≥ 0 then min a s.tb.slew else max (-a) s.tb.slew

/-- The whole time-base counter at instant `t`, in ticks of 2⁻¹⁶ ns (R356). -/
def State.count (s : State) (t : Nat) : Nat := ((t : Int) + s.tb.off + s.slewed t).toNat

/-- The 96-bit stamp of a counter value: SEC, NS and FRAC (R13). -/
def stampOf (c : Nat) : Nat := (c / sec) * 2 ^ 48 + (c % sec / ns) * 2 ^ 16 + c % ns

/-- The 12 bytes of a stamp, least significant first (R13). -/
def stampBytes (st : Nat) : List (BitVec 8) := leBytes st 12

/-! ## Classes -/

/-- The F codes that are conditions and last until an end of R469. -/
def conditionCodes : List Nat :=
  [0x0101, 0x0102, 0x0104, 0x010A, 0x010B, 0x010C, 0x010D, 0x0107, 0x010E, 0x0202, 0x0207, 0x0403, 0x0605, 0x0303, 0x0306, 0x0406,
   0x0701, 0x0702, 0x0704, 0x0705, 0x0720, 0x0805, 0x0A05, 0x0C06, 0x0D03]

/-- The F codes that are one-shots (R469). -/
def oneShotCodes : List Nat := [0x0902, 0x0904, 0x0A08, 0x0D02, 0x0D0B, 0x0D0C, 0x0E03, 0x0E04]

/-- The F codes (R468). -/
def isF (code : Nat) : Bool := conditionCodes.contains code || oneShotCodes.contains code

/-- The W codes (R468). -/
def warningCodes : List Nat :=
  [0x0100, 0x0109, 0x0111, 0x0140, 0x0142, 0x0143, 0x0201, 0x0203, 0x0204, 0x0205, 0x0301, 0x0302, 0x0400, 0x0402, 0x0404, 0x0405,
   0x0441, 0x0501, 0x0503, 0x0505, 0x0506, 0x0603, 0x0606, 0x0608, 0x0721, 0x0804, 0x0903, 0x0905, 0x0906, 0x0907] ++
  [0x0A01, 0x0A03, 0x0A07, 0x0A09, 0x0A0B, 0x0A0C, 0x0A0E, 0x0B02, 0x0B04, 0x0B05, 0x0B08, 0x0B09, 0x0B0B, 0x0C02, 0x0C04, 0x0C05,
   0x0D05, 0x0D06, 0x0D09, 0x0D0A, 0x0D41, 0x0E02, 0x0E07, 0x0F03, 0x0F04]

/-- The I codes (R468). -/
def informationCodes : List Nat :=
  [0x0103, 0x0105, 0x0108, 0x010F, 0x0110, 0x0141, 0x0206, 0x0304, 0x0305, 0x0307, 0x0401, 0x0407, 0x0440, 0x0442, 0x0443, 0x0500,
   0x0502, 0x0504, 0x0601, 0x0602, 0x0604, 0x0607, 0x0703, 0x0706, 0x0722, 0x0801, 0x0802, 0x0803, 0x0901] ++
  [0x0A02, 0x0A04, 0x0A06, 0x0A0A, 0x0A0D, 0x0B01, 0x0B03, 0x0B06, 0x0B07, 0x0B0A, 0x0C01, 0x0C03, 0x0D01, 0x0D04, 0x0D07, 0x0D08,
   0x0D40, 0x0D42, 0x0E01, 0x0E05, 0x0F01, 0x0F05, 0x0F06]

/-- The 16-bit instance of a module-wide event (R464). -/
def wide : Nat := 0xFFFF

/-! ## Raising -/

/-- The ACTIVE bits that the conditions in force give: bit b of PM_FAULT [31:17] for block b (R467). -/
def activeBits (conds : List (Nat × Nat)) : Nat :=
  (List.range 15).foldl (fun acc i => if conds.any (fun c => c.1 / 256 == i + 1) then acc + 2 ^ i else acc) 0

/-- PM_FAULT ACTIVE brought to the conditions in force. -/
def State.syncActive (s : State) : State := s.put F.PM_FAULT_ACTIVE (activeBits s.ev.conds)

/-- What an F event does to PM_FAULT and PM_FAULT_CODE (R467). -/
def State.latchFault (s : State) (code inst : Nat) : State :=
  if isF code then
    let s := if s.get F.PM_FAULT_LATCH = 0 then s.put F.PM_FAULT_CODE_FIRST code else s
    let s := (s.put F.PM_FAULT_LATCH (s.get F.PM_FAULT_LATCH ||| 2 ^ (code / 256 - 1))).put F.PM_FAULT_CODE_LAST code
    if conditionCodes.contains code then
      { s with ev := { s.ev with conds := (code, inst) :: s.ev.conds.filter (· ≠ (code, inst)) } }.syncActive
    else s
  else s

/-- An event raised with a full description. -/
def State.raiseEv (s : State) (e : Ev) : State :=
  { s.latchFault e.code e.inst with ev := { (s.latchFault e.code e.inst).ev with outbox := s.ev.outbox ++ [e] } }

/-- Does the time base run? It lies in PD_SBOX (R356, R382). -/
def State.timed (s : State) : Bool := (s.get F.PM_DOMAINS_ON).testBit 2

/-- An event of the start and power functions: while the time base is unpowered the spec gives its stamp no value, and the stamp is a free value
(log entry 1). -/
def State.raiseAny (s : State) (code inst val : Nat) : State :=
  if s.timed then s.raiseEv ⟨code, inst, 0, val, none, s.count s.now⟩
  else let (v, s) := s.free 96; s.raiseEv ⟨code, inst, 0, val, none, v⟩

/-- An event raised now, for an instance, with the value of bytes 4–7 (R464). -/
def State.raise (s : State) (code inst val : Nat) : State := s.raiseEv ⟨code, inst, 0, val, none, s.count s.now⟩

/-- An event raised with the stamp of another instant. -/
def State.raiseAt (s : State) (t code inst val : Nat) : State := s.raiseEv ⟨code, inst, 0, val, none, s.count t⟩

/-- An event whose whole argument R464 gives. -/
def State.raiseWhole (s : State) (code arg : Nat) : State := s.raiseEv ⟨code, wide, 0, 0, some arg, s.count s.now⟩

/-- An event raised at most once for each value of `mark` and each `gap` (R465): a suppressed raise is counted and the next post carries
the count. -/
def State.raiseLimited (s : State) (code inst val mark gap : Nat) : State :=
  let key := code * 65536 + inst
  let (last, n) := kvGet (0, 0) s.ev.rate key
  if last ≠ 0 ∧ mark + 1 < last + gap then
    { s with ev := { s.ev with rate := kvSet (0, 0) s.ev.rate key (last, min (n + 1) 0xFFFF) } }
  else
    let s := { s with ev := { s.ev with rate := kvSet (0, 0) s.ev.rate key (mark + 1, 0) } }
    s.raiseEv ⟨code, inst, n, val, none, s.count s.now⟩

/-- At most once per second (R465). -/
def State.raisePerSecond (s : State) (code inst val : Nat) : State := s.raiseLimited code inst val s.now sec

/-- At most once per sweep (R465): the sweep is known by its start. -/
def State.raisePerSweep (s : State) (code inst val : Nat) : State := s.raiseLimited code inst val s.sched.sweepStart 1

/-- The end of an F condition (R469): the ACTIVE bit of its block clears when no condition of the block is left. -/
def State.endCond (s : State) (code inst : Nat) : State :=
  { s with ev := { s.ev with conds := s.ev.conds.filter (· ≠ (code, inst)) } }.syncActive

/-- The end of every instance of a condition. -/
def State.endConds (s : State) (code : Nat) : State :=
  { s with ev := { s.ev with conds := s.ev.conds.filter (fun c => c.1 != code) } }.syncActive

/-! ## Posting -/

/-- The 64-bit Argument of an event (R464). -/
def Ev.arg (e : Ev) : Nat :=
  match e.whole with
  | some a => a
  | none => e.inst % 65536 + e.supp * 65536 + e.val % 2 ^ 32 * 2 ^ 32

/-- The 32 bytes of a notice-board entry (R346). -/
def NbEntry.bytes (e : NbEntry) : List (BitVec 8) :=
  stampBytes e.stamp ++ leBytes e.code 2 ++ leBytes e.modId 1 ++ leBytes 0 1 ++ leBytes e.arg 8 ++ leBytes e.number 4 ++ leBytes 0 4

/-- The entries that the notice board holds (R346). -/
def State.nbOccupancy (s : State) : Nat := sub32 (s.get F.HW_NB_WR_COUNT) (s.get F.HW_NB_RD_COUNT)

/-- HW_NB_STAT OCCUPANCY brought to the two counts. -/
def State.syncNb (s : State) : State := s.putSat F.HW_NB_STAT_OCCUPANCY s.nbOccupancy

/-- A cause for MSI-X vector `v` (R348): its pending bit is set; the message goes only when the bit goes from 0 to 1 unmasked, and on a
masked vector the PBA bit is set. -/
def State.vectorCause (s : State) (v : Nat) : State :=
  if v ≥ 32 then s else
  let pend := s.get F.HW_IRQ_PEND_PEND
  let fresh := !pend.testBit v
  let s := s.put F.HW_IRQ_PEND_PEND (pend ||| 2 ^ v)
  if s.ev.masked.testBit v then { s with ev := { s.ev with pba := s.ev.pba ||| 2 ^ v } }
  else if fresh then { s with ev := { s.ev with messages := kvSet 0 s.ev.messages v (kvGet 0 s.ev.messages v + 1) } }
  else s

/-- The vector that HW_VEC_MAPr assigns to a block (R348); 0 and values above 31 count as 1 (R355). -/
def State.vectorOf (s : State) (block : Nat) : Nat :=
  let v := s.get ((if block % 4 = 0 then F.HW_VEC_MAP_VEC0 else if block % 4 = 1 then F.HW_VEC_MAP_VEC1
            else if block % 4 = 2 then F.HW_VEC_MAP_VEC2 else F.HW_VEC_MAP_VEC3) (block / 4))
  if v = 0 ∨ v > 31 then 1 else v

/-- One entry written to the notice board (R346). -/
def State.nbWrite (s : State) (e : Ev) : State :=
  let wr := s.get F.HW_NB_WR_COUNT
  let entry : NbEntry := ⟨stampOf e.stamp, e.code, s.get F.FL_STATUS_ID, e.arg, wr⟩
  let nb := s.get F.HW_NB_SIZE_SIZE
  let s := { s with ev := { s.ev with nb := kvIns (wr % nb) entry (kvDel (wr % nb) s.ev.nb) } }
  ((s.bumpWrap F.HW_NB_WR_COUNT 1).syncNb).vectorCause (s.vectorOf (e.code / 256))

/-- Event 0x0A09 once the board has drained to half after a loss (R347). -/
def State.nbReportLost (s : State) : State :=
  if s.ev.placed ∧ s.ev.lostDue > 0 ∧ s.nbOccupancy ≤ s.get F.HW_NB_SIZE_SIZE / 2 then
    let n := s.ev.lostDue
    { s with ev := { s.ev with lostDue := 0 } }.nbWrite ⟨0x0A09, wide, 0, min n 0xFFFFFFFF, none, s.count s.now⟩
  else s

/-- The start log with one more event (R387): 64 entries; on overflow the last becomes 0x0D09 with the number lost. -/
def State.logEvent (s : State) (e : Ev) : State :=
  if s.ev.log.length < 64 ∧ s.ev.logLost = 0 then { s with ev := { s.ev with log := s.ev.log ++ [e] } }
  else
    let n := if s.ev.logLost = 0 then 2 else s.ev.logLost + 1
    { s with ev := { s.ev with log := s.ev.log.take 63 ++ [⟨0x0D09, wide, 0, min n 0xFFFFFFFF, none, e.stamp⟩], logLost := n } }

/-- One event posted: to the notice board once it is placed, else to the start log (R463). -/
def State.post (s : State) (e : Ev) : State :=
  if s.ev.placed then
    let s := s.nbReportLost
    if s.nbOccupancy ≥ s.get F.HW_NB_SIZE_SIZE then
      ({ s with ev := { s.ev with lostDue := s.ev.lostDue + 1 } }).bump F.HW_NB_LOST_COUNT F.HW_CNT_SAT_LOST_SAT 1
    else s.nbWrite e
  else s.logEvent e

/-- Does `a` go before `b`: earlier stamp, then lower code, then lower instance (R463). -/
def Ev.before (a b : Ev) : Bool :=
  if a.stamp ≠ b.stamp then decide (a.stamp < b.stamp)
  else if a.code ≠ b.code then decide (a.code < b.code) else decide (a.inst < b.inst)

/-- `e` put behind every event that goes before it or is level with it. -/
def insertEv (e : Ev) : List Ev → List Ev
  | [] => [e]
  | x :: xs => if e.before x then e :: x :: xs else x :: insertEv e xs

/-- The events in the order of R463. -/
def sortEvs (es : List Ev) : List Ev := es.foldr insertEv []

/-- Every raised event posted, in order. -/
def State.postAll (s : State) : State :=
  let es := sortEvs s.ev.outbox
  es.foldl (fun s e => s.post e) { s with ev := { s.ev with outbox := [] } }

/-- The notice board placed empty; the start log is written to it first (R346, R387). -/
def State.placeBoard (s : State) : State :=
  let log := s.ev.log
  let s := { s with ev := { s.ev with placed := true, nb := [], lostDue := 0, log := [], logLost := 0 } }
  let s := ((s.put F.HW_NB_WR_COUNT 0).put F.HW_NB_RD_COUNT 0).syncNb
  log.foldl (fun s e => s.post e) s

/-! ## The optical state and AMP_EN# -/

/-- Is any DARK cause of R70 set? -/
def State.darkCause (s : State) : Bool :=
  s.is F.OP_STATE_INTERLOCK || s.is F.OP_STATE_OVERPOWER || s.is F.OP_STATE_LOOP_FAULT || s.is F.OP_STATE_LAUNCH_OPEN ||
  s.is F.OP_STATE_AMP_FAULT || s.is F.OP_STATE_LASER || s.is F.OP_STATE_HOST_DARK

/-- Is any PROBE cause of R70 set? -/
def State.probeCause (s : State) : Bool :=
  s.is F.OP_STATE_DEADMAN || s.is F.OP_STATE_BREAK || s.is F.OP_STATE_HOST_PROBE

/-- The state that R70 gives: 0 OFF, 1 DARK, 2 PROBE, 3 FULL. -/
def State.opticalState (s : State) : Nat :=
  if s.opt.off then 0 else if s.darkCause then 1 else if s.probeCause then 2 else 3

/-- OP_STATE STATE, TT_STATUS PROBE and AMP_EN# as the causes give them (R69, R70, R89, R91). -/
def State.showOptics (s : State) : State :=
  ((s.put F.OP_STATE_STATE s.opticalState).putB F.TT_STATUS_PROBE (s.opticalState = 2)).putB F.OP_AMP_EN_OUT
    (s.is F.OP_AMP_USE && decide (2 ≤ s.opticalState) && !s.is F.OP_FUSE_STATUS_FUSED)

/-- When AMP_EN# goes low, or would but for the fuse, READY_TMO begins (R89, R91). -/
def State.noteAmp (s : State) (old : Nat) : State :=
  if old < 2 ∧ 2 ≤ s.opticalState ∧ s.is F.OP_AMP_USE then
    { s with opt := { s.opt with ampSince := s.now, ampSeen := s.is F.OP_AMP_MON } }
  else s

/-- A change to DARK or OFF closes the gate on a launch under way, and every change raises 0x0105 (R71). -/
def State.noteChange (s : State) (old : Nat) : State :=
  if old = s.opticalState then s
  else (if s.opticalState ≤ 1 then { s with sched := { s.sched with light := none } } else s).raise 0x0105 wide (old + 256 * s.opticalState)

/-- The optical state brought to its causes. -/
def State.syncOptics (s : State) : State :=
  (s.showOptics.noteAmp (s.get F.OP_STATE_STATE)).noteChange (s.get F.OP_STATE_STATE)

/-! ## Powered domains (R38–R40, R382) -/

/-- The domain bit of the block whose base is b × 0x0001_0000 (R38, R39, R382). -/
def blockDomain (b : Nat) : Nat :=
  [0, 0, 2, 5, 5, 6, 8, 8, 9, 9, 9, 10, 10, 10, 11, 11, 11, 12, 12, 12, 8, 13, 7, 3, 3, 2, 13, 13, 14, 14, 14, 2, 15, 1, 1, 1].getD b 0

/-- Is domain d powered? -/
def State.domainOn (s : State) (d : Nat) : Bool := (s.get F.PM_DOMAINS_ON).testBit d

/-- Is the block of a control-space address powered? -/
def State.blockOn (s : State) (addr : Nat) : Bool := s.domainOn (blockDomain (addr / 65536))

/-- An access to a block whose domain is off (R40): zero data or no effect, and the record of the access. -/
def State.offAccess (s : State) (addr : Nat) : State :=
  let b := addr / 65536
  let s := { s with resp := [0] }
  if b < 32 then s.put F.PM_OFFACC_LO_BLOCK (s.get F.PM_OFFACC_LO_BLOCK ||| 2 ^ b)
  else s.put F.PM_OFFACC_HI_BLOCK (s.get F.PM_OFFACC_HI_BLOCK ||| 2 ^ (b - 32))

/-- An access to a register at `addr` with effect `f` (R40). -/
def access (addr : Nat) (f : State → State) (s : State) : State := if s.blockOn addr then f s else s.offAccess addr

/-- What a block does on its own: nothing while its domain is off (R382). -/
def inDomain (d : Nat) (f : State → State) (s : State) : State := if s.domainOn d then f s else s

/-! ## The form of a meaning -/

/-- The answer of the machine to one command. -/
abbrev Outcome := Host.Outcome State Fault Refusal

/-- The end of every meaning: the optical state follows its causes, and what was raised is posted. -/
def State.settle (s : State) : State := (s.syncOptics).postAll

/-- The state at instant `t`: time does not run backwards. -/
def State.advance (s : State) (t : Nat) : State := { s with now := max s.now t }

/-- The state a command leaves: settled, with the queue `q` of the commands that wait. -/
def State.answer (s : State) (q : List Instr) : State := { s.settle with pending := q }

/-- A meaning that acts at instant `t`: the effect `f` is applied to the state of that instant and the state settles. The queue is not the
meaning's to change. -/
def runAt (t : Nat) (s : State) (f : State → State) : Outcome := .next ((f (s.advance t)).answer s.pending)

/-- A meaning that is a read of a register, with the effect `f` of a read of the whole word (R7). -/
def readAt (r : ReadAt) (s : State) (f : State → State) : Outcome := runAt r.at_ s (readBytes r.be f)

/-- A meaning that names no instant. -/
def run (s : State) (f : State → State) : Outcome := runAt s.now s f

end Sys2Proof.Machine
end

