-- ==== Sys2Proof/Machine/Operands.lean ====
section
/-!
DEFINITION. Machine/Operands.lean: the number forms that the blocks share: rounding and saturation of the fixed-point stages (R114,
R146), two's complement fields, complex values, the argument of a complex value (R130) and logarithmic readings. Arguments and rotations
are worked out to 56 bits of a turn, far below the 16 bits that any code keeps.
-/
namespace Sys2Proof.Machine

/-- A complex value with integer components. -/
abbrev Cpx := Int × Int

/-- The sum of two complex values. -/
def Cpx.add (a b : Cpx) : Cpx := (a.1 + b.1, a.2 + b.2)

/-- The product `a × conj(b)`. -/
def Cpx.mulConj (a b : Cpx) : Cpx := (a.1 * b.1 + a.2 * b.2, a.2 * b.1 - a.1 * b.2)

/-- The squared magnitude. -/
def Cpx.norm (a : Cpx) : Nat := (a.1 * a.1 + a.2 * a.2).toNat

/-- A value limited to a signed width. -/
def satBits (w : Nat) (v : Int) : Int := clampI (-(2 ^ (w - 1))) (2 ^ (w - 1) - 1) v

/-- sat16 of R146. -/
def sat16 (v : Int) : Int := satBits 16 v

/-- rnd(v × 2^(−k)) with ties away from zero (R114). -/
def rndShift (v : Int) (k : Nat) : Int := divRound v (2 ^ k)

/-- The value of a 16-bit pattern as a signed number. -/
def signed16 (v : Nat) : Int := let v := v % 65536; if v < 32768 then v else (v : Int) - 65536

/-- The reduction modulo 2¹⁶ into −32,768 to +32,767 (R144). -/
def wrap16 (v : Int) : Int := signed16 (v % 65536).toNat

/-- Integer square root by 64 halvings of a bound. -/
def isqrtGo (n : Nat) : Nat → Nat → Nat
  | 0, r => r
  | k + 1, r => let c := r + 2 ^ k; isqrtGo n k (if c * c ≤ n then c else r)

/-- The largest r with r² ≤ n, for n below 2²⁵⁶. -/
def isqrt (n : Nat) : Nat := isqrtGo n 128 0

/-- `k × p ÷ √n`, rounded; 0 for n = 0. -/
def divSqrt (k : Nat) (p : Int) (n : Nat) : Int :=
  if n = 0 then 0
  else
    let q := isqrt (4 * p.natAbs * p.natAbs * (k * k) / n)
    let m : Int := (q + 1) / 2
    if p ≥ 0 then m else -m

/-- `p ÷ √n` scaled by 2³² and rounded; 0 for n = 0. -/
def divSqrt32 (p : Int) (n : Nat) : Int := divSqrt (2 ^ 32) p n

/-- arctan(2^(−i)) in units of 2^(−56) turn. -/
def atanTable : List Int :=
  [9007199254740992, 5317260203651848, 2809494260081567, 1426143154396570, 715839029270683, 358268477703266, 179177955010598,
   89594445026371, 44797906047171, 22399038468267, 11199529914810, 5599766292493, 2799883313132, 1399941677427,
   699970841321, 349985420986, 174992710534, 87496355272, 43748177637, 21874088818, 10937044409, 5468522205, 2734261102,
   1367130551, 683565276, 341782638, 170891319, 85445659, 42722830, 21361415, 10680707, 5340354, 2670177, 1335088,
   667544, 333772, 166886, 83443, 41722, 20861, 10430, 5215, 2608, 1304, 652, 326, 163, 81, 41, 20, 10, 5]

/-- Vectoring: the angle still to be found for a vector with x > 0, in units of 2^(−56) turn. -/
def argGo : List Int → Nat → Int → Int → Int → Int
  | [], _, _, _, acc => acc
  | t :: ts, i, x, y, acc =>
    if y = 0 then acc
    else if y > 0 then argGo ts (i + 1) (x + y / 2 ^ i) (y - x / 2 ^ i) (acc + t)
    else argGo ts (i + 1) (x - y / 2 ^ i) (y + x / 2 ^ i) (acc - t)

/-- The argument of a complex value in units of 2^(−56) turn, above −π and up to π (R120); 0 for the value 0 (R130). -/
def argTurn (a : Cpx) : Int :=
  let x := a.1 * 2 ^ 60
  let y := a.2 * 2 ^ 60
  if a.1 = 0 ∧ a.2 = 0 then 0
  else if a.1 < 0 then (if a.2 < 0 then -(2 ^ 55) else 2 ^ 55) + argGo atanTable 0 (-x) (-y) 0
  else argGo atanTable 0 x y 0

/-- The 16-bit phase code of R130. -/
def phaseCode (a : Cpx) : Int := wrap16 (divRound (argTurn a) (2 ^ 40))

/-- Rotation: cosine and sine of an angle, scaled by 2⁶⁰, built up from the table. -/
def cisGo : List Int → Nat → Int → Int → Int → Cpx
  | [], _, x, y, _ => (x, y)
  | t :: ts, i, x, y, z =>
    if z ≥ 0 then cisGo ts (i + 1) (x - y / 2 ^ i) (y + x / 2 ^ i) (z - t)
    else cisGo ts (i + 1) (x + y / 2 ^ i) (y - x / 2 ^ i) (z + t)

/-- e^(j2πz) for z in units of 2^(−56) turn, scaled by 2⁶⁰. -/
def cisTurn (z : Int) : Cpx :=
  let z := z % 2 ^ 56
  let q := (z + 2 ^ 53) / 2 ^ 54
  let r := cisGo atanTable 0 700114967507363238 0 (z - q * 2 ^ 54)
  match q % 4 with
  | 0 => r
  | 1 => (-r.2, r.1)
  | 2 => (-r.1, -r.2)
  | _ => (r.2, -r.1)

/-- The largest n in lo … lo + 2^fuel − 1 with (a ÷ b)^(2k) ≥ 10^(2n − 1). -/
def logGo (pa pb : Nat) : Nat → Int → Int
  | 0, lo => lo
  | f + 1, lo =>
    let mid := lo + 2 ^ f
    let e := 2 * mid - 1
    logGo pa pb f (if (if e ≥ 0 then decide (pa ≥ pb * 10 ^ e.toNat) else decide (pa * 10 ^ (-e).toNat ≥ pb)) then mid else lo)

/-- rnd(k × log₁₀(a ÷ b)) for positive a and b, within ±2^16. -/
def logRatio (k a b : Nat) : Int := logGo (a ^ (2 * k)) (b ^ (2 * k)) 17 (-65536)

/-- A list brought to n elements, filled with `d`. -/
def padTo {α : Type} (d : α) : Nat → List α → List α
  | 0, _ => []
  | n + 1, [] => d :: padTo d n []
  | n + 1, x :: xs => x :: padTo d n xs

/-- `n` bytes of a bitmap, bit 0 of byte 0 first. -/
def bitmapGo : Nat → List Bool → List (BitVec 8)
  | 0, _ => []
  | n + 1, bs =>
    BitVec.ofNat 8 (((bs.take 8).zipIdx).foldl (fun a (p : Bool × Nat) => if p.1 then a + 2 ^ p.2 else a) 0) :: bitmapGo n (bs.drop 8)

/-- A bitmap of conditions, padded to whole bytes. -/
def bitmap (bs : List Bool) : List (BitVec 8) := bitmapGo ((bs.length + 7) / 8) bs

/-- A byte list padded with zeros to a multiple of 8 (R133, R160). -/
def pad8 (bs : List (BitVec 8)) : List (BitVec 8) := bs ++ List.replicate ((8 - bs.length % 8) % 8) 0

end Sys2Proof.Machine
end

