-- ==== Sys2Proof/Machine/Codec.lean ====
section
/-!
DEFINITION. Machine/Codec.lean: the coding of frames (R324–R332): the parametric CRC (R327, R344), bit packing (R328), lossless predictive
coding (R330, R331), fixed-ratio coding (R332) and the frame's bytes.
-/
namespace Sys2Proof.Machine

/-! ## CRC (R327, R344) -/

/-- The low `n` bits of a number in reverse order. -/
def reflect : Nat → Nat → Nat → Nat
  | 0, _, acc => acc
  | n + 1, v, acc => reflect n (v / 2) (2 * acc + v % 2)

/-- `n` shifts of a CRC register of `w` bits. -/
def crcShift (w poly : Nat) : Nat → Nat → Nat
  | 0, c => c
  | n + 1, c => crcShift w poly n (if c.testBit (w - 1) then (2 * c % 2 ^ w) ^^^ poly else 2 * c % 2 ^ w)

/-- The register after a byte. -/
def crcByte (w poly : Nat) (refin : Bool) (c : Nat) (b : BitVec 8) : Nat :=
  crcShift w poly 8 (c ^^^ (if refin then reflect 8 b.toNat 0 else b.toNat) * 2 ^ (w - 8))

/-- The end of a CRC: reflection and the final exclusive or. -/
def crcEnd (w : Nat) (refout : Bool) (xor c : Nat) : Nat := (if refout then reflect w c 0 else c) ^^^ xor % 2 ^ w

/-- The CRC-32C of bytes (R327). -/
def crc32c (bs : List (BitVec 8)) : Nat := crcEnd 32 true 0xFFFFFFFF (bs.foldl (crcByte 32 0x1EDC6F41 true) 0xFFFFFFFF)

/-- The CRC-32 of calibration records and journals (R284). -/
def crc32 (bs : List (BitVec 8)) : Nat := crcEnd 32 true 0xFFFFFFFF (bs.foldl (crcByte 32 0x04C11DB7 true) 0xFFFFFFFF)

/-! ## Bits (R328) -/

/-- The `n` bits of a number, most significant first, before `acc`. -/
def bitsOf : Nat → Nat → List Bool → List Bool
  | 0, _, acc => acc
  | n + 1, v, acc => bitsOf n (v / 2) ((v % 2 == 1) :: acc)

/-- A byte from its bits, most significant first. -/
def byteOf (bs : List Bool) : BitVec 8 := BitVec.ofNat 8 ((padTo false 8 bs).foldl (fun a b => 2 * a + if b then 1 else 0) 0)

/-- Bits packed into bytes from the most significant bit on. -/
def packBits : Nat → List Bool → List (BitVec 8)
  | 0, _ => []
  | n + 1, bs => if bs.isEmpty then [] else byteOf (bs.take 8) :: packBits n (bs.drop 8)

/-- A list cut into pieces of `n`. -/
def pieces {α : Type} (n : Nat) : Nat → List α → List (List α)
  | 0, _ => []
  | f + 1, xs => if xs.isEmpty then [] else xs.take n :: pieces n f (xs.drop n)

/-- The value array as stored raw: 2 bytes a value (R329). -/
def rawBytes (vs : List Int) : List (BitVec 8) := vs.flatMap (fun v => leBytes (v % 65536).toNat 2)

/-! ## Mode 1 (R330) -/

/-- The coded numbers of a value array of C × V values a sample, V values a channel. -/
def residuals (cv v : Nat) (vs : List Int) : List Nat :=
  let x := vs.toArray
  (List.range x.size).map (fun i =>
    let p := if i ≥ cv then x.getD (i - cv) 0 else if i ≥ v then x.getD (i - v) 0 else 0
    let r := wrap16 (x.getD i 0 - p)
    (if r ≥ 0 then 2 * r else -2 * r - 1).toNat)

/-- The bits that u takes with parameter K. -/
def riceLen (k u : Nat) : Nat := if k = 15 then 16 else if u / 2 ^ k ≥ 32 then 48 else u / 2 ^ k + 1 + k

/-- The code of u with parameter K, before `acc`. -/
def riceBits (k u : Nat) (acc : List Bool) : List Bool :=
  if k = 15 then bitsOf 16 u acc
  else if u / 2 ^ k ≥ 32 then List.replicate 32 true ++ bitsOf 16 u acc
  else List.replicate (u / 2 ^ k) true ++ false :: bitsOf k (u % 2 ^ k) acc

/-- The K that gives the fewest bits, the smaller on a tie. -/
def bestK (us : List Nat) : Nat :=
  let len := fun (k : Nat) => us.foldl (fun a u => a + riceLen k u) 0
  (List.range 16).foldl (fun b k => if len k < len b then k else b) 0

/-- A block of mode 1. -/
def block1 (us : List Nat) : List Bool :=
  let k := bestK us
  let vals := us.foldr (riceBits k) []
  bitsOf 4 k (if us.length = 256 then false :: vals else true :: bitsOf 8 (us.length - 1) vals)

/-- The value array stored in mode 1. -/
def mode1 (cv v : Nat) (vs : List Int) : List (BitVec 8) :=
  let us := residuals cv v vs
  let bits := (pieces 256 us.length us).flatMap block1
  pad8 (packBits bits.length bits)

/-! ## Fixed ratio (R332) -/

/-- The mantissa width at place j of a block. -/
def mantissa (m j : Nat) : Nat := if j < 240 then m + 1 else m

/-- The smallest E for which every value lies in −2^E to 2^E − 1. -/
def blockExp (vs : List Int) : Nat :=
  ((List.range 16).find? (fun e => vs.all (fun x => decide (-(2 ^ e : Int) ≤ x) && decide (x ≤ 2 ^ e - 1)))).getD 15

/-- One value quantised with the error fed back: mantissa, decoded value and new error. -/
def quantise (e w : Nat) (x err : Int) : Int × Int × Int :=
  if e < w then (x, x, 0)
  else
    let t := x + err
    let q := clampI (-(2 ^ (w - 1))) (2 ^ (w - 1) - 1) (t / 2 ^ (e - w + 1))
    let y := (2 * q + 1) * 2 ^ (e - w)
    (q, y, clampI (-(2 ^ (e - w))) (2 ^ (e - w)) (t - y))

/-- The blocks of a fixed-ratio mode from value `i` on: bits and decoded values. -/
def fixedBlocks (m cv : Nat) : List (List Int) → Nat → Array Int → List Bool × List Int
  | [], _, _ => ([], [])
  | b :: bs, i, err =>
    let e := blockExp b
    let full := padTo 0 256 b
    let (bits, dec, err) := full.zipIdx.foldl (fun (a : List (List Bool) × List Int × Array Int) x =>
      let w := mantissa m x.2
      let c := (i + x.2) % max 1 cv
      let (q, y, r) := quantise e w x.1 (if x.2 < b.length then a.2.2.getD c 0 else 0)
      (bitsOf w (q % 2 ^ w).toNat [] :: a.1, y :: a.2.1, if x.2 < b.length then a.2.2.setIfInBounds c r else a.2.2)) ([], [], err)
    let head := bitsOf 4 e (decide (b.length < 256) :: false :: false :: false :: bitsOf 8 (b.length - 1) [])
    let (bits', dec') := fixedBlocks m cv bs (i + b.length) err
    (head ++ bits.reverse.flatten ++ bits', dec.reverse.take b.length ++ dec')

/-- The value array stored in mode 2, 3 or 4, with its decoded values. -/
def fixedMode (mode cv : Nat) (vs : List Int) : List (BitVec 8) × List Int :=
  let m := if mode = 2 then 7 else if mode = 3 then 3 else 1
  let (bits, dec) := fixedBlocks m cv (pieces 256 vs.length vs) 0 (Array.replicate cv 0)
  (pad8 (packBits bits.length bits), dec)

/-! ## The frame (R324–R331) -/

/-- The value array as stored: mode, bytes, decoded values, and whether mode 1 has fallen back to mode 0 (R331). -/
def codeArray (mode target : Nat) (f : Frame) : Nat × List (BitVec 8) × List Int × Bool :=
  let cv := f.chans * f.v
  let raw := pad8 (rawBytes f.vals)
  if mode = 1 then
    let c := mode1 cv f.v f.vals
    if 100 * c.length > target * raw.length then (0, raw, f.vals, true) else (1, c, f.vals, false)
  else if mode ≥ 2 ∧ mode ≤ 4 then
    let (c, d) := fixedMode mode cv f.vals
    (mode, c, d, false)
  else (0, raw, f.vals, false)

/-- Bytes 0–55 of the header (R324). -/
def headerBytes (modId mode alive sealSeq flags codedLen payLen check : Nat) (f : Frame) : List (BitVec 8) :=
  leBytes 0x50484F46 4 ++ leBytes 1 2 ++ leBytes modId 1 ++ leBytes mode 1 ++ leBytes f.stream 2 ++ leBytes f.product 1 ++ leBytes alive 1 ++
  leBytes f.seq 4 ++ leBytes f.stamp 12 ++ leBytes f.first 4 ++ leBytes f.chans 4 ++ leBytes f.samples 2 ++ leBytes flags 2 ++
  leBytes payLen 4 ++ leBytes codedLen 4 ++ leBytes check 4 ++ leBytes sealSeq 4

/-- A frame's bytes: header with its check, and payload (R324, R325, R327). -/
def frameBytes (modId alive sealSeq flags : Nat) (coded : Nat × List (BitVec 8) × List Int × Bool) (f : Frame) : List (BitVec 8) :=
  let (mode, bytes, dec, _) := coded
  let payload := f.preamble ++ bytes ++ f.qmap
  let check := crc32c (f.preamble ++ rawBytes dec ++ f.qmap ++ leBytes alive 1)
  let head := headerBytes modId mode alive sealSeq flags bytes.length payload.length check f
  head ++ leBytes (crc32c head) 4 ++ leBytes 0 4 ++ payload

end Sys2Proof.Machine
end

