-- ==== Sys2Proof/Machine/Flags.lean ====
section
/-!
DEFINITION. Machine/Flags.lean: the FLG register of an engine (R200) and the 16-bit and 40-bit arithmetic of R220 with the flags that each
form sets.
-/
namespace Sys2Proof.Machine

/-! ## FLG bits (R200) -/

def flgZ : Nat := 0
def flgN : Nat := 1
def flgC : Nat := 2
def flgV : Nat := 3
def flgAS : Nat := 4
def flgDS : Nat := 5
def flgQF : Nat := 8
def flgQB : Nat := 9
def flgQS : Nat := 10
def flgFB : Nat := 12
def flgMB : Nat := 13

/-- The RW fields of FLG: Z, N, C, V, AS, DS, QF, QB and QS. -/
def flgWritable : Nat := 0x073F

/-- FLG with one bit set from a condition. -/
def setFlag (flg b : Nat) (v : Bool) : Nat :=
  if v then flg ||| 2 ^ b else if flg.testBit b then flg - 2 ^ b else flg

/-- What an ALU form does to the flags: `none` leaves a flag unchanged. DS and AS are sticky (R200). -/
structure FlagSet where
  z : Option Bool := none
  n : Option Bool := none
  c : Option Bool := none
  v : Option Bool := none
  ds : Bool := false
  as_ : Bool := false
deriving DecidableEq, Repr

/-- One flag set where the form names it. -/
def setFlagOpt (flg b : Nat) : Option Bool → Nat
  | none => flg
  | some v => setFlag flg b v

/-- FLG after an ALU form. -/
def FlagSet.apply (f : FlagSet) (flg : Nat) : Nat :=
  let g := setFlagOpt (setFlagOpt (setFlagOpt (setFlagOpt flg flgZ f.z) flgN f.n) flgC f.c) flgV f.v
  let g := if f.ds then setFlag g flgDS true else g
  if f.as_ then setFlag g flgAS true else g

/-! ## Results -/

/-- The 16-bit pattern of an integer. -/
def pat16 (v : Int) : Nat := (v % 65536).toNat

/-- Z and N of a 16-bit result. -/
def zn (r : Nat) : FlagSet := { z := some (r == 0), n := some (r.testBit 15) }

/-- Modular addition with Z, N, C and V. -/
def alu16Add (x y : Nat) : Nat × FlagSet :=
  let r := (x + y) % 65536
  let sx := signed16 x
  let sy := signed16 y
  (r, { zn r with c := some (decide (x + y ≥ 65536)), v := some (decide (sx + sy < -32768 ∨ sx + sy > 32767)) })

/-- Modular subtraction with Z, N, C and V. The spec says no more of C than "carry": whether it is the borrow or its complement is
`Config.subCarryIsBorrow` (log entry 9). -/
def alu16Sub (x y : Nat) : Nat × FlagSet :=
  let r := (x + 65536 - y) % 65536
  let d := signed16 x - signed16 y
  (r, { zn r with c := some (decide (x < y) == Config.subCarryIsBorrow), v := some (decide (d < -32768 ∨ d > 32767)) })

/-- A saturated 16-bit result with Z, N, V and DS. -/
def alu16Sat (v : Int) : Nat × FlagSet :=
  let ovf := decide (v < -32768 ∨ v > 32767)
  let r := pat16 (sat16 v)
  (r, { zn r with v := some ovf, ds := ovf })

/-- A bitwise result: C and V are cleared. -/
def alu16Bits (r : Nat) : Nat × FlagSet := (r, { zn r with c := some false, v := some false })

/-- The three modular shifts with Z and N; C is the last bit shifted out, and with no bit shifted out the free value `open_` (log entry 1). -/
def alu16Shift (kind x n : Nat) (open_ : Bool) : Nat × FlagSet :=
  let r := match kind with
    | 0 => x * 2 ^ n % 65536
    | 1 => x / 2 ^ n
    | _ => pat16 (signed16 x / 2 ^ n)
  let c := if n = 0 then open_ else if kind = 0 then x.testBit (16 - n) else x.testBit (n - 1)
  (r, { zn r with c := some c })

/-- A 40-bit accumulator result limited to its range, with AS (R220). -/
def sat40 (v : Int) : Int × FlagSet :=
  let r := satBits 40 v
  (r, { as_ := decide (r ≠ v) })

/-- RND: sat16(rnd(acc × 2^−sh)) with Z, N and DS. -/
def aluRnd (acc : Int) (sh : Nat) : Nat × FlagSet :=
  let (r, f) := alu16Sat (rndShift acc sh)
  (r, { f with v := none })

/-- RMSQ: min(65,535, rnd(√(acc ÷ t))) with Z and V. -/
def aluRmsq (acc : Int) (t : Nat) : Nat × FlagSet :=
  let r := if acc < 0 ∨ t = 0 then 0 else min 65535 ((isqrt (4 * acc.toNat / t) + 1) / 2)
  (r, { z := some (r == 0), v := some (decide (acc < 0)) })

/-- LOG2: rnd(256 × log₂ acc) for acc ≥ 1, else 0, with Z. -/
def aluLog2 (acc : Int) : Nat × FlagSet :=
  let r := if acc < 1 then 0 else (Nat.log2 (acc.toNat ^ 512) + 1) / 2
  (r, { z := some (r == 0) })

/-- Does branch condition `c` hold (R221)? `none` for condition 15. -/
def condHolds (flg c : Nat) : Option Bool :=
  let z := flg.testBit flgZ
  let n := flg.testBit flgN
  let cc := flg.testBit flgC
  let v := flg.testBit flgV
  match c with
  | 0 => some true
  | 1 => some z
  | 2 => some !z
  | 3 => some n
  | 4 => some !n
  | 5 => some (n != v)
  | 6 => some (n == v)
  | 7 => some (!z && n == v)
  | 8 => some (z || n != v)
  | 9 => some cc
  | 10 => some !cc
  | 11 => some v
  | 12 => some !v
  | 13 => some (flg.testBit flgQF)
  | 14 => some !(flg.testBit flgQF)
  | _ => none

end Sys2Proof.Machine
end

