-- ==== Sys2Proof/Machine/Optics.lean ====
section
/-!
DEFINITION. Machine/Optics.lean: the optical engine of chapter 03: monitors and ceilings (R72–R75), loop check (R76), prediction and
withholding (R55, R472), diagnostic and re-test pulses (R82, R83), causes and commands (R70, R71), fuse (R77), interlock (R78), dead-man
timer (R79–R81), break detection (R84–R88) and external amplifier (R89–R91).
-/
namespace Sys2Proof.Machine

/-! ## Causes -/

/-- A cause set with its event, when it is not already set (R70). -/
def State.setCause (s : State) (f : Fld) (code inst val : Nat) : State :=
  if s.is f then s else (s.put f 1).raise code inst val

/-- A cause cleared, and with it the condition of its event (R469). -/
def State.clearCause (s : State) (f : Fld) (code : Nat) : State :=
  if s.is f then (s.put f 0).endConds code else s

/-! ## Ceilings and the averaging window -/

/-- The sweep period T in ticks (R45). -/
def State.period (s : State) : Nat := s.get F.TT_SWEEP_PERIOD_T * (10 * ns)

/-- EVERY of TT_BRIL, at least 1. -/
def State.every (s : State) : Nat := max 1 (s.get F.TT_BRIL_EVERY)

/-- The averaging window: OP_AVG_WIN rounded up to a whole multiple of EVERY × T (R72), in ticks. -/
def State.windowLen (s : State) : Nat :=
  let w := max 1 (min 1000 (s.get F.OP_AVG_WIN_WIN)) * ms
  let u := s.every * s.period
  if u = 0 then w else (w + u - 1) / u * u

/-- OP_AVG_WIN SWEEPS and the EFFECTIVE ceilings of R73 brought to the settings in force. -/
def State.syncCeilings (s : State) : State :=
  let fused := s.is F.OP_FUSE_STATUS_FUSED
  let s := s.put F.OP_CEIL_AVG_EFFECTIVE (min (s.get F.OP_CEIL_AVG_AVG) (if fused then 350 else 600))
  let s := s.put F.OP_CEIL_PULSE_EFFECTIVE (min (s.get F.OP_CEIL_PULSE_PULSE) (if fused then 5000 else 20000))
  let s := if fused ∧ s.getS F.OP_LOOP_MAX > 10 then s.put F.OP_LOOP_MAX 10 else s
  if s.period = 0 then s else s.putSat F.OP_AVG_WIN_SWEEPS (s.windowLen / s.period)

/-- The launches whose energy stands in the averaging window at the present instant (R72). -/
def State.windowNow (s : State) : List (Nat × (Nat × Nat)) :=
  let len := s.windowLen
  s.opt.window.filter (fun e => decide (s.now < e.1 + len))

/-- The window without the energies that have left it. -/
def State.pruneWindow (s : State) : State := { s with opt := { s.opt with window := s.windowNow } }

/-- The window energies in pJ at BOOST_OUT and at SENSE at the present instant (R72). -/
def State.windowEnergy (s : State) : Nat × Nat :=
  s.windowNow.foldl (fun a e => (a.1 + e.2.1, a.2 + e.2.2)) (0, 0)

/-- A window energy as average power in units of 0.01 mW. -/
def State.windowPower (s : State) (e : Nat) : Nat := 100 * e * ns / max 1 s.windowLen

/-- Is the window energy at either monitor below 2 nJ (R82)? -/
def State.windowLow (s : State) : Bool := decide (s.windowEnergy.1 < 2000 ∨ s.windowEnergy.2 < 2000)

/-- OP_MON_AVG and OP_DIAG ACTIVE brought to the window (R72, R82). When ACTIVE becomes 1 the first diagnostic pulse falls in the first sweep that
starts after it. -/
def State.syncWindow (s : State) : State :=
  let s := s.pruneWindow
  let s := (s.putSat F.OP_MON_AVG_TX_AVG (s.windowPower s.windowEnergy.1)).putSat F.OP_MON_AVG_SENSE_AVG (s.windowPower s.windowEnergy.2)
  let low := s.windowLow
  let was := s.is F.OP_DIAG_ACTIVE
  let s := s.putB F.OP_DIAG_ACTIVE low
  if low && !was then { s with opt := { s.opt with diagFrom := some (s.sched.sweeps + 1) } } else s

/-- The word of OP_MON_AVG at the present instant: the window moves on every 10 ns (R72). -/
def State.monAvgWord (s : State) : Nat :=
  min 65535 (s.windowPower s.windowEnergy.2) * 65536 + min 65535 (s.windowPower s.windowEnergy.1)

/-- The word of OP_DIAG at the present instant, with ACTIVE as the window gives it. -/
def State.diagWord (s : State) : Nat :=
  s.get F.OP_DIAG_PERIOD * 65536 + s.get F.OP_DIAG_MISS_SENSE * 32 + s.get F.OP_DIAG_MISS_TX * 16 + s.get F.OP_DIAG_MISSED * 4 +
  (if s.windowLow then 2 else 0) + s.get F.OP_DIAG_SEEN

/-! ## The loop check (R76) -/

/-- Is the ratio `se ÷ tx` below 10^(lim ÷ 100), that is the loop gain below `lim` tenths of a dB? -/
def gainBelow (se tx : Nat) (lim : Int) : Bool :=
  if lim ≥ 0 then decide (se ^ 100 < tx ^ 100 * 10 ^ lim.toNat) else decide (se ^ 100 * 10 ^ (-lim).toNat < tx ^ 100)

/-- Is the loop gain above `lim` tenths of a dB? -/
def gainAbove (se tx : Nat) (lim : Int) : Bool :=
  if lim ≥ 0 then decide (se ^ 100 > tx ^ 100 * 10 ^ lim.toNat) else decide (se ^ 100 * 10 ^ (-lim).toNat > tx ^ 100)

/-- Does a monitor see a pulse of this energy (R76)? A diagnostic pulse is seen from the detection threshold of 50 pJ on (R83); of any other launch
R76 gives no threshold, and the model takes one step of the monitor, 1 pJ (log entry 101). -/
def saw (e : Nat) (diag : Bool) : Bool := decide ((if diag then 50 else 1) ≤ e)

/-- Does a launch with these energies fail the loop check: its gain lies outside OP_LOOP MIN–MAX, or TX saw it and SENSE did not (R76)? A pulse
that gives neither monitor any energy has no gain, and fails neither way. -/
def State.loopFails (s : State) (tx se : Nat) (diag : Bool) : Bool :=
  (saw tx diag && !saw se diag) || gainBelow se tx (s.getS F.OP_LOOP_MIN) || gainAbove se tx (s.getS F.OP_LOOP_MAX)

/-- The largest n in lo … lo + 2^fuel − 1 whose 10^((2n − 1) ÷ 200) the ratio reaches. -/
def gainSearch (se tx : Nat) : Nat → Int → Int
  | 0, lo => lo
  | k + 1, lo =>
    let mid := lo + 2 ^ k
    let e := 2 * mid - 1
    let reached := if e ≥ 0 then decide (se ^ 200 ≥ tx ^ 200 * 10 ^ e.toNat) else decide (se ^ 200 * 10 ^ (-e).toNat ≥ tx ^ 200)
    gainSearch se tx k (if reached then mid else lo)

/-- OP_LOOP GAIN from a launch: the ratio in units of 0.1 dB, to the nearest (log entry 5); a ratio of 0 has no value in dB, so the field
is free then (log entry 1). -/
def State.putGain (s : State) (tx se : Nat) : State :=
  if tx = 0 ∨ se = 0 then s.putFree F.OP_LOOP_GAIN else s.putS F.OP_LOOP_GAIN (gainSearch se tx 11 (-1024))

/-- The loop check of one launch or diagnostic pulse. -/
def State.loopCheck (s : State) (tx se : Nat) (diag : Bool) : State :=
  if tx < 1000 ∧ !diag then s
  else
    let bad := s.loopFails tx se diag
    let s := s.putGain tx se
    { s with opt := { s.opt with loopChecked := true, loopFailed := s.opt.loopFailed || bad } }

/-- The judgement of a finished sweep (R76): two failing sweeps in a run set LOOP_FAULT; a sweep with nothing checked neither counts nor
breaks the run. -/
def State.loopJudge (s : State) : State :=
  if s.opt.loopChecked then
    let failed := s.opt.loopFailed
    let again := s.opt.loopRun
    let s := { s with opt := { s.opt with loopRun := failed, loopChecked := false, loopFailed := false } }
    if failed && again then s.setCause F.OP_STATE_LOOP_FAULT 0x010B wide 0 else s
  else s

/-! ## One launch at the monitors (R72–R75) -/

/-- A cut: the launch ended at a ceiling (R74); three within 1.000 s set OVERPOWER (R75). -/
def State.cut (s : State) (se : Nat) : State :=
  let s := s.bump F.OP_CUTS_COUNT F.OP_CNT_SAT_CUT_SAT 1
  let s := s.raisePerSweep 0x0100 wide (min se 0xFFFFFFFF)
  let recent := (s.now :: s.opt.cuts).filter (fun c => decide (s.now ≤ c + sec))
  let s := { s with opt := { s.opt with cuts := recent }, sched := { s.sched with light := none } }
  if recent.length ≥ 3 then s.setCause F.OP_STATE_OVERPOWER 0x0101 wide 0 else s

/-- Does a launch of these energies reach a ceiling of R73 at either monitor: the energy ceiling by itself, or the average ceiling by the
window energy with it (R74)? -/
def State.reachesCeiling (s : State) (tx se : Nat) : Bool :=
  let e := 1000 * s.get F.OP_CEIL_PULSE_EFFECTIVE
  let a := s.get F.OP_CEIL_AVG_EFFECTIVE * s.windowLen
  let (wt, ws) := s.windowEnergy
  decide (tx ≥ e ∨ se ≥ e ∨ 10 * ns * wt ≥ a ∨ 10 * ns * ws ≥ a)

/-- Light leaves for `len` ticks, and the monitors measure it (R72, R74). -/
def State.fire (s : State) (tx se len : Nat) : State :=
  let s := { s with sched := { s.sched with light := some (s.now, s.now + len) } }
  let s := { s with opt := { s.opt with window := (s.now, (tx, se)) :: s.opt.window } }
  let s := (s.putSat F.OP_MON_LAST_TX_ENERGY tx).putSat F.OP_MON_LAST_SENSE_ENERGY se
  let s := s.pruneWindow
  let s := if s.reachesCeiling tx se then s.cut se else s
  s.syncWindow

/-! ## Prediction and withholding (R55, R472) -/

/-- Slot k is enabled, carries no Brillouin pulse and belongs to group g (R19, R49). -/
def State.inGroup (s : State) (g k : Nat) : Bool :=
  s.is (F.TT_SLOT_CFG_EN k) && !s.is (F.TT_SLOT_CFG_BRIL k) && s.get (F.TT_SLOT_CFG_GROUP k) == g

/-- The slots of group g. -/
def State.members (s : State) (g : Nat) : List Nat := (List.range 16).filter (s.inGroup g)

/-- The Brillouin slot, if the timetable has one (R18). -/
def State.brilSlot (s : State) : Option Nat :=
  (List.range 16).find? (fun k => s.is (F.TT_SLOT_CFG_EN k) && s.is (F.TT_SLOT_CFG_BRIL k))

/-- The launches that the schedule makes in one sweep: the groups, and 16 for the Brillouin pulse. -/
def State.launches (s : State) : List Nat :=
  List.range (min 16 (s.get F.TT_SCHED_G)) ++ (if s.brilSlot.isSome then [16] else [])

/-- The launches that the optical state lets go: at probe level the probe group alone (R56). -/
def State.permitted (s : State) (id : Nat) : Bool :=
  if s.opticalState = 2 then id == s.get F.TT_SCHED_PROBE_GROUP else true

/-- The withhold rank of a launch (R55). -/
def State.wrank (s : State) (id : Nat) : Nat :=
  if id = 16 then s.get F.TT_BRIL_WRANK else s.get (F.TT_GROUP_CFG_WRANK id)

/-- Does the schedule make a launch at this level (R472): the optical state lets it go, and no baseline withholds it (R249)? -/
def State.counted (s : State) (id : Nat) : Bool := s.permitted id && !(id == 16 && s.br.basing.isSome)

/-- EVERY × T × the predicted average at one monitor with the launches `held` withheld, in pJ (R472). The launch `back` enters with its last
measured energy whatever the level: the restore test of R55. -/
def State.predicted (s : State) (held : List Nat) (back : Option Nat) (pick : Nat × Nat → Nat) : Nat :=
  s.launches.foldl (fun a id =>
    if !(back == some id) && (held.contains id || !s.counted id) then a
    else a + pick (kvGet (0, 0) s.sched.energy id) * (if id = 16 then 1 else s.every)) 0

/-- Is the larger of the two predictions above `num ÷ den` of the average ceiling? -/
def State.overPredicted (s : State) (held : List Nat) (back : Option Nat) (num den : Nat) : Bool :=
  let a := s.get F.OP_CEIL_AVG_EFFECTIVE * s.every * s.period * num
  decide (10 * ns * s.predicted held back (·.1) * den > a ∨ 10 * ns * s.predicted held back (·.2) * den > a)

/-- The next launch to withhold among those that the schedule makes: highest rank, then the Brillouin pulse, then the highest group number
(R55). -/
def State.nextHeld (s : State) (held : List Nat) : Option Nat :=
  (s.launches.filter (fun id => !held.contains id && s.counted id)).foldl
    (fun best id => match best with
      | none => some id
      | some b => if s.wrank id > s.wrank b ∨ (s.wrank id = s.wrank b ∧ id > b) then some id else some b) none

/-- Launches withheld in order until the prediction fits. -/
def State.holdUntilFits (s : State) : Nat → List Nat → List Nat
  | 0, held => held
  | n + 1, held =>
    if s.overPredicted held none 1 1 then
      match s.nextHeld held with
      | some id => s.holdUntilFits n (id :: held)
      | none => held
    else held

/-- The withholding of the sweep that starts (R55): withhold what is needed, or restore one launch when the prediction with it is at most
90 % of the ceiling. -/
def State.withholdPlan (s : State) : State :=
  let held := s.sched.withheld
  let held' := s.holdUntilFits 17 held
  let next := if held'.length > held.length then held' else
    match held with
    | [] => []
    | id :: rest => if s.overPredicted rest (some id) 9 10 then held else rest
  let s := { s with sched := { s.sched with withheld := next } }
  if held = [] ∧ next ≠ [] then (s.put F.TT_STATUS_WITHHOLDING 1).raise 0x0140 wide 0
  else if held ≠ [] ∧ next = [] then (s.put F.TT_STATUS_WITHHOLDING 0).raise 0x0141 wide 0
  else s

/-- Withholding ended by an epoch (R55): nothing of the new timetable is withheld and the prediction starts afresh. -/
def State.withholdReset (s : State) : State :=
  let was := s.sched.withheld ≠ []
  let s := { s with sched := { s.sched with withheld := [], energy := [] } }
  if was then (s.put F.TT_STATUS_WITHHOLDING 0).raise 0x0141 wide 0 else s

/-! ## The launch grid (R45, R46) -/

/-- The gate window of a waveform of `n` samples, in ticks (R46). -/
def State.gateLen (s : State) (n : Nat) : Nat := (n + s.get F.TT_GATE_LEAD + s.get F.TT_GATE_LAG) * 20480

/-- The longest waveform of group g, in samples. -/
def State.groupLen (s : State) (g : Nat) : Nat := (s.members g).foldl (fun m k => max m (s.get (F.TT_SLOT_CFG_WLEN k))) 0

/-- The next 10 ns grid point at or after an offset. -/
def gridUp (x : Nat) : Nat := (x + 10 * ns - 1) / (10 * ns) * (10 * ns)

/-- The re-arm time of the gate (R46). -/
def rearm : Nat := 40 * ns

/-- The gate window of the 1.00 µs diagnostic pulse, in ticks (R46). -/
def State.diagGate (s : State) : Nat := us + (s.get F.TT_GATE_LEAD + s.get F.TT_GATE_LAG) * 20480

/-- The launch interval T_L in ticks. -/
def State.interval (s : State) : Nat := s.get F.TT_LAUNCH_INTERVAL_T_L * (10 * ns)

/-- The Brillouin window of interval 0 as offsets from the sweep's start: it begins at the first grid point at least 40 ns after group 0's gate
window (R46). -/
def State.brilWindow (s : State) : Option (Nat × Nat) :=
  s.brilSlot.map (fun k =>
    let b := gridUp (s.gateLen (s.groupLen 0) + rearm)
    (b, b + s.gateLen (s.get (F.TT_SLOT_CFG_WLEN k)) + rearm))

/-- Where the window of the diagnostic pulse begins in the sweep: at the first grid point at least 40 ns after the last gate window that interval
G − 1 holds before it (R46). -/
def State.diagStart (s : State) : Nat :=
  let g := s.get F.TT_SCHED_G
  gridUp (if g ≤ 1 then (match s.brilWindow with | some (_, e) => e | none => s.gateLen (s.groupLen 0) + rearm)
    else (g - 1) * s.interval + s.gateLen (s.groupLen (g - 1)) + rearm)

/-- Is the present instant the one at this offset from the start of the sweep in progress, and has launch `id` not had it yet (R17, R45)? -/
def State.atInstant (s : State) (id off : Nat) : Bool :=
  decide (0 < s.sched.sweeps) && decide (s.now = s.sched.sweepStart + off) && !s.sched.taken.contains id

/-- Launch `id` has had its instant of the sweep. -/
def State.take (s : State) (id : Nat) : State := { s with sched := { s.sched with taken := id :: s.sched.taken } }

/-- Is it group g's launch instant (R45)? -/
def State.groupDue (s : State) (g : Nat) : Bool := !s.opt.off && decide (g < s.get F.TT_SCHED_G) && s.atInstant g (g * s.interval)

/-- Is it the launch instant of the Brillouin slot (R46, R50)? -/
def State.brilDue (s : State) : Bool := !s.opt.off && (match s.brilWindow with | some (b, _) => s.atInstant 16 b | none => false)

/-- Is it an instant of the grid at which a launch may go (R45, R46): a group's, the Brillouin pulse's or the diagnostic window's? -/
def State.launchInstant (s : State) : Bool :=
  decide (0 < s.sched.sweeps) &&
  ((List.range (s.get F.TT_SCHED_G)).any (fun g => s.now == s.sched.sweepStart + g * s.interval) ||
   (match s.brilWindow with | some (b, _) => s.now == s.sched.sweepStart + b | none => false) || s.now == s.sched.sweepStart + s.diagStart)

/-- Is the gate still taken by a launch, or re-arming (R46)? -/
def State.gateBusy (s : State) : Bool := match s.sched.light with | some (_, b) => decide (s.now < b + rearm) | none => false

/-- Does the amplifier hold launches back: USE is 1, the state is PROBE or FULL, and AMP_MON has not been high since the enable (R89–R91)? -/
def State.ampWaiting (s : State) : Bool := s.is F.OP_AMP_USE && decide (2 ≤ s.opticalState) && !s.opt.ampSeen

/-- May no light leave at this instant whatever the schedule says: the sample clock is STARTING (R104), the laser not LOCKED (R68), the amplifier is not ready (R89), or the gate is
taken (R46)? -/
def State.noLight (s : State) : Bool := decide (s.get F.SL_STATUS_CLK_STATE = 0) || !s.is F.OP_LASER_LOCKED || s.ampWaiting || s.gateBusy

/-- Is every scheduled launch held back at this instant whatever its rank: DARK or OFF, an owed re-test (R82), or no light at all? -/
def State.heldBack (s : State) : Bool := decide (s.opticalState ≤ 1) || decide (s.opt.owed ≠ []) || s.noLight

/-! ## Diagnostic and re-test pulses (R82, R83) -/

/-- Is a periodic diagnostic pulse due in the present sweep? -/
def State.diagDue (s : State) : Bool :=
  s.is F.OP_DIAG_ACTIVE &&
  (match s.opt.diagFrom with
   | none => false
   | some from' => decide (s.sched.sweeps ≥ from') &&
      (match s.opt.diagSweep with
       | some l => if l ≥ from' then decide (s.sched.sweeps ≥ l + max 1 (s.get F.OP_DIAG_PERIOD)) else true
       | none => true))

/-- A diagnostic pulse judged at both monitors, each with a threshold of 50 pJ (R83). -/
def State.judgeDiag (s : State) (tx se : Nat) : State :=
  let mt := decide (tx < 50)
  let mse := decide (se < 50)
  let miss := mt || mse
  let s := ((s.putB F.OP_DIAG_MISS_TX mt).putB F.OP_DIAG_MISS_SENSE mse).putB F.OP_DIAG_SEEN (!miss)
  let n := if miss then min 2 (s.get F.OP_DIAG_MISSED + 1) else 0
  let s := s.put F.OP_DIAG_MISSED n
  if n ≥ 2 then s.setCause F.OP_STATE_LAUNCH_OPEN 0x010A wide 0 else s

/-- A diagnostic pulse launched and judged. -/
def State.pulse (s : State) (tx se : Nat) : State :=
  let s := { s with opt := { s.opt with diagSweep := some s.sched.sweeps } }
  let s := s.fire tx se s.diagGate
  let s := s.loopCheck tx se true
  s.judgeDiag tx se

/-- May the periodic diagnostic pulse go now: the state is PROBE or FULL, the window of R46 begins, one is due and nothing holds light back (R82)? -/
def State.diagAllowed (s : State) : Bool := s.atInstant 17 s.diagStart && s.diagDue && !s.heldBack

/-- The periodic diagnostic pulse of the reserved window (R82). -/
def diagnosticPulse (tx se : Nat) (s : State) : State :=
  if s.diagAllowed then (({ s with sched := { s.sched with launchStamp := stampOf (s.count s.now) } }).take 17).pulse tx se else s

/-- May an owed re-test pulse go now (R76, R82, R83): at a launch instant, outside OFF, with INTERLOCK clear and nothing that holds light back? -/
def State.retestAllowed (s : State) : Bool :=
  !s.opt.off && !s.is F.OP_STATE_INTERLOCK && s.launchInstant && !s.noLight

/-- A re-test pulse (R76, R82, R83): one is owed for each cause that a RESUME cleared; it waits while INTERLOCK is set and for the next launch
instant. A failing loop gain sets LOOP_FAULT again, a missing pulse LAUNCH_OPEN. -/
def retestPulse (tx se : Nat) (s : State) : State :=
  match s.opt.owed with
  | [] => s
  | kind :: rest =>
    if !s.retestAllowed then s
    else
      let s := { s with opt := { s.opt with owed := rest }, sched := { s.sched with launchStamp := stampOf (s.count s.now) } }
      let s := s.pulse tx se
      match kind with
      | .loop => if s.loopFails tx se true then s.setCause F.OP_STATE_LOOP_FAULT 0x010B wide 0 else s
      | .launchOpen => if tx < 50 ∨ se < 50 then s.setCause F.OP_STATE_LAUNCH_OPEN 0x010A wide 0 else s

/-! ## Commands of OP_CTRL (R71) -/

/-- DARK: the HOST_DARK cause. -/
def cmdDark (s : State) : State := s.put F.OP_STATE_HOST_DARK 1

/-- PROBE: the HOST_PROBE cause. -/
def cmdProbe (s : State) : State := s.put F.OP_STATE_HOST_PROBE 1

/-- One cause that owes a re-test when RESUME clears it (R76, R83). Each cause owes a pulse of its own: a RESUME that clears both LOOP_FAULT and
LAUNCH_OPEN owes two, for which the spec asks one each and does not say that one pulse serves both (log entry 101). -/
def State.clearOwing (s : State) (f : Fld) (code : Nat) (kind : Retest) : State :=
  if s.is f then
    let s := s.clearCause f code
    { s with opt := { s.opt with owed := s.opt.owed ++ [kind] } }
  else s

/-- RESUME: every DARK cause that R70 lets it clear. -/
def cmdResume (s : State) : State :=
  let s := if s.is F.OP_IL_LOOP_OK then s.clearCause F.OP_STATE_INTERLOCK 0x0102 else s
  let s := s.clearCause F.OP_STATE_OVERPOWER 0x0101
  let s := s.clearOwing F.OP_STATE_LOOP_FAULT 0x010B .loop
  let s := s.clearOwing F.OP_STATE_LAUNCH_OPEN 0x010A .launchOpen
  let s := if s.is F.OP_AMP_MON then (s.clearCause F.OP_STATE_AMP_FAULT 0x010C).endConds 0x010D else s
  s.put F.OP_STATE_HOST_DARK 0

/-- A confirmed break cleared, with the BREAK cause if it is set (R88). -/
def State.clearBreak (s : State) : State :=
  if s.is F.OP_BREAK_POS_VALID then
    let s := (s.put F.OP_BREAK_POS_VALID 0).put F.OP_STATE_BREAK 0
    let s := { s with opt := { s.opt with breakRun := 0, cleanRun := 0 } }
    (s.endConds 0x0107).raise 0x0108 wide 0
  else s

/-- RESTORE: the PROBE causes that R70 lets it clear, and a confirmed break (R71, R88). -/
def cmdRestore (s : State) : State :=
  let s := if s.opt.kickSince then s.clearCause F.OP_STATE_DEADMAN 0x0104 else s
  let s := s.put F.OP_STATE_HOST_PROBE 0
  s.clearBreak

/-- REBASE: the reference end is established again from the next 8 sweeps (R84). -/
def cmdRebase (s : State) : State := { s with opt := { s.opt with ends := [], collecting := true } }

/-- A write to OP_CTRL: DARK, PROBE, RESUME, RESTORE, REBASE in this order (R94). -/
def opCtrlWrite (v : Nat) (s : State) : State :=
  let s := if v.testBit 3 then cmdDark s else s
  let s := if v.testBit 2 then cmdProbe s else s
  let s := if v.testBit 0 then cmdResume s else s
  let s := if v.testBit 1 then cmdRestore s else s
  if v.testBit 4 then cmdRebase s else s

/-! ## Laser (R68) -/

/-- The laser loses LOCKED. -/
def laserUnlock (s : State) : State :=
  if s.is F.OP_LASER_LOCKED ∨ !s.is F.OP_STATE_LASER then
    ((s.put F.OP_LASER_LOCKED 0).put F.OP_STATE_LASER 1).raise 0x010E wide 0
  else s

/-- The laser becomes LOCKED; a TEC fault ends with it (R280). Event 0x010F is raised at the first LOCKED of a start as well as at a regain: R68
speaks of regaining lock only (log entry 114). -/
def laserLocked (s : State) : State :=
  if s.is F.OP_LASER_LOCKED then s
  else
    let s := (((s.put F.OP_LASER_LOCKED 1).put F.OP_STATE_LASER 0).endConds 0x010E).raise 0x010F wide 0
    if s.is F.HK_TEC_STAT_FAULT then ((s.put F.HK_TEC_STAT_FAULT 0).endConds 0x0720).raise 0x0722 wide 0 else s

/-! ## The safe-optical fuse (R77) -/

/-- A fuse sequence refused with its cause. -/
def State.fuseRefuse (s : State) (result : Nat) : State :=
  ({ s with opt := { s.opt with fuseOpen := none } }.put F.OP_FUSE_STATUS_RESULT result).raise 0x0111 wide 0

/-- 0x0000_5AFE opens or restarts the sequence. -/
def fuseArm (s : State) : State := { s with opt := { s.opt with fuseOpen := some s.now } }

/-- The index of the timetable in force; TT_ID and SB_TT_STATUS show it once the switch is DONE (R59). -/
def State.activeIndex (s : State) : Nat :=
  match s.sw.done with
  | some (new, _) => new
  | none => s.get F.TT_ID_ACTIVE

/-- The active timetable of the image. -/
def State.activeTimetable (s : State) : Option Timetable :=
  s.sw.timetables.find? (fun tt => tt.index == s.activeIndex)

/-- 0x0000_F05E blows the fuse when the sequence and the conditions hold, or refuses with the first condition that fails. -/
def fuseBlow (s : State) : State :=
  match s.opt.fuseOpen with
  | none => s.fuseRefuse 5
  | some t0 =>
    if s.now > t0 + ms then s.fuseRefuse 5
    else
      let lc := s.otp.life
      let long : Bool := match s.activeTimetable with
        | some tt => tt.inlineAmp || decide (s.get F.TT_FIBRE_END_L_F > 100000000)
        | none => false
      if lc ≠ 1 ∧ lc ≠ 2 then s.fuseRefuse 2
      else if s.opticalState ≥ 2 then s.fuseRefuse 3
      else if long ∨ s.is F.OP_AMP_USE then s.fuseRefuse 4
      else
        let s := { s with opt := { s.opt with fuseOpen := none }, otp := { s.otp with safeOpt := true } }
        let s := (s.put F.OP_FUSE_STATUS_FUSED 1).put F.OP_FUSE_STATUS_RESULT 1
        s.syncCeilings.raise 0x0110 wide 0

/-- Any other value ends an open sequence. -/
def fuseOther (s : State) : State := if s.opt.fuseOpen.isSome then s.fuseRefuse 5 else s

/-- A write to OP_FUSE. -/
def fuseWrite (v : Nat) (s : State) : State :=
  if v = 0x5AFE then fuseArm s else if v = 0xF05E then fuseBlow s else fuseOther s

/-! ## Interlock (R78) -/

/-- INTERLOCK# high for 10 ns or more: the gate closes in every state (R78). While PD_TX is off the land alone shows it, and the cause is set when
it is powered. -/
def interlockOpen (s : State) : State :=
  let s := ({ s with sched := { s.sched with light := none } }.put F.OP_IL_PIN 1).put F.OP_IL_LOOP_OK 0
  if s.domainOn 5 then s.setCause F.OP_STATE_INTERLOCK 0x0102 wide 0 else s

/-- INTERLOCK# low without interruption for 100 ms. -/
def interlockOk (s : State) : State :=
  let s := s.put F.OP_IL_PIN 0
  let s := if s.is F.OP_IL_LOOP_OK then s else if s.domainOn 5 then (s.put F.OP_IL_LOOP_OK 1).raise 0x0103 wide 0 else s.put F.OP_IL_LOOP_OK 1
  if s.is F.OP_IL_AUTO then s.clearCause F.OP_STATE_INTERLOCK 0x0102 else s

/-- A read of OP_IL. PIN is the present level: no command shows the pin fall before it has been low for 100 ms, so from INTERLOCK_OPEN to
INTERLOCK_OK the level is a free value (log entry 115). -/
def ilRead (s : State) : State :=
  let w := s.get F.OP_IL_LOOP_OK * 2 ^ 30 + s.get F.OP_IL_AUTO
  if s.is F.OP_IL_PIN then
    let (v, s) := s.free 1
    { s with resp := [v * 2 ^ 31 + w] }
  else { s with resp := [w] }

/-! ## Dead-man timer (R79–R81) -/

/-- The timer reloaded with TIMEOUT. -/
def State.dmReload (s : State) : State :=
  { s with opt := { s.opt with dmDeadline := some (s.now + s.get F.OP_DM_CFG_TIMEOUT * ms) } }

/-- A write to OP_DM_KICK. -/
def kick (v : Nat) (s : State) : State :=
  if !s.opt.dmRunning then s
  else if (v = 0xA5 ∨ v = 0x5A) ∧ s.opt.lastKick ≠ some v then
    let s := { s with opt := { s.opt with lastKick := some v, kickSince := true } }
    (s.put F.OP_DM_STATUS_EXPIRED 0).dmReload
  else (s.put F.OP_DM_STATUS_BADKICK 1).bump F.OP_BADKICKS_COUNT F.OP_CNT_SAT_KICK_SAT 1

/-- A write to OP_DM_CFG, under the limits of R81; only a write after which a field may change does so, and each reloads the timer. -/
def dmCfgWrite (v : Nat) (s : State) : State :=
  let locked := s.is F.OP_DM_CFG_LOCKED
  let en := v / 2 ^ 31 % 2
  let s := if locked ∧ en = 0 then s else s.put F.OP_DM_CFG_EN en
  let tmo := v % 2 ^ 20
  let tmo := if locked then min tmo s.opt.dmLimit else tmo
  let s := s.put F.OP_DM_CFG_TIMEOUT (max 10 tmo)
  if s.opt.dmRunning then s.dmReload else s

/-- The timer reaches 0 with EN set (R80). With EN clear nothing happens: whether EXPIRED is set then as well the spec does not say, and the model
leaves it clear (log entry 114). -/
def deadmanExpired (s : State) : State :=
  match s.opt.dmDeadline with
  | some d =>
    if s.opt.dmRunning ∧ s.is F.OP_DM_CFG_EN ∧ d ≤ s.now then
      let s := { s with opt := { s.opt with dmDeadline := none, kickSince := false } }
      ((s.put F.OP_DM_STATUS_EXPIRED 1).put F.OP_STATE_DEADMAN 1).raise 0x0104 wide 0
    else s
  | none => s

/-- OP_DM_STATUS REMAIN at the present instant, in ms, rounded up. -/
def State.dmRemain (s : State) : Nat :=
  match s.opt.dmDeadline with
  | some d => if s.opt.dmRunning then min 0xFFFFF ((d - s.now + ms - 1) / ms) else 0
  | none => 0

/-! ## Breaks (R84–R88) -/

/-- The sum of the 8 bins from b on, or of those before the end, with their number (R84). -/
def eightSum (p : List Nat) : Nat × Nat := ((p.take 8).foldl (· + ·) 0, min 8 p.length)

/-- Does A8 lie below 10^(3 ÷ 20) times the noise amplitude √noise? Both sides are raised to the 20th power, so the comparison is exact. -/
def belowThreshold (p : List Nat) (noise : Nat) : Bool :=
  let (sm, n) := eightSum p
  decide (sm ^ 20 < 1000 * (n ^ 20 * noise ^ 10))

/-- The end-of-backscatter bin: the smallest e from which every A8 lies below the threshold; the bin count when there is none (R84). -/
def endBin (noise : Nat) : List Nat → Nat
  | [] => 0
  | b :: p =>
    let e := endBin noise p
    if e = 0 ∧ belowThreshold (b :: p) noise then 0 else e + 1

/-- A bin's position in units of 0.1 mm (R43). -/
def binPos (e : Nat) : Nat := e * 10211

/-- The break's location from the second confirming sweep (R85): position in mm, rounded to the nearest (the spec gives the register's unit and no
rounding, log entry 114), and whether it lies on a reflection. -/
def locate (p : List Nat) (e : Nat) : Nat × Bool :=
  let lo := e - 3
  let region := (List.range (e + 1)).filter (fun j => decide (lo ≤ j ∧ j < p.length))
  let before := ((p.take lo).reverse).take 8
  let lsum := before.foldl (· + ·) 0
  let n := before.length
  -- |v[j]| ≥ 10^(10 ÷ 20) × L, squared: v² × n² ≥ 10 × lsum²
  let peaks := region.filter (fun j => let v := p.getD j 0; decide (n ≠ 0 ∧ v * v * (n * n) ≥ 10 * (lsum * lsum) ∧ v ≠ 0))
  if peaks = [] then ((binPos e + 5) / 10, false)
  else
    let num := peaks.foldl (fun a j => a + j * (p.getD j 0 * p.getD j 0)) 0
    let den := peaks.foldl (fun a j => a + p.getD j 0 * p.getD j 0) 0
    ((2 * num * 10211 + 10 * den) / (20 * den), true)

/-- Insertion into a rising list. -/
def insertNat (x : Nat) : List Nat → List Nat
  | [] => [x]
  | y :: ys => if x ≤ y then x :: y :: ys else y :: insertNat x ys

/-- A list in rising order. -/
def sortNat (xs : List Nat) : List Nat := xs.foldr insertNat []

/-- The median of the 8 ends, the mean of the two middle values, rounded to the nearest mm (R84). -/
def refMedian (ends : List Nat) : Nat :=
  let a := sortNat ends
  (a.getD 3 0 + a.getD 4 0 + 10) / 20

/-- One more end of backscatter towards the reference end; the eighth establishes it, and FIBRE_SHORT is judged (R84). -/
def State.collectEnd (s : State) (pos : Nat) : State :=
  if !s.opt.collecting then s else
  let ends := s.opt.ends ++ [pos]
  if ends.length < 8 then { s with opt := { s.opt with ends := ends } }
  else
    let r := refMedian ends
    let s := { s with opt := { s.opt with ends := [], collecting := false, refValid := true } }
    let s := s.putSat F.OP_REF_END_POS r
    let short := decide (r + 100 * s.get F.OP_APR_MARGIN < s.get F.TT_FIBRE_END_L_F)
    let s := { s with opt := { s.opt with beyondRef := short } }
    if short then s.raise 0x0109 wide 0 else s

/-- A break confirmed (R85–R87). -/
def State.confirmBreak (s : State) (p : List Nat) (e : Nat) : State :=
  let (pos, fresnel) := locate p e
  let s := ((s.put F.OP_BREAK_POS_VALID 1).putB F.OP_BREAK_POS_FRESNEL fresnel).putSat F.OP_BREAK_POS_POS pos
  let s := s.bump F.OP_BREAKS_COUNT F.OP_CNT_SAT_BREAK_SAT 1
  let s := s.raiseAt s.opt.breakFirst 0x0107 wide pos
  let s := { s with opt := { s.opt with cleanRun := 0, breakAt := s.now } }
  if s.is F.OP_APR_EN then s.put F.OP_STATE_BREAK 1 else s

/-- The profile of one launch of the probe group evaluated, once (R84–R88); `at_` is the launch's instant. Both polarisations
absent suspend the detection: such a sweep is not among the eight of the reference end either, which R84 leaves open (log entry 114). -/
def breakDetection (at_ : Nat) (profile : List Nat) (noise : Nat) (s : State) : State :=
  if s.opticalState < 2 ∨ (!s.is F.FP_STATUS_POL_X ∧ !s.is F.FP_STATUS_POL_Y) ∨ s.opt.examined = some at_ then s else
  let e := endBin noise profile
  let s := { s with opt := { s.opt with examined := some at_ } }
  let s0 := s
  let s := s.collectEnd (binPos e)
  if !s0.opt.refValid then s else
  let ref := s0.get F.OP_REF_END_POS
  let short := decide (binPos e + 1000 * s.get F.OP_APR_MARGIN < 10 * ref)
  if s.is F.OP_BREAK_POS_VALID then
    let run := if short then 0 else s.opt.cleanRun + 1
    let need := s.get F.TT_PROBE_RESTORE_SWEEPS
    let s := { s with opt := { s.opt with cleanRun := run } }
    if need ≠ 0 ∧ run ≥ need then s.clearBreak else s
  else if short then
    let s := { s with opt := { s.opt with breakFirst := if s.opt.breakRun = 0 then at_ else s.opt.breakFirst,
                                           breakRun := s.opt.breakRun + 1 } }
    if s.opt.breakRun ≥ 2 then s.confirmBreak profile e else s
  else { s with opt := { s.opt with breakRun := 0 } }

/-! ## External amplifier (R89–R91) -/

/-- AMP_MON goes high. -/
def ampMonRise (s : State) : State := { s.put F.OP_AMP_MON 1 with opt := { s.opt with ampSeen := true } }

/-- AMP_MON has been low for 1 µs (R90). -/
def ampFault (s : State) : State :=
  let seen := s.opt.ampSeen
  let s := s.put F.OP_AMP_MON 0
  if s.is F.OP_AMP_USE ∧ s.opticalState ≥ 2 ∧ seen then s.setCause F.OP_STATE_AMP_FAULT 0x010C wide 0 else s

/-- AMP_MON is not high within READY_TMO of AMP_EN# going low (R89). -/
def ampNotReady (s : State) : State :=
  if s.ampWaiting ∧ s.now ≥ s.opt.ampSince + s.get F.OP_AMP_READY_TMO * ms then
    s.setCause F.OP_STATE_AMP_FAULT 0x010D wide 0
  else s

/-! ## The meanings -/

/-- DIAGNOSTIC_PULSE (R82, R83). -/
def execDiagnosticPulse (t tx sense : Nat) (s : State) : Outcome := runAt t s (diagnosticPulse tx sense)
/-- RETEST_PULSE (R76, R82, R83). -/
def execRetestPulse (t tx sense : Nat) (s : State) : Outcome := runAt t s (retestPulse tx sense)
/-- LASER_UNLOCK (R68). -/
def execLaserUnlock (t : Nat) (s : State) : Outcome := runAt t s (inDomain 4 laserUnlock)
/-- DARK (R71). -/
def execDark (t : Nat) (s : State) : Outcome := runAt t s (access 0x40004 cmdDark)
/-- PROBE (R71). -/
def execProbe (t : Nat) (s : State) : Outcome := runAt t s (access 0x40004 cmdProbe)
/-- RESUME (R71). -/
def execResume (t : Nat) (s : State) : Outcome := runAt t s (access 0x40004 cmdResume)
/-- RESTORE (R71, R88). -/
def execRestore (t : Nat) (s : State) : Outcome := runAt t s (access 0x40004 cmdRestore)
/-- REBASE (R84). -/
def execRebase (t : Nat) (s : State) : Outcome := runAt t s (access 0x40004 cmdRebase)
/-- FUSE_ARM (R77). -/
def execFuseArm (t : Nat) (s : State) : Outcome := runAt t s (access 0x400A0 fuseArm)
/-- FUSE_BLOW (R77). -/
def execFuseBlow (t : Nat) (s : State) : Outcome := runAt t s (access 0x400A0 fuseBlow)
/-- FUSE_OTHER_VALUE (R77). -/
def execFuseOtherValue (t value : Nat) (s : State) : Outcome := runAt t s (access 0x400A0 (fuseWrite value))
/-- INTERLOCK_OPEN (R78). -/
def execInterlockOpen (t : Nat) (s : State) : Outcome := runAt t s interlockOpen
/-- INTERLOCK_OK (R78). -/
def execInterlockOk (t : Nat) (s : State) : Outcome := runAt t s interlockOk
/-- KICK (R79). -/
def execKick (t value : Nat) (s : State) : Outcome := runAt t s (access 0x40044 (kick value))
/-- DEADMAN_EXPIRED (R80). -/
def execDeadmanExpired (t : Nat) (s : State) : Outcome := runAt t s deadmanExpired
/-- AMP_MON_RISE (R89). -/
def execAmpMonRise (t : Nat) (s : State) : Outcome := runAt t s ampMonRise
/-- AMP_FAULT (R90). -/
def execAmpFault (t : Nat) (s : State) : Outcome := runAt t s ampFault
/-- AMP_NOT_READY (R89). -/
def execAmpNotReady (t : Nat) (s : State) : Outcome := runAt t s ampNotReady
/-- DM_CFG_WRITE (R81). -/
def execDmCfgWrite (_src : Source) (t value : Nat) (s : State) : Outcome := runAt t s (access 0x40040 (dmCfgWrite value))

end Sys2Proof.Machine
end

