-- ==== Sys2Proof/Machine/Launch.lean ====
section
/-!
DEFINITION. Machine/Launch.lean: the launch side of the timetable (chapter 02): sweeps and the launch grid (R45, R46), light beyond the
declared end (R47), Brillouin sweeps (R50), pulse sequence numbers (R51), the drive waveform (R52, R53), and the triggered launch (R365).
-/
namespace Sys2Proof.Machine

/-! ## The drive waveform (R52, R53) -/

/-- 2⁶² × cos(2πk ÷ 64) for k = 0–16. -/
def cosQuarter : List Int :=
  [4611686018427387904, 4589479489746651964, 4523073764714963030, 4413108366765438139, 4260642322793532497, 4067143964149113252,
   3834476785802888710, 3564881499871150442, 3260954456333195553, 2925622638761716784, 2562115475870945497, 2173933740352748318,
   1764815834521887442, 1338701787458110889, 899695310372275547, 452024275624069880, 0]

/-- 2⁶² × cos(2πk ÷ 64). -/
def cos64 (k : Nat) : Int :=
  let k := k % 64
  if k ≤ 16 then cosQuarter.getD k 0 else if k ≤ 32 then -(cosQuarter.getD (32 - k) 0)
  else if k ≤ 48 then -(cosQuarter.getD (k - 32) 0) else cosQuarter.getD (64 - k) 0

/-- 2⁶² × sin(2πk ÷ 64). -/
def sin64 (k : Nat) : Int := cos64 (k + 48)

/-- A 10-bit two's complement component of a waveform word (R52). -/
def comp10 (v : Nat) : Int := let v := v % 1024; if v < 512 then v else (v : Int) - 1024

/-- One slot's rounded contribution to the drive sample at index n (R53). -/
def slotSample (slot gain n word : Nat) : Int × Int :=
  let i := comp10 word
  let q := comp10 (word / 65536)
  let k := ((((-15 : Int) + 2 * slot) * n) % 64).toNat
  (divRound (gain * (i * cos64 k - q * sin64 k)) (2048 * 2 ^ 62), divRound (gain * (i * sin64 k + q * cos64 k)) (2048 * 2 ^ 62))

/-- A slot's contributions from index n on. -/
def slotSamples (slot gain : Nat) : Nat → List Nat → List (Int × Int)
  | _, [] => []
  | n, w :: ws => slotSample slot gain n w :: slotSamples slot gain (n + 1) ws

/-- The sum of two sample lists, the shorter taken as 0 beyond its end. -/
def addSamples : List (Int × Int) → List (Int × Int) → List (Int × Int)
  | [], b => b
  | a, [] => a
  | (x, y) :: a, (u, v) :: b => (x + u, y + v) :: addSamples a b

/-- A slot's stored words 0 to N_w − 1 in a waveform memory (R52). -/
def waveWords (m : List (Nat × List Nat)) (slot len : Nat) : List Nat := (kvGet [] m slot).take len

/-- The unsaturated drive samples of the slots in `ks` (R53). -/
def State.driveRaw (s : State) (ks : List Nat) : List (Int × Int) :=
  ks.foldl (fun acc k => addSamples acc
    (slotSamples k (s.get (F.TT_SLOT_GAIN_GAIN k)) 0 (waveWords s.sched.wave k (s.get (F.TT_SLOT_CFG_WLEN k))))) []

/-- Does a component of the sample saturate? -/
def clips (v : Int × Int) : Bool := decide (v.1 < -512 ∨ v.1 > 511 ∨ v.2 < -512 ∨ v.2 > 511)

/-- The drive sample limited to −512 to +511 in each component (R53). -/
def satSample (v : Int × Int) : Int × Int := (clampI (-512) 511 v.1, clampI (-512) 511 v.2)

/-- A PEAK field held to −200 to +210 tenths of a dBm (R66); a load already holds the field in that range, and it reads so (log entry 113). -/
def State.peakOf (s : State) (f : Fld) : Int := clampI (-200) 210 (s.getS f)

/-- The drive waveform of the slots in `ks` formed and played at a peak; a saturated component sets CLIP and raises 0x0143 once in the
sweep (R53). -/
def State.play (s : State) (ks : List Nat) (peak : Int) : State :=
  let raw := s.driveRaw ks
  let s := { s with sched := { s.sched with played := raw.map satSample, playedPeak := peak } }
  if raw.any clips then (s.put F.TT_STATUS_CLIP 1).raisePerSweep 0x0143 wide 0 else s

/-! ## The launch grid (R45, R46) -/

/-- The windows of one sweep as offsets from its start: each group's gate window, the Brillouin window in interval 0, the reserved
diagnostic window in interval G − 1, each with its re-arm time (R46). -/
def State.windows (s : State) : List (Nat × Nat) :=
  (List.range (min 16 (s.get F.TT_SCHED_G))).map (fun i => (i * s.interval, i * s.interval + s.gateLen (s.groupLen i) + rearm)) ++
  s.brilWindow.toList ++ [(s.diagStart, s.diagStart + s.diagGate + rearm)]

/-! ## Sweeps -/

/-- The next sweep starts now (R45, R50): the sweep count advances and withholding is planned. -/
def State.startSweep (s : State) : State :=
  let s := { s with sched := { s.sched with sweeps := s.sched.sweeps + 1, brilCount := s.sched.brilCount + 1, sweepStart := s.now,
                                             taken := [], trigCount := 0, trigWindows := [] } }
  (s.bumpWrap F.TT_SWEEP_COUNT_COUNT 1).withholdPlan

/-- The end of a sweep: the loop check is judged (R76) and the averaging window brought up to date (R82). -/
def State.endSweep (s : State) : State := s.loopJudge.syncWindow

/-- The pulse sequence number of slot k advances (R51). -/
def State.advanceSeq (s : State) (k : Nat) : State := s.bumpWrap (F.TT_PULSE_SEQ_SEQ k) 1

/-- The stamp of a scheduled launch (R363). -/
def State.stampLaunch (s : State) : State := { s with sched := { s.sched with launchStamp := stampOf (s.count s.now) } }

/-- A launch made and measured: its energies are kept for the prediction (R472) and checked (R74, R76). -/
def State.launch (s : State) (id tx se len : Nat) : State :=
  let s := { s with sched := { s.sched with energy := kvSet (0, 0) s.sched.energy id (tx, se) } }
  (s.fire tx se len).loopCheck tx se false

/-- A group's launch instant (R17, R45, R53, R55, R56): the slots' sequence numbers advance whether or not light is launched (R51, R69); `true` when
it was. At any other instant, and a second time in a sweep, nothing launches (log entry 116). -/
def groupLaunch (g tx sense : Nat) (s : State) : State × Bool :=
  if !s.groupDue g then (s, false)
  else
    let ks := s.members g
    let s := ((each ks (fun k s => s.advanceSeq k) s).stampLaunch).take g
    if s.heldBack ∨ !s.permitted g then (s, false)
    else if s.sched.withheld.contains g then (s.bump F.TT_WITHHELD_COUNT F.TT_STATUS_WSAT 1, false)
    else
      let peak := if s.opticalState = 2 then s.peakOf F.TT_PROBE_PROBE_PEAK else s.peakOf (F.TT_GROUP_CFG_PEAK g)
      ((s.play ks peak).launch g tx sense (s.gateLen (s.groupLen g)), true)

/-- Does the Brillouin pulse launch on the present sweep (R50)? -/
def State.brilSweep (s : State) : Bool := (s.sched.brilCount - 1) % s.every == 0

/-- The Brillouin slot's launch instant (R50): its number advances on every sweep; `true` when light was launched. -/
def brilLaunch (tx sense : Nat) (s : State) : State × Bool :=
  match s.brilSlot with
  | none => (s, false)
  | some k =>
    if !s.brilDue then (s, false)
    else
      let s := (s.advanceSeq k).take 16
      if !s.brilSweep then (s, false)
      else
        let s := s.stampLaunch
        if s.heldBack ∨ s.opticalState ≠ 3 then (s, false)
        else if s.sched.withheld.contains 16 then (s.bump F.TT_WITHHELD_COUNT F.TT_STATUS_WSAT 1, false)
        else ((s.play [k] (s.peakOf F.TT_BRIL_PEAK)).launch 16 tx sense (s.gateLen (s.get (F.TT_SLOT_CFG_WLEN k))), true)

/-- The power in a slot's band at the end of its receive guard (R47): at 10 dB above the noise floor on two consecutive sweeps it is
TAIL_LIGHT. The event names no slot (R47 gives it no instance; instance 0xFFFF), and it is not raised again while TAIL_LIGHT stands: the spec says
neither (log entry 114). -/
def receiveGuardEnd (slot : Nat) (level : Int) (s : State) : State :=
  if s.opt.off then s
  else
    let (last, run) := kvGet (0, 0) s.sched.tailRun slot
    if level < 100 then { s with sched := { s.sched with tailRun := kvDel slot s.sched.tailRun } }
    else
      let run := if last + 1 = s.sched.sweeps ∧ run > 0 then run + 1 else if last = s.sched.sweeps ∧ run > 0 then run else 1
      let s := { s with sched := { s.sched with tailRun := kvSet (0, 0) s.sched.tailRun slot (s.sched.sweeps, run) } }
      if run = 2 ∨ (run > 2 ∧ !s.is F.TT_STATUS_TAIL_LIGHT) then (s.put F.TT_STATUS_TAIL_LIGHT 1).raise 0x0142 wide 0 else s

/-- The gate window of a triggered launch made now, from the sweep's start (R46, R365). -/
def State.trigWindow (s : State) : Nat × Nat :=
  let a := s.now - s.sched.sweepStart
  (a, a + max 100 (min 2000 (s.get F.TB_TL_CFG_LEN)) * 10 * ns + (s.get F.TT_GATE_LEAD + s.get F.TT_GATE_LAG) * 20480)

/-- Does that window, with 40 ns before and after, keep clear of the windows of this sweep and the next and of the earlier triggered
launches (R365)? -/
def State.trigClear (s : State) : Bool :=
  let w := s.trigWindow
  let busy := s.windows ++ s.windows.map (fun x => (x.1 + s.period, x.2 + s.period)) ++ s.sched.trigWindows
  busy.all (fun x => !decide (w.1 < x.2 + rearm ∧ x.1 < w.2 + rearm))

/-- Do the conditions of R365 for a triggered launch hold? -/
def State.trigAllowed (s : State) : Bool :=
  s.is F.TB_TL_CFG_EN && decide (s.opticalState = 3) && decide (s.sched.withheld = []) && decide (s.sched.trigCount ≤ s.get F.TB_TL_CFG_MAX) &&
  s.trigClear && decide (s.opt.owed = []) && !s.noLight

/-- The triggered launch 28 ns after a qualified edge (R365): made only when every condition holds, else refused and counted. -/
def triggeredLaunch (tx sense : Nat) (s : State) : State :=
  let w := s.trigWindow
  if s.trigAllowed then
    let s := { s with sched := { s.sched with trigCount := s.sched.trigCount + 1, trigWindows := w :: s.sched.trigWindows,
                                               trigStamp := stampOf (s.count s.now), played := [], playedPeak := s.peakOf F.TB_TL_CFG_PEAK } }
    ((s.bump F.TB_TL_COUNT_COUNT F.TB_CNT_SAT_TL_SAT 1).fire tx sense (w.2 - w.1)).loopCheck tx sense false
  else (s.bump F.TB_TL_REFUSED_COUNT F.TB_CNT_SAT_REF_SAT 1).raisePerSecond 0x0B0B wide 0

/-- RECEIVE_GUARD_END (R47). -/
def execReceiveGuardEnd (t slot : Nat) (level : Int) (s : State) : Outcome := runAt t s (receiveGuardEnd slot level)
/-- TRIGGERED_LAUNCH (R365). -/
def execTriggeredLaunch (t tx sense : Nat) (s : State) : Outcome := runAt t s (inDomain 2 (triggeredLaunch tx sense))

end Sys2Proof.Machine
end

