-- ==== Sys2Proof/Machine/Sampling.lean ====
section
/-!
DEFINITION. Machine/Sampling.lean: sampling lanes and sample clock (chapter 04): slices and background correction (R98–R100), clipping
and levels (R102), skew tracking (R103), the sample clock's states (R104–R107) and slice readback (R111, R112).
-/
namespace Sys2Proof.Machine

/-! ## Lanes (R100) -/

/-- Lane n of the module. -/
def State.lane (s : State) (n : Nat) : Lane := kvGet {} s.lanes n

/-- Lane n replaced. -/
def State.setLane (s : State) (n : Nat) (l : Lane) : State := { s with lanes := kvSet {} s.lanes n l }

/-- Slice k of a lane. -/
def Lane.slice (l : Lane) (k : Nat) : Slice := kvGet {} l.slices k

/-- A lane with slice k replaced. -/
def Lane.setSlice (l : Lane) (k : Nat) (v : Slice) : Lane := { l with slices := kvSet {} l.slices k v }

/-- The lane's state: 0 OFF, 1 CONVERGING, 2 OK, 3 DEGRADED, 4 FAILED (R100). -/
def State.laneState (s : State) (n : Nat) : Nat := s.get (F.SL_LANE_STATUS_STATE n)

/-- SL_STATUS LANE_OK brought to the lanes' states. -/
def State.syncLaneOk (s : State) : State :=
  s.put F.SL_STATUS_LANE_OK
    ((List.range 6).foldl (fun a n => if s.laneState n = 2 ∨ s.laneState n = 3 then a + 2 ^ n else a) 0)

/-- The Brillouin channel's requests leave the FFT units; one in service completes for nobody (R217, R251). -/
def Fabric.dropSpectra (f : Fabric) : Fabric :=
  { f with fft := f.fft.map (fun u => (u.1, { queue := u.2.queue.filter (fun r => r.eng < 8),
                                              busy := u.2.busy.map (fun r => if r.eng < 8 then r else { r with seq := [] }) })) }

/-- The Brillouin channel enters HALTED: BI or BQ is FAILED (R261). -/
def State.brHalt (s : State) : State :=
  if s.get F.BR_STATUS_STATE = 0 ∨ s.get F.BR_STATUS_STATE = 4 then s
  else
    let s := { s with br := { s.br with basing := none, block := {}, blocks := [], job := none, skipFrom := none }, fab := s.fab.dropSpectra }
    (((s.put F.BR_STATUS_STATE 4).put F.BR_STATUS_REBASING 0).put F.BR_STATUS_SKIPPING 0).raise 0x0605 wide 0

/-- A lane's state changed; lane BI or BQ FAILED halts the Brillouin channel (R261). -/
def State.setLaneState (s : State) (n st : Nat) : State :=
  let s := (s.put (F.SL_LANE_STATUS_STATE n) st).syncLaneOk
  if st = 4 ∧ (n = 4 ∨ n = 5) then s.brHalt else s

/-- Does a lane deliver samples: neither FAILED nor OFF (R100)? -/
def State.laneUp (s : State) (n : Nat) : Bool := decide (1 ≤ s.laneState n ∧ s.laneState n ≤ 3)

/-- Is background correction running on lane n (R98)? -/
def State.background (s : State) (n : Nat) : Bool :=
  s.is F.SL_CTRL_BG_EN && s.laneUp n

/-- Does receiver calibration run: the pass of a start (R281)? -/
def State.calibrating (s : State) : Bool := s.is F.CL_STATUS_RUNNING && !s.is F.SB_STATUS_COMMITTED

/-- Are the slices of lane n judged (R99): in background correction and in receiver calibration, in OFF and FAILED never? -/
def State.judged (s : State) (n : Nat) : Bool :=
  (s.is F.SL_CTRL_BG_EN || s.calibrating) && s.laneUp n

/-- The converged lane (R100): every slice has had one reference calibration and the spurs lie at or below −80 dBFS. -/
def State.converge (s : State) (n : Nat) : State :=
  if s.laneState n = 1 ∧ s.get (F.SL_LANE_STATUS_SPUR n) ≥ 80 ∧ (List.range 65).all (fun k => ((s.lane n).slice k).done) then
    s.setLaneState n 2
  else s

/-! ## Slices (R98, R99) -/

/-- The offline slice swaps with the next one in the rotation, on every lane whose rotation runs (R98, R99); BG_FREEZE holds the corrections, not
the rotation. -/
def sliceRotation (s : State) : State :=
  each (List.range 6) (fun n s =>
    if s.background n ∧ s.laneState n ≠ 3 then
      let l := s.lane n
      s.setLane n { l with offline := l.offline.map (fun k => (k + 1) % 65) }
    else s) s

/-- A faulty slice: the first of a lane is retired, the spare takes its place so that none is offline, and the lane is DEGRADED; the second makes
it FAILED (R99). -/
def State.faultySlice (s : State) (n k : Nat) : State :=
  if s.laneState n = 3 then
    (s.setLaneState n 4).raise 0x0202 n 0
  else
    let l := s.lane n
    let s := s.setLane n { l.setSlice k { l.slice k with retired := true } with offline := none }
    ((s.put (F.SL_LANE_STATUS_RETIRED n) k).setLaneState n 3).raise 0x0201 n 0

/-- Does lane n measure slice k so now (R98, R99): against the reference while k is offline, or on every slice in a start's receiver calibration,
until a slice is retired; its timing while it is in the interleave? -/
def State.measures (s : State) (n k : Nat) (reference : Bool) : Bool :=
  s.judged n && decide (k ≤ 64) && !((s.lane n).slice k).retired &&
  (if reference then decide (s.laneState n ≠ 3) && (s.calibrating || (s.lane n).offline == some k) else (s.lane n).offline != some k)

/-- A slice's reference calibration or timing update judged against the limits of R98 (R99). While BG_FREEZE holds the corrections a failed
reference calibration counts among the three visits, a good one ends their run, and no correction meets or passes a limit (DESIGN CHOICE, log
entry 117). -/
def sliceCalibration (n k : Nat) (reference ok : Bool) (ofs gain time : Int) (s : State) : State :=
  if !s.measures n k reference then s
  else if reference && !ok then
    let l := s.lane n
    let f := (l.slice k).fails + 1
    let s := s.setLane n (l.setSlice k { l.slice k with fails := f })
    if f ≥ 3 then s.faultySlice n k else s
  else
    let l := s.lane n
    let c := if reference then { l.slice k with fails := 0, done := true } else l.slice k
    if s.is F.SL_CTRL_BG_FREEZE then (s.setLane n (l.setSlice k c)).converge n
    else
      let meets := if reference then decide (ofs.natAbs ≥ 4096 ∨ gain.natAbs ≥ 30000) else decide (time.natAbs ≥ 400)
      let passes := if reference then decide (ofs.natAbs > 4096 ∨ gain.natAbs > 30000) else decide (time.natAbs > 400)
      let s := if meets then s.bump (F.SL_LANE_LIMITS_HITS n) (F.SL_LANE_STATUS_LIM_SAT n) 1 else s
      let c := if reference then { c with ofs := clampI (-4096) 4096 ofs, gain := clampI (-30000) 30000 gain }
        else { c with time := clampI (-400) 400 time }
      let s := s.setLane n (l.setSlice k c)
      if passes then s.faultySlice n k else s.converge n

/-- A write to SL_SLICE_SEL: the selected slice's corrections latched together (R111). -/
def sliceSelWrite (v : Nat) (s : State) : State :=
  let n := v / 65536 % 8
  let k := v % 128
  let s := (s.put F.SL_SLICE_SEL_LANE n).put F.SL_SLICE_SEL_SLICE k
  let valid := decide (n ≤ 5 ∧ k ≤ 64) && decide (s.laneState n ≠ 0)
  let c := if valid then (s.lane n).slice k else {}
  let s := (s.putB F.SL_SLICE_OFS_RETIRED c.retired).putB F.SL_SLICE_OFS_OFFLINE (valid && (s.lane n).offline == some k)
  ((s.putS F.SL_SLICE_OFS_OFS c.ofs).putS F.SL_SLICE_GAIN_GAIN c.gain).putS F.SL_SLICE_TIME_TIME c.time

/-! ## What a sweep shows of the lanes (R102, R103) -/

/-- The codes that lane n delivers in a sweep: code 0 for every sample of a FAILED lane, and 12 bits of each other (R96, R99). -/
def State.laneCodes (s : State) (n : Nat) (m : LaneMeasure) : List (Int × Nat) :=
  m.codes.map (fun c => (if s.laneState n = 4 then 0 else clampI (-2048) 2047 c.1, c.2))

/-- The clipped samples among a sweep's codes (R102). -/
def clippedOf (cs : List (Int × Nat)) : Nat := cs.foldl (fun a c => if c.1 = -2048 ∨ c.1 = 2047 then a + c.2 else a) 0

/-- The largest magnitude of a code in a sweep (SL_LANE_LEVEL PEAK). -/
def peakCode (cs : List (Int × Nat)) : Nat := cs.foldl (fun a c => if c.2 = 0 then a else max a c.1.natAbs) 0

/-- The RMS level of a sweep in tenths of a dBFS, where a sine with its peak at 2047 is 0 dBFS (R96); a lane with nothing but code 0 has no level
in dB. -/
def rmsLevel (cs : List (Int × Nat)) : Option Int :=
  let sum := cs.foldl (fun a c => a + c.1.natAbs ^ 2 * c.2) 0
  if sum = 0 then none else some (logRatio 100 (2 * sum) (cs.foldl (fun a c => a + c.2) 0 * 2047 ^ 2))

/-- The sweep's clipping and levels of one lane (R102); a level with no value in dB is free (log entry 1). -/
def State.laneSweep (s : State) (n : Nat) (m : LaneMeasure) : State :=
  if s.laneState n = 0 then s else
  let cs := s.laneCodes n m
  let s := s.bump (F.SL_LANE_CLIPS_COUNT n) (F.SL_LANE_STATUS_CLIP_SAT n) (clippedOf cs)
  let s := s.putSat (F.SL_LANE_LEVEL_PEAK n) (peakCode cs)
  let s := match rmsLevel cs with
    | some r => s.putS (F.SL_LANE_LEVEL_RMS n) r
    | none => s.putFree (F.SL_LANE_LEVEL_RMS n)
  let s := s.putSat (F.SL_LANE_STATUS_SPUR n) m.spur
  (if clippedOf cs > s.get F.SL_CLIP_CFG_LIMIT then s.put (F.SL_LANE_STATUS_CLIP n) 1 else s).converge n

/-- The lanes whose skew is measured (R103): the coherent lanes against XI, BQ against BI. XI and BI read 0 (SL_SKEWn). -/
def skewLanes : List Nat := [1, 2, 3, 5]

/-- Is the skew of lane n measured: it and the lane that it is aligned to deliver samples? -/
def State.skewSeen (s : State) (n : Nat) : Bool := s.laneUp n && s.laneUp (if n = 5 then 4 else 0)

/-- One lane's skew followed by at most 0.05 ps, and the run of sweeps more than 2.0 ps off counted (R103). -/
def State.trackSkew (s : State) (n : Nat) (measured : Int) : State :=
  if !s.skewSeen n then s else
  let applied := s.getS (F.SL_SKEW_SKEW n)
  let d := measured - applied
  let l := s.lane n
  let s := s.setLane n { l with skewRun := if d.natAbs > 200 then l.skewRun + 1 else 0 }
  s.putS (F.SL_SKEW_SKEW n) (applied + clampI (-5) 5 d)

/-- The residual of lane n in the sweep that ended, where it is measured: the measured skew less the applied one, in 0.01 ps. -/
def State.residual (s : State) (ms : List LaneMeasure) (n : Nat) : List Int :=
  match ms[n]? with
  | some m => if s.skewSeen n then [m.skew - s.getS (F.SL_SKEW_SKEW n)] else []
  | none => []

/-- The largest residual between any two coherent lanes in the sweep that ended; XI, the reference, has none (R103). -/
def State.skewResidual (s : State) (ms : List LaneMeasure) : Nat :=
  let rs := [1, 2, 3].flatMap (s.residual ms)
  (rs.foldl max 0 - rs.foldl min 0).natAbs

/-- Are the residuals back within 0.5 ps (R103): between any two coherent lanes, and between BI and BQ? -/
def State.skewBack (s : State) (ms : List LaneMeasure) : Bool :=
  decide (s.skewResidual ms ≤ 50) && (s.residual ms 5).all (fun r => decide (r.natAbs ≤ 50))

/-- The end of a sweep at the lanes: clipping and levels (one 0x0203 for the sweep), then the skews (R102, R103). -/
def State.sweepLanes (s : State) (ms : List LaneMeasure) : State :=
  if ms = [] then s else
  let limit := s.get F.SL_CLIP_CFG_LIMIT
  let clipping := (List.range 6).find? (fun n => match ms[n]? with
    | some m => decide (clippedOf (s.laneCodes n m) > limit) && decide (s.laneState n ≠ 0)
    | none => false)
  let res := s.skewResidual ms
  let back := s.skewBack ms
  let s := each (List.range 6) (fun n s => match ms[n]? with | some m => s.laneSweep n m | none => s) s
  let s := match clipping with | some n => s.raise 0x0203 n 0 | none => s
  let s := s.putSat F.SL_SKEW_STATUS_RESIDUAL res
  let s := each skewLanes (fun n s => match ms[n]? with | some m => s.trackSkew n m.skew | none => s) s
  let off := skewLanes.any (fun n => decide ((s.lane n).skewRun ≥ 100))
  if off ∧ s.is F.SL_STATUS_SKEW_VALID then (s.put F.SL_STATUS_SKEW_VALID 0).raise 0x0204 wide 0
  else if !off ∧ !s.is F.SL_STATUS_SKEW_VALID ∧ back then s.put F.SL_STATUS_SKEW_VALID 1
  else s

/-! ## The sample clock (R104–R107) -/

/-- The qualified reference that the PLL has (R104, R105): 1 REF10M on module 0 or a stand-alone module, 2 Flotis on modules 1–7 while the link of
their source port is up, 0 none. -/
def State.clkRef (s : State) : Nat :=
  if s.get F.FL_STATUS_ID = 0 then s.get F.TB_STATUS_REF_QUAL
  else if (if s.get F.FL_STATUS_SRC_PORT = 0 then s.is F.FL_STATUS_UP_LINK else s.is F.FL_STATUS_DOWN_LINK) then 2 else 0

/-- REF_SRC shows the reference in use or being steered to (R105). -/
def State.clkSteer (s : State) : State := s.put F.SL_STATUS_REF_SRC s.clkRef

/-- PD_RXC is powered: the clock leaves STARTING for FREE_RUN where no reference is qualified; with one it locks to it (R104). The clock that
ran on in IDLE stays as it is. FREE_RUN comes at the power-up itself, within the 5 ms of R108 (log entry 118). -/
def State.clkStart (s : State) : State :=
  let s := s.clkSteer
  if s.get F.SL_STATUS_CLK_STATE = 0 ∧ s.clkRef = 0 then s.put F.SL_STATUS_CLK_STATE 3 else s

/-- The lock is lost, by a loss of the reference or without one: the PLL holds its frequency and enters HOLDOVER, and steers to a reference that
is still qualified (R105, R107). A start that has not locked yet runs free. -/
def State.clkLost (s : State) : State :=
  let s := s.clkSteer
  if s.get F.SL_STATUS_CLK_STATE = 1 then (s.put F.SL_STATUS_CLK_STATE 2).putFree F.SL_CLK_FERR_FERR |>.raise 0x0205 wide 0
  else if s.get F.SL_STATUS_CLK_STATE = 0 ∧ s.clkRef = 0 ∧ s.domainOn 6 then s.put F.SL_STATUS_CLK_STATE 3
  else s

/-- The phase error against a qualified reference falls below 10 ps: LOCKED (R105). -/
def clkLocked (ferr : Int) (s : State) : State :=
  if s.clkRef = 0 then s
  else
    let s := s.clkSteer.putS F.SL_CLK_FERR_FERR ferr
    if s.get F.SL_STATUS_CLK_STATE = 1 then s else (s.put F.SL_STATUS_CLK_STATE 1).raise 0x0206 wide 0

/-- An unexpected loss of lock (R107). -/
def unlockSeen (s : State) : State :=
  if s.get F.SL_STATUS_CLK_STATE = 1 then (s.put F.SL_STATUS_UNLOCK_SEEN 1).clkLost else s

/-- SLICE_ROTATION (R98). -/
def execSliceRotation (t : Nat) (s : State) : Outcome := runAt t s sliceRotation
/-- SLICE_CALIBRATION (R99). -/
def execSliceCalibration (t lane slice : Nat) (reference ok : Bool) (ofs gain time : Int) (s : State) : Outcome :=
  runAt t s (sliceCalibration lane slice reference ok ofs gain time)
/-- CLK_LOCKED (R105). -/
def execClkLocked (t : Nat) (ferr : Int) (s : State) : Outcome := runAt t s (inDomain 2 (clkLocked ferr))
/-- UNLOCK_SEEN (R107). -/
def execUnlockSeen (t : Nat) (s : State) : Outcome := runAt t s (inDomain 2 unlockSeen)
/-- SL_SLICE_SEL_WRITE (R111). -/
def execSlSliceSelWrite (t value : Nat) (s : State) : Outcome := runAt t s (access 0x50300 (sliceSelWrite value))

end Sys2Proof.Machine
end

