-- ==== Sys2Proof/Machine/FrontPipe.lean ====
section
/-!
DEFINITION. Machine/FrontPipe.lean: the front pipeline of chapter 05: the channeliser (R115, R117), references and matched filter (R118, R119),
phase-noise removal (R120, R121), polarisation and group combining (R122–R125), the fade floor (R126), gauge differencing (R128), resampling and
phase (R129–R131), segments (R133, R134) and profile readback (R140). The lanes' samples arrive as operands of the group launch (log entry 7).
-/
namespace Sys2Proof.Machine

/-- Group g in the pipeline. -/
def State.grp (s : State) (g : Nat) : GroupPipe := kvGet {} s.fp.groups g

/-- Group g replaced. -/
def State.setGrp (s : State) (g : Nat) (p : GroupPipe) : State :=
  { s with fp := { s.fp with groups := kvSet {} s.fp.groups g p } }

/-- B_F: the range bins up to the declared fibre end (R119). -/
def State.binCount (s : State) : Nat := (s.get F.TT_FIBRE_END_L_F * 10 + 10210) / 10211

/-- POL_K and GRP_K, values above 10 treated as 10 (R139). -/
def State.polK (s : State) : Nat := min 10 (s.get F.FP_ALIGN_POL_K)

def State.grpK (s : State) : Nat := min 10 (s.get F.FP_ALIGN_GRP_K)

/-- The SETTLE run in launches: 4 × 2^max(POL_K, GRP_K) (R124). -/
def State.settleRun (s : State) : Nat := 4 * 2 ^ max s.polK s.grpK

/-! ## Saturation (R114) -/

/-- A complex value limited to a width, with the number of components that saturated. -/
def satCpx (w : Nat) (a : Cpx) : Cpx × Nat :=
  let b := (satBits w a.1, satBits w a.2)
  (b, (if b.1 ≠ a.1 then 1 else 0) + (if b.2 ≠ a.2 then 1 else 0))

/-- A list limited to a width, with the count of saturated components. -/
def satList (w : Nat) (xs : List Cpx) : List Cpx × Nat :=
  xs.foldr (fun x acc => let (y, n) := satCpx w x; (y :: acc.1, acc.2 + n)) ([], 0)

/-- Saturated components counted: FP_SAT_COUNT, SAT and event 0x0301 at most once per sweep (R114). -/
def State.countSat (s : State) (n : Nat) : State :=
  if n = 0 then s
  else ((s.bump F.FP_SAT_COUNT_COUNT F.FP_CNT_SAT_SAT_SAT n).put F.FP_STATUS_SAT 1).raisePerSweep 0x0301 wide 0

/-! ## Stage 1: the channeliser (R115, R117) -/

/-- h[i], symmetric (R115). -/
def protoTap (i : Nat) : Int := Config.prototype (min i (1023 - i))

/-- The channeliser's value at `t` output indices behind index `ph` (R115): sample 16 × t + 1,023 − i of the list is P[16m − i]. The phase
−15 + 2k of slot k in 32nds of a turn is 17 + 2k there. -/
def channelised (slot ph t : Nat) (xs : List Cpx) : Cpx :=
  let terms := ((xs.drop (16 * t)).take 1024).zipIdx.map (fun x =>
    let i := 1023 - x.2
    let k := 2 * ((2 * slot + 17) * (16 * (ph + t) + 1024 - i) % 32)
    let h := protoTap i
    (h * (x.1.1 * cos64 k + x.1.2 * sin64 k), h * (x.1.2 * cos64 k - x.1.1 * sin64 k)))
  let sum := terms.foldl Cpx.add (0, 0)
  (divRound sum.1 (2 ^ 92), divRound sum.2 (2 ^ 92))

/-! ## Stage 2: references and matched filter (R118, R119) -/

/-- The waveform passed through h at 3.2 GS/s, taken at index n: Σ h[i] × w[n − i], the words being at baseband (R52, R118). -/
def shaped (words : List Nat) (n : Nat) : Cpx :=
  (List.range (min 1024 (n + 1))).foldl (fun a i =>
    let w := words.getD (n - i) 0
    Cpx.add a (protoTap i * comp10 w, protoTap i * comp10 (w / 65536))) (0, 0)

/-- Value m of n of the window that MF_WIN selects, in 2⁻¹⁶ (R139). -/
def window (win n m : Nat) : Nat := if win = 0 then 65536 else Config.windowTap win n m

/-- The reference of a slot (R118): the waveform passed through h, decimated by 32 to N_r = ⌈N_w ÷ 32⌉ taps, windowed, and quantised so that the
largest magnitude is 32,767. Tap m takes the filter's output at word 32 × m, as the channeliser takes its own at sample 16 × m (log entry 7). -/
def reference (win : Nat) (words : List Nat) : List Cpx :=
  let n := (words.length + 31) / 32
  let ds := (List.range n).map (fun m =>
    let d := shaped words (32 * m)
    let w : Int := window win n m
    (d.1 * w, d.2 * w))
  let peak := ds.foldl (fun a d => max a (Cpx.norm d)) 0
  ds.map (fun d => (divSqrt 32767 d.1 peak, divSqrt 32767 d.2 peak))

/-- S = ⌈log₂ Σ|r|⌉ − 4 within 0–31 (R118); the sum is taken with 16 fraction bits. -/
def refShift (rs : List Cpx) : Nat :=
  let sum := rs.foldl (fun a r => a + isqrt (Cpx.norm r * 2 ^ 32)) 0
  min 31 ((if sum ≤ 1 then 0 else Nat.log2 (sum - 1) + 1) - 20)

/-- The references at commit, and at an epoch those of the slots whose waveform has changed, with FP_SLOT_CFG (R118); `keep`: the slots whose
reference stays. -/
def State.buildReferences (s : State) (keep : Nat → Bool) : State :=
  each (List.range 16) (fun k s =>
    if s.is (F.TT_SLOT_CFG_EN k) && !s.is (F.TT_SLOT_CFG_BRIL k) then
      let n := s.get (F.TT_SLOT_CFG_WLEN k)
      let rs := if keep k && (kvGet [] s.fp.refs k).length == (n + 31) / 32 then kvGet [] s.fp.refs k else reference (s.get F.FP_CTRL_MF_WIN) (padTo 0 n (kvGet [] s.sched.wave k))
      let s := { s with fp := { s.fp with refs := kvSet [] s.fp.refs k rs } }
      (s.put (F.FP_SLOT_CFG_NR k) ((n + 31) / 32)).put (F.FP_SLOT_CFG_SHIFT k) (refShift rs)
    else
      let s := { s with fp := { s.fp with refs := kvDel k s.fp.refs } }
      (s.put (F.FP_SLOT_CFG_NR k) 0).put (F.FP_SLOT_CFG_SHIFT k) 0) s

/-- y[b] of the range bins from the channeliser's values (R119). -/
def matchedFilter (rs : List Cpx) (shift : Nat) : Nat → List Cpx → List Cpx
  | 0, _ => []
  | b + 1, cs =>
    let sum := (rs.zip cs).foldl (fun a p => Cpx.add a (Cpx.mulConj p.2 p.1)) (0, 0)
    (rndShift sum.1 shift, rndShift sum.2 shift) :: matchedFilter rs shift b (cs.drop 1)

/-- i_L + D: the output index of range bin 0 of a launch made now, counted from the first sample after commit (R115, R119). -/
def State.binZero (s : State) : Nat := (s.now - s.pw.commitAt.getD 0) / (10 * ns) + s.get F.FP_RANGE_OFS_D_RX / 32

/-- The channeliser's outputs that a return holds samples for. -/
def outputsOf (xs : List Cpx) : Nat := (xs.length - 1023 + 15) / 16

/-- Stages 1 and 2 of a slot and polarisation: the range bins and the saturated components, those of the channeliser over the whole return
(log entry 7). -/
def State.rangeBins (s : State) (slot bf : Nat) (xs : List Cpx) : List Cpx × Nat :=
  if bf = 0 then ([], 0)
  else
    let rs := kvGet [] s.fp.refs slot
    let (cs, n1) := satList 16 ((List.range (max (bf + rs.length - 1) (outputsOf xs))).map (fun t => channelised slot s.binZero t xs))
    let (ys, n2) := satList 20 (matchedFilter rs (s.get (F.FP_SLOT_CFG_SHIFT slot)) bf cs)
    (ys, n1 + n2)

/-- N_k (R126). -/
def State.slotNoise (s : State) (slot : Nat) : Nat :=
  Config.slotNoise (s.getS (F.FP_SLOT_NOISE_NOISE slot)) (kvGet [] s.fp.refs slot) (s.get (F.FP_SLOT_CFG_SHIFT slot))

/-! ## Stage 3: laser phase (R120, R121) -/

/-- Φ[i_L + D + b] − Φ[i_L + D] for bin b and the bins after it, in units of 2⁻³² turn: the sum of arg(q) × 10.000 ns ÷ τ_RI. `mean` stands in for
arg(q) while RI_OK is 0; `ri` as in `Return`. -/
def phaseSteps (tau : Nat) (ri : List (Nat × Option Int)) : Nat → Option Int → List Cpx → Int → List Int
  | _, _, [], _ => []
  | b, mean, q :: qs, acc =>
    let mean := match ri.find? (fun c => c.1 == b) with | some c => c.2 | none => mean
    let a := match mean with | some m => m | none => argTurn q
    let acc' := acc + divRound (a * 100000) (max 1 tau * 2 ^ 24)
    acc :: phaseSteps tau ri (b + 1) mean qs acc'

/-- Stage 3 of one bin: the value turned back by the laser phase since bin 0, y × e^(−j(Φ₀ − Φ_b)). -/
def derotate (y : Cpx) (dphi : Int) : Cpx :=
  if y = (0, 0) then (0, 0)
  else
    let c := cisTurn (dphi * 2 ^ 24)
    (divRound (y.1 * c.1 - y.2 * c.2) (2 ^ 60), divRound (y.1 * c.2 + y.2 * c.1) (2 ^ 60))

/-! ## Stage 4: polarisation combining (R122, R125) -/

/-- z × e^(−j arg(a)) scaled by 2³²; arg(0) is taken as 0. -/
def unrotate (z a : Cpx) : Cpx :=
  if a = (0, 0) then (z.1 * 2 ^ 32, z.2 * 2 ^ 32)
  else
    let p := Cpx.mulConj z a
    (divSqrt32 p.1 (Cpx.norm a), divSqrt32 p.2 (Cpx.norm a))

/-- A sum held with 32 fraction bits, rounded. -/
def roundCpx (a : Cpx) : Cpx := (divRound a.1 (2 ^ 32), divRound a.2 (2 ^ 32))

/-- The tracked alignment moved towards its instantaneous product by 2^(−k) (log entry 8: 16 fraction bits). -/
def track (k : Nat) (a prod : Cpx) : Cpx :=
  (a.1 + rndShift (prod.1 * 65536 - a.1) k, a.2 + rndShift (prod.2 * 65536 - a.2) k)

/-- Stage 4 of one bin: pivot and other polarisation, the alignment before and after. -/
def polBin (restart : Bool) (k : Nat) (x y : Cpx) (pivX : Bool) (a : Cpx) : Cpx × Bool × Cpx :=
  let pv := if restart then decide (Cpx.norm x ≥ Cpx.norm y) else pivX
  let (p, o) := if pv then (x, y) else (y, x)
  let prod := Cpx.mulConj o p
  let a0 := if restart then (prod.1 * 65536, prod.2 * 65536) else a
  let r := unrotate o a0
  (roundCpx (p.1 * 2 ^ 32 + r.1, p.2 * 2 ^ 32 + r.2), pv, if restart then a0 else track k a0 prod)

/-- Stage 4 over all bins. -/
def polStage (restart : Bool) (k : Nat) : List Cpx → List Cpx → List Bool → List Cpx → List (Cpx × Bool × Cpx)
  | x :: xs, y :: ys, p :: ps, a :: as => polBin restart k x y p a :: polStage restart k xs ys ps as
  | _, _, _, _ => []

/-! ## Stage 5: group combining (R123, R124) -/

/-- The member with the largest |u| at one bin: its slot and value, lowest slot first. -/
def pivotOf : List (Nat × Cpx) → Nat × Cpx
  | [] => (0, (0, 0))
  | x :: xs => xs.foldl (fun b y => if Cpx.norm y.2 > Cpx.norm b.2 then y else b) x

/-- Stage 5 of one bin: the members' values with their alignments; gives v, the pivot slot and the new alignments. -/
def groupBin (restart : Bool) (k : Nat) (us : List (Nat × Cpx)) (es : List Cpx) (pivot : Nat) : Cpx × Nat × List Cpx :=
  let (q, uq) := if restart then pivotOf us else
    match us.find? (fun u => u.1 == pivot) with | some u => u | none => pivotOf us
  match us with
  | [u] => (u.2, q, es)
  | _ =>
    let prods := us.map (fun u => Cpx.mulConj u.2 uq)
    let es0 := if restart then prods.map (fun p => (p.1 * 65536, p.2 * 65536)) else padTo (0, 0) us.length es
    let terms := (us.zip es0).map (fun p => if p.1.1 = q then (p.1.2.1 * 2 ^ 32, p.1.2.2 * 2 ^ 32) else unrotate p.1.2 p.2)
    let v := roundCpx (terms.foldl Cpx.add (0, 0))
    let es1 := if restart then es0 else (es0.zip prods).map (fun p => track k p.1 p.2)
    (v, q, es1)

/-- The lists of several members regrouped by bin. -/
def byBin {α : Type} : Nat → List (List α) → List (List α)
  | 0, _ => []
  | n + 1, ls => ls.filterMap List.head? :: byBin n (ls.map List.tail)

/-- Is |v| below the fade floor 10^(FLOOR ÷ 200) × √noise (R126)? -/
def belowFloor (floor noise : Nat) (v : Cpx) : Bool := decide (Cpx.norm v ^ 100 < 10 ^ floor * noise ^ 100)

/-! ## A launch (R124–R127) -/

/-- The samples of a pair of lanes, of 12 bits (R96, R113); a FAILED lane delivers code 0 (R99). -/
def State.lanePair (s : State) (n : Nat) (xs : List Cpx) : List Cpx :=
  xs.map (fun x => (if s.laneUp n then satBits 12 x.1 else 0, if s.laneUp (n + 1) then satBits 12 x.2 else 0))

/-- Is polarisation X or Y present: neither of its lanes FAILED or OFF (R125)? -/
def State.polPresent (s : State) (lane : Nat) : Bool := s.laneUp lane && s.laneUp (lane + 1)

/-- Every group's alignment restarts at its next launch (R124). -/
def State.restartGroups (s : State) (commit : Bool) : State :=
  { s with fp := { s.fp with groups := (List.range 16).map (fun g =>
      (g, { s.grp g with restart := true, atCommit := commit || ((s.grp g).restart && (s.grp g).atCommit) })) } }

/-- Polarisation presence sampled at a launch (R125): its events, the end of RX_ABSENT, and a restart of every group on a change. -/
def State.samplePresence (s : State) : State :=
  let px := s.polPresent 0
  let py := s.polPresent 2
  let changed := px != s.fp.presX || py != s.fp.presY
  let s := (s.putB F.FP_STATUS_POL_X px).putB F.FP_STATUS_POL_Y py
  if !changed then s
  else
    let s := ({ s with fp := { s.fp with presX := px, presY := py } }).restartGroups false
    if px && py then (s.endConds 0x0303).raise 0x0304 wide 0
    else if px || py then (s.endConds 0x0303).raise 0x0302 wide 0
    else s.raise 0x0303 wide 0

/-- The HOLDOVER flag of a stamp made now: TIME_STATE other than ALIGNED (R357). -/
def State.holdover (s : State) : Bool := s.get F.TB_STATUS_TIME_STATE != 1

/-- One slot's stages 3 and 4 from its range bins x and y: its values u, its alignment and the saturated components. -/
def slotStages (restart single : Bool) (useX : Bool) (k bf : Nat) (dphi : List Int) (x y : List Cpx) (al : SlotAlign) :
    List Cpx × SlotAlign × Nat :=
  let (xs, n1) := satList 20 (x.zipWith derotate dphi)
  let (ys, n2) := satList 20 (y.zipWith derotate dphi)
  if single then (if useX then xs else ys, al, n1 + n2)
  else
    let out := polStage restart k xs ys (padTo true bf al.pivX) (padTo (0, 0) bf al.a)
    let (us, n3) := satList 21 (out.map (·.1))
    (us, { pivX := out.map (·.2.1), a := out.map (·.2.2) }, n1 + n2 + n3)

/-- The group's status after a launch: SETTLE, FADED and FP_STATUS SETTLING. -/
def State.syncGroup (s : State) (g : Nat) : State :=
  let p := s.grp g
  let n := p.faded.length
  let s := s.putB (F.FP_GROUP_STAT_SETTLE g) (decide (p.settleLeft > 0))
  let s := s.put (F.FP_GROUP_STAT_FADED g) (if n = 0 then 0 else (p.faded.countP id) * 10000 / n)
  s.putB F.FP_STATUS_SETTLING ((List.range 16).any (fun i => s.is (F.FP_GROUP_STAT_ACTIVE i) && decide ((s.grp i).settleLeft > 0)))

/-- Stages 1 to 5 take the return of a launch of group g (R113–R127). -/
def State.combine (s : State) (g : Nat) (ret : Return) : State :=
  let s := s.samplePresence
  let bf := s.binCount
  let ks := s.members g
  let p := s.grp g
  let stale := decide (s.now ≥ p.at_ + sec) && p.launched
  let restart := p.restart || stale
  let s := if restart && !(p.restart && p.atCommit) then s.raise 0x0305 g 0 else s
  let settle := if restart then s.settleRun else p.settleLeft
  let absent := !s.fp.presX && !s.fp.presY
  let single := s.fp.presX != s.fp.presY
  let dphi := phaseSteps (s.get F.FP_RI_DELAY_TAU) ret.ri 0 (if s.is F.FP_STATUS_RI_OK then none else some s.fp.riMean)
    (padTo (1, 0) bf ret.q) 0
  let outs := ks.map (fun k =>
    let (x, n1) := s.rangeBins k bf (s.lanePair 0 ret.x)
    let (y, n2) := s.rangeBins k bf (s.lanePair 2 ret.y)
    let (us, al, n) := slotStages restart single s.fp.presX s.polK bf dphi x y (kvGet {} p.slots k)
    (k, us, al, n1 + n2 + n))
  let present := (if s.fp.presX then 1 else 0) + (if s.fp.presY then 1 else 0)
  let noise := ks.foldl (fun a k => a + present * s.slotNoise k) 0
  let us := byBin bf (outs.map (fun o => o.2.1.map (fun u => (o.1, u))))
  let es := byBin bf (ks.map (fun k => padTo (0, 0) bf (kvGet [] p.e k)))
  let bins := (us.zip (es.zip (padTo 0 bf p.pivot))).map (fun b => groupBin restart s.grpK b.1 b.2.1 b.2.2)
  let (v, n5) := satList 24 (bins.map (·.1))
  let floor := min 400 (s.get F.FP_FADE_FLOOR)
  let flags := (if settle > 0 then 1 else 0) + (if single then 8 else 0) + (if absent then 16 else 0) + (if s.holdover then 32 else 0)
  let p' : GroupPipe :=
    { slots := outs.map (fun o => (o.1, o.2.2.1)), pivot := bins.map (·.2.1),
      e := (ks.zipIdx).map (fun ki => (ki.1, bins.map (fun b => b.2.2.getD ki.2 (0, 0)))),
      v := v, faded := v.map (fun x => absent || belowFloor floor noise x), noise := noise,
      seq := s.get (F.TT_PULSE_SEQ_SEQ (ks.headD 0)), sweep := s.get F.TT_SWEEP_COUNT_COUNT, stamp := stampOf (s.count s.now),
      at_ := s.now, flags := flags, launched := true, restart := false, atCommit := false, settleLeft := settle - 1,
      frac := s.get F.FP_RANGE_OFS_D_RX % 32, low := ks.headD 0 }
  let s := s.setGrp g p'
  let s := { s with fp := { s.fp with bins := s.fp.bins + ks.length * bf } }
  (s.countSat (n5 + outs.foldl (fun a o => a + o.2.2.2) 0)).syncGroup g

/-- RI_OK cleared (R121). -/
def riLost (mean : Int) (s : State) : State :=
  if s.is F.FP_STATUS_RI_OK then
    (({ s with fp := { s.fp with riMean := mean } }).put F.FP_STATUS_RI_OK 0).raise 0x0306 wide 0
  else s

/-- RI_OK set again (R121). -/
def riOk (s : State) : State :=
  if s.is F.FP_STATUS_RI_OK then s else ((s.put F.FP_STATUS_RI_OK 1).endConds 0x0306).raise 0x0307 wide 0

/-- The linear amplitudes |v[b]| of a group with 8 fraction bits (R127). -/
def GroupPipe.profile (p : GroupPipe) : List Nat := p.v.map (fun v => isqrt (Cpx.norm v * 65536))

/-! ## Stages 6 and 7 (R128–R131) -/

/-- Δ[b] = v[b + g] × conj(v[b]) in the 2 × 24 bits of stage 6 with its fade state and the components that saturate (R113, R114, R128); none beyond
the profile. The binary places that the stage drops are open (log entry 8). -/
def diffBin (p : GroupPipe) (g b : Nat) : Option ((Cpx × Bool) × Nat) :=
  match p.v[b + g]?, p.v[b]? with
  | some hi, some lo =>
    let d := Cpx.mulConj hi lo
    let (d, n) := satCpx 24 (rndShift d.1 Config.diffShift, rndShift d.2 Config.diffShift)
    some ((d, p.faded.getD b false || p.faded.getD (b + g) false), n)
  | _, _ => none

/-- The components that saturate at stage 6 over a whole launch, for a section's gauge (R114). -/
def diffSat (p : GroupPipe) (g : Nat) : Nat :=
  (List.range (p.v.length - g)).foldl (fun a b => a + ((diffBin p g b).map (·.2)).getD 0) 0

/-- The bins and weights of a channel (R129), and the highest bin the channel needs. Positions are in units of 1/32 of 0.1 mm; `x` is the
channel's place, `pitch` in mm. -/
def channelBins (x pitch g : Nat) : List (Nat × Nat) × Nat :=
  let u := 10211 * 32
  if pitch ≤ 1021 then
    let r := 2 * x - g * u
    let b := r / (2 * u)
    let f := r % (2 * u)
    ([(b, 2 * u - f)] ++ (if f = 0 then [] else [(b + 1, f)]), (if f = 0 then b else b + 1) + g)
  else
    let w := pitch * 320
    let lo := (2 * x - w - g * u + 2 * u - 1) / (2 * u)
    let n := (2 * x + w - g * u + 2 * u - 1) / (2 * u) - lo
    ((List.range n).map (fun i => (lo + i, 1)), lo + n - 1 + g)

/-- The place of channel c of a section, δ included (R129), in units of 1/32 of 0.1 mm; `frac`: the fraction of D_RX in 1/32 bin. -/
def SectGeom.place (x : SectGeom) (frac c : Nat) : Nat := (x.x0 + c * x.pitch) * 320 + frac * 10211

/-- Does a channel at place `x` need a bin before bin 0, where the spec states no phasor (R129)? -/
def beforeBins (x pitch g : Nat) : Bool := decide (pitch ≤ 1021) && decide (2 * x < g * 10211 * 32)

/-- The section as its registers show it. -/
def State.sectGeom (s : State) (k : Nat) : SectGeom :=
  ⟨s.get (F.BS_X0_X0 k), s.get (F.BS_GEOM_PITCH k), s.get (F.BS_GEOM_GAUGE k), s.get (F.BS_CHANS_N k)⟩

/-- Does bin `hi` lie beyond the reference end after FIBRE_SHORT (R84, R131)? -/
def State.beyondReference (s : State) (hi : Nat) : Bool := s.opt.beyondRef && decide (binPos hi > 10 * s.get F.OP_REF_END_POS)

/-- Does a channel of a launch made now that needs bins up to `hi` carry BEYOND_END (R86, R131)? A break confirmed later flags nothing of it. -/
def State.beyondEnd (s : State) (hi : Nat) : Bool :=
  (s.is F.OP_BREAK_POS_VALID && decide (binPos hi + 20000 ≥ 10 * s.get F.OP_BREAK_POS_POS)) || s.beyondReference hi

/-- One channel of a segment: phase code, FADE and BEYOND_END. The code of a channel that needs a bin before bin 0 is free (log entry 1). -/
def State.channelValue (s : State) (p : GroupPipe) (x : SectGeom) (c : Nat) : Int × Bool × Bool :=
  let at_ := x.place p.frac c
  let (ws, hi) := channelBins at_ x.pitch x.gauge
  let ds : List (Cpx × Bool) := ws.filterMap (fun w => (diffBin p x.gauge w.1).map (fun d => (((w.2 : Int) * d.1.1.1, (w.2 : Int) * d.1.1.2), d.1.2)))
  let sum : Cpx := ds.foldl (fun a d => Cpx.add a d.1) (0, 0)
  let absent := p.flags / 16 % 2 == 1
  let code := if beforeBins at_ x.pitch x.gauge then (Config.freeValue 16 (s.freeCtr + c)).toInt else phaseCode sum
  (if absent then 0 else code, absent || ds.all (·.2), s.beyondEnd hi)

/-- The segment with place `index` of a section, from the group's launch (R133, R134). -/
def State.makeSegment (s : State) (g sect index : Nat) (x : SectGeom) : Segment :=
  let p := s.grp g
  let first := 1024 * index
  let cs := (List.range (min 1024 (x.n - first))).map (fun i => s.channelValue p x (first + i))
  let fade := cs.map (·.2.1)
  let beyond := cs.map (·.2.2)
  { section_ := sect, group := g, flags := p.flags + (if fade.any id then 2 else 0) + (if beyond.any id then 4 else 0), seq := p.seq,
    first := first, pivot := p.low, stamp := p.stamp, sweep := p.sweep, codes := cs.map (·.1), fade := fade,
    beyond := beyond, launch := p.at_ }

/-- The bytes of a segment: header and payload (R133). -/
def Segment.bytes (x : Segment) : List (BitVec 8) :=
  leBytes x.section_ 2 ++ leBytes x.group 1 ++ leBytes x.flags 1 ++ leBytes x.seq 4 ++ leBytes x.first 4 ++ leBytes x.codes.length 2 ++
  leBytes x.pivot 1 ++ [0] ++ stampBytes x.stamp ++ leBytes x.sweep 4 ++
  pad8 (x.codes.flatMap (fun c => leBytes (c % 65536).toNat 2)) ++ pad8 (bitmap x.fade) ++ pad8 (bitmap x.beyond)

/-- The bytes a segment of n channels takes in the store (R133). -/
def segmentBytes (n : Nat) : Nat := 32 + (2 * n + 7) / 8 * 8 + 2 * ((n + 63) / 64 * 8)

/-- A segment put into the order of a launch: by the place of its last channel, the one that completes it (R134). -/
def insertSegment (x : Nat × Segment) : List (Nat × Segment) → List (Nat × Segment)
  | [] => [x]
  | y :: ys => if x.1 < y.1 then x :: y :: ys else y :: insertSegment x ys

/-- Section k cut into segments of 1,024 channels and a remainder, each with the place of its last channel (R134). Free phase codes are drawn for the
whole section, and the saturations of stage 6 at its gauge counted (R114). -/
def State.cutSection (s : State) (g k : Nat) : List (Nat × Segment) × State :=
  let x := s.sectGeom k
  let p := s.grp g
  let cut := (List.range ((x.n + 1023) / 1024)).map (fun i => (x.place p.frac (min x.n (1024 * (i + 1)) - 1), s.makeSegment g k i x))
  let s := if beforeBins (x.place p.frac 0) x.pitch x.gauge then { s with freeCtr := s.freeCtr + x.n } else s
  (cut, s.countSat (diffSat p x.gauge))

/-- The segments of the sections from k on, in the order in which they leave. -/
def State.cutSections (s : State) (g : Nat) : Nat → Nat → List (Nat × Segment) → List (Nat × Segment) × State
  | _, 0, acc => (acc, s)
  | k, n + 1, acc =>
    let (cut, s) := s.cutSection g k
    s.cutSections g (k + 1) n (cut.foldl (fun a x => insertSegment x a) acc)

/-- Stages 6 and 7 of a launch of group g: its segments wait to be emitted, with the number of epochs before it (R128–R134, R193). -/
def State.cutLaunch (s : State) (g : Nat) : State :=
  let (xs, s) := s.cutSections g 0 (s.get F.BS_COUNT_SECTIONS) []
  { s with fp := { s.fp with queue := s.fp.queue ++ xs.map (fun x => (x.2, s.sw.epochs)) } }

/-- What a segment adds to the pipeline's counts (R136, R139). -/
def State.countSegment (s : State) (x : Segment) : State :=
  let s := { s with fp := { s.fp with chans := s.fp.chans + x.codes.length, segs := s.fp.segs + 1 } }
  s.bump F.FP_FADE_COUNT_COUNT F.FP_CNT_SAT_FADE_SAT (x.fade.countP id)

/-- The loads of the second that ends (R136). -/
def State.loadSecond (s : State) : State :=
  let s := (s.putSat F.FP_LOAD_BINS_RATE (s.fp.bins / 1000)).putSat F.FP_LOAD_CHAN_RATE (s.fp.chans / 1000)
  let s := s.putSat F.FP_LOAD_SEG_RATE s.fp.segs
  { s with fp := { s.fp with bins := 0, chans := 0, segs := 0 } }

/-! ## Profile readback (R140) -/

/-- A bin's AMP: |v| relative to the combined noise in units of 0.01 dB; none without amplitude or noise, where a ratio has no value in
dB. -/
def ampCode (v : Cpx) (noise : Nat) : Option Int :=
  if Cpx.norm v = 0 ∨ noise = 0 then none else some (logRatio 1000 (Cpx.norm v) noise)

/-- A write to FP_PROF_SEL: FREEZE = 1 asks for a copy of the group's next complete launch; a change of GROUP while FREEZE is 1 asks
afresh; FREEZE = 0 releases the copy. -/
def profileFreeze (v : Nat) (s : State) : State :=
  let g := v / 2 ^ 28 % 16
  let fr := v / 2 ^ 27 % 2
  let afresh := fr = 1 ∧ (!s.is F.FP_PROF_SEL_FREEZE ∨ g ≠ s.get F.FP_PROF_SEL_GROUP)
  let s := ((s.put F.FP_PROF_SEL_GROUP g).put F.FP_PROF_SEL_FREEZE fr).put F.FP_PROF_SEL_BIN v
  if fr = 0 ∨ afresh then
    let s := ((s.put F.FP_PROF_SEL_FROZEN 0).put F.FP_PROF_TAG_SEQ 0).put F.FP_PROF_SWEEP_COUNT 0
    { s with fp := { s.fp with copy := [], copyOf := none, copyLen := 0 } }
  else s

/-- The first launch of the selected group after FREEZE was written is the one copied (R140). -/
def State.noteCopy (s : State) (g : Nat) : State :=
  if s.is F.FP_PROF_SEL_FREEZE ∧ !s.is F.FP_PROF_SEL_FROZEN ∧ s.fp.copyOf.isNone ∧ g = s.get F.FP_PROF_SEL_GROUP then
    let p := s.grp g
    { s with fp := { s.fp with copy := (p.v.zip p.faded).map (fun b => (ampCode b.1 p.noise, b.2)), copyOf := some (p.seq, p.sweep) } }
  else s

/-- The front pipeline takes the return of a launch of group g (R113–R134, R140). -/
def State.frontLaunch (s : State) (g : Nat) (ret : Return) : State := ((s.combine g ret).cutLaunch g).noteCopy g

/-- GROUP_LAUNCH (R51, R53, R55, R56, R113–R127). -/
def execGroupLaunch (t g tx sense : Nat) (ret : Return) (s : State) : Outcome :=
  runAt t s (fun s => let (s, made) := groupLaunch g tx sense s; if made then s.frontLaunch g ret else s)
/-- BREAK_DETECTION (R84–R88). -/
def execBreakDetection (t : Nat) (s : State) : Outcome :=
  runAt t s (fun s =>
    let p := s.grp (s.get F.TT_SCHED_PROBE_GROUP)
    if p.launched then breakDetection p.at_ p.profile (p.noise * 65536) s else s)
/-- RI_LOST (R121). -/
def execRiLost (t : Nat) (mean : Int) (s : State) : Outcome := runAt t s (inDomain 8 (riLost mean))
/-- RI_OK (R121). -/
def execRiOk (t : Nat) (s : State) : Outcome := runAt t s (inDomain 8 riOk)
/-- PROFILE_FREEZE (R140). -/
def execProfileFreeze (t value : Nat) (s : State) : Outcome := runAt t s (access 0x60300 (profileFreeze value))

end Sys2Proof.Machine
end

