-- ==== Sys2Proof/Machine/Recorder.lean ====
section
/-!
DEFINITION. Machine/Recorder.lean: the event recorder (chapter 09): rows (R224, R225), triggers (R226–R228), line states and captures
(R229–R234), the write budget (R235, R236), rings and records (R237–R239), cross-triggers and TRIG_OUT (R240, R241), disarming (R242).
-/
namespace Sys2Proof.Machine

/-! ## Lines -/

/-- Capture line n. -/
def State.line (s : State) (n : Nat) : Line := kvGet {} s.recd.lines n

/-- Capture line n replaced. -/
def State.setLine (s : State) (n : Nat) (x : Line) : State := { s with recd := { s.recd with lines := kvSet {} s.recd.lines n x } }

/-- A change to a line. -/
def State.modLine (s : State) (n : Nat) (f : Line → Line) : State := s.setLine n (f (s.line n))

/-- Channels of a line's rows. -/
def State.lineCount (s : State) (n : Nat) : Nat := max 1 (min 4096 (s.get (F.EV_LCHAN_COUNT n)))

/-- B_row for c channels (R224). -/
def rowBytes (c : Nat) : Nat := 32 + 8 * ((c + 3) / 4) + 16 * ((c + 63) / 64)

/-- Row slots of a line's data ring (R237). -/
def State.lineRows (s : State) (n : Nat) : Nat := s.get (F.EV_RING_MIB n) * 1048576 / rowBytes (s.lineCount n)

/-- T_L in ticks. -/
def State.launchInterval (s : State) : Nat := max 1 (s.get F.TT_LAUNCH_INTERVAL_T_L) * (10 * ns)

/-- Records held (R239). -/
def State.records (s : State) (n : Nat) : Nat := (s.get (F.EV_REC_WR_COUNT n) + 4294967296 - s.get (F.EV_REC_RD_COUNT n)) % 4294967296

/-- The state of R229. -/
def State.lineState (s : State) (n : Nat) : Nat :=
  let x := s.line n
  if !x.armed then 0 else if x.blocked then 4 else if x.caps ≠ [] then 3 else if x.armedAt.isSome then 2 else 1

/-- EV_STATE and EV_STATUS brought to the lines (R229, R244). -/
def State.syncLine (s : State) (n : Nat) : State :=
  let x := s.line n
  let s := ((s.put (F.EV_STATE_STATE n) (s.lineState n)).put (F.EV_STATE_OPEN n) x.caps.length).put (F.EV_STATE_WAITING n)
    (x.trigs.countP (fun t => t.ready.isNone))
  let mask := fun (p : Line → Bool) => (List.range 16).foldl (fun a i => if p (s.line i) then a + 2 ^ i else a) 0
  (s.put F.EV_STATUS_ARMED (mask (·.armed))).put F.EV_STATUS_BLOCKED (mask (fun l => l.armed && l.blocked))

/-! ## Write budget (R235, R236) -/

/-- The sum of B_row over the lines that are not OFF, `also` counted with them. -/
def State.rowSum (s : State) (also : Option Nat) : Nat :=
  (List.range 16).foldl (fun a i => if (s.line i).armed ∨ also = some i then a + rowBytes (s.lineCount i) else a) 0

/-- BUDGET with its limits, in 10 MB/s. -/
def State.budget (s : State) : Nat := max 10 (min 1600 (s.get F.EV_BUDGET_BUDGET))

/-- Is D(h) of a sum of row sizes within the budget? -/
def State.fits (s : State) (sum h : Nat) : Bool := decide (sum * 10 ≤ s.budget * max 1 (s.get F.TT_LAUNCH_INTERVAL_T_L) * 2 ^ h)

/-- The smallest level at which the demand fits (R235), 7 where none does. -/
def State.fitLevel (s : State) : Nat := ((List.range 8).find? (fun h => s.fits (s.rowSum none) h)).getD 7

/-- EV_DEMAND brought to the lines and the level in force. -/
def State.syncDemand (s : State) : State :=
  let d := s.rowSum none * 10 / max 1 (s.get F.TT_LAUNCH_INTERVAL_T_L)
  (s.putSat F.EV_DEMAND_D0 d).putSat F.EV_DEMAND_DH (s.rowSum none * 10 / (max 1 (s.get F.TT_LAUNCH_INTERVAL_T_L) * 2 ^ s.get F.EV_RATE_H))

/-- The level recomputed after arming, disarming or an epoch; it takes effect at the next sweep boundary (R235). -/
def State.retarget (s : State) : State := { s with recd := { s.recd with target := s.fitLevel } }.syncDemand

/-- A change of H at a sweep boundary (R235). -/
def State.applyRate (s : State) : State :=
  let h := s.get F.EV_RATE_H
  let t := s.recd.target
  let s := match s.recd.shortAt with
    | some a => if s.now > a + ms then { s.put F.EV_RATE_BW_SHORT 0 with recd := { s.recd with shortAt := none } } else s
    | none => s
  if h = t then s
  else
    let s := ((s.put F.EV_RATE_H t).put F.EV_RATE_HMAX (max t (s.get F.EV_RATE_HMAX))).syncDemand
    if t > h then s.raise 0x0503 wide 0 else if t = 0 then s.raise 0x0504 wide 0 else s

/-- BW_SHORT: the level rises by one (R235). -/
def bwShort (s : State) : State :=
  { s.put F.EV_RATE_BW_SHORT 1 with recd := { s.recd with target := min 7 (max s.recd.target (s.get F.EV_RATE_H) + 1), shortAt := some s.now } }

/-- The level lowered by one after a quiet write queue (R236). -/
def rateLower (s : State) : State :=
  let h := max s.recd.target (s.get F.EV_RATE_H)
  let rested : Bool := match s.recd.loweredAt with | some a => decide (s.now ≥ a + 100 * ms) | none => true
  if h > 0 ∧ s.fits (s.rowSum none) (h - 1) ∧ rested then
    { s with recd := { s.recd with target := h - 1, loweredAt := some s.now } }
  else s

/-! ## Triggers (R226–R228) -/

/-- The ticks of a stamp's counter value. -/
def stampTicks (st : Nat) : Nat := st / 281474976710656 * (1000 * ms) + st % 281474976710656 / 65536 * ns + st % 65536

/-- A trigger ignored and counted. -/
def State.ignoreTrigger (s : State) (n : Nat) : State :=
  (s.bump (F.EV_IGNORED_COUNT n) (F.EV_LSAT_IGN_SAT n) 1).modLine n (fun x => { x with ignored := min 0xFFFF (x.ignored + 1) })

/-- The input of a trigger instant, once a launch at or before which no later one lies has been stored or passed (R227). -/
def State.placeAt (s : State) (n : Nat) (t : Int) : Option Int :=
  match (s.line n).last with
  | none => none
  | some (a, at_) =>
    let tl : Int := s.launchInterval
    if t < at_ + tl then some (a + (t - at_) / tl) else none

/-- Triggers whose input's row now exists made ready (R227). -/
def State.readyTriggers (s : State) (n : Nat) : State :=
  let x := s.line n
  s.setLine n { x with trigs := x.trigs.map (fun t => match t.ready with
    | some _ => t
    | none => match s.placeAt n t.at_ with
      | some i => { t with ready := some (s.now, i) }
      | none => t) }

/-- A trigger of a source placed on a line; OFFSET is added to its instant (R226, R227). -/
def State.placeTrigger (s : State) (n src : Nat) (at_ : Int) : State :=
  let x := s.line n
  if !x.armed then s
  else
    let t := at_ + s.getS (F.EV_OFFSET_OFFSET n) * ns
    match s.placeAt n t with
    | some i => (s.setLine n { x with trigs := x.trigs ++ [⟨src, t, some (s.now, i)⟩] }).syncLine n
    | none =>
      if x.trigs.countP (fun t => t.ready.isNone) ≥ 8 then (s.ignoreTrigger n).syncLine n
      else (s.setLine n { x with trigs := x.trigs ++ [⟨src, t, none⟩] }).syncLine n

/-- EV_HOST_TRIG (R226, R228). -/
def hostTrigger (v : Nat) (s : State) : State :=
  each (List.range 16) (fun n s => if v.testBit n then s.placeTrigger n 3 (s.count s.now) else s) s

/-- A qualified TRIG_IN edge passed to the lines that accept it (R226). -/
def State.trigInTrigger (s : State) : State :=
  let at_ : Int := (s.count s.now : Int) - (s.get F.EV_TRIGIN_SKEW_SKEW * ns / 10 : Nat)
  each (List.range 16) (fun n s => if s.is (F.EV_LCFG_TRIGIN_EN n) then s.placeTrigger n 0 at_ else s) s

/-- A detector's ON transition passed to the lines that accept it (R226). -/
def State.detectorTrigger (s : State) (sect kind chan stamp : Nat) : State :=
  each (List.range 16) (fun n s =>
    let first := s.get (F.EV_LCHAN_FIRST n)
    if s.is (F.EV_LCFG_DET_EN n) ∧ (s.get (F.EV_LCFG_DET_KINDS n)).testBit kind ∧ s.get (F.EV_LCFG_DET_SECTION n) = sect ∧
        (s.is (F.EV_LCFG_DET_RANGE n) → first ≤ chan ∧ chan < first + s.lineCount n) then
      s.placeTrigger n 2 (stampTicks stamp)
    else s) s

/-- A cross-trigger from a module's line, carrying its corrected instant, placed on the lines that accept it (R240). -/
def State.crossTrigger (s : State) (m line : Nat) (at_ : Int) : State :=
  each (List.range 16) (fun n s =>
    if s.is (F.EV_LCFG_XT_EN n) ∧ (s.get (F.EV_XT_XT_MODULES n)).testBit m ∧ (s.get (F.EV_XT_XT_LINES n)).testBit line then
      s.placeTrigger n 1 at_
    else s) s

/-! ## Records (R233, R237, R238) -/

/-- The highest H that a line has met in the window from `start` to `stop`, and the changes of H within it (R235). -/
def Line.rateIn (x : Line) (start stop : Int) : Nat × Nat :=
  let within := x.rates.filter (fun r => decide (start < r.1 ∧ r.1 ≤ stop))
  let before := ((x.rates.find? (fun r => decide (r.1 ≤ start))).map (·.2)).getD 0
  (within.foldl (fun a r => max a r.2) before, within.length)

/-- The 64 bytes of a record header (R238). -/
def State.recordHeader (s : State) (n : Nat) (c : Capture) (cause ignored : Nat) (post : Nat) : List (BitVec 8) :=
  let f := c.flags
  let rate := (s.line n).rateIn c.start (c.trig + post - 1)
  let flags := (if c.queued then 1 else 0) + (if c.gap then 2 else 0) + (if f.testBit 0 then 4 else 0) + (if f.testBit 1 then 8 else 0) +
    (if f.testBit 2 then 16 else 0) + (if f.testBit 5 then 32 else 0) + (if f.testBit 3 || f.testBit 4 then 64 else 0)
  leBytes 0x45565243 4 ++ leBytes n 1 ++ leBytes c.sources 1 ++ leBytes (s.get (F.EV_LCFG_SECTION n)) 2 ++
  leBytes (s.get (F.EV_REC_WR_COUNT n)) 4 ++ stampBytes (stampOf c.at_.toNat) ++ leBytes c.trigN 4 ++ leBytes (c.slot.getD (s.line n).wrSlot) 4 ++
  leBytes c.rows 4 ++ leBytes (s.get (F.EV_LCHAN_FIRST n)) 4 ++ leBytes (s.lineCount n) 2 ++ leBytes (rowBytes (s.lineCount n)) 2 ++
  leBytes (c.trig - c.start).toNat 4 ++ leBytes post 4 ++ leBytes c.dead 4 ++ leBytes ignored 2 ++ leBytes c.merged 1 ++ leBytes cause 1 ++
  leBytes (c.h0 % 16 + rate.1 % 16 * 16) 1 ++ leBytes (min 255 rate.2) 1 ++ leBytes flags 1 ++ [0]

/-- A capture's record written to the header ring (R233, R237, R238). -/
def State.writeRecord (s : State) (n : Nat) (c : Capture) (cause : Nat) : State :=
  let x := s.line n
  let last := match x.last with | some (a, _) => a | none => c.trig
  let post := (min c.stop last - c.trig + 1).toNat
  let wr := s.get (F.EV_REC_WR_COUNT n)
  let empty := s.records n = 0
  let s := s.wrBytes (spaceBar2 + s.get (F.EV_HDR_BASE_OFFSET n) + 64 * (wr % 256)) (s.recordHeader n c cause x.ignored post)
  let s := s.setLine n { x with ignored := 0, held := x.held ++ [⟨wr, c.slot.getD x.wrSlot, c.rows, rowBytes (s.lineCount n), s.lineRows n⟩] }
  let s := (s.bumpWrap (F.EV_REC_WR_COUNT n) 1).put (F.EV_DEAD_INPUTS n) c.dead
  if empty then s.raise 0x0500 n 0 else s

/-- Captures closed in order of their window ends; the last one to close starts a fresh fill (R230, R233). -/
def State.closeWhere (s : State) (n cause : Nat) (p : Capture → Bool) : State :=
  let x := s.line n
  let due := x.caps.filter p
  if due = [] then s
  else
    let order := due.foldl (fun acc c => acc.takeWhile (fun d => decide (d.stop ≤ c.stop)) ++ [c] ++ acc.dropWhile (fun d => decide (d.stop ≤ c.stop))) []
    let s := s.setLine n { x with caps := x.caps.filter (fun c => !p c) }
    let s := each order (fun c s => s.writeRecord n c (if cause = 0 ∧ c.cut then 1 else cause)) s
    let y := s.line n
    if y.caps = [] then
      let f := match y.last with | some (a, _) => a + 1 | none => y.fill
      s.setLine n { y with fill := f, armedAt := if s.get (F.EV_PRE_INPUTS n) = 0 then some (f - 1) else none }
    else s

/-- Does a byte range of the ring, from `a` to before `b`, meet the rows of a record (R237)? -/
def HeldRows.meets (h : HeldRows) (a b : Nat) : Bool :=
  let stop := h.first + h.rows
  if h.rows = 0 then false
  else if stop ≤ h.ring then decide (a < stop * h.size ∧ h.first * h.size < b)
  else decide (h.first * h.size < b ∧ a < h.ring * h.size) || decide (a < (stop - h.ring) * h.size)

/-- Does a slot belong to an open capture or to a record not consumed (R237)? -/
def State.slotHeld (s : State) (n slot : Nat) : Bool :=
  let x := s.line n
  let size := rowBytes (s.lineCount n)
  x.held.any (fun h => h.meets (slot * size) ((slot + 1) * size)) ||
  x.caps.any (fun c => match c.slot with
    | some f => HeldRows.meets ⟨0, f, c.rows, size, s.lineRows n⟩ (slot * size) ((slot + 1) * size)
    | none => false)

/-- Is a header slot free (R237)? -/
def State.headerFree (s : State) (n : Nat) : Bool := decide (s.records n + (s.line n).caps.length < 256)

/-- The line enters BLOCKED: its open captures close with cause 4 (R237). -/
def State.blockLine (s : State) (n : Nat) : State :=
  if (s.line n).blocked then s
  else ((s.closeWhere n 4 (fun _ => true)).modLine n (fun x => { x with blocked := true, armedAt := none })).raise 0x0501 n 0

/-- Can the line store its next row: its ring has slots, and the next one belongs to no open capture and to no record not consumed (R237)? -/
def State.rowFree (s : State) (n : Nat) : Bool := decide (s.lineRows n > 0) && !s.slotHeld n (s.line n).wrSlot

/-- An armed line that cannot store its next row, or has no open capture and no free header slot, is BLOCKED (R229, R237). -/
def State.checkBlocked (s : State) (n : Nat) : State :=
  let x := s.line n
  if x.armed ∧ (!s.rowFree n ∨ (x.caps = [] ∧ !s.headerFree n)) then s.blockLine n else s

/-- A fill start at the first input after now (R230). -/
def State.freshFill (s : State) (n : Nat) : State :=
  s.modLine n (fun x => { x with fresh := some s.now, armedAt := if s.get (F.EV_PRE_INPUTS n) = 0 then some 0 else none })

/-- The line is BLOCKED no longer, for whatever reason (R243). -/
def State.leaveBlocked (s : State) (n : Nat) : State :=
  if (s.line n).blocked then (s.modLine n (fun x => { x with blocked := false })).raise 0x0502 n 0 else s

/-- The line leaves BLOCKED once the next slot and a header slot are free (R237); the fill start is the next input (R230). -/
def State.unblockLine (s : State) (n : Nat) : State :=
  let x := s.line n
  if x.armed ∧ x.blocked ∧ s.rowFree n ∧ s.headerFree n then (s.leaveBlocked n).freshFill n else s

/-! ## Processing a trigger (R230–R232, R240, R241) -/

/-- A trigger that opened, extended or merged is sent on and pulses TRIG_OUT where the line says so (R240, R241). -/
def State.announce (s : State) (n : Nat) (t : Trig) : State :=
  let s := if s.is (F.EV_LCFG_XT_OUT n) ∧ t.src ≠ 1 then
      let s := if s.is F.FL_STATUS_UP_LINK ∨ s.is F.FL_STATUS_DOWN_LINK then
          { s.bump F.FL_XT_SENT_COUNT F.FL_CNT_SAT_SENT_SAT 1 with recd := { s.recd with crossSent := s.recd.crossSent ++ [(n, t.at_)] } }
        else s
      s.crossTrigger (s.get F.FL_STATUS_ID) n t.at_
    else s
  if (s.get F.EV_TRIG_OUT_LINES).testBit n then
    { s with recd := { s.recd with trigOut := true, trigOutEnd := s.now + max 1 (s.get F.EV_TRIG_OUT_WIDTH) * (100 * ns) } }
  else s

/-- The input n of R143 of an unbroken input number of the line's section. -/
def State.inputOf (s : State) (n : Nat) (i : Int) : Nat :=
  let st : Stream := kvGet {} s.recd.streams (s.get (F.EV_LCFG_SECTION n))
  (((st.n : Int) - (st.abs - i)) % 4294967296).toNat

/-- A capture opened on input i (R230). -/
def State.openCapture (s : State) (n : Nat) (t : Trig) (i : Int) (queued : Bool) : State :=
  let x := s.line n
  let start := i - s.get (F.EV_PRE_INPUTS n)
  let stop := i + max 1 (s.get (F.EV_POST_INPUTS n)) - 1
  let rows := x.kept.filter (fun r => decide (start ≤ r.input ∧ r.input ≤ stop))
  let dead := if queued ∨ s.get (F.EV_PRE_INPUTS n) = 0 then 0 else x.deadLen
  let h := s.get F.EV_RATE_H
  let c : Capture := { start := start, stop := stop, trig := i, trigN := s.inputOf n i, at_ := t.at_, sources := 2 ^ t.src,
                       slot := rows.getLast?.map (·.slot), rows := rows.length, flags := rows.foldl (fun a r => a ||| r.flags) 0,
                       h0 := (rows.getLast?.map (·.h)).getD h, queued := queued, dead := dead }
  let s := (s.setLine n { x with caps := x.caps ++ [c] }).announce n t
  match (s.line n).last with
  | some (a, _) => s.closeWhere n 0 (fun c => decide (c.stop ≤ a))
  | none => s

/-- Counts of a merged or extending trigger. -/
def State.countMerged (s : State) (n : Nat) (t : Trig) : State := (s.bump (F.EV_MERGED_COUNT n) (F.EV_LSAT_MRG_SAT n) 1).announce n t

/-- One trigger processed on input i (R230–R232). -/
def State.processTrigger (s : State) (n : Nat) (t : Trig) (i : Int) : State :=
  let x := s.line n
  if x.blocked then s.ignoreTrigger n
  else
    let pre : Int := s.get (F.EV_PRE_INPUTS n)
    let early : Bool := x.fresh.isSome || decide (i - pre < x.fill)
    let open_ := fun (queued : Bool) (s : State) =>
      if early then s.ignoreTrigger n
      else if !s.headerFree n then (s.blockLine n).ignoreTrigger n
      else s.openCapture n t i queued
    match x.caps.find? (fun c => c.trig == i) with
    | some _ =>
      (s.setLine n { x with caps := x.caps.map (fun c => if c.trig = i then { c with sources := c.sources ||| 2 ^ t.src, merged := min 255 (c.merged + 1) } else c) }).countMerged n t
    | none =>
      if x.caps = [] then open_ false s
      else if early then s.ignoreTrigger n
      else match x.policy with
        | 1 => if x.caps.length < 5 then open_ true s else s.ignoreTrigger n
        | 2 => s.ignoreTrigger n
        | _ =>
          let ext := fun (c : Capture) =>
            let want := max c.stop (i + max 1 (s.get (F.EV_POST_INPUTS n)) - 1)
            let lim := c.start + max 1 (s.get (F.EV_MAX_LEN_INPUTS n)) - 1
            { c with stop := max c.stop (min want lim), cut := c.cut || decide (want > lim), merged := min 255 (c.merged + 1), sources := c.sources ||| 2 ^ t.src }
          let k := x.caps.length - 1
          (s.setLine n { x with caps := x.caps.modify k ext }).countMerged n t

/-- Does ready trigger a go before b (R228)? -/
def trigBefore (a b : Trig) : Bool :=
  let ta : Nat := (a.ready.map (·.1)).getD 0
  let tb : Nat := (b.ready.map (·.1)).getD 0
  if ta ≠ tb then decide (ta < tb) else if a.src ≠ b.src then decide (a.src < b.src) else decide (a.at_ < b.at_)

/-- The next ready trigger of a line processed. -/
def triggerProcess (n : Nat) (s : State) : State :=
  if n ≥ 16 then s
  else
    let x := s.line n
    match x.trigs.foldl (fun b t => if t.ready.isNone then b else match b with
        | none => some t
        | some u => if trigBefore t u then some t else b) (none : Option Trig) with
    | none => s
    | some t =>
      let s := s.setLine n { x with trigs := x.trigs.erase t }
      ((s.processTrigger n t ((t.ready.map (·.2)).getD 0)).checkBlocked n).syncLine n

/-- TRIG_OUT falls WIDTH × 100 ns after its latest start (R241). -/
def trigOutPulseEnd (s : State) : State :=
  if s.recd.trigOut ∧ s.now ≥ s.recd.trigOutEnd then { s with recd := { s.recd with trigOut := false } } else s

/-! ## Rows (R224, R225, R230, R236) -/

/-- The 32-byte header and the parts of a row (R224). -/
def rowContent (p : PartRow) (n h : Nat) : List (BitVec 8) :=
  stampBytes p.seg.stamp ++ leBytes n 4 ++ leBytes p.seg.seq 4 ++ leBytes p.seg.sweep 4 ++ leBytes p.seg.group 1 ++ leBytes (p.flags % 64) 1 ++
  leBytes h 1 ++ [0, 0, 0, 0, 0] ++ pad8 (p.codes.flatMap (fun c => leBytes (c % 65536).toNat 2)) ++ pad8 (bitmap p.fade) ++ pad8 (bitmap p.beyond)

/-- A row stored in the line's next slot (R224, R237). -/
def State.storeRow (s : State) (ln : Nat) (p : PartRow) (a : Int) (n : Nat) : State :=
  let x := s.line ln
  let h := s.get F.EV_RATE_H
  let rows := max 1 (s.lineRows ln)
  let slot := x.wrSlot
  let s := s.wrBytes (spaceBar2 + s.get (F.EV_DATA_BASE_OFFSET ln) + slot * rowBytes (s.lineCount ln)) (rowContent p n h)
  let kept := ⟨a, slot, p.flags % 64, h⟩ :: x.kept.filter (fun r => r.slot ≠ slot)
  let oldest := (kept.getLast?.map (·.input)).getD a
  let caps := x.caps.map (fun c => if c.start ≤ a ∧ a ≤ c.stop then
    { c with slot := some (c.slot.getD slot), rows := c.rows + 1, flags := c.flags ||| (p.flags % 64), h0 := if c.rows = 0 then h else c.h0 }
    else c)
  s.setLine ln { x with kept := kept, wrSlot := (slot + 1) % rows, fill := max x.fill oldest, caps := caps }

/-- A line turned OFF: its captures end with cause 3 (R242). -/
def State.lineOff (s : State) (ln : Nat) : State :=
  (((s.closeWhere ln 3 (fun _ => true)).leaveBlocked ln).modLine ln (fun x =>
    { x with armed := false, disarm := false, trigs := [], kept := [], armedAt := none, fresh := none })).retarget

/-- The inputs at which a line meets another H; what lies before the fill start is dropped but for the H in force there. -/
def noteRate (rates : List (Int × Nat)) (fill a : Int) (h : Nat) : List (Int × Nat) :=
  let rs := if (rates.head?.map (·.2)).getD 0 = h then rates else (a, h) :: rates
  rs.takeWhile (fun r => decide (r.1 > fill)) ++ (rs.dropWhile (fun r => decide (r.1 > fill))).take 1

/-- One input of a line: policy and disarming take effect, its row is stored, passed by the rate rule, dropped or blocked, captures close, and
triggers become ready (R227, R229–R237, R242). -/
def State.lineInput (s : State) (ln : Nat) (p : PartRow) (a : Int) (n : Nat) (full : Bool) : State :=
  let s := s.modLine ln (fun x => { x with policy := s.get (F.EV_CTRL_POLICY ln) })
  let s := s.modLine ln (fun x => match x.fresh with
    | some f => if p.seg.launch > f then { x with fill := a, fresh := none } else x
    | none => x)
  let s := s.modLine ln (fun x => { x with rates := noteRate x.rates (x.fill - s.get (F.EV_PRE_INPUTS ln)) a (s.get F.EV_RATE_H) })
  let s := if (s.line ln).disarm then s.lineOff ln else s
  let x := s.line ln
  let h := s.get F.EV_RATE_H
  let s := if !x.armed ∨ x.blocked ∨ n % 2 ^ h ≠ 0 then s
    else if full ∧ h = 7 then
      ((s.bump F.EV_DROPPED_COUNT F.EV_SAT_DROP_SAT 1).raisePerSecond 0x0505 wide 0).modLine ln (fun x => { x with caps := x.caps.map (fun c => { c with gap := true }) })
    else if !s.rowFree ln then s.blockLine ln
    else s.storeRow ln p a n
  let s := s.modLine ln (fun x =>
    let filled := x.armed && !x.blocked && x.fresh.isNone && x.armedAt.isNone && decide (a - x.fill + 1 ≥ (s.get (F.EV_PRE_INPUTS ln) : Int))
    { x with
      last := some (a, (stampTicks p.seg.stamp : Int)), armedAt := if filled then some a else x.armedAt,
      deadLen := if filled then (a - x.fill + 1).toNat else x.deadLen })
  (((s.closeWhere ln 0 (fun c => decide (c.stop ≤ a))).checkBlocked ln).readyTriggers ln).syncLine ln

/-- The section's stream advanced by the first segment of a launch (R143). -/
def State.advanceStream (s : State) (seg : Segment) : State :=
  let st : Stream := kvGet {} s.recd.streams seg.section_
  if (st.seen ∧ st.sweep = seg.sweep ∧ st.group = seg.group) ∨ (st.restart ∧ 0 < s.sw.epochs ∧ seg.launch < s.sw.epochAt) then s
  else
    let g := max 1 (s.get F.TT_SCHED_G)
    let d := if st.seen then (((((seg.sweep + 4294967296 - st.sweep) % 4294967296 : Nat) : Int) * g + seg.group - st.group) % 4294967296).toNat else 1
    let n := if st.restart ∨ d > 16 * g + 1 then 0 else (st.n + d) % 4294967296
    let next : Stream := { seen := true, sweep := seg.sweep, group := seg.group, abs := st.abs + d, n := n, restart := false }
    { s with recd := { s.recd with streams := kvSet {} s.recd.streams seg.section_ next } }

/-- The values of a segment for channels first to first + count − 1. -/
def cutRange {α : Type} (seg : Segment) (first count : Nat) (xs : List α) : List α :=
  let lo := max first seg.first
  let hi := min (first + count) (seg.first + seg.codes.length)
  (xs.drop (lo - seg.first)).take (hi - lo)

/-- A segment taken by one line (R224, R225), where it holds channels of it; a line that an epoch has set up anew takes none of a launch before it
(R242). -/
def State.lineSegment (s : State) (seg : Segment) (full : Bool) (ln : Nat) : State :=
  let first := s.get (F.EV_LCHAN_FIRST ln)
  let count := s.lineCount ln
  if s.get (F.EV_LCFG_SECTION ln) ≠ seg.section_ ∨ first + count ≤ seg.first ∨ seg.first + seg.codes.length ≤ first ∨
      (!(s.line ln).armed && s.get (F.EV_RING_MIB ln) == 0) ∨ seg.launch < (s.line ln).setAt then s
  else
    let old := match (s.line ln).part with
      | some p => if p.seg.sweep = seg.sweep ∧ p.seg.group = seg.group then p else ⟨seg, 0, [], [], []⟩
      | none => ⟨seg, 0, [], [], []⟩
    let p : PartRow := { old with flags := old.flags ||| seg.flags % 64, codes := old.codes ++ cutRange seg first count seg.codes,
                                  fade := old.fade ++ cutRange seg first count seg.fade, beyond := old.beyond ++ cutRange seg first count seg.beyond }
    if first + count ≤ seg.first + seg.codes.length then
      let st : Stream := kvGet {} s.recd.streams seg.section_
      (s.modLine ln (fun x => { x with part := none })).lineInput ln p st.abs st.n full
    else s.modLine ln (fun x => { x with part := some p })

/-- A segment taken by the recorder (R224, R225). -/
def State.recordSegment (s : State) (seg : Segment) (full : Bool) : State :=
  each (List.range 16) (fun ln s => s.lineSegment seg full ln) (s.advanceStream seg)

/-- An affected line takes the launches before the epoch whose segments the front pipeline has yet to emit, so that its captures end at the last input
before the epoch (R242); the sections' numbering goes on with the segments themselves (log entry 121). -/
def State.drainLine (s : State) (ln : Nat) : State :=
  if (s.line ln).caps = [] then s
  else
    let streams := s.recd.streams
    let s := each s.fp.queue (fun x s => (s.advanceStream x.1).lineSegment x.1 false ln) s
    { s with recd := { s.recd with streams := streams } }

/-! ## Arming and consumption (R236, R239, R242) -/

/-- ARM = 1 (R236): refused where D(7) would exceed the budget. A line that cannot store a row is BLOCKED at once (R229). A policy written meanwhile
counts from the next input of an armed line on (R231). -/
def arm (n : Nat) (s : State) : State :=
  if n ≥ 16 then s
  else
    let x := s.line n
    if x.armed ∧ !x.disarm then s
    else if !s.fits (s.rowSum (some n)) 7 then ((s.put (F.EV_CTRL_ARM n) 0).put (F.EV_CTRL_ARM_REJ n) 1).raise 0x0506 n 0
    else
      let s := if x.armed then s.setLine n { x with disarm := false }
        else (s.setLine n { x with armed := true, disarm := false, policy := s.get (F.EV_CTRL_POLICY n) }).freshFill n
      (((s.put (F.EV_CTRL_ARM n) 1).retarget).checkBlocked n).syncLine n

/-- ARM = 0 (R242): taken at the next input of the section. -/
def disarm (n : Nat) (s : State) : State :=
  if n ≥ 16 then s
  else (s.put (F.EV_CTRL_ARM n) 0).modLine n (fun x => { x with disarm := x.armed })

/-- The policy field written (R231); it is taken at the next input. -/
def evCtrlWrite (n v : Nat) (s : State) : State :=
  let s := s.put (F.EV_CTRL_POLICY n) (v / 268435456 % 4)
  let s := if v.testBit 30 then s.put (F.EV_CTRL_ARM_REJ n) 0 else s
  if v.testBit 31 then arm n s else disarm n s

/-- A write to EV_REC_RD (R239). -/
def evRecRdWrite (n v : Nat) (s : State) : State :=
  if n ≥ 16 then s
  else if indexOk (s.get (F.EV_REC_WR_COUNT n)) (s.get (F.EV_REC_RD_COUNT n)) (v % 4294967296) then
    let s := s.put (F.EV_REC_RD_COUNT n) v
    let k := s.records n
    let s := s.modLine n (fun x => { x with held := x.held.drop (x.held.length - k) })
    (s.unblockLine n).syncLine n
  else s.put (F.EV_LSAT_RD_ERR n) 1

/-- Every open capture closed with a cause (R242). -/
def State.closeAll (s : State) (cause : Nat) : State :=
  each (List.range 16) (fun n s => if (s.line n).caps = [] then s else (s.closeWhere n cause (fun _ => true)).syncLine n) s

/-- The slot at or behind the place in the ring to which the line has written, for rows of another size. -/
def State.slotAfter (s : State) (n oldSize : Nat) : Nat :=
  let size := rowBytes (s.lineCount n)
  ((s.line n).wrSlot * oldSize + size - 1) / size % max 1 (s.lineRows n)

/-- A line set up from its registers at commit, or at an epoch that affects it, with the ARM and POLICY that its record gives it as `word` (R33, R237, R242,
R244); `oldSize` is the row size before. An arm request is refused as ever where the demand would not fit (R236). -/
def State.setupLine (s : State) (n oldSize word : Nat) : State :=
  let c := s.lineCount n
  let s := ((s.put (F.EV_RING_ROW_BYTES n) (rowBytes c)).put (F.EV_ROWS_ROWS n) (s.get (F.EV_RING_MIB n) * 1048576 / rowBytes c))
  let s := s.leaveBlocked n
  let slot := s.slotAfter n oldSize
  let x := s.line n
  let s := s.setLine n { held := x.held, ignored := x.ignored, wrSlot := slot, setAt := s.now }
  let s := (s.put (F.EV_CTRL_POLICY n) (word / 268435456)).put (F.EV_CTRL_ARM n) 0
  if word.testBit 31 then (arm n s).syncLine n else s.syncLine n

/-! ## Meanings -/

/-- HOST_TRIGGER (R226). -/
def execHostTrigger (t lines : Nat) (s : State) : Outcome := runAt t s (access 0x150018 (hostTrigger lines))
/-- TRIGGER_PROCESS (R227). -/
def execTriggerProcess (t n : Nat) (s : State) : Outcome := runAt t s (triggerProcess n)
/-- TRIG_OUT_PULSE_END (R241). -/
def execTrigOutPulseEnd (t : Nat) (s : State) : Outcome := runAt t s trigOutPulseEnd
/-- ARM (R236). -/
def execArm (t n : Nat) (s : State) : Outcome := runAt t s (access 0x15011C (arm n))
/-- DISARM (R242). -/
def execDisarm (t n : Nat) (s : State) : Outcome := runAt t s (access 0x15011C (disarm n))
/-- BW_SHORT (R235). -/
def execBwShort (t : Nat) (s : State) : Outcome := runAt t s (inDomain 13 bwShort)
/-- RATE_LOWER (R236). -/
def execRateLower (t : Nat) (s : State) : Outcome := runAt t s (inDomain 13 rateLower)
/-- EV_REC_RD_WRITE (R239). -/
def execEvRecRdWrite (t n value : Nat) (s : State) : Outcome := runAt t s (access 0x150138 (evRecRdWrite n value))

end Sys2Proof.Machine
end

