-- ==== Sys2Proof/Machine/Section.lean ====
section
/-!
DEFINITION. Machine/Section.lean: block sections (chapter 06): the channel input stream (R143–R146), the fine chain (R147), the sketch
(R148), quality (R149), restarts (R150), detectors and alarms (R152–R154), bands (R155), features (R156), palettes (R157, R158), frames
(R159–R163), the detector event FIFO (R164–R166), and readback (R169).
-/
namespace Sys2Proof.Machine

/-! ## Settings of a section -/

/-- Section k. -/
def State.sec (s : State) (k : Nat) : Section := kvGet {} s.secs k

/-- Section k replaced. -/
def State.setSec (s : State) (k : Nat) (x : Section) : State := { s with secs := kvSet {} s.secs k x }

/-- A change to section k. -/
def State.modSec (s : State) (k : Nat) (f : Section → Section) : State := s.setSec k (f (s.sec k))

/-- A register value from a descriptor word (R168): bits hi–lo of the word at register offset `off`. -/
def descField (d : SectionDesc) (off hi lo : Nat) : Nat := d.words.getD (off / 4) 0 / 2 ^ lo % 2 ^ (hi + 1 - lo)

/-- What a descriptor, with its timetable's grid, gives a section (R141–R168). -/
def descCfg (d : SectionDesc) (tt g tl lF : Nat) : SecCfg :=
  { tt := tt, g := g, tl := tl, lF := lF, prio := descField d 0 30 28, stages := d.stages, paletteB := d.paletteB,
    bands := d.bands.take (min 8 (descField d 48 3 0)), x0 := descField d 4 27 0, pitch := descField d 8 15 0, gauge := descField d 8 31 24, n := descField d 12 17 0,
    ofsK := max 4 (min 16 (descField d 0 20 16)), scShift := descField d 0 12 8, scale := signed16 (descField d 16 15 0), outLsb := descField d 20 31 0,
    skShift := descField d 24 28 24, dk := max 1 (min 256 (descField d 24 8 0)), src := descField d 28 31 31, att := descField d 28 27 24,
    rel := descField d 28 23 20, w := max 1 (descField d 28 15 0), log2nf := descField d 48 19 16, nb := min 8 (descField d 48 3 0),
    fs := max 1 (descField d 52 30 18), fc := max 1 (descField d 52 17 0), v := descField d 56 20 16, fdiv := max 1 (descField d 56 12 0),
    palSrc := descField d 0 1 0, palFade := max 1 (min 4096 (descField d 64 12 0)), featUnit := d.featUnit, featDelay := d.featDelay,
    featId := d.featId }

/-- The total decimation D (R147). -/
def SecCfg.dtotal (c : SecCfg) : Nat := c.stages.foldl (fun a s => a * max 1 s.d) 1

/-- Λ, the support of a fine output (R149). -/
def SecCfg.support (c : SecCfg) : Nat :=
  (c.stages.foldl (fun (a : Nat × Nat) s => (a.1 + (s.coef.length - 1) * a.2, a.2 * max 1 s.d)) (1, 1)).1

/-- Is the descriptor within the limits of R141–R168? -/
def descOk (d : SectionDesc) (bf g : Nat) : Bool :=
  let c := descCfg d 0 g 0 0
  let last := (c.x0 + (c.n - 1) * c.pitch) * 320 + 31 * 10211
  let need := (channelBins last c.pitch c.gauge).2
  d.chainOk && decide (500 ≤ c.pitch ∧ c.pitch ≤ 20000) && decide (2 ≤ c.gauge ∧ c.gauge ≤ 196) && decide (1 ≤ c.n ∧ c.n ≤ 131072) &&
  decide (1 ≤ descField d 0 26 24 ∧ descField d 0 26 24 ≤ 6) && decide (4 ≤ descField d 0 20 16 ∧ descField d 0 20 16 ≤ 16) &&
  decide (1 ≤ descField d 24 8 0 ∧ descField d 24 8 0 ≤ 256) && decide (descField d 48 3 0 ≤ 8) && decide (need < bf) &&
  (decide (descField d 48 3 0 = 0) || decide (6 ≤ c.log2nf ∧ c.log2nf ≤ 12)) && decide (c.dtotal ≤ 4096) &&
  c.stages.all (fun s => decide (1 ≤ s.d ∧ s.d ≤ 8 ∧ 1 ≤ s.coef.length ∧ s.coef.length ≤ 256 ∧ s.sh ≤ 31)) &&
  c.bands.all (fun b => decide (1 ≤ b.1 ∧ b.1 ≤ b.2 ∧ b.2 ≤ 2 ^ c.log2nf / 2)) &&
  decide (1 ≤ descField d 52 30 18 ∧ descField d 52 30 18 ≤ 4096) && decide (1 ≤ descField d 52 17 0 ∧ descField d 52 17 0 ≤ 131072) &&
  decide (c.v ≤ 16) && (decide (c.v = 0) || decide (1 ≤ descField d 56 12 0 ∧ descField d 56 12 0 ≤ 4096)) && decide (descField d 64 12 0 ≤ 4096)

/-- The level and count registers of section k as a list: peak ON, OFF, RMS ON, OFF, envelope ON, OFF, ON_COUNT, OFF_COUNT (R154). -/
def State.liveLevels (s : State) (k : Nat) : List Nat :=
  [s.get (F.BS_PEAK_LVL_ON k), s.get (F.BS_PEAK_LVL_OFF k), s.get (F.BS_RMS_LVL_ON k), s.get (F.BS_RMS_LVL_OFF k),
   s.get (F.BS_ENV_LVL_ON k), s.get (F.BS_ENV_LVL_OFF k), s.get (F.BS_DET_CNT_ON_COUNT k), s.get (F.BS_DET_CNT_OFF_COUNT k)]

/-! ## The detector event FIFO (R164–R166) -/

/-- Records in the FIFO. -/
def State.dfifoOcc (s : State) : Nat := sub32 (s.get F.BS_DFIFO_WR_COUNT) (s.get F.BS_DFIFO_RD_COUNT)

/-- BS_DFIFO_STAT OCCUPANCY brought to the counts. -/
def State.syncDfifo (s : State) : State := s.putSat F.BS_DFIFO_STAT_OCCUPANCY s.dfifoOcc

/-- A detector record as its 32 bytes (R164). -/
def detRecord (stamp sect kind trans chan value level seq sweep : Nat) : DetRecord :=
  stamp + (sect + kind * 2 ^ 16 + trans * 2 ^ 24 + chan * 2 ^ 32 + value * 2 ^ 64 + level * 2 ^ 80 + seq * 2 ^ 96 + sweep * 2 ^ 128) * 2 ^ 96

/-- A storm record (R165). -/
def stormRecord (sect : Nat) (x : Storm) : DetRecord :=
  x.stamp + (sect + 0xFF * 2 ^ 16 + x.low * 2 ^ 32 + x.high * 2 ^ 64 + x.ons * 2 ^ 96 + x.offs * 2 ^ 128) * 2 ^ 96

/-- A record written (R164); the first into an empty FIFO raises 0x0440. -/
def State.dfifoPut (s : State) (sect : Nat) (r : DetRecord) : State :=
  let wr := s.get F.BS_DFIFO_WR_COUNT
  let empty := s.dfifoOcc = 0
  let s := { s with dfifo := kvSet 0 s.dfifo (wr % 4096) r }
  let s := (s.bumpWrap F.BS_DFIFO_WR_COUNT 1).syncDfifo
  let s := s.bump (F.BS_DET_EVTS_COUNT sect) (F.BS_SAT_EVT_SAT sect) 1
  if empty then s.raise 0x0440 wide 0 else s

/-- A transition merged into its section's storm accumulator (R165). -/
def State.stormMerge (s : State) (sect stamp chan : Nat) (on : Bool) : State :=
  let s := s.modSec sect (fun x =>
    let a := x.storm.getD ⟨stamp, chan, chan, 0, 0⟩
    { x with storm := some { a with low := min a.low chan, high := max a.high chan,
                                     ons := min 0xFFFFFFFF (a.ons + if on then 1 else 0),
                                     offs := min 0xFFFFFFFF (a.offs + if on then 0 else 1) } })
  s.bump (F.BS_MERGED_COUNT sect) (F.BS_SAT_MERGE_SAT sect) 1

/-- A transition due (R164, R165): kind, transition code and the window's data. -/
def State.transition (s : State) (sect kind trans chan value level stamp seq sweep : Nat) : State :=
  let s := if trans = 1 then s.detectorTrigger sect kind chan stamp else s
  let s := if !s.is F.BS_DFIFO_STAT_STORM && decide (s.dfifoOcc ≥ 4096) then
      (s.put F.BS_DFIFO_STAT_STORM 1).raise 0x0441 wide 0
    else s
  if s.is F.BS_DFIFO_STAT_STORM then s.stormMerge sect stamp chan (trans == 1)
  else s.dfifoPut sect (detRecord stamp sect kind trans chan value level seq sweep)

/-- The end of a storm (R165): one record for each section with a count, in section order. -/
def State.stormEnd (s : State) : State :=
  if s.is F.BS_DFIFO_STAT_STORM ∧ s.dfifoOcc ≤ 2048 then
    let s := each (List.range 256) (fun k s => match (s.sec k).storm with
      | some x => (s.dfifoPut k (stormRecord k x)).modSec k (fun y => { y with storm := none })
      | none => s) s
    (s.put F.BS_DFIFO_STAT_STORM 0).raise 0x0442 wide 0
  else s

/-- A write to BS_DFIFO_RD (R166). -/
def dfifoRdWrite (v : Nat) (s : State) : State :=
  if indexOk (s.get F.BS_DFIFO_WR_COUNT) (s.get F.BS_DFIFO_RD_COUNT) (v % 2 ^ 32) then
    ((s.put F.BS_DFIFO_RD_COUNT v).syncDfifo).stormEnd
  else s.put F.BS_DFIFO_STAT_RD_ERR 1

/-! ## Quality (R149) -/

/-- The runs after one more value. -/
def Runs.step (r : Runs) (q : Quality) : Runs :=
  { settle := if q.settle then 0 else r.settle + 1, fade := if q.fade then r.fade + 1 else 0,
    beyond := if q.beyond then 0 else r.beyond + 1, hold := if q.hold then 0 else r.hold + 1 }

/-- The quality of a value with a span and a support, at the end of both. -/
def Runs.quality (r : Runs) (span support : Nat) : Quality :=
  { fade := decide (r.fade ≥ span), beyond := decide (r.beyond < span), settle := decide (r.settle < support), hold := decide (r.hold < span) }

/-! ## Frames (R159–R162) -/

/-- The period of a product's samples as issued, in units of 10 ns (R159, R163). -/
def SecCfg.period (c : SecCfg) (product : Nat) (halved : Bool) (shed : Nat) : Nat :=
  let h := if halved then 2 else 1
  let o := if shed ≥ 1 then 2 else 1
  match product with
  | 1 => c.dtotal * c.tl * h * o
  | 2 => c.dk * c.tl
  | 3 => if c.src = 0 then c.w * c.tl else c.w * c.dtotal * c.tl * h
  | 4 => 2 ^ c.log2nf / 2 * c.tl
  | _ => c.fdiv * c.dtotal * c.tl * h * o

/-- The 16-byte preamble (R160). -/
def SecCfg.preamble (c : SecCfg) (product : Nat) (halved : Bool) (shed pal v : Nat) : List (BitVec 8) :=
  let delay := match product with
    | 1 => if halved then 2 * (c.support - 1) + 1 else c.support - 1
    | 4 => 2 ^ c.log2nf - 1
    | 5 => c.featDelay
    | _ => 0
  let detail := match product with | 3 => c.src | 4 => c.nb | 5 => c.featId | _ => 0
  let lsb := match product with | 4 => 0 | 5 => c.featUnit | _ => c.outLsb
  leBytes lsb 4 ++ leBytes (c.period product halved shed) 4 ++ leBytes delay 2 ++ leBytes pal 1 ++ leBytes v 1 ++ leBytes detail 2 ++ [0, 0]

/-- Values per channel and sample (R159). -/
def SecCfg.valuesPer (c : SecCfg) (product : Nat) : Nat :=
  match product with | 3 => 3 | 4 => c.nb | 5 => c.v | _ => 1

/-- The quality map of samples, each with its channels in order (R160). -/
def qualityMap (samples : List (List Val)) : List (BitVec 8) :=
  samples.flatMap (fun vs => pad8 (bitmap (vs.map (·.q.fade))) ++ pad8 (bitmap (vs.map (·.q.beyond))))

/-- A section's frame over channels `first` on, from its samples (each a list over the frame's channels) (R160, R324). Each bit of the flags, the shed
level's bits included, is the union over the values (R25, R325; log entry 120). -/
def SecCfg.frame (c : SecCfg) (sect product seq first : Nat) (halved : Bool) (samples : List (List Val)) : Frame :=
  let all := samples.flatten
  let head := samples.headD []
  let v0 := head.headD ⟨0, [], {}, 0, 0, 0⟩
  let shed : Nat := all.foldl (fun a x => a ||| x.shed) 0
  let anyq := fun (f : Quality → Bool) => all.any (fun x => f x.q)
  let pal := v0.pal % 2 + (if all.any (fun x => x.pal / 2 % 2 == 1) then 2 else 0) + (if all.any (fun x => x.pal / 4 % 2 == 1) then 4 else 0)
  let flags := (if anyq (·.settle) then 1 else 0) + (if anyq (·.fade) then 2 else 0) + (if anyq (·.beyond) then 4 else 0) +
    (if product = 2 then 8 else 0) + (if anyq (·.hold) then 16 else 0) + (if shed > 0 then 64 + 256 * shed else 0)
  { stream := sect, product := product, seq := seq, stamp := v0.stamp, first := first, chans := head.length, samples := samples.length,
    flags := flags, preamble := c.preamble product halved shed pal (c.valuesPer product), v := c.valuesPer product,
    vals := all.flatMap (·.vs), qmap := qualityMap samples }

/-- The sample that a value belongs to: the launch that completes it, and its number. -/
def Val.row (v : Val) : Nat × Nat := (v.stamp, v.m)

/-- The values of one channel for some samples. -/
def atRows (rows : List (Nat × Nat)) (vs : List Val) : List Val := rows.filterMap (fun r => vs.find? (fun v => v.row == r))

/-- The values of one channel after a sample. -/
def afterRow (r : Nat × Nat) (vs : List Val) : List Val := (vs.dropWhile (fun v => v.row != r)).drop 1

/-- The samples that every one of the section's `n` channels has, in order. -/
def Queue.rows (q : Queue) (n : Nat) : List (Nat × Nat) :=
  ((kvGet [] q.vals 0).map Val.row).filter (fun r => (List.range n).all (fun c => (kvGet [] q.vals c).any (fun v => v.row == r)))

/-- Sample-major order: each sample with the value of every channel. -/
def samplesOf (n : Nat) (perChan : List (List Val)) : List (List Val) :=
  (List.range n).map (fun i => perChan.filterMap (fun vs => vs[i]?))

/-- The channel ranges of a product's frames (R161). -/
def frameRanges (n fc : Nat) : List (Nat × Nat) :=
  (List.range ((n + fc - 1) / fc)).map (fun r => (r * fc, min fc (n - r * fc)))

/-- Is a product enabled now (R162)? -/
def State.outEnabled (s : State) (k product : Nat) : Bool := (s.get (F.BS_OUT_EN_EN k)).testBit (product - 1)

/-- The frames of up to `n` whole samples of a product's range issued, in channel order; a disabled product issues none. What the channels hold
beyond them begins the next range, which takes OUT_EN as it stands now (R161, R162). -/
def State.issueRange (s : State) (k product n : Nat) : State :=
  let x := s.sec k
  let q := kvGet {} x.queues product
  let rows := (q.rows x.cfg.n).take n
  match rows.getLast? with
  | none => s
  | some r =>
    let left := q.vals.filterMap (fun cv => let vs := afterRow r cv.2; if vs = [] then none else some (cv.1, vs))
    let s := s.setSec k { x with queues := kvSet {} x.queues product { vals := left, enabled := s.outEnabled k product } }
    if !q.enabled then s
    else each (frameRanges x.cfg.n x.cfg.fc) (fun f s =>
      let per := (List.range f.2).map (fun i => atRows rows (kvGet [] q.vals (f.1 + i)))
      let f := x.cfg.frame k product (s.get (F.BS_FRAME_SEQ_NEXT k)) f.1 x.halved (samplesOf rows.length per)
      { s.bumpWrap (F.BS_FRAME_SEQ_NEXT k) 1 with built := s.built ++ [f] }) s

/-- A product's range ended early (R161). A sample that only some channels have reached belongs to the next range. -/
def State.flush (s : State) (k product : Nat) : State := s.issueRange k product (s.sec k).cfg.fs

/-- Every product's range ended early at a restart or an epoch, where the next ranges start afresh. -/
def State.flushAll (s : State) (k : Nat) : State :=
  (each [1, 2, 3, 4, 5] (fun p s => s.flush k p) s).modSec k (fun x => { x with queues := [] })

/-- Whether a product is inside its SETTLE run, as its latest value shows, issued or shed (BS_STATs SETTLE). -/
def State.noteSettle (s : State) (k product : Nat) (settle : Bool) : State :=
  s.modSec k (fun x =>
    let rest := x.settling.filter (· ≠ product)
    { x with settling := if settle then product :: rest else rest })

/-- One value of a channel put into its product's range; the range begun takes OUT_EN as it stands (R162), and a full one is issued. -/
def State.emitVal (s : State) (k product c : Nat) (v : Val) : State :=
  let s := s.noteSettle k product v.q.settle
  let x := s.sec k
  let q := kvGet {} x.queues product
  let q := if q.vals = [] then { q with enabled := s.outEnabled k product } else q
  let q := { q with vals := kvSet [] q.vals c (kvGet [] q.vals c ++ [v]) }
  let s := s.setSec k { x with queues := kvSet {} x.queues product q }
  if (q.rows x.cfg.n).length ≥ x.cfg.fs then s.issueRange k product x.cfg.fs else s

/-! ## Palettes (R157, R158) -/

/-- The active palette at fine output i and, inside a fade, its place j, target and length (R158). Each fade keeps the length that PAL_FADE gave it. -/
def paletteAt (fades : List (Nat × (Nat × Nat))) (i : Nat) : Nat × Option (Nat × (Nat × Nat)) :=
  match fades.find? (fun x => decide (x.1 ≤ i)) with
  | none => (0, none)
  | some (st, (target, f)) => if i < st + f then (1 - target, some (i + 1 - st, (target, f))) else (target, none)

/-- The requests evaluated at fine output i, the first time any channel reaches it (R157, R158): where no fade covers it a request for the other
palette starts one; inside a fade a request is held pending, and at the fade's last output it starts the next fade or is dropped. -/
def State.evalPalette (s : State) (k i : Nat) : State :=
  let x := s.sec k
  if i < x.palDone then s
  else
    let start := fun (at_ p : Nat) => (at_, (p, x.cfg.palFade)) :: x.fades.take 3
    let (active, fade) := paletteAt x.fades i
    let (fades, pend, repl) : List (Nat × (Nat × Nat)) × Option Nat × Bool :=
      match fade, x.collected with
      | none, some r => (if r ≠ active then start i r else x.fades, none, false)
      | none, none => (x.fades, none, false)
      | some _, some r => (x.fades, some r, x.pendingReq.isSome)
      | some _, none => (x.fades, x.pendingReq, false)
    let ends : Option Nat := match paletteAt fades i with
      | (_, some (j, (target, f))) => if j = f then some target else none
      | _ => none
    let (fades, pend) : List (Nat × (Nat × Nat)) × Option Nat := match ends, pend with
      | some target, some p => (if p ≠ target then (i + 1, (p, x.cfg.palFade)) :: fades.take 3 else fades, none)
      | _, _ => (fades, pend)
    let s := s.setSec k { x with fades := fades, pendingReq := pend, collected := none, palDone := i + 1 }
    let s := if repl then s.bump (F.BS_PAL_REPL_COUNT k) (F.BS_SAT_REPL_SAT k) 1 else s
    let (a, fd) := paletteAt fades (i + 1)
    let s := (s.put (F.BS_PAL_ACTIVE k) a).putB (F.BS_PAL_FADING k) fd.isSome
    (s.putB (F.BS_PAL_PENDING k) pend.isSome).put (F.BS_PAL_TARGET k) (pend.getD 0)

/-- The palette byte of a value at fine output i (R160): active palette, fade in progress, request pending. -/
def State.palByte (s : State) (k i : Nat) : Nat :=
  let (a, f) := paletteAt (s.sec k).fades i
  a + (if f.isSome then 2 else 0) + (if (s.sec k).pendingReq.isSome then 4 else 0)

/-- A palette request collected (R157): the last one before the next fine output stands. -/
def State.paletteRequest (s : State) (k target : Nat) : State := s.modSec k (fun x => { x with collected := some target })

/-- The products that a section issues (R155, R156, R159). -/
def SecCfg.products (c : SecCfg) : List Nat := [1, 2, 3] ++ (if c.nb = 0 then [] else [4]) ++ (if c.v = 0 ∨ c.v > 16 then [] else [5])

/-! ## One job's context -/

/-- What the values of one job share: section, launch, the levels that the dispatcher took and the shed level (R154, R192). -/
structure JobCtx where
  sect : Nat
  group : Nat
  seq : Nat
  sweep : Nat
  stamp : Nat
  levels : List Nat
  shed : Nat

/-- Channel c of section k. -/
def State.chan (s : State) (k c : Nat) : Chan := kvGet {} (s.sec k).chans c

/-- A change to a channel. -/
def State.modChan (s : State) (k c : Nat) (f : Chan → Chan) : State :=
  s.modSec k (fun x => { x with chans := kvSet {} x.chans c (f (kvGet {} x.chans c)) })

/-! ## Detectors (R152, R153) -/

/-- One detector of a channel at a window end (R153): the alarm after it, and the transition with its value and level. -/
def alarmStep (a : Alarm) (v on off onCount offCount : Nat) (held : Bool) : Alarm × Option (Nat × Nat × Nat) :=
  if on = 0 then (if a.on then ({}, some (2, 0, 0)) else (a, none))
  else if held then (a, none)
  else if a.on then
    let lim := min off on
    if v < lim then (if a.run + 1 ≥ max 1 offCount then ({}, some (0, v, lim)) else ({ a with run := a.run + 1 }, none))
    else ({ a with run := 0 }, none)
  else if v ≥ on then (if a.run + 1 ≥ max 1 onCount then ({ on := true, run := 0 }, some (1, v, on)) else ({ a with run := a.run + 1 }, none))
  else ({ a with run := 0 }, none)

/-- The envelope after a sample (R152). -/
def envStep (e att rel : Nat) (x : Int) : Nat :=
  let a : Int := (x.natAbs * 256 : Nat)
  let d := a - e
  (e + d / 2 ^ (if d > 0 then att else rel)).toNat

/-- rnd(√(sum ÷ n)) (R152). -/
def rmsOf (sum n : Nat) : Nat := if n = 0 then 0 else min 65535 ((isqrt (4 * sum / n) + 1) / 2)

/-- The three detectors judged at the end of a window. -/
def State.judgeWindow (s : State) (x : JobCtx) (c : Nat) (vals : List Nat) (plain env : Bool) : State :=
  each (List.range 3) (fun d s =>
    let ch := s.chan x.sect c
    let (a, tr) := alarmStep (kvGet {} ch.alarms d) (vals.getD d 0) (x.levels.getD (2 * d) 0) (x.levels.getD (2 * d + 1) 0)
      (x.levels.getD 6 1) (x.levels.getD 7 1) (if d = 2 then env else plain)
    let s := s.modChan x.sect c (fun ch => { ch with alarms := kvSet {} ch.alarms d a })
    match tr with
    | some (t, v, l) => s.transition x.sect d t c v l x.stamp x.seq x.sweep
    | none => s) s

/-- One source sample taken by the detectors; at the end of a window its values are issued and judged (R152, R153). -/
def State.detSample (s : State) (x : JobCtx) (c : Nat) (v : Int) (q : Quality) (pal : Nat) : State :=
  let cfg := (s.sec x.sect).cfg
  let ch := s.chan x.sect c
  let w := ch.window
  let w := if q.fade then { w with taken := w.taken + 1 } else
    { taken := w.taken + 1, live := w.live + 1, peak := max w.peak v.natAbs, sumsq := w.sumsq + v.natAbs * v.natAbs,
      env := envStep w.env cfg.att cfg.rel v }
  let runs := ch.detRuns.step q
  if w.taken < cfg.w then s.modChan x.sect c (fun ch => { ch with window := w, detRuns := runs })
  else
    let fade := decide (w.live = 0)
    let base := runs.quality cfg.w cfg.w
    let envSettle := decide (runs.settle < cfg.w + 4 * 2 ^ max cfg.att cfg.rel)
    let vals := [w.peak, rmsOf w.sumsq w.live, (w.env + 128) / 256]
    let plain := base.settle || fade || base.beyond
    let j := ch.windows
    let s := s.modChan x.sect c (fun ch => { ch with window := { env := w.env }, detRuns := runs, windows := j + 1 })
    let s := s.emitVal x.sect 3 c ⟨j, vals.map Int.ofNat, { base with fade := fade, settle := base.settle || envSettle }, x.stamp, x.shed, pal⟩
    s.judgeWindow x c vals plain (plain || envSettle)

/-! ## Bands (R155) -/

/-- P_b scaled by N_F × Σw² ÷ 2, as the sum of |X[k]|² over the band's bins with the window and the rotations at 2³⁰: numerator and
denominator. -/
def bandPower (nf lo hi : Nat) (xs : List Int) : Nat × Nat :=
  let tab := (List.range nf).map (fun i => let z := cisTurn (((i * 2 ^ 56) / nf : Nat) : Int); (z.1 / 2 ^ 30, z.2 / 2 ^ 30))
  let win := tab.map (fun z => (2 ^ 30 - z.1) / 2)
  let ws := (xs.zip win).map (fun p => p.1 * p.2)
  let w2 := win.foldl (fun a w => a + (w * w).toNat) 0
  let bin := fun (k : Nat) => (ws.zipIdx).foldl (fun (a : Cpx) p =>
    let z := tab.getD (p.2 * k % nf) (0, 0)
    (a.1 + p.1 * z.1, a.2 - p.1 * z.2)) (0, 0)
  let sum := (List.range (hi + 1 - lo)).foldl (fun a i => a + Cpx.norm (bin (lo + i))) 0
  (2 * sum, nf * w2 * 2 ^ 60)

/-- The build of the image that runs. -/
def State.build (s : State) : Nat := match s.pw.image with | some (_, img) => img.build | none => 0

/-- A band's code (R155): what the image's program computes from the block's inputs, which the spec bounds where the power is at least 100, within 26 of
the exact code, and leaves open below (log entry 1). -/
def State.bandCode (s : State) (k nf lo hi : Nat) (xs : List Int) : Int :=
  let (p, d) := bandPower nf lo hi xs
  let r := (Config.bandCode s.build (s.sec k).cfg.tt k nf lo hi xs).toNat
  if p ≥ 100 * d ∧ d ≠ 0 then clampI 0 65535 (min 65535 (logRatio 2560 p d) - 26 + (r % 53 : Nat)) else r

/-- A band block at the end of its N_F inputs; the second shed step drops it (R163). -/
def State.bandBlock (s : State) (x : JobCtx) (c pal : Nat) : State :=
  let cfg := (s.sec x.sect).cfg
  let ch := s.chan x.sect c
  let nf := 2 ^ cfg.log2nf
  let xs := (ch.hist.take nf).reverse
  let q := ch.inRuns.quality nf nf
  if x.shed ≥ 2 then s.noteSettle x.sect 4 q.settle
  else s.emitVal x.sect 4 c ⟨(ch.taken - nf) / (nf / 2), cfg.bands.map (fun b => s.bandCode x.sect nf b.1 b.2 xs), q, x.stamp, x.shed, pal⟩

/-! ## The fine chain (R147, R156, R158, R163) -/

/-- A dot product of coefficients with a delay line, newest value first (R147). -/
def dot (cs xs : List Int) : Int := (cs.zip xs).foldl (fun a p => a + p.1 * p.2) 0

/-- One value into the chain from stage i on: the delay lines after it and, when the last stage has an output, its outputs with palettes A
and B. A stage's line is kept with its phase as key 2i + 1 and the line as key 2i. -/
def pushChain (palB : List Int) : List ChainStage → Nat → List (Nat × List Int) → Int → List (Nat × List Int) × Option (Int × Int)
  | [], _, ls, x => (ls, some (x, x))
  | st :: sts, i, ls, x =>
    let line := (x :: kvGet [] ls (2 * i)).take st.coef.length
    let ph := (kvGet [] ls (2 * i + 1)).length + 1
    let ls := kvSet [] ls (2 * i) line
    if ph < max 1 st.d then (kvSet [] ls (2 * i + 1) (List.replicate ph 0), none)
    else
      let ls := kvSet [] ls (2 * i + 1) []
      let y := sat16 (rndShift (dot st.coef line) st.sh)
      match sts with
      | [] => (ls, some (y, sat16 (rndShift (dot palB line) st.sh)))
      | _ => pushChain palB sts (i + 1) ls y

/-- A feature sample every FDIV fine outputs (R156), whose values the customer code of the image defines (log entry 1); output-rate halving issues the
even-numbered ones (R163). -/
def State.feature (s : State) (x : JobCtx) (c : Nat) (y : Int) (q : Quality) (pal : Nat) : State :=
  let cfg := (s.sec x.sect).cfg
  if cfg.v = 0 ∨ cfg.v > 16 then s
  else
    let ch := s.chan x.sect c
    let qs := (y, q) :: ch.featQ
    if qs.length < cfg.fdiv then s.modChan x.sect c (fun ch => { ch with featQ := qs })
    else
      let m := (ch.fine + 1) / cfg.fdiv - 1
      let s := s.modChan x.sect c (fun ch => { ch with featQ := [] })
      let fq : Quality := { fade := qs.all (·.2.fade), beyond := qs.any (·.2.beyond), settle := qs.any (·.2.settle), hold := qs.any (·.2.hold) }
      if x.shed ≥ 1 ∧ m % 2 = 1 then s.noteSettle x.sect 5 fq.settle
      else
        let vs := (List.range cfg.v).map (fun i => (Config.featureValue s.build cfg.tt x.sect c x.stamp i (qs.map (·.1))).toInt)
        s.emitVal x.sect 5 c ⟨m, vs, fq, x.stamp, x.shed, pal⟩

/-- One value into the fine chain of a channel; a fine output goes through the palette of its place, to its product, to the detectors and to
the features. -/
def State.chainInput (s : State) (x : JobCtx) (c : Nat) (v : Int) (q : Quality) : State :=
  let cfg := (s.sec x.sect).cfg
  let ch := s.chan x.sect c
  let (ls, out) := pushChain cfg.paletteB cfg.stages 0 ch.lines v
  let runs := ch.chainRuns.step q
  let s := s.modChan x.sect c (fun ch => { ch with lines := ls, chainRuns := runs })
  match out with
  | none => s
  | some (ya, yb) =>
    let m := ch.fine
    let i := (s.sec x.sect).chainBase + m
    let s := s.evalPalette x.sect i
    let sx := s.sec x.sect
    let (active, fade) := paletteAt sx.fades i
    let pick := fun (p : Nat) => if p = 0 then ya else yb
    let y := match fade with
      | some (j, (target, f)) => divRound (((f : Int) - j) * pick (1 - target) + j * pick target) f
      | none => pick active
    let pal := s.palByte x.sect i
    let fq := runs.quality cfg.dtotal cfg.support
    let s := if x.shed ≥ 1 ∧ m % 2 = 1 then s.noteSettle x.sect 1 fq.settle else s.emitVal x.sect 1 c ⟨m, [y], fq, x.stamp, x.shed, pal⟩
    let s := if cfg.src = 1 then s.detSample x c y fq pal else s
    let s := s.feature x c y fq pal
    s.modChan x.sect c (fun ch => { ch with fine := m + 1 })

/-- The fine chain of a channel restarted on entry to or exit from fine-path halving (R150, R163). -/
def State.chainRestart (s : State) (x : JobCtx) (c : Nat) : State :=
  let want := decide (x.shed ≥ 3)
  let s := if (s.sec x.sect).halved ≠ want then
      s.modSec x.sect (fun y => { y with halved := want, chainBase := y.palDone })
    else s
  s.modChan x.sect c (fun ch => { ch with halved := want, pair := none, lines := [], chainRuns := {}, fine := 0, featQ := [], fineFrom := ch.taken - 1 })

/-! ## One input (R143–R149) -/

/-- One scaled input of a channel through the sketch, the detectors, the bands and the fine chain. -/
def State.takeInput (s : State) (x : JobCtx) (c : Nat) (v : Int) (q : Quality) : State :=
  let sx := s.sec x.sect
  let cfg := sx.cfg
  let ch := s.chan x.sect c
  let taken := ch.taken + 1
  let runs := ch.inRuns.step q
  let sum := ch.sketchSum + v
  let sketch := taken % cfg.dk = 0
  let pal := s.palByte x.sect (sx.palDone - 1)
  let nf := 2 ^ cfg.log2nf
  let s := s.modChan x.sect c (fun ch => { ch with taken := taken, inRuns := runs, sketchSum := if sketch then 0 else sum,
                                                    hist := if cfg.nb = 0 then [] else (v :: ch.hist).take nf })
  let s := if sketch then
      s.emitVal x.sect 2 c ⟨taken / cfg.dk - 1, [sat16 (rndShift sum cfg.skShift)], runs.quality cfg.dk cfg.dk, x.stamp, x.shed, pal⟩
    else s
  let s := if cfg.src = 0 then s.detSample x c v q pal else s
  let s := if cfg.nb > 0 ∧ taken ≥ nf ∧ (taken - nf) % (nf / 2) = 0 then s.bandBlock x c pal else s
  let s := if ch.halved ≠ decide (x.shed ≥ 3) then s.chainRestart x c else s
  if x.shed ≥ 3 then
    match (s.chan x.sect c).pair with
    | none => s.modChan x.sect c (fun ch => { ch with pair := some (v, q) })
    | some (v0, q0) =>
      let s := s.modChan x.sect c (fun ch => { ch with pair := none })
      s.chainInput x c (divRound (v0 + v) 2)
        { fade := q0.fade && q.fade, beyond := q0.beyond || q.beyond, settle := q0.settle || q.settle, hold := q0.hold || q.hold }
  else s.chainInput x c v q

/-- Missing inputs filled with an increment of 0 and FADE (R143). -/
def State.fill (s : State) (x : JobCtx) (c : Nat) (q : Quality) : Nat → State
  | 0 => s
  | n + 1 => (s.takeInput x c 0 q).fill x c q n

/-- The phase step of a received input (R143–R145): the missing inputs before it, the increment, and whether it is among the first G after a
restart. The group offset follows, and fills and slews are counted; none for an input that does not come later than the last. -/
def State.phaseStep (s : State) (x : JobCtx) (c n : Nat) (theta : Int) (fade settle : Bool) : State × Option (Nat × Int × Bool) :=
  let cfg := (s.sec x.sect).cfg
  let ch := s.chan x.sect c
  let m := sub32 n ch.next
  if m ≥ 2 ^ 31 then (s, none)
  else
    let gap := decide (m > 0)
    let fresh := decide (ch.received < cfg.g)
    let o := kvGet 0 ch.offs x.group
    let diff := theta - ch.theta
    let d0 := wrap16 (diff - rndShift o 16)
    let d := if fresh ∨ gap then 0 else d0
    let o' := if fresh then (if ch.received = 0 then o else wrap16 diff * 65536)
      else if gap ∨ fade ∨ settle then o
      else
        let v := (o + divRound (d0 * 65536) (2 ^ cfg.ofsK)) % 2 ^ 32
        if v < 2 ^ 31 then v else v - 2 ^ 32
    let s := if gap then s.bump (F.BS_FILLED_COUNT x.sect) (F.BS_SAT_FILL_SAT x.sect) m else s
    let s := if d.natAbs ≥ 24576 then s.bump (F.BS_SLEW_COUNT x.sect) (F.BS_SAT_SLEW_SAT x.sect) 1 else s
    let s := s.modChan x.sect c (fun ch => { ch with next := (n + 1) % 2 ^ 32, theta := theta, received := ch.received + 1,
                                                      offs := kvSet 0 ch.offs x.group o' })
    (s, some (m, d, fresh))

/-- One received input of a channel (R143–R146): the gap before it filled, and the scaled value. -/
def State.chanInput (s : State) (x : JobCtx) (c n : Nat) (theta : Int) (fade beyond settle hold : Bool) : State :=
  let cfg := (s.sec x.sect).cfg
  match s.phaseStep x c n theta fade settle with
  | (s, none) => s
  | (s, some (m, d, fresh)) =>
    let s := s.fill x c { fade := true, beyond := false, settle := false, hold := false } m
    s.takeInput x c (sat16 (rndShift (d * cfg.scale) cfg.scShift))
      { fade := fade || decide (m > 0), beyond := beyond, settle := settle || fresh, hold := hold }

/-! ## Restart (R150) -/

/-- Every alarm of a section ended with an OFF record of transition 3 (R153). -/
def State.endAlarms (s : State) (k stamp seq sweep : Nat) : State :=
  each (s.sec k).chans (fun cc s =>
    each (List.range 3) (fun d s =>
      if (kvGet {} cc.2.alarms d).on then s.transition k d 3 cc.1 0 0 stamp seq sweep else s) s) s

/-- The section restarts, taking the present input as input 0. -/
def State.restartSection (s : State) (x : JobCtx) (event : Bool) : State :=
  let s := s.endAlarms x.sect x.stamp x.seq x.sweep
  let s := s.flushAll x.sect
  let s := s.modSec x.sect (fun y => { y with restart := none, s0 := x.sweep, g0 := x.group, chans := [], queues := [], palDone := 0, fades := [],
                                               settling := y.cfg.products, collected := none, pendingReq := none, chainBase := 0, lastOut := none,
                                               halved := decide (x.shed ≥ 3) })
  let s := ((s.put (F.BS_PAL_ACTIVE x.sect) 0).put (F.BS_PAL_FADING x.sect) 0).put (F.BS_PAL_PENDING x.sect) 0
  let s := (s.put (F.BS_PAL_TARGET x.sect) 0).put (F.BS_STAT_ALARMED x.sect) 0
  if event then s.raise 0x0443 x.sect 0 else s

/-! ## One job (R143, R154, R157, R161, R163, R192) -/

/-- The newest settings that an epoch at or before the job's has brought. -/
def Section.due (x : Section) (epoch : Nat) : Option (Nat × (SecCfg × Bool)) :=
  x.next.foldl (fun b n => if n.1 ≤ epoch then some n else b) none

/-- The section's settings brought to the epoch of the job: frames end early there, and the causes of R150 restart it. -/
def State.enterEpoch (s : State) (k epoch : Nat) : State :=
  let x := s.sec k
  match x.due epoch with
  | none => s
  | some (e, cfg, restart) =>
    let s := s.flushAll k
    s.modSec k (fun y => { y with cfg := cfg, epoch := e, next := y.next.filter (fun n => decide (n.1 > e)),
                                   restart := if restart then some true else y.restart })

/-- Frames that a change of the shed level ends early (R161, R163). -/
def State.enterLevel (s : State) (k shed : Nat) : State :=
  let x := s.sec k
  let old := x.level
  let s := if decide (old ≥ 1) ≠ decide (shed ≥ 1) ∨ decide (old ≥ 3) ≠ decide (shed ≥ 3) then (s.flush k 1).flush k 5 else s
  let s := if decide (old ≥ 2) ≠ decide (shed ≥ 2) then s.flush k 4 else s
  let s := if decide (old ≥ 3) ≠ decide (shed ≥ 3) ∧ x.cfg.src = 1 then s.flush k 3 else s
  s.modSec k (fun y => { y with level := shed })

/-- Channels in alarm on any detector. -/
def Section.alarmed (x : Section) : Nat :=
  x.chans.countP (fun cc => (List.range 3).any (fun d => (kvGet {} cc.2.alarms d).on))

/-- BS_STAT ALARMED and the palette request that its change from or to 0 makes (R157). -/
def State.syncAlarms (s : State) (k before : Nat) : State :=
  let after := (s.sec k).alarmed
  let s := s.putSat (F.BS_STAT_ALARMED k) after
  let src := (s.sec k).cfg.palSrc
  if src = 1 ∨ src = 3 then
    if before = 0 ∧ after > 0 then s.paletteRequest k 1 else if before > 0 ∧ after = 0 then s.paletteRequest k 0 else s
  else s

/-- The input index of a segment (R143). -/
def Section.index (x : Section) (sweep group : Nat) : Nat :=
  (((sub32 sweep x.s0 : Nat) : Int) * x.cfg.g + group - x.g0 : Int) % 2 ^ 32 |>.toNat

/-- The values of one retired job, as the section's program computes them from its segment. -/
def State.sectionJob (s : State) (seg : Segment) (epoch : Nat) (levels : List Nat) (shed : Nat) : State :=
  let k := seg.section_
  let x : JobCtx := ⟨k, seg.group, seg.seq, seg.sweep, seg.stamp, levels, shed⟩
  let s := (s.enterEpoch k epoch).enterLevel k shed
  let sx := s.sec k
  let n0 := sx.index seg.sweep seg.group
  let gap := sub32 n0 (s.chan k seg.first).next
  let s := match sx.restart with
    | some ev => s.restartSection x ev
    | none => if gap < 2 ^ 31 ∧ gap > 16 * sx.cfg.g then s.restartSection x true else s
  let n := (s.sec k).index seg.sweep seg.group
  let before := (s.sec k).alarmed
  let settle := seg.flags % 2 == 1
  let hold := seg.flags / 32 % 2 == 1
  let s := each (seg.codes.zipIdx) (fun ci s =>
    s.chanInput x (seg.first + ci.2) n ci.1 (seg.fade.getD ci.2 false) (seg.beyond.getD ci.2 false) settle hold) s
  let s := s.syncAlarms k before
  s.putB (F.BS_STAT_SETTLE k) (decide ((s.sec k).settling ≠ []))

/-! ## Readback (R168, R169) -/

/-- The settings of section k in the active timetable: the newest that an epoch has brought. -/
def State.cfgNow (s : State) (k : Nat) : SecCfg :=
  match (s.sec k).next.getLast? with | some n => n.2.1 | none => (s.sec k).cfg

/-- The word of BS_CHAIN_DATA (R169). -/
def State.chainWord (s : State) : Nat :=
  let k := s.get F.BS_CHAIN_SEL_SECTION
  let i := s.get F.BS_CHAIN_SEL_ITEM
  if k ≥ s.get F.BS_COUNT_SECTIONS then 0
  else
    let c := s.cfgNow k
    if i < 6 then match c.stages[i]? with | some st => st.d * 2 ^ 28 + st.coef.length * 2 ^ 16 + st.sh | none => 0
    else if 8 ≤ i ∧ i < 16 ∧ i - 8 < c.nb then match c.bands[i - 8]? with | some b => b.2 * 2 ^ 16 + b.1 | none => 0
    else 0

/-- The word of BS_ALARM_DATA (R169). -/
def State.alarmWord (s : State) : Nat :=
  let k := s.get F.BS_ALARM_SEL_SECTION
  let d := s.get F.BS_ALARM_SEL_DET
  let w := s.get F.BS_ALARM_SEL_WORD
  if k ≥ s.get F.BS_COUNT_SECTIONS ∨ d = 3 then 0
  else (List.range 32).foldl (fun a i =>
    let c := 32 * w + i
    if c < (s.sec k).cfg.n ∧ (kvGet {} (s.chan k c).alarms d).on then a + 2 ^ i else a) 0

/-- A read of BS_ALARM_DATA: the word, and WORD advanced. -/
def alarmDataRead (s : State) : State :=
  let w := s.alarmWord
  { s.bumpWrap F.BS_ALARM_SEL_WORD 1 with resp := [w] }

/-- BS_DFIFO_RD_WRITE (R165, R166). -/
def execBsDfifoRdWrite (t value : Nat) (s : State) : Outcome := runAt t s (access 0x70018 (dfifoRdWrite value))
/-- BS_ALARM_DATA_READ (R169). -/
def execBsAlarmDataRead (t : ReadAt) (s : State) : Outcome := readAt t s (access 0x7002C alarmDataRead)

end Sys2Proof.Machine
end

