-- ==== Sys2Proof/Machine/Fabric.lean ====
section
/-!
DEFINITION. Machine/Fabric.lean: the engine fabric (chapter 07): tracks and home yards (R172–R175, R197), jobs and shares (R176–R180),
marshalling (R181, R182), the segment store (R183, R184), the throughput monitor, adaptive voltage and load shedding (R186–R192).
-/
namespace Sys2Proof.Machine

/-! ## Engines -/

/-- Engine e (8 × yard + number). -/
def State.eng (s : State) (e : Nat) : Eng := kvGet {} s.fab.engines e

/-- Engine e replaced. -/
def State.setEng (s : State) (e : Nat) (x : Eng) : State := { s with fab := { s.fab with engines := kvSet {} s.fab.engines e x } }

/-- A change to an engine. -/
def State.modEng (s : State) (e : Nat) (f : Eng → Eng) : State := s.setEng e (f (s.eng e))

/-- Is engine e available: not withdrawn (R180), in a powered quadrant (R175)? -/
def State.engAvail (s : State) (e : Nat) : Bool :=
  decide (e < 96) && decide (s.get (F.YD_ENG_STATE (e / 8) (e % 8)) ≤ 1) && (s.get F.FB_QUAD_POWERED).testBit (e / 24)

/-- Engines of yard y that are not withdrawn. -/
def State.yardEngines (s : State) (y : Nat) : Nat :=
  (List.range 8).countP (fun i => decide (s.get (F.YD_ENG_STATE y i) ≤ 1))

/-- The masks of YD_STATUS and the counts of FB_ENGINES brought to the engine states. -/
def State.syncEngines (s : State) : State :=
  let mask := fun (s : State) (y : Nat) (p : Nat → Bool) =>
    (List.range 8).foldl (fun a i => if p (s.get (F.YD_ENG_STATE y i)) then a + 2 ^ i else a) 0
  let s := each (List.range 12) (fun y s =>
    ((s.put (F.YD_STATUS_WD_MASK y) (mask s y (fun v => decide (v ≥ 2)))).put (F.YD_STATUS_AV_MASK y) (mask s y (fun v => decide (v ≤ 1)))).put
      (F.YD_STATUS_QUAD y) (y / 3)) s
  let n := (List.range 12).foldl (fun a y => a + s.yardEngines y) 0
  (s.put F.FB_ENGINES_PRESENT n).put F.FB_ENGINES_WITHDRAWN (96 - n)

/-! ## Tracks and home yards (R172, R173, R197) -/

/-- Channels of run r of a section of n channels (R134). -/
def runChans (n r : Nat) : Nat := min 1024 (n - 1024 * r)

/-- Channels of one share of a job of c channels (R178). -/
def shareSize (c : Nat) : Nat := (c + 7) / 8

/-- Shares of a job of c channels. -/
def shareCount (c : Nat) : Nat := if c = 0 then 0 else (c + shareSize c - 1) / shareSize c

/-- Have all shares of a job ended (R176)? -/
def Job.done (j : Job) : Bool := decide (j.ended ≥ shareCount j.seg.codes.length)

/-- The tracks of a timetable with their planned weights per launch, in 1/256 (R172, R173, R198). -/
def tracksOf (secs : List SectionDesc) : List Track :=
  secs.zipIdx.flatMap (fun di =>
    let n := descField di.1 12 17 0
    (List.range ((n + 1023) / 1024)).map (fun r =>
      let c := runChans n r
      { sect := di.2, run := r, yard := 12,
        weight := c * (di.1.prog.inputWeight + di.1.prog.fftLoad) + 256 * (shareCount c * di.1.prog.shareWeight) }))

/-- `t` put before the first track of smaller weight. -/
def insertTrack (t : Track) : List Track → List Track
  | [] => [t]
  | x :: xs => if x.weight < t.weight then t :: x :: xs else x :: insertTrack t xs

/-- Tracks in decreasing weight; equal weights stay in section and channel order (R173). -/
def sortTracks (ts : List Track) : List Track := ts.foldl (fun acc t => insertTrack t acc) []

/-- The planned weight of a yard. -/
def yardWeight (ts : List Track) (y : Nat) : Nat := ts.foldl (fun a t => if t.yard = y then a + t.weight else a) 0

/-- What a start has taken out of service that home-yard assignment takes into account: yard memory banks and FFT units (R318, R429). -/
abbrev YardsOut := List Nat × List Nat

/-- The units out of service. -/
def State.yardsOut (s : State) : YardsOut := (s.fab.banksOut, s.fab.fftOut)

/-- Does what is homed in yard y fit its memories (R197), its banks in service, and its FFT unit where that has failed (R429)? -/
def yardFits (secs : List SectionDesc) (out : YardsOut) (y : Nat) (ts : List Track) : Bool :=
  let ks := (List.range secs.length).filter (fun k => ts.any (fun t => t.sect == k))
  let ps := ks.filterMap (fun k => (secs[k]?).map (·.prog))
  let sum := fun (f : ProgHeader → Nat) => ps.foldl (fun a p => a + f p) 0
  let top := fun (f : ProgHeader → Nat) => ps.foldl (fun a p => max a (f p)) 0
  let data := ts.foldl (fun a t => match secs[t.sect]? with
    | some d => let c := runChans (descField d 12 17 0) t.run
                a + 32 + (segmentBytes c + 1) / 2 + c * d.prog.sw
    | none => a) 0
  decide (sum (·.codeWords) ≤ 4096) && decide (sum (·.xConst) + top (·.xScratch) ≤ 4096) &&
  decide (sum (·.yConst) + top (·.yScratch) ≤ 4096) && decide (data + sum (·.yardConst) + 8 * top (·.fftWindow) ≤ 16384 * (8 - out.1.countP (fun b => b / 8 == y))) &&
  (!out.2.contains y || ps.all (fun p => p.fftLoad == 0))

/-- The planned load of a weight in a yard of `avail` engines, in 0.01 % of the slow-corner capacity (R170, R173); `tl` in 10 ns. -/
def planShare (w tl avail : Nat) : Nat := w * 100000000 * 10000 / (256 * max 1 tl * max 1 avail * 720000000)

/-- May a yard of `avail` engines take a planned weight: at most 95 % of its capacity (R173)? -/
def withinLoad (w tl avail : Nat) : Bool := decide (w * 100000000 * 100 ≤ 95 * (256 * tl * avail * 720000000))

/-- The yard that R173 gives a track: the lowest planned load as a share of capacity; equal shares go to the lower number. -/
def chooseYard (secs : List SectionDesc) (out : YardsOut) (tl : Nat) (avail : List Nat) (placed : List Track) (t : Track) : Option Nat :=
  (List.range 12).foldl (fun b y =>
    let n := avail.getD y 0
    let w := yardWeight placed y
    if n = 0 ∨ !withinLoad (w + t.weight) tl n ∨ !yardFits secs out y ({ t with yard := y } :: placed.filter (fun x => x.yard == y)) then b
    else match b with
      | none => some y
      | some z => if w * avail.getD z 1 < yardWeight placed z * n then some y else b) none

/-- Tracks placed in turn by R173 beside those placed already; `none` where some track finds no yard. -/
def placeTracks (secs : List SectionDesc) (out : YardsOut) (tl : Nat) (avail : List Nat) : List Track → List Track → Option (List Track)
  | [], placed => some placed
  | t :: ts, placed =>
    match chooseYard secs out tl avail placed t with
    | none => none
    | some y => placeTracks secs out tl avail ts (placed ++ [{ t with yard := y }])

/-- The word that a timetable's records give a register address. -/
def timetableWord (tt : Timetable) (addr : Nat) : Nat := ((tt.regs.find? (fun r => r.1 == addr)).map (·.2)).getD 0

/-- A timetable's launch interval in 10 ns. -/
def timetableTl (tt : Timetable) : Nat := timetableWord tt 0x30008 % 2 ^ 20

/-- Engines of each yard that are not withdrawn. -/
def State.yardAvail (s : State) : List Nat := (List.range 12).map s.yardEngines

/-- The home yards of a timetable (R173). -/
def State.assignYards (s : State) (tt : Timetable) : Option (List Track) :=
  placeTracks tt.sections s.yardsOut (timetableTl tt) s.yardAvail (sortTracks (tracksOf tt.sections)) []

/-- The YD_ and FB_QUAD fields that follow from the tracks (R173, R175). -/
def State.syncTracks (s : State) : State :=
  let ts := s.fab.tracks
  let tl := s.get F.TT_LAUNCH_INTERVAL_T_L
  let s := each (List.range 12) (fun y s =>
    let n := ts.countP (fun t => t.yard == y)
    ((s.putB (F.YD_STATUS_HOME y) (n > 0)).putSat (F.YD_TRACKS_COUNT y) n).putSat (F.YD_LOAD_PLAN y) (planShare (yardWeight ts y) tl (s.yardEngines y))) s
  s.put F.FB_QUAD_HOMES ((List.range 4).foldl (fun a q => if ts.any (fun t => decide (t.yard / 3 = q)) then a + 2 ^ q else a) 0)

/-- The track of a channel run of a section. -/
def State.trackOf (s : State) (sect run : Nat) : Option Track := s.fab.tracks.find? (fun t => t.sect == sect && t.run == run)

/-- The home yard of a segment's track; a launch before the last epoch keeps that of the old timetable (R193). -/
def State.homeYard (s : State) (x : Segment) (epoch : Nat) : Nat :=
  match s.trackOf x.section_ (x.first / 1024) with
  | some t => if epoch < s.sw.epochs then t.oldYard else t.yard
  | none => 0

/-- The quadrants powered in RUN: those that hold a home yard of the tracks in force or being prepared (R175), or of a segment or job of an
older timetable (R193). -/
def State.powerQuads (s : State) : State :=
  let ys := (s.fab.tracks ++ s.fab.nextTracks).map (·.yard) ++ (s.fab.jobs.filter (fun j => !j.done)).map (·.yard) ++
    s.fab.store.map (fun x => s.homeYard x.1 x.2)
  let q := (List.range 4).foldl (fun a q => if ys.any (fun y => decide (y / 3 = q)) then a + 2 ^ q else a) 0
  (s.put F.FB_QUAD_POWERED q).put F.PM_DOMAINS_ON ((s.get F.PM_DOMAINS_ON &&& 0xE1FF) + 512 * q)

/-- A change to one track. -/
def State.modTrack (s : State) (sect run : Nat) (f : Track → Track) : State :=
  { s with fab := { s.fab with tracks := s.fab.tracks.map (fun t => if t.sect = sect ∧ t.run = run then f t else t) } }

/-- The tracks of a yard without engines re-homed, alone and in order, onto the other yards (R180). -/
def yardRehome (y : Nat) (s : State) : State :=
  if y ≥ 12 ∨ s.yardEngines y ≠ 0 then s
  else
    match s.activeTimetable with
    | none => s
    | some tt =>
      let mine := sortTracks (s.fab.tracks.filter (fun t => t.yard == y))
      let s := each mine (fun t s =>
        match chooseYard tt.sections s.yardsOut (timetableTl tt) s.yardAvail (s.fab.tracks.filter (fun x => x.yard != y)) t with
        | none => s
        | some z =>
          let s := s.modTrack t.sect t.run (fun x => { x with yard := z })
          { s with fab := { s.fab with jobs := s.fab.jobs.map (fun j =>
              if j.seg.section_ = t.sect ∧ j.seg.first / 1024 = t.run ∧ j.ended < shareCount j.seg.codes.length then { j with yard := z } else j) } }) s
      s.syncTracks.powerQuads

/-! ## Jobs -/

/-- The job with a tag. -/
def State.job (s : State) (tag : Nat) : Option Job := s.fab.jobs.find? (fun j => j.tag == tag)

/-- A change to the job with a tag. -/
def State.modJob (s : State) (tag : Nat) (f : Job → Job) : State :=
  { s with fab := { s.fab with jobs := s.fab.jobs.map (fun j => if j.tag = tag then f j else j) } }

/-- FB_JOBS, YD_QUEUE and the in-flight limit brought to the jobs (R176, R186, R195, R196). -/
def State.syncJobs (s : State) : State :=
  let n := s.fab.jobs.length
  let s := (s.putSat F.FB_JOBS_INFLIGHT n).putSat F.FB_JOBS_PEAK (max n (s.get F.FB_JOBS_PEAK))
  let s := { s with fab := { s.fab with stopped := if n ≥ 512 then some (s.fab.stopped.getD s.now) else none } }
  each (List.range 12) (fun y s =>
    let q := s.fab.jobs.countP (fun j => j.yard == y && !j.done)
    (s.putSat (F.YD_QUEUE_QUEUED y) q).putSat (F.YD_QUEUE_PEAK y) (max q (s.get (F.YD_QUEUE_PEAK y)))) s

/-- The bytes in the segment store. -/
def State.storeBytes (s : State) : Nat := s.fab.store.foldl (fun a x => a + segmentBytes x.1.codes.length) 0

/-- The store's size in bytes. -/
def State.storeSize (s : State) : Nat := s.get F.FB_STORE_SIZE_MIB * 2 ^ 20

/-- FB_STORE_FILL brought to the store, and since when it has been below half (R184). -/
def State.syncStore (s : State) : State :=
  let f := s.storeBytes * 10000 / max 1 s.storeSize
  let s := { s with fab := { s.fab with halfFrom := if s.storeBytes * 2 < s.storeSize then some (s.fab.halfFrom.getD s.now) else none } }
  (s.putSat F.FB_STORE_FILL_FILL f).putSat F.FB_STORE_FILL_PEAK (max f (s.get F.FB_STORE_FILL_PEAK))

/-- Does section a come before section b in the order of R142, lowest priority first? -/
def State.lowerFirst (s : State) (a b : Nat) : Bool :=
  let pa := s.get (F.BS_CFG_PRIO a)
  let pb := s.get (F.BS_CFG_PRIO b)
  decide (pa > pb) || (decide (pa = pb) && decide (a > b))

/-- The sections in the order of R142. -/
def State.sectionOrder (s : State) : List Nat :=
  (List.range (s.get F.BS_COUNT_SECTIONS)).foldl (fun acc k =>
    acc.takeWhile (fun x => s.lowerFirst x k) ++ [k] ++ acc.dropWhile (fun x => s.lowerFirst x k)) []

/-- The place in the store of the segment that an overrun discards next (R184). -/
def State.victim (s : State) : Option Nat :=
  let k := s.fab.store.foldl (fun b x => match b with
    | none => some x.1.section_
    | some k => if s.lowerFirst x.1.section_ k then some x.1.section_ else b) none
  k.bind (fun k => s.fab.store.findIdx? (fun x => x.1.section_ == k))

/-- Segments discarded until `need` bytes fit (R184). -/
def State.makeRoom (s : State) (need : Nat) : Nat → State
  | 0 => s
  | n + 1 =>
    if s.storeBytes + need ≤ s.storeSize then s
    else match s.victim with
      | none => s
      | some i =>
        let s := { s with fab := { s.fab with store := s.fab.store.eraseIdx i } }
        let s := if s.is F.FB_STATUS_OVERRUN then s else (s.put F.FB_STATUS_OVERRUN 1).raise 0x0406 wide 0
        (s.bump F.FB_DISCARDS_COUNT F.FB_CNT_SAT_DISC_SAT 1).makeRoom need n

/-- A segment of an epoch stored (R183, R184). -/
def State.storeSegment (s : State) (x : Segment) (epoch : Nat) : State :=
  let s := s.makeRoom (segmentBytes x.codes.length) (s.fab.store.length + 1)
  { s with fab := { s.fab with store := s.fab.store ++ [(x, epoch)] } }.syncStore

/-- Has the store stayed below half for 100 ms (R184)? -/
def State.storeCalm (s : State) : Bool := match s.fab.halfFrom with | some t => decide (s.now ≥ t + 100 * ms) | none => false

/-- OVERRUN clears once the store has stayed below half for 100 ms (R184). -/
def storeOverrunEnd (s : State) : State :=
  if s.is F.FB_STATUS_OVERRUN ∧ s.storeCalm then
    ((s.put F.FB_STATUS_OVERRUN 0).endConds 0x0406).raise 0x0407 wide 0
  else s

/-- The live levels that a segment's windows are compared with: those in force when the dispatcher takes it, and for a launch before an
epoch those before the epoch (R150, R154). -/
def State.levelsFor (s : State) (k epoch : Nat) : List Nat :=
  match (s.sec k).oldLevels with
  | some (e, ls) => if epoch < e then ls else s.liveLevels k
  | none => s.liveLevels k

/-- The dispatcher takes the oldest segment and makes its job (R177, R154, R192); a segment whose fetch is uncorrectable is discarded
(R298). -/
def dispatch (ue : Bool) (s : State) : State :=
  match s.fab.store with
  | [] => s
  | (seg, ep) :: rest =>
    if s.fab.jobs.length ≥ 512 then s
    else
      let s := { s with fab := { s.fab with store := rest } }.syncStore
      if ue then (s.bump F.EC_UE_COUNT F.EC_CNT_SAT_UE_SAT 1).raisePerSecond 0x0902 3 0
      else
        let tag := ((List.range 512).find? (fun t => !s.fab.jobs.any (fun j => j.tag == t))).getD 0
        let j : Job := { tag := tag, seg := seg, epoch := ep, yard := s.homeYard seg ep, levels := s.levelsFor seg.section_ ep,
                         shed := s.get (F.BS_STAT_SHED seg.section_), queued := s.now }
        { s with fab := { s.fab with jobs := s.fab.jobs ++ [j] } }.syncJobs

/-- The jobs ahead of `tag` in order of creation. -/
def jobsBefore (tag : Nat) (js : List Job) : List Job := js.takeWhile (fun j => j.tag != tag)

/-- The settings of a section for the jobs of an epoch. -/
def State.cfgAt (s : State) (k epoch : Nat) : SecCfg :=
  match (s.sec k).due epoch with | some n => n.2.1 | none => (s.sec k).cfg

/-- Is a job READY or RUNNING with shares to take: its track's earlier jobs are DONE (R176), its yard holds its epoch's code (R193), and for a
section with palette requests every job of an earlier launch has retired (R215)? -/
def State.jobReady (s : State) (j : Job) : Bool :=
  let ahead := jobsBefore j.tag s.fab.jobs
  decide (j.taken < shareCount j.seg.codes.length) && decide (kvGet 0 s.fab.code j.yard ≥ j.epoch) &&
  ahead.all (fun i => i.seg.section_ != j.seg.section_ || i.seg.first / 1024 != j.seg.first / 1024 || i.done) &&
  (decide ((s.cfgAt j.seg.section_ j.epoch).palSrc = 0) ||
    ahead.all (fun i => i.seg.section_ != j.seg.section_ || (i.seg.sweep == j.seg.sweep && i.seg.group == j.seg.group)))

/-- The job whose share an engine of yard y takes next (R178). -/
def State.nextJob (s : State) (y : Nat) : Option Job :=
  let js := s.fab.jobs.filter (fun j => j.yard == y && s.jobReady j)
  match js.find? (·.promoted) with
  | some j => some j
  | none => js.foldl (fun b j => match b with
    | none => some j
    | some i => if s.lowerFirst i.seg.section_ j.seg.section_ then some j else b) none

/-- Jobs that have waited longer than AGE_LIMIT promoted (R178). -/
def jobPromoted (s : State) : State :=
  let lim := s.get F.FB_DISPATCH_AGE_LIMIT * us
  let late := fun (j : Job) => !j.promoted && decide (j.taken = 0) && decide (s.now - j.queued > lim)
  let n := s.fab.jobs.countP late
  let s := { s with fab := { s.fab with jobs := s.fab.jobs.map (fun j => if late j then { j with promoted := true } else j) } }
  if n = 0 then s else s.bump F.FB_PROMOTED_COUNT F.FB_CNT_SAT_PROM_SAT n

/-! ## Shares -/

/-- Does an epoch up to the job's restart the section, since the restart input that the dispatcher counts from (R150)? -/
def Section.freshAt (x : Section) (epoch since : Nat) : Bool :=
  match x.due epoch with
  | some (e, _, r) => r && decide (e > since)
  | none => decide (x.epoch > since) && x.restart.isSome

/-- The restart input that a job counts from, its input index, the gap before it and whether it is its track's first input after that restart (R143,
R150, R202). A track's gap restarts its whole section: the other tracks restart with their next job. -/
def State.trackInput (s : State) (t : Track) (j : Job) : (Nat × Nat) × Nat × Nat × Bool :=
  let x := s.sec j.seg.section_
  let g := (s.cfgAt j.seg.section_ j.epoch).g
  let here := (j.seg.sweep, j.seg.group)
  match x.start with
  | none => (here, 0, 0, true)
  | some (e, st) =>
    if x.freshAt j.epoch e then (here, 0, 0, true)
    else
      let n := ((((sub32 j.seg.sweep st.1 : Nat) : Int) * g + j.seg.group - st.2) % 2 ^ 32).toNat
      let known := decide (t.start = st) && t.next.isSome
      let m := sub32 n (if known then t.next.getD 0 else 0)
      if m < 2 ^ 31 ∧ m > 16 * g then (here, 0, 0, true) else (st, n, m, !known)

/-- A word of yard memory (R204). -/
def yardAddr (y w : Nat) : Nat := spaceYard + y * 2 ^ 20 + 2 * (w % 131072)

/-- A 16-bit word of engine or yard memory written: it holds no uncorrectable word any more. -/
def State.wrWord (s : State) (a v : Nat) : State :=
  let s := s.wrLE a 2 (v % 65536)
  if s.fab.bad.any (fun b => b.1 == a) then { s with fab := { s.fab with bad := s.fab.bad.filter (fun b => b.1 != a) } } else s

/-- Words written to yard memory. -/
def State.wrYard (s : State) (y w : Nat) : List Nat → State
  | [] => s
  | v :: vs => (s.wrWord (yardAddr y w) v).wrYard y (w + 1) vs

/-- The active palette and the fade at the fine output that a job completes (R202, R215): what the request collected before it starts
included. A section that has not come to the job's restart input yet will be at palette A there. -/
def State.paletteFor (s : State) (j : Job) : Nat × Option (Nat × (Nat × Nat)) :=
  let k := j.seg.section_
  let x := s.sec k
  if x.restart.isSome ∨ (x.s0, x.g0) ≠ j.start then (0, none)
  else if x.lastOut = some (j.seg.sweep, j.seg.group) then paletteAt x.fades (x.palDone - 1)
  else paletteAt ((s.evalPalette k x.palDone).sec k).fades x.palDone

/-- The 32 words of a job descriptor for one share (R202). -/
def State.descriptor (s : State) (j : Job) (t : Track) (l : ShareLayout) (sw first count : Nat) : List Nat :=
  let k := j.seg.section_
  let (active, fade) := s.paletteFor j
  let fine := decide (j.shed ≥ 3) != t.halved
  let pair := fun (v : Nat) => [v % 65536, v / 65536]
  let areg := fun (w : Nat) => pair (2 ^ 17 + w % 131072)
  let lv := fun (i : Nat) => j.levels.getD i 0
  [k, j.seg.group + j.seg.flags % 256 * 256] ++ pair j.index ++
  [j.gap, (if j.restart then 1 else 0) + (if fine then 2 else 0) + 16 * j.shed, first, count] ++ pair j.seg.first ++
  [j.seg.codes.length,
   active + (match fade with | some (_, target, _) => 2 + 4 * target | none => 0), (fade.map (·.1)).getD 0,
   (fade.map (·.2.2)).getD (s.cfgAt k j.epoch).palFade,
   lv 0, lv 2, lv 4, lv 1, lv 3, lv 5, lv 6 % 256 + lv 7 % 256 * 256, 0] ++
  areg l.state ++ areg l.input ++ areg l.fft ++ [sw, 0, 0, 0]

/-- The segment as input-buffer words (R202). -/
def segmentWords (x : Segment) : List Nat :=
  let rec go : List (BitVec 8) → List Nat
    | a :: b :: r => (a.toNat + 256 * b.toNat) :: go r
    | [a] => [a.toNat]
    | [] => []
  go x.bytes

/-- A register at share entry. -/
def entryCell (v : Nat) : Cell := { base := v }

/-- The entry values that the dispatcher writes into the idle bank (R199, R201). -/
def entryBank (r : ShareRun) (sw : Nat) : Bank :=
  match r.layout with
  | none => {}
  | some l =>
    let areg := fun (w : Nat) => entryCell (2 ^ 17 + w % 131072)
    { d := [(0, entryCell r.count), (1, entryCell r.first)],
      a := [(0, areg l.desc), (1, areg l.input), (2, areg (l.state + r.first * sw)), (3, areg l.fft)] }

/-- The banked registers in use. -/
def Eng.bank (x : Eng) : Bank := { d := x.d, a := x.a, aca := x.aca, acb := x.acb, flg := x.flg }

/-- The engine at share entry (R199, R201): the bank just filled in use, the bank of the share before idle, the other registers reset. -/
def entryEng (x : Eng) (r : ShareRun) (entry sw : Nat) : Eng :=
  let b := entryBank r sw
  { run := some r, out := { idx := r.idx }, pc := match r.layout with | some l => (l.code + entry) % 4096 | none => 0,
    d := b.d, a := b.a, aca := b.aca, acb := b.acb, flg := b.flg, idle := x.bank }

/-- The engine after its share: its registers stand until the next share starts. -/
def Eng.leave (x : Eng) : Eng :=
  { x with run := none, out := { idx := 0 }, written := [], slot := none, rep := none, wait := none, fb := false, xfer := none }

/-- The timetable of an epoch: the active one, or the one before the last epoch (R193). -/
def State.timetableAt (s : State) (epoch : Nat) : Option Timetable :=
  if epoch < s.sw.epochs then s.sw.timetables.find? (fun tt => s.sw.prev == some tt.index) else s.activeTimetable

/-- The program header of a section for the jobs of an epoch. -/
def State.progOf (s : State) (sect epoch : Nat) : Option ProgHeader := (s.timetableAt epoch).bind (fun tt => (tt.sections[sect]?).map (·.prog))

/-- `n` bytes of a plaintext from byte `o` on, in words of `w` bytes, least significant byte first. -/
def wordsAt (bytes : List Nat) (o w n : Nat) : List Nat := (List.range n).map (fun i => leAt bytes (o + w * i) w)

/-- The kind that the relocation table of a program gives code word i (R198): a count of 2 bytes, then entries of word index and kind. -/
def relocKind (code : List Nat) (h : ProgHeader) (i : Nat) : Option Nat :=
  ((List.range (leAt code h.relocOff 2)).find? (fun n => leAt code (h.relocOff + 2 + 4 * n) 2 == i)).map
    (fun n => leAt code (h.relocOff + 4 + 4 * n) 2)

/-- The code words of a program as a yard holds them (R197, R198): the words behind the three blocks of constants, those of the relocation table
relocated, in a way that the spec does not give (log entry 107). -/
def codeWords (code : List Nat) (h : ProgHeader) (l : ShareLayout) : List Nat :=
  let o := h.codeOff + 2 * (h.xConst + h.yConst + h.yardConst)
  (wordsAt code o 4 h.codeWords).zipIdx.map (fun wi => match relocKind code h wi.2 with
    | some k => (Config.relocated wi.1 k [l.code, l.xAt, l.yAt, l.xScratch, l.yScratch, l.consts]).toNat
    | none => wi.1)

/-- The 32-bit word of engine e's IMEM at a word address (R204). -/
def imemAddr (e pc : Nat) : Nat := spaceEngine + e * 2 ^ 20 + 0x8000 + 4 * (pc % 4096)

/-- The byte address of a word of engine e's XMEM, or YMEM (R204). -/
def localAddr (e : Nat) (xmem : Bool) (w : Nat) : Nat := spaceEngine + e * 2 ^ 20 + (if xmem then 0 else 0x4000) + 2 * (w % 4096)

/-- Words of `n` bytes written one after another from a byte address on. -/
def State.wrWords (s : State) (n a : Nat) : List Nat → State
  | [] => s
  | v :: vs => (s.wrLE a n v).wrWords n (a + n) vs

/-- Engine e's memories hold a program and its constants, where the composition of its yard places them (R197, R204). The yard's load puts them there;
the model writes them when a share that runs instruction by instruction starts, before which nothing reads them (log entry 107). -/
def State.loadProgram (s : State) (e : Nat) (code : List Nat) (h : ProgHeader) (l : ShareLayout) : State :=
  let s := s.wrWords 4 (imemAddr e l.code) (codeWords code h l)
  let s := s.wrWords 2 (localAddr e true l.xAt) (wordsAt code h.codeOff 2 h.xConst)
  let s := s.wrWords 2 (localAddr e false l.yAt) (wordsAt code (h.codeOff + 2 * h.xConst) 2 h.yConst)
  s.wrWords 2 (yardAddr (e / 8) l.consts) (wordsAt code (h.codeOff + 2 * (h.xConst + h.yConst)) 2 h.yardConst)

/-- `n` bytes of memory copied. -/
def State.copyBytes (s : State) (from_ dst n : Nat) : State :=
  let bs := (List.range n).map (fun i => s.rdByte (from_ + i))
  s.wrBytes dst bs

/-- The channel state of a track moved to where its yard now keeps it: its home yard has changed (R193). -/
def State.moveState (s : State) (t : Track) (j : Job) (l : ShareLayout) (h : ProgHeader) : State :=
  let c := j.seg.codes.length
  match t.place with
  | none => s
  | some (y, st, dr) =>
    let s := if y = j.yard ∧ st = l.state then s else s.copyBytes (yardAddr y st) (yardAddr j.yard l.state) (2 * c * h.sw)
    if dr = l.dram then s else s.copyBytes (spaceDram + dr) (spaceDram + l.dram) (2 * c * h.ext)

/-- What the first share of a job settles (R143, R202): the restart input counted from, the input's index and gap. -/
def State.beginJob (s : State) (t : Track) (j : Job) (layout : Option ShareLayout) (h : Option ProgHeader) : State × Job :=
  if j.taken ≠ 0 then (s, j)
  else
    let (st, n, m, re) := s.trackInput t j
    let s := if (s.sec j.seg.section_).start.map (·.2) = some st then s
      else s.modSec j.seg.section_ (fun x => { x with start := some (j.epoch, st) })
    let s := match layout, h with
      | some l, some h =>
        (if re then s else s.moveState t j l h).modTrack t.sect t.run (fun t => { t with place := some (j.yard, l.state, l.dram) })
      | _, _ => s
    (s, { j with start := st, index := n, gap := m, restart := re, stepped := layout.isSome })

/-- An available engine takes the next share of R178 (R199–R202). -/
def shareStart (e : Nat) (layout : Option ShareLayout) (s : State) : State :=
  let y := e / 8
  if !s.engAvail e ∨ (s.eng e).run.isSome then s
  else
    match s.nextJob y with
    | none => s
    | some j =>
      let t := (s.trackOf j.seg.section_ (j.seg.first / 1024)).getD { sect := j.seg.section_, run := j.seg.first / 1024, yard := y, weight := 0 }
      let tt := s.timetableAt j.epoch
      let p := s.progOf j.seg.section_ j.epoch
      let (s, j) := s.beginJob t j layout p
      let size := shareSize j.seg.codes.length
      let first := j.taken * size
      let count := min size (j.seg.codes.length - first)
      let s := s.modJob j.tag (fun _ => { j with taken := j.taken + 1 })
      let sw := (p.map (fun (h : ProgHeader) => h.sw)).getD 8
      let s := match layout with
        | some l =>
          let s := match p with | some h => s.loadProgram e ((tt.map (fun (x : Timetable) => x.code)).getD []) h l | none => s
          (s.wrYard y l.desc (s.descriptor j t l sw first count)).wrYard y l.input (segmentWords j.seg)
        | none => s
      (s.modEng e (fun x => entryEng x ⟨j.tag, j.taken, first, count, s.now, layout, p⟩ ((p.map (fun (h : ProgHeader) => h.entry)).getD 0) sw)).put (F.YD_ENG_STATE y (e % 8)) 1

/-- The engine time of a share that ends now, counted in the window (R186). -/
def State.countBusy (s : State) (e start : Nat) : State :=
  let b := s.now - max start s.fab.winFrom
  { s with fab := { s.fab with busy := kvSet 0 s.fab.busy e (kvGet 0 s.fab.busy e + b) } }

/-- The faults of an engine within the last 1.000 s. -/
def State.recentFaults (s : State) (e : Nat) : List Nat := (kvGet [] s.fab.faultAt e).filter (fun f => decide (s.now < f + 1000 * ms))

/-- An engine is withdrawn until the next start (R180, R318): it takes no further share. -/
def State.withdrawEngine (s : State) (e : Nat) : State :=
  if s.get (F.YD_ENG_STATE (e / 8) (e % 8)) = 3 then s
  else (((s.put (F.YD_ENG_STATE (e / 8) (e % 8)) 3).syncEngines).syncTracks).raise 0x0405 wide 0

/-- A share fault recorded for its engine, which a third within 1.000 s withdraws (R179, R180). A code of 8 + 4 is fault 4 from a word that was known to
be uncorrectable before: it does not count towards withdrawal (R319). -/
def State.engineFault (s : State) (e code : Nat) : State :=
  let y := e / 8
  let i := e % 8
  let s := (s.bump F.FB_FAULTS_COUNT F.FB_CNT_SAT_FAULT_SAT 1).raise 0x0404 wide 0
  let fs := if code < 8 then s.now :: s.recentFaults e else s.recentFaults e
  let s := { s with fab := { s.fab with faultAt := kvSet [] s.fab.faultAt e fs } }
  let s := (s.put (F.YD_ENG_LAST_FAULT y i) (code % 8)).putSat (F.YD_ENG_FAULTS_1S y i) fs.length
  if fs.length ≥ 3 then s.withdrawEngine e else s

/-- No request of an engine left with its yard's FFT unit: one that waits is dropped, and the result of one in service goes to nobody. -/
def State.dropFft (s : State) (e : Nat) : State :=
  let u := kvGet {} s.fab.fft (e / 8)
  let u : FftUnit := { queue := u.queue.filter (fun r => r.eng != e % 8),
                       busy := u.busy.map (fun r => if r.eng = e % 8 then { r with eng := 9 } else r) }
  { s with fab := { s.fab with fft := kvSet {} s.fab.fft (e / 8) u } }

/-- The end of the share that engine e runs, normally or with a fault (R178, R179, R203). -/
def State.endShare (s : State) (e : Nat) (fault : Option Nat) : State :=
  let x := s.eng e
  match x.run with
  | none => s
  | some r =>
    let s := s.countBusy e r.start
    let s := s.dropFft e
    let s := s.setEng e x.leave
    let s := if s.get (F.YD_ENG_STATE (e / 8) (e % 8)) = 1 then s.put (F.YD_ENG_STATE (e / 8) (e % 8)) 0 else s
    let s := s.modJob r.tag (fun j => { j with ended := j.ended + 1, faulted := j.faulted || fault.isSome,
                                               outs := if fault.isNone then j.outs ++ [x.out] else j.outs })
    let s := match s.job r.tag with
      | some j => if j.done ∧ !j.faulted then
          s.modTrack j.seg.section_ (j.seg.first / 1024) (fun t =>
            { t with next := some ((j.index + 1) % 2 ^ 32), epoch := j.epoch, halved := decide (j.shed ≥ 3), start := j.start })
        else s
      | none => s
    let s := match fault with
      | some c => s.engineFault e c
      | none => s
    s.syncJobs

/-- A share that has run longer than JOB_TMO ends with fault 3 (R179). The check falls between instructions: an instruction that waits, and a repeat with
the instruction that it repeats, is not stopped (R211). -/
def shareTimeout (e : Nat) (s : State) : State :=
  match (s.eng e).run with
  | some r => if (s.eng e).wait.isNone ∧ (s.eng e).rep.isNone ∧ s.now > r.start + s.get F.FB_DISPATCH_JOB_TMO * us then s.endShare e (some 3) else s
  | none => s

/-! ## Retirement (R181, R182, R212–R214) -/

/-- Does segment a come before segment b of the same section in the key order of R181? -/
def keyBefore (a b : Segment) : Bool :=
  if a.sweep ≠ b.sweep then newer b.sweep a.sweep
  else if a.group ≠ b.group then decide (a.group < b.group) else decide (a.first < b.first)

/-- The job of a section with the smallest key of those in flight. -/
def State.headJob (s : State) (sect : Nat) : Option Job :=
  s.fab.jobs.foldl (fun b j => if j.seg.section_ ≠ sect then b else match b with
    | none => some j
    | some i => if keyBefore j.seg i.seg then some j else b) none

/-- Does a segment of the job's section with a smaller key still wait in the segment store, or in the front pipeline (R181, R182)? -/
def State.earlierWaits (s : State) (x : Segment) : Bool :=
  (s.fab.store ++ s.fp.queue).any (fun y => y.1.section_ == x.section_ && keyBefore y.1 x)

/-- The value that the last PUT of a channel, product and index gave. -/
def lastPut (ps : List PutVal) (c p v : Nat) : Option PutVal :=
  ps.foldl (fun b x => if x.ch = c ∧ x.p = p ∧ x.v = v then some x else b) none

/-- The span of a product's value in inputs (R149). -/
def State.spanOf (s : State) (k product : Nat) : Nat :=
  let x := s.sec k
  let c := x.cfg
  let fine := c.dtotal * (if x.halved then 2 else 1)
  match product with
  | 1 => fine
  | 2 => c.dk
  | 3 => if c.src = 0 then c.w else c.w * fine
  | 4 => 2 ^ c.log2nf
  | _ => c.fdiv * fine

/-- The number of the fine output, or of the feature sample, that input `index` of a channel completes (R147, R150, R156): counted from the channel's
last chain restart. -/
def Chan.outNumber (ch : Chan) (c : SecCfg) (p index : Nat) : Nat :=
  let fine := (index + 1 - ch.fineFrom) / max 1 (c.dtotal * (if ch.halved then 2 else 1)) - 1
  if p = 1 then fine else if p = 5 then (fine + 1) / max 1 c.fdiv - 1 else 0

/-- The PUT values of one channel and product as one sample (R212): slots without a PUT hold 0 with FADE. Shed steps 1 and 2 discard, by the place of
the output in its sequence, whatever the program has computed. -/
def State.takePuts (s : State) (x : JobCtx) (c p index : Nat) (hold : Bool) (ps : List PutVal) : State :=
  let cfg := (s.sec x.sect).cfg
  if !ps.any (fun q => q.p == p) then s
  else
    let n := cfg.valuesPer p
    let vs := (List.range n).map (fun i => ps.foldl (fun b q => if q.p = p ∧ q.v = i then some q else b) (none : Option PutVal))
    let q : Quality := { fade := vs.any (fun v => match v with | some w => w.qf | none => true), hold := hold,
                         beyond := vs.any (fun v => match v with | some w => w.qb | none => false),
                         settle := vs.any (fun v => match v with | some w => w.qs | none => false) }
    let m := (s.chan x.sect c).outNumber cfg p index
    if (x.shed ≥ 1 ∧ (p = 1 ∨ p = 5) ∧ m % 2 = 1) ∨ (x.shed ≥ 2 ∧ p = 4) then s.noteSettle x.sect p q.settle
    else
      s.emitVal x.sect p c ⟨m, vs.map (fun v => match v with | some w => w.val | none => 0), q, x.stamp, x.shed,
        s.palByte x.sect ((s.sec x.sect).palDone - 1)⟩

/-- A recorded transition completed at retirement (R213). -/
def State.takeTrn (s : State) (x : JobCtx) (c : Nat) (t : TrnRec) : State :=
  let s := s.modChan x.sect c (fun ch => { ch with alarms := kvSet {} ch.alarms t.k { on := t.x == 1 } })
  s.transition x.sect t.k t.x c t.val t.level x.stamp x.seq x.sweep

/-- The last transition of a channel and detector stands. -/
def lastTrns (ts : List TrnRec) : List TrnRec :=
  ts.foldl (fun acc t => acc.filter (fun u => u.ch ≠ t.ch ∨ u.k ≠ t.k) ++ [t]) []

/-- One channel of a job whose shares ran instruction by instruction: its input's phase step, which the module counts (R143, R145), and what the
shares handed over for it. -/
def State.steppedChan (s : State) (x : JobCtx) (j : Job) (i : Nat) : State :=
  let k := x.sect
  let ch := j.seg.first + i
  let size := shareSize j.seg.codes.length
  let o := (j.outs.find? (fun o => o.idx == i / size)).getD { idx := 0 }
  let hold := j.seg.flags / 32 % 2 == 1
  let halved := decide (j.shed ≥ 3)
  let s := s.modChan k ch (fun y => if y.halved = halved then y else { y with halved := halved, fineFrom := y.next })
  let s := (s.phaseStep x ch j.index (j.seg.codes.getD i 0) (j.seg.fade.getD i false) (j.seg.flags % 2 == 1)).1
  let s := s.modChan k ch (fun y => { y with taken := j.index + 1, inRuns := { y.inRuns with hold := if hold then 0 else y.inRuns.hold + j.gap + 1 } })
  let ps := o.puts.filter (fun p => p.ch == i % size)
  let s := each [1, 2, 3, 4, 5] (fun p s =>
    s.takePuts x ch p j.index (decide ((s.chan k ch).inRuns.hold < min (s.spanOf k p) (j.index + 1))) ps) s
  each ((lastTrns o.trns).filter (fun t => t.ch == i % size)) (fun t s => s.takeTrn x ch t) s

/-- The section comes to the restart input that a job counts from (R143, R150). -/
def State.comeTo (s : State) (x : JobCtx) (j : Job) : State :=
  let sx := s.sec x.sect
  if sx.restart.isNone ∧ (sx.s0, sx.g0) = j.start then s
  else (s.restartSection x (sx.restart.getD true)).modSec x.sect (fun y => { y with s0 := j.start.1, g0 := j.start.2 })

/-- The results of a job whose shares ran instruction by instruction (R182, R212–R214). -/
def State.steppedJob (s : State) (j : Job) : State :=
  let k := j.seg.section_
  let x : JobCtx := ⟨k, j.seg.group, j.seg.seq, j.seg.sweep, j.seg.stamp, j.levels, j.shed⟩
  let s := ((s.enterEpoch k j.epoch).enterLevel k j.shed).comeTo x j
  let s := s.modSec k (fun y => { y with halved := decide (j.shed ≥ 3) })
  let before := (s.sec k).alarmed
  let launch := some (j.seg.sweep, j.seg.group)
  let s := if j.outs.any (·.fout) ∧ (s.sec k).lastOut ≠ launch then
      (s.evalPalette k (s.sec k).palDone).modSec k (fun y => { y with lastOut := launch })
    else s
  let s := each (List.range j.seg.codes.length) (fun i s => s.steppedChan x j i) s
  let s := s.syncAlarms k before
  let s := match (List.range 8).foldl (fun b i => match (j.outs.find? (fun o => o.idx == i)).bind (·.palr) with
      | some p => some p
      | none => b) (none : Option Nat) with
    | some p => if (s.sec k).cfg.palSrc ≥ 2 then s.paletteRequest k p else s
    | none => s
  s.putB (F.BS_STAT_SETTLE k) (decide ((s.sec k).settling ≠ []))

/-- The read of a job's results meets an uncorrectable word: it counts, and the job is a faulted one (R179, R298). -/
def State.resultLost (s : State) : State :=
  let s := (s.bump F.EC_UE_COUNT F.EC_CNT_SAT_UE_SAT 1).raisePerSecond 0x0902 3 0
  (s.bump F.FB_FAULTS_COUNT F.FB_CNT_SAT_FAULT_SAT 1).raise 0x0404 wide 0

/-- The next job of a section retires, when it is DONE and the frame builder takes results (R26, R181, R182); a faulted job retires empty
(R179), and so does one whose results meet an uncorrectable word when they are read (R298). -/
def jobRetire (sect : Nat) (ue : Bool) (s : State) : State :=
  match s.headJob sect with
  | none => s
  | some j =>
    if !j.done ∨ s.earlierWaits j.seg ∨ s.is F.CX_STATUS_BLOCKED then s
    else
      let s := if j.faulted then s else if ue then s.resultLost else if j.stepped then s.steppedJob j else s.sectionJob j.seg j.epoch j.levels j.shed
      let s := { s with fab := { s.fab with jobs := s.fab.jobs.filter (fun i => i.tag != j.tag) } }
      let s := (s.bump F.FB_DONE_COUNT F.FB_CNT_SAT_DONE_SAT 1).syncJobs
      if j.epoch < s.sw.epochs then s.powerQuads else s

/-! ## The throughput monitor, adaptive voltage and the shed ladder -/

/-- Engine time of one engine in the window that ends now. -/
def State.engBusy (s : State) (e : Nat) : Nat :=
  kvGet 0 s.fab.busy e + (match (s.eng e).run with | some r => s.now - max r.start s.fab.winFrom | none => 0)

/-- Utilisation of a set of engines in 0.01 % (R186). -/
def State.util (s : State) (es : List Nat) : Nat :=
  let n := es.countP s.engAvail
  es.foldl (fun a e => a + s.engBusy e) 0 * 10000 / max 1 (n * (s.now - s.fab.winFrom))

/-- The counter value that a stamp holds (R13). -/
def countOf (st : Nat) : Nat := st / 2 ^ 48 * sec + st / 2 ^ 16 % 2 ^ 32 * ns + st % 2 ^ 16

/-- The backlog age in microseconds (R186): the present time less the oldest launch stamp in the store or in flight. -/
def State.backlog (s : State) : Nat :=
  match s.fab.store.map (fun x => countOf x.1.stamp) ++ s.fab.jobs.map (fun j => countOf j.seg.stamp) with
  | [] => 0
  | c :: r => min 0xFFFFFFFF ((s.count s.now - r.foldl min c) / us)

/-- A failed PMBus transaction; the third in a row stops adaptive voltage (R188). -/
def State.pmbusFail (s : State) (status : Nat) : State :=
  let n := min 3 (s.get F.FB_PMBUS_FAILS + 1)
  let s := (s.put F.FB_PMBUS_FAILS n).put F.FB_PMBUS_STATUS status
  if n = 3 ∧ !s.is F.FB_STATUS_AV_FAULT then (s.put F.FB_STATUS_AV_FAULT 1).raise 0x0403 wide 0 else s

/-- CEIL and FLOOR as clamped to 680–850 mV and to 680 mV–CEIL (R195). -/
def State.avCeil (s : State) : Nat := max 680 (min 850 (s.get F.FB_AV_LIMITS_CEIL))

def State.avFloor (s : State) : Nat := max 680 (min s.avCeil (s.get F.FB_AV_LIMITS_FLOOR))

/-- VCORE_F stands at a value: AV_CEIL shows whether that is the ceiling, which raises 0x0402 each time it is reached (R187, R195). -/
def State.vcoreAt (s : State) (mv : Nat) : State :=
  let at_ := decide (mv ≥ s.avCeil)
  let was := s.is F.FB_STATUS_AV_CEIL
  let s := (s.put F.FB_AV_VOUT_COMMAND mv).putB F.FB_STATUS_AV_CEIL at_
  if at_ ∧ !was then s.raise 0x0402 wide 0 else s

/-- VOUT_COMMAND sent with a new value (R187, R188). -/
def State.command (s : State) (mv : Nat) (ack : Bool) (status : Nat) : State :=
  if !ack then s.pmbusFail status else (s.put F.FB_PMBUS_FAILS 0).vcoreAt mv

/-- The voltage decision at the end of a window (R187). -/
def State.voltage (s : State) (u a : Nat) (ack : Bool) (status : Nat) : State :=
  let low := decide (u < s.get F.FB_AV_CFG_LO * 100) && decide (a < 5000)
  let run := if low then s.fab.lowRun + 1 else 0
  let s := { s with fab := { s.fab with lowRun := run } }
  if !s.is F.FB_AV_CFG_EN ∨ s.is F.FB_STATUS_AV_FAULT then s
  else
    let v := s.get F.FB_AV_VOUT_COMMAND
    let step := max 1 (min 25 (s.get F.FB_AV_CFG_STEP))
    let hi := s.avCeil
    let lo := s.avFloor
    if u > s.get F.FB_AV_CFG_HI * 100 ∨ a > 5000 then
      let w := max lo (min hi (v + step))
      if w = v then s else s.command w ack status
    else if run ≥ 10 then
      let w := min hi (max lo (v - step))
      if w = v then s else s.command w ack status
    else s

/-- The registers that follow from `n` rungs in force (R190). -/
def State.setRungs (s : State) (n : Nat) : State :=
  let order := s.sectionOrder
  let s := each order.zipIdx (fun ki s => s.put (F.BS_STAT_SHED ki.1) (min 3 (n - 3 * ki.2))) s
  let s := (s.put F.FB_SHED_POS_RUNGS n).putB F.FB_STATUS_SHEDDING (n > 0)
  (s.put F.FB_SHED_POS_SECTION (if n = 0 then 0 else order.getD ((n - 1) / 3) 0)).put F.FB_SHED_POS_STEP (if n = 0 then 0 else (n - 1) % 3 + 1)

/-- Has time `d` passed since an instant, if there is one? -/
def State.since (s : State) (at_ : Option Nat) (d : Nat) : Bool :=
  match at_ with | none => true | some t => decide (s.now ≥ t + d)

/-- The shed decision at the end of a window (R191). -/
def State.shedding (s : State) (u a : Nat) (blocked : Bool) : State :=
  let n := s.get F.FB_SHED_POS_RUNGS
  let calm := decide (a < s.get F.FB_SHED_CFG_OFF * 1000) && decide (u < s.get F.FB_AV_CFG_HI * 100)
  let s := { s with fab := { s.fab with calmFrom := if calm then some (s.fab.calmFrom.getD s.fab.winFrom) else none } }
  let hold := max 1 (s.get F.FB_SHED_CFG_HOLD) * ms
  let rested : Bool := match s.fab.calmFrom with | some t => decide (s.now ≥ t + hold) | none => false
  let stuck := s.is F.FB_STATUS_AV_CEIL || !s.is F.FB_AV_CFG_EN || s.is F.FB_STATUS_AV_FAULT || blocked
  if a > s.get F.FB_SHED_CFG_ON * 1000 ∧ s.since s.fab.rungAt (max 1 (s.get F.FB_SHED_CFG_DWELL) * ms) ∧ stuck ∧
      n < 3 * s.get F.BS_COUNT_SECTIONS then
    let s := { s.setRungs (n + 1) with fab := { s.fab with rungAt := some s.now } }
    if n = 0 then s.raise 0x0400 wide 0 else s
  else if n > 0 ∧ calm ∧ rested ∧ s.since s.fab.removedAt hold then
    let s := { s.setRungs (n - 1) with fab := { s.fab with rungAt := some s.now, removedAt := some s.now } }
    if n = 1 then s.raise 0x0401 wide 0 else s
  else s

/-- The end of a 1.000 ms window (R186, R187, R191). -/
def throughputWindow (speeds : List Nat) (ack : Bool) (status : Nat) (s : State) : State :=
  let u := s.util (List.range 96)
  let a := s.backlog
  let blocked := match s.fab.stopped with | some t => decide (t ≤ s.fab.winFrom) | none => false
  let quads := (List.range 4).map (fun q => s.util ((List.range 24).map (24 * q + ·)))
  let s := { s with fab := { s.fab with quadUtil := quads } }
  let s := each (List.range 12) (fun y s => s.putSat (F.YD_LOAD_UTIL y) (s.util ((List.range 8).map (8 * y + ·)))) s
  let s := each (List.range 4) (fun q s =>
    let on := (s.get F.FB_QUAD_POWERED).testBit q && (List.range 24).any (fun i => decide (s.engBusy (24 * q + i) > 0))
    s.putSat (F.FB_SPEED_SPEED q) (if on then speeds.getD q 0 else 0)) s
  let s := each (List.range 96) (fun e s => s.putSat (F.YD_ENG_FAULTS_1S (e / 8) (e % 8)) (s.recentFaults e).length) s
  let s := (s.putSat F.FB_UTIL_LAST u).putSat F.FB_UTIL_PEAK (max u (s.get F.FB_UTIL_PEAK))
  let s := ((s.put F.FB_AGE_A a).putB F.FB_STATUS_BLOCKED blocked)
  let s := (s.voltage u a ack status).shedding u a blocked
  { s with fab := { s.fab with winFrom := s.now, busy := [] } }

/-- The read-back 2 ms after a change (R188). -/
def readVout (ack : Bool) (vout status : Nat) (s : State) : State :=
  if s.is F.FB_STATUS_AV_FAULT then s
  else
    let s := if ack then s.put F.FB_AV_VOUT_READBACK vout else s
    let c := s.get F.FB_AV_VOUT_COMMAND
    if !ack ∨ vout > c + 15 ∨ c > vout + 15 then s.pmbusFail status else s.put F.FB_PMBUS_FAILS 0

/-- Is yard y free of jobs and segments of older timetables (R193)? -/
def State.yardClear (s : State) (y : Nat) : Bool :=
  s.fab.jobs.all (fun j => j.yard != y || j.done || decide (j.epoch ≥ s.sw.epochs)) &&
  s.fab.store.all (fun x => decide (x.2 ≥ s.sw.epochs) || s.homeYard x.1 x.2 != y)

/-- A yard loads the new timetable's code when its last older job is DONE (R193); a quadrant that held older jobs alone is switched off. -/
def yardCodeLoad (y : Nat) (s : State) : State :=
  if s.yardClear y then { s with fab := { s.fab with code := kvSet 0 s.fab.code y s.sw.epochs } }.powerQuads else s

/-- A read of FB_UTIL: the word, and PEAK cleared (R195). -/
def fbUtilRead (s : State) : State :=
  { s.put F.FB_UTIL_PEAK 0 with resp := [s.get F.FB_UTIL_PEAK * 65536 + s.get F.FB_UTIL_LAST] }

/-! ## Meanings -/

/-- DISPATCH (R177). -/
def execDispatch (t : Nat) (ue : Bool) (s : State) : Outcome := runAt t s (dispatch ue)
/-- SHARE_START (R178, R201). -/
def execShareStart (t e : Nat) (layout : Option ShareLayout) (s : State) : Outcome := runAt t s (shareStart e layout)
/-- JOB_PROMOTED (R178). -/
def execJobPromoted (t : Nat) (s : State) : Outcome := runAt t s jobPromoted
/-- SHARE_TIMEOUT (R179). -/
def execShareTimeout (t e : Nat) (s : State) : Outcome := runAt t s (shareTimeout e)
/-- YARD_REHOME (R180). -/
def execYardRehome (t y : Nat) (s : State) : Outcome := runAt t s (yardRehome y)
/-- JOB_RETIRE (R181). -/
def execJobRetire (t sect : Nat) (ue : Bool) (s : State) : Outcome := runAt t s (jobRetire sect ue)
/-- STORE_OVERRUN_END (R184). -/
def execStoreOverrunEnd (t : Nat) (s : State) : Outcome := runAt t s storeOverrunEnd
/-- THROUGHPUT_WINDOW (R186). -/
def execThroughputWindow (t : Nat) (speeds : List Nat) (ack : Bool) (status : Nat) (s : State) : Outcome :=
  runAt t s (inDomain 8 (throughputWindow speeds ack status))
/-- READ_VOUT (R188). -/
def execReadVout (t : Nat) (ack : Bool) (vout status : Nat) (s : State) : Outcome := runAt t s (inDomain 8 (readVout ack vout status))
/-- YARD_CODE_LOAD (R193). -/
def execYardCodeLoad (t y : Nat) (s : State) : Outcome := runAt t s (yardCodeLoad y)
/-- FB_UTIL_READ (R195). -/
def execFbUtilRead (t : ReadAt) (s : State) : Outcome := readAt t s (access 0x140020 fbUtilRead)

end Sys2Proof.Machine
end

