-- ==== Sys2Proof/Machine/Memory.lean ====
section
/-!
DEFINITION. Machine/Memory.lean: the memory system (chapter 12): address mapping and hashing (R290–R294), the codes of R295 and R317, the
controller's requests, classes, refresh and row-hammer defence (R297–R308), the patrols, the suspect list, spares and withdrawals (R309–R319),
the test region (R299) and the suspect readback. A stored check byte is kept as its difference from the computed one, so that memory
nothing has written is consistent.
-/
namespace Sys2Proof.Machine

/-! ## The code (R295, R296, R317) -/

/-- The positions of the data bits: the integers from 3 on that are not powers of two. -/
def dataPositions (top : Nat) : List Nat := (List.range (top + 1)).filter (fun p => decide (p ≥ 3) && !(List.range 7).any (fun k => p == 2 ^ k))

/-- The exclusive or of the positions of the set bits of a word, lowest bit first, with the parity of the word. -/
def hamming : List Nat → Nat → Nat × Bool
  | [], _ => (0, false)
  | p :: ps, d => let (h, b) := hamming ps (d / 2); if d % 2 = 1 then (h ^^^ p, !b) else (h, b)

/-- The parity of the low `n` bits. -/
def parityOf : Nat → Nat → Bool
  | 0, _ => false
  | n + 1, v => (v % 2 == 1) != parityOf n (v / 2)

/-- The check byte of a data word (R295). -/
def checkByte (d : Nat) : Nat :=
  let (h, b) := hamming (dataPositions 71) d
  h + (if b != parityOf 7 h then 128 else 0)

/-- The syndrome of R296 from the difference between the stored and the computed check byte. -/
def syndromeOf (diff : Nat) : Nat := diff % 128 + (if parityOf 8 diff then 128 else 0)

/-- What a read finds (R296): nothing, the position of a single error (0 for the overall bit), or an uncorrectable word. -/
inductive Ecc where
  | clean
  | single (pos : Nat)
  | bad
deriving DecidableEq, Repr

/-- The outcome of a syndrome whose overall bit has weight `w` and whose positions end at `top`. -/
def eccOf (w top synd : Nat) : Ecc :=
  if synd = 0 then .clean else if synd < w then .bad else if synd % w ≤ top then .single (synd % w) else .bad

/-- The syndrome of stored bits that have flipped in a 32-bit protection word: bits 0–31 data, 32–38 c_0–c_6 (R317). -/
def sramSyndrome (flips : List Nat) : Nat :=
  let pos := fun (b : Nat) => if b < 32 then (dataPositions 38).getD b 0 else if b < 38 then 2 ^ (b - 32) else 0
  flips.foldl (fun a b => a ^^^ (pos b + 64)) 0

/-! ## Addresses (R290–R294) -/

/-- The populated channels (R290). -/
def State.channels (s : State) : Nat := if s.otp.px940 then 2 else 4

/-- The bytes of system address space: 14 GiB a channel. -/
def State.dramBytes (s : State) : Nat := s.channels * (14 * 2 ^ 30)

/-- The interleave grain (R292), clamped. -/
def State.grain (s : State) : Nat := 2 ^ max 8 (min 16 (s.get F.DC_CFG_GRAIN))

/-- Channel and channel address of a system address (R292). -/
def State.chanOf (s : State) (a : Nat) : Nat × Nat :=
  let g := s.grain
  (a / g % s.channels, a / (g * s.channels) * g + a % g)

/-- The system address of a channel address in a channel's data region (R292, the other way). -/
def State.systemOf (s : State) (c x : Nat) : Nat := (x / s.grain * s.channels + c) * s.grain + x % s.grain

/-- The lowest `k` set bits of a mask (R294). -/
def lowBits : Nat → Nat → Nat → Nat
  | 0, _, _ => 0
  | n + 1, k, m => if k = 0 then 0 else m % 2 + 2 * lowBits n (k - m % 2) (m / 2)

/-- Is bit i of the bank address flipped by the hash of row r (R294)? -/
def State.hashed (s : State) (i r : Nat) : Bool :=
  !s.otp.px940 && parityOf 18 (lowBits 18 8 (s.get (F.DC_HASH_MASK i)) &&& r)

/-- Bank and row of a channel address (R293, R294): the bank is 16 × channel + 4 × bank group + bank. -/
def State.bankRow (s : State) (c a : Nat) : Nat × Nat :=
  let r := a / 65536
  let bit := fun (i : Nat) => if ((a / 2 ^ (12 + i)) % 2 == 1) != s.hashed i r then 2 ^ i else 0
  (16 * c + bit 0 + bit 1 + bit 2 + bit 3, r)

/-! ## Stored words -/

/-- A data word by its number. -/
def State.dataWord (s : State) (w : Nat) : Nat := s.rdLE (spaceDram + 8 * w) 8

/-- The difference of the stored check byte of a word. -/
def State.checkDiff (s : State) (w : Nat) : Nat := (s.rdByte (spaceCheck + w)).toNat

/-- A word stored with a difference of its check byte. -/
def State.storeWord (s : State) (w d diff : Nat) : State := (s.wrLE (spaceDram + 8 * w) 8 d).wrByte (spaceCheck + w) (BitVec.ofNat 8 diff)

/-- A stored bit flips: 0–63 data, 64–71 the check byte. -/
def State.flip (s : State) (u : Nat × Nat) : State :=
  if u.1 * 8 ≥ s.dramBytes ∨ u.2 ≥ 72 then s
  else
    let d := s.dataWord u.1
    let diff := s.checkDiff u.1
    if u.2 < 64 then
      let d' := d ^^^ 2 ^ u.2
      s.storeWord u.1 d' (diff ^^^ checkByte d ^^^ checkByte d')
    else s.storeWord u.1 d (diff ^^^ 2 ^ (u.2 - 64))

/-- The outcome of a read of a word, its syndrome and the data returned (R296). -/
def State.eccRead (s : State) (w : Nat) : Ecc × Nat × Nat :=
  let d := s.dataWord w
  let y := syndromeOf (s.checkDiff w)
  let e := eccOf 128 71 y
  match e with
  | .single p =>
    let d := match (dataPositions 71).findIdx? (· == p) with
      | some b => d ^^^ 2 ^ b
      | none => d
    (e, y, d)
  | _ => (e, y, d)

/-! ## The suspect list, spares and withdrawals (R310–R318) -/

/-- A new entry of the suspect list; a full list loses its oldest (R314). -/
def State.addSuspect (s : State) (x : Suspect) : State :=
  if s.dram.suspects.length < 64 then { s with dram := { s.dram with suspects := s.dram.suspects ++ [x] } }
  else
    let age := fun (y : Suspect) => sub32 (if y.sram then s.dram.sramPass else s.get F.EC_SCRUB_PASS_PASS) y.entry
    let old := (List.range 64).foldl (fun b i =>
      if age (s.dram.suspects.getD i x) > age (s.dram.suspects.getD b x) then i else b) 0
    let s := { s with dram := { s.dram with suspects := s.dram.suspects.set old x } }
    (s.bump F.EC_SUSPECT_LOST_COUNT F.EC_CNT_SAT_LOST_SAT 1).raisePerSecond 0x0907 wide 0

/-- The entry of an address. -/
def State.suspect (s : State) (sram : Bool) (c a : Nat) : Option Suspect :=
  s.dram.suspects.find? (fun x => x.sram == sram && x.chan == c && x.addr == a)

/-- An entry changed. -/
def State.modSuspect (s : State) (x : Suspect) : State :=
  { s with dram := { s.dram with suspects := s.dram.suspects.map (fun y => if y.sram = x.sram ∧ y.chan = x.chan ∧ y.addr = x.addr then x else y) } }

/-- An entry leaves the list. -/
def State.dropSuspect (s : State) (x : Suspect) : State :=
  { s with dram := { s.dram with suspects := s.dram.suspects.filter (fun y => !(y.sram == x.sram && y.chan == x.chan && y.addr == x.addr)) } }

/-- The self-test unit of an SRAM location in the form of EC_SUSPECT_B, and the row within its macro (R317, R322, R424). -/
def sramUnit (loc : Nat) : Nat × Nat :=
  let y := loc / 2 ^ 28
  let w := loc % 2 ^ 22
  if loc / 2 ^ 22 % 8 = 3 then (0x400 + 8 * y + w / 8192 % 8, w % 8192 / 32)
  else (256 * (loc / 2 ^ 22 % 8 + 1) + 8 * y + loc / 2 ^ 25 % 8, w / 32)

/-- The spare rows that a unit has used (R317, R430). -/
def State.rowsUsed (s : State) (u : Nat) : Nat := s.bt.work.sram.countP (fun x => x.1 == u)

/-- A hard SRAM address (R318): its row moves to a spare row, or the bank is marked or the engine withdrawn. -/
def State.hardSram (s : State) (loc : Nat) : State :=
  let (u, row) := sramUnit loc
  let used := s.rowsUsed u
  if used < 4 then { s with bt := { s.bt with work := { s.bt.work with sram := s.bt.work.sram ++ [(u, (row, used))] } } }.raise 0x0905 wide 0
  else if 0x400 ≤ u then
    if s.dram.marked.contains (u - 0x400) then s
    else { s with dram := { s.dram with marked := s.dram.marked ++ [u - 0x400] } }.raise 0x0906 wide 0
  else (s.raise 0x0906 wide 0).withdrawEngine (u % 256)

/-- A hard DRAM word (R312, R313): it moves to a spare of its channel, or its region is withdrawn, or the list is full. `ue` where the word
stands uncorrectable, so that the spare takes the poison check byte (R315). -/
def State.hardWord (s : State) (w c a : Nat) (ue : Bool) : State :=
  let used := s.get (F.EC_REMAP_USED c)
  let key := c * 2 ^ 34 + a
  if used < 16 then
    let s := s.storeWord w (s.eccRead w).2.2 (if ue then 3 else 0)
    let s := { s with dram := { s.dram with remaps := s.dram.remaps ++ [key], logDue := s.dram.logDue ++ [(false, (c, a / 8))] } }
    (s.put (F.EC_REMAP_USED c) (used + 1)).raise 0x0903 c 0
  else
    let r := a / 2 ^ 20
    if s.dram.regions.any (fun x => x.1 == c && x.2.1 == r) then s
    else if s.dram.regions.length < 256 then
      let s := { s with dram := { s.dram with regions := s.dram.regions ++ [(c, (r, true))], logDue := s.dram.logDue ++ [(true, (c, r))] } }
      (s.put F.EC_WITHDRAWN_REGIONS s.dram.regions.length).raise 0x0904 c 0
    else (s.bump F.EC_UNHANDLED_COUNT F.EC_CNT_SAT_UNH_SAT 1).raise 0x0904 c 0

/-- A patrol has found a correctable (`ue` false) or an uncorrectable word (R310, R312, R315): the list is brought up to date, and an address
that has become hard is answered true. -/
def State.patrolFinds (s : State) (sram : Bool) (c a pass synd : Nat) (ue : Bool) : State × Bool :=
  match s.suspect sram c a with
  | none => (s.addSuspect ⟨sram, c, a, ue, if ue then 0 else 1, pass, some pass, synd⟩, false)
  | some x =>
    if x.last = some pass then (s.modSuspect { x with synd := synd }, false)
    else if ue then
      if x.ue then (s.dropSuspect x, true) else (s.modSuspect { x with ue := true, last := some pass, synd := synd }, false)
    else if x.corrected ≥ 2 then (s.dropSuspect x, true)
    else (s.modSuspect { x with corrected := x.corrected + 1, last := some pass, synd := synd }, false)

/-- The entries whose 8 passes have ended leave the list (R314). -/
def State.expireSuspects (s : State) (sram : Bool) (pass : Nat) : State :=
  { s with dram := { s.dram with suspects := s.dram.suspects.filter (fun x => x.sram != sram || decide (sub32 pass x.entry < 8)) } }

/-- A correction in a channel is counted (R296). -/
def State.countCorrection (s : State) (c : Nat) : State :=
  let top := 65535
  let v := s.get (F.EC_CORR_COUNT c) + 1
  let s := if v ≥ top then (s.put (F.EC_CORR_COUNT c) top).put F.EC_CORR_SAT_CH_SAT (s.get F.EC_CORR_SAT_CH_SAT ||| 2 ^ c)
    else s.put (F.EC_CORR_COUNT c) v
  s.raisePerSecond 0x0901 wide 0

/-! ## Requests (R300–R306) -/

/-- PANIC from the fill of port 0's write FIFO, in per cent (R302). -/
def State.setPanic (s : State) (fill : Nat) : State :=
  let on := s.is F.DC_PANIC_PANIC
  if !on && decide (fill ≥ s.get F.DC_PANIC_ON) then { s.put F.DC_PANIC_PANIC 1 with dram := { s.dram with panicFrom := some s.now } }
  else if on && decide (fill < s.get F.DC_PANIC_OFF) then
    { s.put F.DC_PANIC_PANIC 0 with dram := { s.dram with panicFrom := none, capDue := false } }
  else s

/-- The transactions of a port in flight. -/
def Dram.inFlight (d : Dram) (p : Nat) : Nat := d.wait.countP (fun r => r.port == p)

/-- Has port p a free slot: one of its own 8, or one of the 200 shared (R300)? -/
def Dram.slotFree (d : Dram) (p : Nat) : Bool :=
  decide (d.inFlight p < 8) || decide ((List.range 7).foldl (fun a q => a + (d.inFlight q - 8)) 0 < 200)

/-- DC_INFLIGHT brought to the requests in flight. -/
def State.syncInflight (s : State) : State :=
  let n := s.dram.wait.length
  s.put F.DC_INFLIGHT_NOW n |>.put F.DC_INFLIGHT_PEAK (max n (s.get F.DC_INFLIGHT_PEAK))

/-- Held requests take the slots that are free, in the order in which they were made (R300). -/
def State.takeSlots (s : State) : State :=
  let (d, rest) := s.dram.held.foldl (fun (x : Dram × List MemReq) (r : MemReq) =>
    if x.1.slotFree r.port ∧ !x.2.any (fun q => q.port == r.port) then ({ x.1 with wait := x.1.wait ++ [{ r with at_ := s.now }] }, x.2)
    else (x.1, x.2 ++ [r])) (s.dram, [])
  { s with dram := { d with held := rest } }.syncInflight

/-- A port's request arrives (R300). -/
def dramRequest (port : Nat) (write : Bool) (addr n : Nat) (data : List (BitVec 8)) (fill : Nat) (bin : Option Nat) (s : State) : State :=
  let s := s.setPanic fill
  { s with dram := { s.dram with held := s.dram.held ++ [(⟨port % 7, write, addr, n, data, s.now, false, bin⟩ : MemReq)] } }.takeSlots

/-! ## Activation and refresh (R307, R308) -/

/-- A count of the activation table of a bank advanced for a row (R308): the table and the row's count. -/
def activate (t : List (Nat × Nat)) (r : Nat) : List (Nat × Nat) × Nat :=
  match t.find? (fun x => x.1 == r) with
  | some x => (t.map (fun y => if y.1 = r then (r, x.2 + 1) else y), x.2 + 1)
  | none =>
    if t.length < 32 then (t ++ [(r, 1)], 1)
    else
      let low := t.foldl (fun b x => min b x.2) (t.foldl (fun b x => max b x.2) 0)
      let i := (t.findIdx? (fun x => x.2 == low)).getD 0
      (t.set i (r, low + 1), low + 1)

/-- A row of a bank is opened where another or none is open; a count that reaches THRESH refreshes its neighbours (R308). -/
def State.openRow (s : State) (b r : Nat) : State :=
  if kvGet 0 s.dram.open_ b = r + 1 then s
  else
    let s := { s with dram := { s.dram with open_ := kvSet 0 s.dram.open_ b (r + 1) } }
    let (t, n) := activate (kvGet [] s.dram.acts b) r
    if n ≥ max 512 (s.get F.DC_RH_CFG_THRESH) then
      let t := t.map (fun x => if x.1 = r then (r, 0) else x)
      let s := { s with dram := { s.dram with acts := kvSet [] s.dram.acts b t, open_ := kvSet 0 s.dram.open_ b 0 } }
      s.bump F.DC_RH_REFRESHES_COUNT F.DC_CNT_SAT_RH_SAT 1
    else { s with dram := { s.dram with acts := kvSet [] s.dram.acts b t } }

/-- The burst at channel address x is accessed: its row opens (R293, R308). -/
def State.openAt (s : State) (c x : Nat) : State := let (b, r) := s.bankRow c x; s.openRow b r

/-- The channel address of the check byte of the data word at channel address x (R291). -/
def checkAddr (x : Nat) : Nat := 0x380000000 + x / 8

/-- A data word at channel address x is accessed with its check byte (R291, R293): the check line is accessed unless it is one of those kept on
die, as many as Config.checkLines says. -/
def State.openWord (s : State) (c x : Nat) : State :=
  let s := s.openAt c x
  let line := c * 2 ^ 28 + checkAddr x / 64
  let s := if s.dram.checks.contains line then s else s.openAt c (checkAddr x)
  { s with dram := { s.dram with checks := (line :: s.dram.checks.filter (· ≠ line)).take Config.checkLines } }

/-- DC_REFRESH POSTPONED brought to the largest count of outstanding refreshes. -/
def State.syncRefresh (s : State) : State := s.put F.DC_REFRESH_POSTPONED (s.dram.refs.foldl (fun a x => max a x.2) 0)

/-- A bank is refreshed: its row closes. -/
def State.refreshBank (s : State) (b : Nat) : State := { s with dram := { s.dram with open_ := kvSet 0 s.dram.open_ b 0 } }

/-- A bank's refresh falls due (R307). `mult` is the rate that the device reports. -/
def refreshDue (bank mult : Nat) (s : State) : State :=
  let b := bank % (16 * s.channels)
  let s := s.put F.DC_REFRESH_MULT (min 2 mult)
  let n := kvGet 0 s.dram.refs b
  if s.dram.wait.isEmpty then s.refreshBank b
  else if n ≥ 8 then
    { s with dram := { s.dram with forced := s.dram.forced ++ [b] } }.bump F.DC_FORCED_REF_COUNT F.DC_CNT_SAT_REF_SAT 1
  else { s with dram := { s.dram with refs := kvSet 0 s.dram.refs b (n + 1) } }.syncRefresh

/-- Idle time: the bank with the most outstanding refreshes makes one up (R307). -/
def State.idleRefresh (s : State) : State :=
  let top := s.dram.refs.foldl (fun a x => max a x.2) 0
  match s.dram.refs.find? (fun x => x.2 == top) with
  | some (b, n) => ({ s with dram := { s.dram with refs := kvSet 0 s.dram.refs b (n - 1) } }.refreshBank b).syncRefresh
  | none => s

/-! ## Service (R296–R298, R301–R306, R311) -/

/-- The record of bin i in the block in progress is lost (R298). -/
def State.loseBin (s : State) (i : Nat) : State :=
  let x := s.br.block
  { s with br := { s.br with block := { x with sum := { x.sum with bad := i :: x.sum.bad } } } }

/-- The effect of an uncorrectable word for the port that reads it (R298): EC_UE, event 0x0902 and, on port 2, the AER log and, on port 4,
the loss of the bin's record in the block in progress. -/
def State.uncorrectable (s : State) (r : MemReq) : State :=
  let s := (s.bump F.EC_UE_COUNT F.EC_CNT_SAT_UE_SAT 1).raisePerSecond 0x0902 r.port 0
  if r.port = 2 then { s with dram := { s.dram with aer := true } }
  else match r.bin with
    | some i => if r.port = 4 then s.loseBin i else s
    | none => s

/-- A word is read for a request: its row opens, and a correction is counted, written back and listed (R296, R311). The data
returned, and whether the word is uncorrectable. -/
def State.demandRead (s : State) (w : Nat) : Nat × Bool × State :=
  let (c, a) := s.chanOf (8 * w)
  let s := s.openWord c a
  let (e, y, d) := s.eccRead w
  match e with
  | .clean => (d, false, s)
  | .bad => (d, true, s)
  | .single _ =>
    let s := (s.countCorrection c).storeWord w d 0
    (d, false, if (s.suspect false c a).isSome then s else s.addSuspect ⟨false, c, a, false, 0, s.get F.EC_SCRUB_PASS_PASS, none, y⟩)

/-- The bytes of a word with those of a write from byte `o` on put over them. -/
def mergeBytes (d o : Nat) (bs : List (BitVec 8)) : Nat :=
  (List.range 8).foldl (fun a i =>
    let old := d / 2 ^ (8 * i) % 256
    let v := if i < o then old else match bs[i - o]? with | some x => x.toNat | none => old
    a + v * 2 ^ (8 * i)) 0

/-- The words of a write, from address `a` on: a whole word replaces, a part is a read-modify-write that poisons an uncorrectable word
(R297). -/
def State.writeWords (s : State) : Nat → Nat → List (BitVec 8) → State
  | 0, _, _ => s
  | f + 1, a, bs =>
    if bs.isEmpty then s
    else
      let w := a / 8
      let o := a % 8
      let part := bs.take (8 - o)
      let s : State :=
        if part.length = 8 then
          let (c, x) := s.chanOf (8 * w)
          (s.openWord c x).storeWord w (mergeBytes 0 0 part) 0
        else
          let (d, ue, s) := s.demandRead w
          let s := if ue then s.bump F.EC_UE_COUNT F.EC_CNT_SAT_UE_SAT 1 else s
          s.storeWord w (mergeBytes d o part) (if ue then 3 else 0)
      s.writeWords f (8 * w + 8) (bs.drop (8 - o))

/-- The words of a read, each with its data and whether it is uncorrectable. -/
def State.readWords (s : State) (r : MemReq) : Nat → Nat → List Nat × Bool × State
  | 0, _ => ([], false, s)
  | n + 1, w =>
    let (d, ue, s) := s.demandRead w
    let s := if ue then s.uncorrectable r else s
    let (ds, e, s) := s.readWords r n (w + 1)
    (d :: ds, ue || e, s)

/-- One request served: the answer of a read is whether the completion is poisoned, then the data words. -/
def State.serve (s : State) (r : MemReq) : State :=
  let s := { s with dram := { s.dram with wait := s.dram.wait.erase r } }
  let s : State :=
    if r.write then s.writeWords (r.n / 8 + 2) r.addr (padTo 0 r.n r.data)
    else
      let (ds, ue, s) := s.readWords r ((r.addr % 8 + r.n + 7) / 8) (r.addr / 8)
      { s with resp := (if ue then 1 else 0) :: ds }
  s.takeSlots

/-- The next request of class 4 by weighted round robin, with the turn it leaves (R305). -/
def State.roundRobin (s : State) : Option (MemReq × Nat × Nat) :=
  let q := s.dram.wait.filter (fun r => !r.promoted && !(s.is F.DC_PANIC_PANIC && r.port == 0))
  let of := fun (p : Nat) => q.find? (fun r => r.port == p)
  match (if s.dram.left > 0 then of s.dram.turn else none) with
  | some r => some (r, s.dram.turn, s.dram.left - 1)
  | none =>
    (List.range 7).findSome? (fun i =>
      let p := (s.dram.turn + 1 + i) % 7
      (of p).map (fun r => (r, p, max 1 (s.get (F.DC_PORT_CFG_WEIGHT p)) - 1)))

/-- The controller serves next (R301): a forced refresh, port 0 under PANIC, the oldest promoted request, then the round robin; with nothing
waiting it makes up a refresh. -/
def State.serveNext (s : State) : State :=
  match s.dram.forced with
  | b :: fs => { s with dram := { s.dram with forced := fs } }.refreshBank b
  | [] =>
    match (if s.is F.DC_PANIC_PANIC then s.dram.wait.find? (fun r => r.port == 0) else none) with
    | some r => s.serve r
    | none =>
      match s.dram.wait.find? (fun r => r.promoted) with
      | some r => s.serve r
      | none =>
        match s.roundRobin with
        | some (r, p, l) => { s with dram := { s.dram with turn := p, left := l } }.serve r
        | none => s.idleRefresh

/-- DRAM_SERVE: `upsets` are the stored bits that have flipped. -/
def dramServe (fill : Nat) (upsets : List (Nat × Nat)) (s : State) : State :=
  (each upsets (fun u s => s.flip u) (s.setPanic fill)).serveNext

/-- The service that the panic cap gives (R304). -/
def State.capServe (s : State) (r : MemReq) : State :=
  let s := { s with dram := { s.dram with panicFrom := some s.now, capDue := false } }
  (s.bump F.DC_PANIC_CAPS_COUNT F.DC_CNT_SAT_CAP_SAT 1).serve r

/-- The oldest request that has waited longer than AGE_LIMIT is promoted (R303); where the panic cap is due it is served at once (R304). -/
def requestPromoted (s : State) : State :=
  let lim := max 1 (min 1000 (s.get F.DC_AGING_AGE_LIMIT)) * us
  let late := fun (r : MemReq) => !r.promoted && decide (s.now > r.at_ + lim) && !(s.is F.DC_PANIC_PANIC && r.port == 0)
  match s.dram.wait.findIdx? late with
  | none => s
  | some i =>
    let s := { s with dram := { s.dram with wait := s.dram.wait.modify i (fun r => { r with promoted := true }) } }
    let s := s.bump F.DC_PROMOTED_COUNT F.DC_CNT_SAT_PROM_SAT 1
    match s.dram.capDue, s.dram.wait[i]? with
    | true, some r => s.capServe r
    | _, _ => s

/-- PANIC has held for PANIC_MAX (R304). -/
def panicCap (s : State) : State :=
  match s.dram.panicFrom with
  | none => s
  | some p =>
    if s.now < p + max 5 (min 1000 (s.get F.DC_AGING_PANIC_MAX)) * us then s
    else
      match s.dram.wait.find? (fun r => r.promoted) with
      | some r => s.capServe r
      | none => { s with dram := { s.dram with capDue := true } }

/-- The activation tables clear at the start of a refresh window (R308). -/
def activationTableClear (s : State) : State := { s with dram := { s.dram with acts := [] } }

/-! ## The patrols (R309–R319) -/

/-- Is a channel's region out of use since the start (R309)? -/
def State.regionOut (s : State) (c r : Nat) : Bool := s.dram.regions.any (fun x => x.1 == c && x.2.1 == r && !x.2.2)

/-- The next system address at or after `a` that the patrol reads: grains in regions withdrawn at start are passed over. -/
def State.patrolAddr (s : State) : Nat → Nat → Nat
  | 0, a => a
  | f + 1, a =>
    let (c, x) := s.chanOf a
    let r := x / 2 ^ 20
    if a ≥ s.dramBytes ∨ !s.regionOut c r then a
    else
      let step := if (List.range s.channels).all (fun c => s.regionOut c r) then s.channels * 2 ^ 20 else s.grain
      s.patrolAddr f (a / step * step + step)

/-- The patrol reads the next word (R309–R315). -/
def patrolRead (upsets : List (Nat × Nat)) (s : State) : State :=
  let s := each upsets (fun u s => s.flip u) s
  let at_ := s.patrolAddr 8192 s.dram.patrol
  let s : State :=
    if at_ ≥ s.dramBytes then s
    else
      let w := at_ / 8
      let (c, a) := s.chanOf at_
      let s := s.openWord c a
      let pass := s.get F.EC_SCRUB_PASS_PASS
      let (e, y, d) := s.eccRead w
      match e with
      | .clean => s
      | .single _ =>
        let s := (s.countCorrection c).storeWord w d 0
        let (s, hard) := s.patrolFinds false c a pass y false
        if hard then s.hardWord w c a false else s
      | .bad =>
        let s := (s.bump F.EC_UE_COUNT F.EC_CNT_SAT_UE_SAT 1).raisePerSecond 0x0902 5 0
        let (s, hard) := s.patrolFinds false c a pass y true
        if hard then s.hardWord w c a true else s
  let next := s.patrolAddr 8192 (at_ + 8)
  if next ≥ s.dramBytes then
    let s := s.bumpWrap F.EC_SCRUB_PASS_PASS 1
    ({ s with dram := { s.dram with patrol := 0 } }.put F.EC_SCRUB_POS_PROGRESS 0).expireSuspects false (s.get F.EC_SCRUB_PASS_PASS)
  else { s with dram := { s.dram with patrol := next } }.put F.EC_SCRUB_POS_PROGRESS (next * 10000 / s.dramBytes)

/-- The section's next input restarts it (R143, R319). -/
def State.loseTrack (s : State) (k : Nat) : State :=
  let s := s.modSec k (fun x => { x with restart := some true })
  s.modSec k (fun x => { x with start := none })

/-- The byte address of a protection word that a location in the form of EC_SUSPECT_B names (R204, R317, R322). -/
def sramByte (loc : Nat) : Nat :=
  let y := loc / 2 ^ 28 % 12
  let e := 8 * y + loc / 2 ^ 25 % 8
  let w := loc % 2 ^ 22
  match loc / 2 ^ 22 % 8 with
  | 0 => imemAddr e w
  | 1 => localAddr e true (2 * w)
  | 2 => localAddr e false (2 * w)
  | _ => yardAddr y (2 * w)

/-- A 16-bit word of engine or yard memory stands uncorrectable. -/
def State.markBad (s : State) (a : Nat) (code : Bool) : State :=
  { s with fab := { s.fab with bad := (a, code) :: s.fab.bad.filter (fun b => b.1 != a) } }

/-- A yard's code and constants are to be reloaded (R319). -/
def State.needReload (s : State) (y : Nat) : State := { s with dram := { s.dram with reload := y :: s.dram.reload.filter (· ≠ y) } }

/-- The on-die patrol checks a protection word (R317–R319): `loc` in the form of EC_SUSPECT_B, `flips` the stored bits found flipped, and
what an uncorrectable word holds: code or constants, or the state or FFT window of a section, or neither. -/
def sramPatrol (loc : Nat) (flips : List Nat) (code : Bool) (sect : Option Nat) (s : State) : State :=
  let s : State :=
    if loc ≤ s.dram.sramLoc ∧ s.dram.sramLoc ≠ 0 then
      let p := (s.dram.sramPass + 1) % 2 ^ 32
      { s with dram := { s.dram with sramPass := p } }.expireSuspects true p
    else s
  let s := { s with dram := { s.dram with sramLoc := loc } }
  let y := sramSyndrome flips
  match eccOf 64 38 y with
  | .clean => s
  | .single _ =>
    let s := (s.bump F.EC_SRAM_CORR_COUNT F.EC_CORR_SAT_SRAM_SAT 1).raisePerSecond 0x0901 wide 0
    let (s, hard) := s.patrolFinds true 0 loc s.dram.sramPass y false
    if hard then s.hardSram loc else s
  | .bad =>
    let (s, hard) := s.patrolFinds true 0 loc s.dram.sramPass y true
    let s := if hard then s.hardSram loc else s
    let s := (s.markBad (sramByte loc) code).markBad (sramByte loc + 2) code
    let s := match sect with | some k => s.loseTrack k | none => s
    if code then s.needReload (loc / 2 ^ 28 % 12) else s

/-- Does a byte address lie in the memory of yard y or of one of its engines? -/
def inYard (y a : Nat) : Bool :=
  decide (spaceYard + y * 2 ^ 20 ≤ a ∧ a < spaceYard + (y + 1) * 2 ^ 20) ||
  decide (spaceEngine + 8 * y * 2 ^ 20 ≤ a ∧ a < spaceEngine + 8 * (y + 1) * 2 ^ 20)

/-- A yard's code and constants are reloaded between jobs (R319): none of their words stands uncorrectable any more. -/
def yardCodeReload (y : Nat) (s : State) : State :=
  if (List.range 8).any (fun i => (s.eng (8 * y + i)).run.isSome) then s
  else { s with dram := { s.dram with reload := s.dram.reload.filter (· ≠ y) },
                fab := { s.fab with bad := s.fab.bad.filter (fun b => !(b.2 && inYard y b.1)) } }

/-- The NVM's capacity in MiB (R393, R409). -/
def State.nvmMib (s : State) : Nat := 64 * 2 ^ min 2 (s.get F.NV_STATUS_CAP)

/-- `n` bytes of free value written from `a` on. -/
def State.wrFree (s : State) (a : Nat) : Nat → State
  | 0 => s
  | n + 1 => let (v, s) := s.free 8; (s.wrByte a (BitVec.ofNat 8 v)).wrFree (a + 1) n

/-- The sequence that a new entry of the event log carries: newer than the journal in force. -/
def State.logSeq (s : State) : Nat := s.bt.work.seq + 1

/-- The next remap or withdrawal goes to the NVM's event log (R316, R393). The spec gives no layout of the 64 bytes, which are free values (log
entry 44). -/
def eventLogWrite (s : State) : State :=
  match s.dram.logDue with
  | [] => s
  | x :: rest =>
    let i := s.bt.evlog.length % 16384
    let s := { s with dram := { s.dram with logDue := rest }, bt := { s.bt with evlog := s.bt.evlog ++ [(s.logSeq, x)] } }
    s.wrFree (spaceNvm + (s.nvmMib - 1) * 2 ^ 20 + 64 * i) 64

/-! ## The test region and readback (R299, R322) -/

/-- The test word that EC_TEST_CTRL names. -/
def State.testAddr (s : State) : Nat := spaceTest + 8192 * s.get F.EC_TEST_CTRL_CHANNEL + 16 * s.get F.EC_TEST_CTRL_WORD

/-- The test word's data or check byte is accessed in its device (R291, R293). -/
def State.openTest (s : State) (check : Bool) : State :=
  s.openAt (s.get F.EC_TEST_CTRL_CHANNEL) (if check then 0x3F0001000 + s.get F.EC_TEST_CTRL_WORD else 0x3F0000000 + 8 * s.get F.EC_TEST_CTRL_WORD)

/-- A test command named by a write of EC_TEST_CTRL: channel, word and effect (R299). -/
def State.testCmd (s : State) (value : Nat) (f : State → State) : State :=
  if s.is F.EC_TEST_CTRL_BUSY then s
  else
    let s := (s.put F.EC_TEST_CTRL_CHANNEL (value / 65536)).put F.EC_TEST_CTRL_WORD (value / 8)
    if s.get F.EC_TEST_CTRL_CHANNEL < s.channels then f s else s

/-- EC_TEST_DATA as one word. -/
def State.testData (s : State) : Nat := s.get F.EC_TEST_DATA_LO_DATA + 2 ^ 32 * s.get F.EC_TEST_DATA_HI_DATA

/-- CMD 1: the data with its check byte. -/
def testWriteCoded (s : State) : State :=
  let s := (s.openTest false).openTest true
  (s.wrLE s.testAddr 8 s.testData).wrByte (s.testAddr + 8) (BitVec.ofNat 8 (checkByte s.testData))

/-- CMD 2: the data alone. -/
def testWriteData (s : State) : State := let s := s.openTest false; s.wrLE s.testAddr 8 s.testData

/-- CMD 3: the check byte alone. -/
def testWriteCheck (s : State) : State := let s := s.openTest true; s.wrByte (s.testAddr + 8) (BitVec.ofNat 8 (s.get F.EC_TEST_CHECK_CHECK))

/-- CMD 4: the read, its data and its outcome. -/
def testRead (s : State) : State :=
  let s := (s.openTest false).openTest true
  let d := s.rdLE s.testAddr 8
  let c := (s.rdByte (s.testAddr + 8)).toNat
  let y := syndromeOf (c ^^^ checkByte d)
  let (e, p, v) : Nat × Nat × Nat := match eccOf 128 71 y with
    | .clean => (0, 0xFF, d)
    | .single p => (1, p, match (dataPositions 71).findIdx? (· == p) with | some b => d ^^^ 2 ^ b | none => d)
    | .bad => (2, 0xFF, d)
  let s := (s.put F.EC_TEST_DATA_LO_DATA v).put F.EC_TEST_DATA_HI_DATA (v / 2 ^ 32)
  (((s.put F.EC_TEST_CHECK_CHECK c).put F.EC_TEST_RESULT_RESULT e).put F.EC_TEST_RESULT_SYNDROME y).put F.EC_TEST_RESULT_POSITION p

/-- EC_SUSPECT_SEL: the entry selected is latched (R322). -/
def suspectSelWrite (v : Nat) (s : State) : State :=
  let s := s.put F.EC_SUSPECT_SEL_INDEX v
  let i := s.get F.EC_SUSPECT_SEL_INDEX
  let x := (s.dram.suspects[i]?).getD ⟨false, 0, 0, false, 0, 0, none, 0⟩
  let used := decide (i < s.dram.suspects.length)
  let pass := if x.sram then s.dram.sramPass else s.get F.EC_SCRUB_PASS_PASS
  let age := if used then sub32 pass x.entry else 0
  let s := ((s.putB F.EC_SUSPECT_A_VALID used).putB F.EC_SUSPECT_A_SRAM x.sram).putB F.EC_SUSPECT_A_UE x.ue
  let s := ((s.put F.EC_SUSPECT_A_CORRECTED x.corrected).putSat F.EC_SUSPECT_A_AGE age).put F.EC_SUSPECT_A_SYNDROME x.synd
  ((s.put F.EC_SUSPECT_A_CHANNEL x.chan).put F.EC_SUSPECT_A_ADDR_HI (if x.sram then 0 else x.addr / 2 ^ 32)).put F.EC_SUSPECT_B_LOC x.addr

/-- The word of the withdrawal list that EC_REGION_SEL selects (R322). -/
def State.regionWord (s : State) : Nat :=
  match s.dram.regions[s.get F.EC_REGION_SEL_INDEX]? with
  | none => 0
  | some (c, r, p) => 2 ^ 31 + (if p then 2 ^ 30 else 0) + c * 2 ^ 24 + r

/-! ## Meanings -/

/-- A command that names a DRAM address stops where the address lies outside the populated channels (R292). -/
def execDramRequest (t port : Nat) (write : Bool) (addr n : Nat) (data : List (BitVec 8)) (fill : Nat) (bin : Option Nat) (s : State) : Outcome :=
  if addr + n > s.dramBytes then .fault (.noSuchAddress addr) else runAt t s (inDomain 13 (dramRequest port write addr n data fill bin))

/-- DRAM_SERVE (R301). -/
def execDramServe (t fill : Nat) (upsets : List (Nat × Nat)) (s : State) : Outcome := runAt t s (dramServe fill upsets)

/-- REQUEST_PROMOTED (R303). -/
def execRequestPromoted (t : Nat) (s : State) : Outcome := runAt t s requestPromoted

/-- PANIC_CAP (R304). -/
def execPanicCap (t : Nat) (s : State) : Outcome := runAt t s panicCap

/-- REFRESH_DUE (R307). -/
def execRefreshDue (t bank mult : Nat) (s : State) : Outcome := runAt t s (inDomain 13 (refreshDue bank mult))

/-- ACTIVATION_TABLE_CLEAR (R308). -/
def execActivationTableClear (t : Nat) (s : State) : Outcome := runAt t s activationTableClear

/-- PATROL_READ (R309). -/
def execPatrolRead (t : Nat) (upsets : List (Nat × Nat)) (s : State) : Outcome := runAt t s (inDomain 13 (patrolRead upsets))

/-- SRAM_PATROL (R317). -/
def execSramPatrol (t loc : Nat) (flips : List Nat) (code : Bool) (sect : Option Nat) (s : State) : Outcome :=
  runAt t s (inDomain 13 (sramPatrol loc flips code sect))

/-- YARD_CODE_RELOAD (R319). -/
def execYardCodeReload (t y : Nat) (s : State) : Outcome := runAt t s (yardCodeReload y)

/-- EVENT_LOG_WRITE (R316). -/
def execEventLogWrite (t : Nat) (s : State) : Outcome := runAt t s eventLogWrite

/-- EC_TEST_WRITE_CODED (R299). -/
def execEcTestWriteCoded (t value : Nat) (s : State) : Outcome := runAt t s (access 0x1B0100 (fun s => s.testCmd value testWriteCoded))

/-- EC_TEST_WRITE_DATA (R299). -/
def execEcTestWriteData (t value : Nat) (s : State) : Outcome := runAt t s (access 0x1B0100 (fun s => s.testCmd value testWriteData))

/-- EC_TEST_WRITE_CHECK (R299). -/
def execEcTestWriteCheck (t value : Nat) (s : State) : Outcome := runAt t s (access 0x1B0100 (fun s => s.testCmd value testWriteCheck))

/-- EC_TEST_READ (R299). -/
def execEcTestRead (t value : Nat) (s : State) : Outcome := runAt t s (access 0x1B0100 (fun s => s.testCmd value testRead))

/-- EC_SUSPECT_SEL_WRITE (R322). -/
def execEcSuspectSelWrite (t value : Nat) (s : State) : Outcome := runAt t s (access 0x1B0040 (suspectSelWrite value))

end Sys2Proof.Machine
end

