-- ==== Sys2Proof/Machine/Engine.lean ====
section
/-!
DEFINITION. Machine/Engine.lean: the engine instruction set (chapter 08): registers with the visibility of R209, addressing and protection
(R205–R208), branches and repeats (R210, R211), results (R212–R214), the FFT unit (R216, R217), DRAM state (R218) and one meaning for each
instruction of R220.
-/
namespace Sys2Proof.Machine

/-! ## Registers (R199, R209) -/

/-- The value that a reader at instruction `ic` sees; the second class of readers is the later one of R209. -/
def Cell.read (c : Cell) (ic : Nat) (second : Bool) : Int :=
  match c.log.find? (fun w => decide (w.ic + (if second then w.d2 else w.d1) ≤ ic)) with
  | some w => w.v
  | none => c.base

/-- A write by instruction `ic`, visible from the `d1`-th and `d2`-th following instruction. -/
def Cell.write (c : Cell) (ic d1 d2 : Nat) (v : Int) : Cell := { c with log := ⟨ic, d1, d2, v⟩ :: c.log }

/-- Writes that every reader sees settled into the base. -/
def Cell.settle (c : Cell) (ic : Nat) : Cell :=
  { base := ((c.log.find? (fun w => decide (w.ic + 4 ≤ ic))).map (·.v)).getD c.base, log := c.log.filter (fun w => decide (w.ic + 4 > ic)) }

/-- Dr as a 16-bit pattern. -/
def Eng.dv (x : Eng) (r : RegNo) : Nat := ((kvGet {} x.d r.toNat).read x.ic false).toNat

/-- A register's cell written in a file. -/
def wrCell (m : List (Nat × Cell)) (r ic d1 d2 : Nat) (v : Int) : List (Nat × Cell) := kvSet {} m r ((kvGet {} m r).write ic d1 d2 v)

/-- Dr written, visible from the `k`-th following instruction. -/
def Eng.putD (x : Eng) (r : RegNo) (k v : Nat) : Eng := { x with d := wrCell x.d r.toNat x.ic k k (v % 65536 : Nat) }

/-- Dr written by an ALU form with its flags. -/
def Eng.alu (x : Eng) (r : RegNo) (p : Nat × FlagSet) : Eng := { x.putD r 1 p.1 with flg := p.2.apply x.flg }

/-- Aa as an address. -/
def Eng.addr (x : Eng) (r : RegNo) : Nat := ((kvGet {} x.a r.toNat).read x.ic false).toNat

/-- Aa as a value. -/
def Eng.aval (x : Eng) (r : RegNo) : Nat := ((kvGet {} x.a r.toNat).read x.ic true).toNat

/-- Aa written by MOVA, ADDA or LDA. -/
def Eng.putA (x : Eng) (r : RegNo) (v : Nat) : Eng := { x with a := wrCell x.a r.toNat x.ic 3 1 (v % 2 ^ 18 : Nat) }

/-- Aa written by post-modification. -/
def Eng.modA (x : Eng) (r : RegNo) (v : Nat) : Eng := { x with a := wrCell x.a r.toNat x.ic 1 1 (v % 2 ^ 18 : Nat) }

/-- Mk as a pattern of MOD and OFS. -/
def Eng.mv (x : Eng) (k : Nat) : Nat := ((kvGet {} x.m k).read x.ic false).toNat

/-- Mk written. -/
def Eng.putM (x : Eng) (k v : Nat) : Eng := { x with m := wrCell x.m k x.ic 2 2 (v % 2 ^ 29 : Nat) }

/-- The latest MOD and OFS of Mk, whether seen or not: MOVMO and MOVMM keep the other field. -/
def Eng.mlast (x : Eng) (k : Nat) : Nat := (((kvGet {} x.m k).log.head?.map (·.v)).getD (kvGet {} x.m k).base).toNat

/-- An accumulator; MAC and MSU read it in the first class. -/
def Eng.acc (x : Eng) (b second : Bool) : Int := (if b then x.acb else x.aca).read x.ic second

/-- An accumulator written. -/
def Eng.putAcc (x : Eng) (b : Bool) (v : Int) : Eng :=
  if b then { x with acb := x.acb.write x.ic 1 2 v } else { x with aca := x.aca.write x.ic 1 2 v }

/-- One instruction counted (R209). -/
def Eng.tick (x : Eng) : Eng :=
  let ic := x.ic + 1
  { x with ic := ic, d := x.d.map (fun c => (c.1, c.2.settle ic)), a := x.a.map (fun c => (c.1, c.2.settle ic)),
           m := x.m.map (fun c => (c.1, c.2.settle ic)), aca := x.aca.settle ic, acb := x.acb.settle ic }

/-! ## Addressing (R205, R207, R208) -/

/-- The address after an advance by δ under MOD = l (R208). -/
def advance (a l : Nat) (δ : Int) : Nat :=
  let space : Nat := a / 2 ^ 17 * 2 ^ 17
  let ad : Nat := a % 2 ^ 17
  if l = 0 then space + (((ad : Int) + δ) % 131072).toNat
  else
    let w : Nat := if l ≤ 1 then 1 else 2 ^ (Nat.log2 (l - 1) + 1)
    let b : Nat := ad / w * w
    space + b + (((ad : Int) - b + δ) % (l : Int)).toNat

/-- A 12-bit offset as a signed number (R207). -/
def signed12 (v : Nat) : Int := let v := v % 4096; if v < 2048 then v else (v : Int) - 4096

/-- Post-modification of Aa by kind: 0 none, 1 +1, 2 −1, 3 +OFS. -/
def Eng.postMod (x : Eng) (r : RegNo) (kind : Nat) : Eng :=
  let m := x.mv (r.toNat % 4)
  let l := m / 65536
  match kind with
  | 1 => x.modA r (advance (x.addr r) l 1)
  | 2 => x.modA r (advance (x.addr r) l (-1))
  | 3 => x.modA r (advance (x.addr r) l (signed16 m))
  | _ => x

/-- The effective address of a mode of R207; `none` for modes 101–111, and for an offset in a mode that has none, whose bits are reserved there
(R219, R221). -/
def Eng.ea (x : Eng) (r : RegNo) (mode off : Nat) : Option Nat :=
  let a := x.addr r
  if mode ≤ 3 then (if off = 0 then some a else none)
  else if mode = 4 then some (advance a 0 (signed12 off))
  else none

/-! ## Memories and protection (R204–R206) -/

/-- A data word: in yard memory, or in XMEM (else YMEM). -/
inductive Place where
  | yard (w : Nat)
  | loc (xmem : Bool) (w : Nat)
deriving DecidableEq, Repr

/-- The place of an address used through register r; a local address beyond 4,095 is fault 1 (R205). -/
def placeOf (r : RegNo) (a : Nat) : Option Place :=
  if a / 2 ^ 17 % 2 = 1 then some (.yard (a % 2 ^ 17))
  else if a % 2 ^ 17 < 4096 then some (.loc (decide (r.toNat < 4)) (a % 2 ^ 17)) else none

/-- Does word w lie in the n words from b on? -/
def inWords (w b n : Nat) : Bool := decide (b ≤ w ∧ w < b + n)

/-- The key of a scratch word's written bit (R206). -/
def scratchKey (xmem : Bool) (w : Nat) : Nat := if xmem then w else 4096 + w

/-- May the share make this access (R206)? -/
def Eng.permits (x : Eng) (segWords : Nat) (write : Bool) : Place → Bool
  | .yard w => match x.run with
    | some { layout := some l, hdr := some h, first := f, count := n, .. } =>
      (!write && (inWords w l.desc 32 || inWords w l.input segWords || inWords w l.consts h.yardConst)) ||
      inWords w (l.state + f * h.sw) (n * h.sw) || (inWords w l.fft h.fftWindow && !x.fb)
    | _ => false
  | .loc xm w => match x.run with
    | some { layout := some l, hdr := some h, .. } =>
      let c := if xm then l.xConst else l.yConst
      let b := if xm then l.xScratch else l.yScratch
      let n := if xm then h.xScratch else h.yScratch
      (!write && decide (w < c)) || (inWords w b n && (write || kvGet false x.written (scratchKey xm w)))
    | _ => false

/-- Is this a word of the outstanding transfer (R218)? -/
def Eng.inTransfer (x : Eng) : Place → Bool
  | .yard w => match x.xfer with | some t => t.yard && inWords w t.word t.n | none => false
  | .loc xm w => match x.xfer with | some t => !t.yard && t.xmem == xm && inWords w t.word t.n | none => false

/-- The byte address of a place for engine e. -/
def Place.byte (e : Nat) : Place → Nat
  | .yard w => yardAddr (e / 8) w
  | .loc xm w => localAddr e xm w

/-- Is this a constant of the share's program, or of its yard? -/
def Eng.isConst (x : Eng) : Place → Bool
  | .yard w => match x.run with
    | some { layout := some l, hdr := some h, .. } => inWords w l.consts h.yardConst
    | _ => false
  | .loc xm w => match x.run with
    | some { layout := some l, .. } => decide (w < if xm then l.xConst else l.yConst)
    | _ => false

/-- Is this resident state of the share's channels, or a word of its FFT window? -/
def Eng.isState (x : Eng) : Place → Bool
  | .yard w => match x.run with
    | some { layout := some l, hdr := some h, first := f, count := n, .. } =>
      inWords w (l.state + f * h.sw) (n * h.sw) || inWords w l.fft h.fftWindow
    | _ => false
  | .loc _ _ => false

/-! ## Results of one instruction -/

/-- How an instruction ends on an engine: done, a share fault (R179), or it waits (R216, R218). -/
inductive ERes where
  | ok (s : State)
  | fault (code : Nat) (s : State)
  | wait

/-- The words of the input buffer of engine e's job. -/
def State.segWords (s : State) (x : Eng) : Nat :=
  match x.run.bind (fun r => s.job r.tag) with
  | some j => (segmentBytes j.seg.codes.length + 1) / 2
  | none => 0

/-- Is a word of engine or yard memory known to stand uncorrectable? -/
def State.isBad (s : State) (a : Nat) : Bool := s.fab.bad.any (fun b => b.1 == a)

/-- A share's read through register r has met an uncorrectable word (R319): a constant has its yard reloaded, state or an FFT window restarts the
section. Any other fault code leaves the state alone. -/
def State.faultRead (s : State) (e : Nat) (r : RegNo) (a c : Nat) : State :=
  if c % 8 ≠ 4 then s
  else match placeOf r a with
    | none => s
    | some p =>
      let x := s.eng e
      let const := x.isConst p
      let s := s.markBad (p.byte e) const
      if const then s.needReload (e / 8)
      else if x.isState p then
        match x.run.bind (fun r => s.job r.tag) with
        | some j => s.loseTrack j.seg.section_
        | none => s
      else s

/-- A data read through register r (R204–R206): the word, a fault code (12 for a word known before to be uncorrectable), or `none` while a transfer
holds the word. -/
def State.dataRead (s : State) (e : Nat) (r : RegNo) (a : Nat) (ue : Bool) : Option (Except Nat Nat) :=
  let x := s.eng e
  match placeOf r a with
  | none => some (.error 1)
  | some p =>
    if !x.permits (s.segWords x) false p then some (.error 1)
    else if x.inTransfer p then none
    else if s.isBad (p.byte e) then some (.error 12)
    else if ue then some (.error 4)
    else some (.ok (s.rdLE (p.byte e) 2))

/-- A data write through register r. -/
def State.dataWrite (s : State) (e : Nat) (r : RegNo) (a v : Nat) : Option (Except Nat State) :=
  let x := s.eng e
  match placeOf r a with
  | none => some (.error 1)
  | some p =>
    if !x.permits (s.segWords x) true p then some (.error 1)
    else if x.inTransfer p then none
    else
      let s := s.wrWord (p.byte e) v
      some (.ok (match p with
        | .loc xm w => s.modEng e (fun x => { x with written := kvSet false x.written (scratchKey xm w) true })
        | .yard _ => s))

/-- A change to the engine's own registers. -/
def regs (s : State) (e : Nat) (f : Eng → Eng) : ERes := .ok (s.modEng e f)

/-! ## Loads, stores and parallel moves -/

/-- LD and a parallel move: Dd from memory, visible from the 2nd following instruction (R209). -/
def loadD (s : State) (e : Nat) (d a : RegNo) (mode off kind : Nat) (ue : Bool) : ERes :=
  match (s.eng e).ea a mode off with
  | none => .fault 2 s
  | some ea =>
    match s.dataRead e a ea ue with
    | none => .wait
    | some (.error c) => .fault c (s.faultRead e a ea c)
    | some (.ok v) => regs s e (fun x => (x.putD d 2 v).postMod a kind)

/-- ST. -/
def storeD (s : State) (e : Nat) (x a : RegNo) (mode off kind : Nat) : ERes :=
  match (s.eng e).ea a mode off with
  | none => .fault 2 s
  | some ea =>
    match s.dataWrite e a ea ((s.eng e).dv x) with
    | none => .wait
    | some (.error c) => .fault c s
    | some (.ok s) => regs s e (fun y => y.postMod a kind)

/-- The word after an address. -/
def nextWord (a : Nat) : Nat := a / 2 ^ 17 * 2 ^ 17 + (a + 1) % 2 ^ 17

/-- LDA (R220): modes 000 and 100 only. -/
def loadA (s : State) (e : Nat) (a base : RegNo) (mode off : Nat) (ue : Bool) : ERes :=
  if mode ≠ 0 ∧ mode ≠ 4 then .fault 2 s
  else match (s.eng e).ea base mode off with
    | none => .fault 2 s
    | some ea =>
      match s.dataRead e base ea ue, s.dataRead e base (nextWord ea) ue with
      | some (.ok lo), some (.ok hi) => regs s e (fun x => x.putA a (lo + hi % 4 * 65536))
      | some (.error c), _ => .fault c (s.faultRead e base ea c)
      | _, some (.error c) => .fault c (s.faultRead e base (nextWord ea) c)
      | _, _ => .wait

/-- STA (R220). -/
def storeA (s : State) (e : Nat) (a base : RegNo) (mode off : Nat) : ERes :=
  if mode ≠ 0 ∧ mode ≠ 4 then .fault 2 s
  else match (s.eng e).ea base mode off with
    | none => .fault 2 s
    | some ea =>
      let v := (s.eng e).aval a
      match s.dataWrite e base ea (v % 65536) with
      | none => .wait
      | some (.error c) => .fault c s
      | some (.ok s1) =>
        match s1.dataWrite e base (nextWord ea) (v / 65536) with
        | none => .wait
        | some (.error c) => .fault c s1
        | some (.ok s2) => .ok s2

/-- The parallel moves of a format-M word, X before Y (R219). -/
def moves (s : State) (e : Nat) (m : Moves) (ue : Bool) : ERes :=
  let rx : RegNo := BitVec.ofNat 3 m.ax.toNat
  let ry : RegNo := BitVec.ofNat 3 (4 + m.ay.toNat)
  let y := fun (s : State) => if m.ey then loadD s e m.dy ry 0 0 m.my.toNat ue else .ok s
  if m.ex then
    match loadD s e m.dx rx 0 0 m.mx.toNat ue with
    | .ok s => y s
    | r => r
  else y s

/-- A format-M instruction: the operands are read before the moves write (R220); a word that waits has no effect yet. -/
def formatM (s : State) (e : Nat) (m : Moves) (ue : Bool) (f : Eng → Eng) : ERes :=
  match moves (s.modEng e f) e m ue with
  | .ok s => .ok s
  | .fault c s => .fault c s
  | .wait => .wait

/-- The exact product of two data registers. -/
def Eng.product (x : Eng) (s1 s2 : RegNo) : Int := signed16 (x.dv s1) * signed16 (x.dv s2)

/-- An accumulator result limited to 40 bits, with AS. -/
def Eng.putSat40 (x : Eng) (b : Bool) (v : Int) : Eng := let (r, f) := sat40 v; { x.putAcc b r with flg := f.apply x.flg }

/-! ## The FFT unit (R216, R217) -/

/-- A complex list reordered by bit reversal of its index. -/
def bitRev (w i : Nat) : Nat := (List.range w).foldl (fun a b => if i.testBit b then a + 2 ^ (w - 1 - b) else a) 0

/-- One butterfly (R216): t = rnd(b × W ÷ 32,768), then a + t and a − t, halved with rnd when the stage scales. -/
def butterfly (scale : Bool) (w a b : Cpx) : Cpx × Cpx :=
  let t : Cpx := (divRound (b.1 * w.1 - b.2 * w.2) 32768, divRound (b.1 * w.2 + b.2 * w.1) 32768)
  let h := fun (v : Int) => if scale then divRound v 2 else v
  ((h (a.1 + t.1), h (a.2 + t.2)), (h (a.1 - t.1), h (a.2 - t.2)))

/-- A twiddle of R216 for k of m. -/
def twiddle (inv : Bool) (k m : Nat) : Cpx :=
  let z := cisTurn (((k * 2 ^ 56) / m : Nat) : Int)
  let s := divRound (32767 * z.2) (2 ^ 60)
  (divRound (32767 * z.1) (2 ^ 60), if inv then s else -s)

/-- One radix-2 stage on blocks of 2h values. -/
def fftStage (inv scale : Bool) (h : Nat) (xs : List Cpx) : List Cpx :=
  let ws := (List.range h).map (fun k => twiddle inv k (2 * h))
  let rec go : Nat → List Cpx → List Cpx
    | 0, _ => []
    | f + 1, ys =>
      if ys.isEmpty then [] else
      let ab := ((ys.take h).zip (ys.drop h)).zip ws |>.map (fun p => butterfly scale p.2 p.1.1 p.1.2)
      ab.map (·.1) ++ ab.map (·.2) ++ go f (ys.drop (2 * h))
  go (xs.length / (2 * h)) xs

/-- The stages from block half-length h on: the values, the scalings counted, and whether a component left 16 bits. -/
def fftStages (inv : Bool) : Nat → Nat → List Cpx → Nat → Bool → List Cpx × Nat × Bool
  | 0, _, xs, n, o => (xs, n, o)
  | f + 1, h, xs, n, o =>
    let scale := xs.any (fun z => decide (z.1.natAbs ≥ 11585 ∨ z.2.natAbs ≥ 11585))
    let ys := fftStage inv scale h xs
    fftStages inv f (2 * h) ys (if scale then n + 1 else n) (o || ys.any (fun z => satBits 16 z.1 != z.1 || satBits 16 z.2 != z.2))

/-- The transform of R216 on 2^w values in natural order. -/
def fftOf (w : Nat) (inv hann : Bool) (xs : List Cpx) : List Cpx × Nat × Bool :=
  let n := 2 ^ w
  let xs := if hann then xs.zipIdx.map (fun p =>
      let q := divRound (32767 * (2 ^ 60 - (cisTurn (((p.2 * 2 ^ 56) / n : Nat) : Int)).1)) (2 ^ 61)
      (divRound (p.1.1 * q) 32768, divRound (p.1.2 * q) 32768)) else xs
  let ys := (List.range n).map (fun i => xs.getD (bitRev w i) (0, 0))
  fftStages inv w 1 ys 0 false

/-- The unit of yard y. -/
def State.fftUnit (s : State) (y : Nat) : FftUnit := kvGet {} s.fab.fft y

/-- The unit of yard y replaced. -/
def State.setFft (s : State) (y : Nat) (u : FftUnit) : State := { s with fab := { s.fab with fft := kvSet {} s.fab.fft y u } }

/-- FFTS (R216): a transform submitted. -/
def fftSubmit (s : State) (e : Nat) (a d : RegNo) (inv hann : Bool) : ERes :=
  let x := s.eng e
  let w := x.dv d
  let ad := x.addr a
  if x.fb then .wait
  else if w < 2 ∨ w > 12 then .fault 2 s
  else match x.run with
    | some { layout := some l, hdr := some h, .. } =>
      if ad / 2 ^ 17 % 2 = 1 ∧ l.fft ≤ ad % 2 ^ 17 ∧ ad % 2 ^ 17 + 2 * 2 ^ w ≤ l.fft + h.fftWindow then
        let u := s.fftUnit (e / 8)
        .ok ((s.setFft (e / 8) { u with queue := u.queue ++ [{ eng := e % 8, word := ad % 2 ^ 17, log2n := w, inv := inv, hann := hann }] }).modEng e (fun x => { x with fb := true }))
      else .fault 1 s
    | _ => .fault 1 s

/-- n values of yard memory. -/
def State.rdCpx (s : State) (y w n : Nat) : List Cpx :=
  (List.range n).map (fun i => (signed16 (s.rdLE (yardAddr y (w + 2 * i)) 2), signed16 (s.rdLE (yardAddr y (w + 2 * i + 1)) 2)))

/-- n free 16-bit values (log entry 1). -/
def State.freeWords (s : State) : Nat → List Nat × State
  | 0 => ([], s)
  | n + 1 =>
    let (v, s) := s.free 16
    let (vs, s) := s.freeWords n
    (v :: vs, s)

/-! ## DRAM state (R218) -/

/-- Every word of a range through register r permitted? -/
def State.rangeOk (s : State) (e : Nat) (r : RegNo) (a n : Nat) (write : Bool) : Bool :=
  let x := s.eng e
  let sw := s.segWords x
  (List.range n).all (fun i => match placeOf r (a / 2 ^ 17 * 2 ^ 17 + (a % 2 ^ 17 + i)) with
    | some p => x.permits sw write p && decide (a % 2 ^ 17 + i < 2 ^ 17)
    | none => false)

/-- FILL and SPILL (R218). -/
def transferStart (s : State) (e : Nat) (spill : Bool) (a m n : RegNo) (ue : Bool) : ERes :=
  let x := s.eng e
  let k := x.dv n
  let from_ := 16 * x.dv m
  let ad := x.addr a
  if x.xfer.isSome then .wait
  else if k > 4096 then .fault 2 s
  else if k = 0 then .ok s
  else match x.run with
    | some { layout := some l, hdr := some h, first := f, count := c, .. } =>
      if from_ + k > c * h.ext ∨ !s.rangeOk e a ad k (!spill) then .fault 1 s
      else if spill ∧ (List.range k).any (fun i => match placeOf a (ad + i) with | some p => s.isBad (p.byte e) | none => false) then .fault 12 s
      else if spill ∧ ue then .fault 4 (s.faultRead e a ad 4)
      else
        let yard := decide (ad / 2 ^ 17 % 2 = 1)
        let xm := decide (a.toNat < 4)
        let t : Transfer := ⟨spill, l.dram + 2 * (f * h.ext + from_), yard, ad % 2 ^ 17, xm, k⟩
        let mark := fun (w : List (Nat × Bool)) => if yard ∨ spill then w else
          (List.range k).foldl (fun w i => kvSet false w (scratchKey xm (ad % 2 ^ 17 + i)) true) w
        regs s e (fun x => { x with xfer := some t, written := mark x.written })
    | _ => .fault 1 s

/-- The byte address of word i of a transfer's local end. -/
def Transfer.loc (t : Transfer) (e i : Nat) : Nat := (if t.yard then Place.yard (t.word + i) else Place.loc t.xmem (t.word + i)).byte e

/-- A data word of a FILL read through DRAM port 3 (R218, R296): it counts as a demand read, and an uncorrectable one is reported (R298). -/
def State.fillRead (s : State) (w : Nat) : Nat × Bool × State :=
  let (d, ue, s) := s.demandRead w
  (d, ue, if ue then (s.bump F.EC_UE_COUNT F.EC_CNT_SAT_UE_SAT 1).raisePerSecond 0x0902 3 0 else s)

/-- The words of a FILL reach local memory; those of an uncorrectable data word are uncorrectable there too (R298). -/
def State.fillWords (s : State) (e : Nat) (t : Transfer) : State :=
  let first := t.dram / 8
  let last := (t.dram + 2 * t.n + 7) / 8
  each (List.range (last - first)) (fun k s =>
    let (d, ue, s) := s.fillRead (first + k)
    each (List.range 4) (fun h s =>
      let a := 8 * (first + k) + 2 * h
      if a < t.dram ∨ a ≥ t.dram + 2 * t.n then s
      else
        let dst := t.loc e ((a - t.dram) / 2)
        let s := s.wrWord dst (d / 2 ^ (16 * h))
        if ue then s.markBad dst false else s) s) s

/-- The copy of an outstanding transfer, by way of the memory controller (R218). -/
def State.copyTransfer (s : State) (e : Nat) (t : Transfer) : State :=
  if t.spill then
    let bs := (List.range t.n).flatMap (fun i => leBytes (s.rdLE (t.loc e i) 2) 2)
    s.writeWords (t.n / 4 + 2) t.dram bs
  else s.fillWords e t

/-! ## One instruction -/

/-- FLG with QS, QB and QF set from q[2:0] (R220). -/
def setQuality (flg q : Nat) : Nat := setFlag (setFlag (setFlag flg flgQS (q.testBit 2)) flgQB (q.testBit 1)) flgQF (q.testBit 0)

/-- May the instruction be repeated (R211)? ALU forms are those that R220 computes with flags (log entry 10). -/
def opRepeats : EOp → Bool
  | .add .. | .adds .. | .sub .. | .subs .. | .and .. | .or .. | .xor .. | .min .. | .max .. | .cmp .. | .abs .. | .neg .. | .addi .. | .cmpi ..
  | .shl .. | .shr .. | .asr .. | .shls .. | .ld .. | .st .. | .adda .. | .put .. | .movp .. | .clr .. | .mpy .. | .mac .. | .msu .. => true
  | _ => false

/-- The instruction word of engine e's IMEM at a word address (R204). -/
def State.imem (s : State) (e pc : Nat) : Nat := s.rdLE (imemAddr e pc) 4

/-- Does the word after a repeat hold an instruction that may not be repeated, which is fault 2 at the repeat (R211)? A word that nothing has written
reads as NOP, which says nothing here: such a follower faults when it comes. -/
def State.followerBarred (s : State) (e : Nat) : Bool :=
  match decodeEngine (s.imem e ((s.eng e).pc + 1)) with
  | some .nop => false
  | some op => !opRepeats op
  | none => true

/-- The effect of an instruction on engine e, but for the program counter and the instruction count (R220). -/
def opEffect (s : State) (e : Nat) (ue open_ : Bool) : EOp → ERes
  | .nop => .ok s
  | .exit => let x := s.eng e; if x.fb || x.xfer.isSome then .wait else .ok (s.endShare e none)
  | .rpt n => if n.toNat = 0 ∨ n.toNat > 4096 ∨ s.followerBarred e then .fault 2 s else regs s e (fun x => { x with rep := some n.toNat, lc := n.toNat })
  | .rptd r => let n := (s.eng e).dv r; if n > 4096 ∨ s.followerBarred e then .fault 2 s else regs s e (fun x => { x with rep := some n, lc := n })
  | .br c t => match condHolds (s.eng e).flg c.toNat with
    | none => .fault 2 s
    | some h => regs s e (fun x => { x with slot := some (if h then some t.toNat else none) })
  | .call t => if (s.eng e).stack.length ≥ 8 then .fault 2 s
    else regs s e (fun x => { x with stack := (x.pc + 2) % 4096 :: x.stack, slot := some (some t.toNat) })
  | .ret => match (s.eng e).stack with
    | [] => .fault 2 s
    | a :: r => regs s e (fun x => { x with stack := r, slot := some (some a) })
  | .dbnz d t => regs s e (fun x =>
      let v := (x.dv d + 65535) % 65536
      { (x.putD d 1 v) with slot := some (if v ≠ 0 then some t.toNat else none) })
  | .add d a b => regs s e (fun x => x.alu d (alu16Add (x.dv a) (x.dv b)))
  | .adds d a b => regs s e (fun x => x.alu d (alu16Sat (signed16 (x.dv a) + signed16 (x.dv b))))
  | .sub d a b => regs s e (fun x => x.alu d (alu16Sub (x.dv a) (x.dv b)))
  | .subs d a b => regs s e (fun x => x.alu d (alu16Sat (signed16 (x.dv a) - signed16 (x.dv b))))
  | .and d a b => regs s e (fun x => x.alu d (alu16Bits (x.dv a &&& x.dv b)))
  | .or d a b => regs s e (fun x => x.alu d (alu16Bits (x.dv a ||| x.dv b)))
  | .xor d a b => regs s e (fun x => x.alu d (alu16Bits (x.dv a ^^^ x.dv b)))
  | .min d a b => regs s e (fun x => let r := if signed16 (x.dv a) ≤ signed16 (x.dv b) then x.dv a else x.dv b; x.alu d (r, zn r))
  | .max d a b => regs s e (fun x => let r := if signed16 (x.dv a) ≤ signed16 (x.dv b) then x.dv b else x.dv a; x.alu d (r, zn r))
  | .cmp a b => regs s e (fun x => { x with flg := (alu16Sub (x.dv a) (x.dv b)).2.apply x.flg })
  | .mov d a => regs s e (fun x => x.putD d 1 (x.dv a))
  | .abs d a => regs s e (fun x => x.alu d (alu16Sat ((signed16 (x.dv a)).natAbs : Nat)))
  | .neg d a => regs s e (fun x => x.alu d (alu16Sat (-signed16 (x.dv a))))
  | .ldi d i => regs s e (fun x => x.putD d 1 i.toNat)
  | .addi d i => regs s e (fun x => x.alu d (alu16Add (x.dv d) i.toNat))
  | .cmpi d i => regs s e (fun x => { x with flg := (alu16Sub (x.dv d) i.toNat).2.apply x.flg })
  | .shl d a n => regs s e (fun x => x.alu d (alu16Shift 0 (x.dv a) n.toNat open_))
  | .shr d a n => regs s e (fun x => x.alu d (alu16Shift 1 (x.dv a) n.toNat open_))
  | .asr d a n => regs s e (fun x => x.alu d (alu16Shift 2 (x.dv a) n.toNat open_))
  | .shls d a n => regs s e (fun x => x.alu d (alu16Sat (signed16 (x.dv a) * 2 ^ n.toNat)))
  | .ld d a m o => loadD s e d a m.toNat o.toNat (if m.toNat ≤ 3 then m.toNat else 0) ue
  | .st v a m o => storeD s e v a m.toNat o.toNat (if m.toNat ≤ 3 then m.toNat else 0)
  | .lda a b m o => loadA s e a b m.toNat o.toNat ue
  | .sta a b m o => storeA s e a b m.toNat o.toNat
  | .mova a i => regs s e (fun x => x.putA a i.toNat)
  | .adda a r => regs s e (fun x => x.putA a (advance (x.aval a) 0 (signed16 (x.dv r))))
  | .movda d a => regs s e (fun x => x.putD d 1 (x.aval a))
  | .movmo k i => regs s e (fun x => x.putM k.toNat (x.mlast k.toNat / 65536 * 65536 + i.toNat))
  | .movmm k i => if i.toNat = 1 ∨ i.toNat > 4096 then .fault 2 s
    else regs s e (fun x => x.putM k.toNat (i.toNat * 65536 + x.mlast k.toNat % 65536))
  | .movs d lc => regs s e (fun x => x.putD d 1 (if lc then x.lc
      else setFlag (setFlag x.flg flgFB x.fb) flgMB x.xfer.isSome))
  | .movtf r => regs s e (fun x => { x with flg := x.dv r &&& flgWritable })
  | .setq q => regs s e (fun x => { x with flg := setQuality x.flg q.toNat })
  | .acld b r sh => if sh.toNat > 24 then .fault 2 s else regs s e (fun x => x.putAcc b (signed16 (x.dv r) * 2 ^ sh.toNat))
  | .acsh b sh => regs s e (fun x =>
      let n := sh.toInt
      let v := x.acc b true
      x.putSat40 b (if n ≥ 0 then v * 2 ^ n.toNat else v / 2 ^ (-n).toNat))
  | .acadd b => regs s e (fun x => x.putSat40 b (x.acc false true + x.acc true true))
  | .rnd d b sh => if sh.toNat > 31 then .fault 2 s else regs s e (fun x => x.alu d (aluRnd (x.acc b true) sh.toNat))
  | .acx d b f => if f.toNat > 2 then .fault 2 s else regs s e (fun x =>
      let v := x.acc b true
      x.putD d 1 (match f.toNat with
        | 0 => pat16 v
        | 1 => pat16 (v / 2 ^ 16)
        | _ => pat16 (v / 2 ^ 32)))
  | .rmsq d b t => regs s e (fun x => x.alu d (aluRmsq (x.acc b true) (x.dv t)))
  | .log2 d b => regs s e (fun x => x.alu d (aluLog2 (x.acc b true)))
  | .setch r => let x := s.eng e
    let n := (x.run.map (·.count)).getD 0
    if x.dv r ≥ n then .fault 1 s else regs s e (fun x => { x with cursor := x.dv r })
  | .put p v r => if p.toNat = 0 ∨ p.toNat > 5 then .fault 2 s else regs s e (fun x =>
      { x with out := { x.out with puts := x.out.puts ++
        [⟨x.cursor, p.toNat, v.toNat, signed16 (x.dv r), x.flg.testBit flgQF, x.flg.testBit flgQB, x.flg.testBit flgQS⟩] } })
  | .trn v l k t => if k.toNat = 3 then .fault 2 s else regs s e (fun x =>
      { x with out := { x.out with trns := x.out.trns ++ [⟨x.cursor, k.toNat, t.toNat, x.dv v, x.dv l⟩] } })
  | .palr p => regs s e (fun x => { x with out := { x.out with palr := some (if p then 1 else 0) } })
  | .fout => regs s e (fun x => { x with out := { x.out with fout := true } })
  | .ffts a r inv hann => fftSubmit s e a r inv hann
  | .fftw d => if (s.eng e).fb then .wait else regs s e (fun x => x.putD d 1 x.scal)
  | .fill a m n => transferStart s e false a m n ue
  | .spill a m n => transferStart s e true a m n ue
  | .dmaw => if (s.eng e).xfer.isSome then .wait else .ok s
  | .movp m => moves s e m ue
  | .clr b m => formatM s e m ue (fun x => x.putAcc b 0)
  | .mpy b s1 s2 m => formatM s e m ue (fun x => x.putAcc b (x.product s1 s2))
  | .mac b s1 s2 m => formatM s e m ue (fun x => x.putSat40 b (x.acc b false + x.product s1 s2))
  | .msu b s1 s2 m => formatM s e m ue (fun x => x.putSat40 b (x.acc b false - x.product s1 s2))

/-- Is the instruction barred from a delay slot (R210)? -/
def opBarred : EOp → Bool
  | .br .. | .call .. | .ret | .dbnz .. | .rpt .. | .rptd .. | .exit => true
  | _ => false

/-- Does the instruction leave the instruction count alone (RPT itself is not counted, R209)? -/
def opUncounted : EOp → Bool
  | .rpt .. | .rptd .. => true
  | _ => false

/-- The bit that C takes after a shift by 0, which R220 leaves open: drawn for the shifts alone (log entry 1). -/
def openBit (op : EOp) (s : State) : Bool × State :=
  match op with
  | .shl .. | .shr .. | .asr .. => let (v, s) := s.free 1; (v == 1, s)
  | _ => (false, s)

/-- A repeat of `n` iterations (R211): the state and how it ended, with the iterations left. -/
def iterate (e : Nat) (op : EOp) (ue : Bool) : Nat → State → ERes
  | 0, s => .ok (s.modEng e (fun x => { x with rep := none, lc := 0 }))
  | n + 1, s =>
    let (o, s) := openBit op s
    match opEffect s e ue o op with
    | .ok s => iterate e op ue n (s.modEng e (fun x => { x.tick with lc := n }))
    | .fault c s => .fault c s
    | .wait => .ok (s.modEng e (fun x => { x with rep := some (n + 1), wait := some (op, ue) }))

/-- Where the program counter goes after the instruction at `pc`: out of a delay slot to the target that the slot holds, else on (R210). -/
def pastSlot (slot : Option (Option Nat)) (pc : Nat) : Nat :=
  match slot with
  | some (some t) => t
  | _ => (pc + 1) % 4096

/-- The program counter moved past an instruction, by way of the delay slot that the instruction stood in (R210). -/
def State.advancePc (s : State) (e : Nat) (old : Option (Option Nat)) : State := s.modEng e (fun x => { x with pc := pastSlot old x.pc })

/-- Is the program counter within the share's program (R206)? -/
def Eng.fetchOk (x : Eng) : Bool :=
  match x.run with
  | some { layout := some l, hdr := some h, .. } => inWords x.pc l.code h.codeWords
  | _ => false

/-- The fault that fetching engine e's next word meets: 1 outside the share's program (R206), 4 for a word that stands uncorrectable (R204, known
before), 2 for a word that is no instruction (R221). -/
def State.fetchFault (s : State) (e : Nat) : Option Nat :=
  if !(s.eng e).fetchOk then some 1
  else if s.isBad (imemAddr e (s.eng e).pc) then some 12
  else if (decodeEngine (s.imem e (s.eng e).pc)).isNone then some 2
  else none

/-- Engine e executes an instruction (R199–R221). An engine that runs no share instruction by instruction, or that waits, executes none. The command
says which instruction it is; the word of IMEM decides only the faults of fetching it (log entry 107). -/
def engineStep (e : Nat) (op : EOp) (ue : Bool) (s : State) : State :=
  let x := s.eng e
  match x.run with
  | some { layout := some _, .. } =>
    if x.wait.isSome then s
    else match s.fetchFault e with
    | some c => s.endShare e (some c)
    | none =>
    if x.slot.isSome ∧ opBarred op then s.endShare e (some 2)
    else
      let s := s.modEng e (fun x => { x with slot := none })
      match x.rep with
      | some n =>
        if !opRepeats op then s.endShare e (some 2)
        else match iterate e op ue n s with
          | .ok s => if (s.eng e).wait.isSome then s.modEng e (fun y => { y with slot := x.slot }) else s.advancePc e x.slot
          | .fault c s => s.endShare e (some c)
          | .wait => s
      | none =>
        let (o, s) := openBit op s
        match opEffect s e ue o op with
        | .ok s =>
          if (s.eng e).run.isNone then s
          else (s.modEng e (fun y => if opUncounted op then y else y.tick)).advancePc e x.slot
        | .fault c s => s.endShare e (some c)
        | .wait => s.modEng e (fun y => { y with slot := x.slot, wait := some (op, ue) })
  | _ => s

/-- The instruction that waited executed again. -/
def State.resume (s : State) (e : Nat) : State :=
  match (s.eng e).wait with
  | some (op, ue) => engineStep e op ue (s.modEng e (fun x => { x with wait := none }))
  | none => s

/-- EXIT for a share whose values are those of its section ends it at once (R203). -/
def exitShare (e : Nat) (s : State) : State :=
  match (s.eng e).run with
  | some { layout := none, .. } => s.endShare e none
  | _ => engineStep e .exit false s

/-- The unit of a yard takes its next request (R217). -/
def fftStart (y : Nat) (s : State) : State :=
  let u := s.fftUnit y
  match u.busy, u.queue with
  | none, r :: rest => s.setFft y { queue := rest, busy := some r }
  | _, _ => s

/-- A transform of the Brillouin channel is complete (R216, R251): the profile being formed takes the bin's scaling count and real parts. -/
def State.takeSpectrum (s : State) (r : FftReq) : State :=
  match s.br.job with
  | some j =>
    if r.seq = [] ∨ !j.left.contains r.bin then s
    else
      let (zs, k, ovf) := fftOf r.log2n r.inv r.hann r.seq
      let (re, s) := if ovf then
          let (ws, s) := s.freeWords (2 ^ r.log2n)
          (ws.map signed16, s)
        else (zs.map (·.1), s)
      { s with br := { s.br with job := some { j with left := j.left.filter (· ≠ r.bin), points := (r.bin, (k, re)) :: j.points } } }
  | none => s

/-- The transform in service completes, in place for an engine (R216, R217). -/
def fftDone (y : Nat) (s : State) : State :=
  let u := s.fftUnit y
  match u.busy with
  | none => s
  | some r =>
    let s := s.setFft y { u with busy := none }
    if r.eng ≥ 8 then s.takeSpectrum r
    else
      let n := 2 ^ r.log2n
      let (zs, k, ovf) := fftOf r.log2n r.inv r.hann (s.rdCpx y r.word n)
      let ws := zs.flatMap (fun z => [pat16 z.1, pat16 z.2])
      let (ws, s) := if ovf then s.freeWords (2 * n) else (ws, s)
      let s := s.wrYard y r.word ws
      (s.modEng (8 * y + r.eng) (fun x => { x with fb := false, scal := k })).resume (8 * y + r.eng)

/-- The outstanding transfer of engine e completes (R218). -/
def transferDone (e : Nat) (s : State) : State :=
  match (s.eng e).xfer with
  | none => s
  | some t => ((s.copyTransfer e t).modEng e (fun x => { x with xfer := none })).resume e

/-! ## Meanings -/

/-- NOP (R220). -/
def execNop (e : Nat) (s : State) : Outcome := run s (engineStep e .nop false)
/-- EXIT (R203). -/
def execExit (t e : Nat) (s : State) : Outcome := runAt t s (exitShare e)
/-- RPT (R211). -/
def execRpt (e : Nat) (n : BitVec 13) (s : State) : Outcome := run s (engineStep e (.rpt n) false)
/-- RPTD (R211). -/
def execRptd (e : Nat) (x : RegNo) (s : State) : Outcome := run s (engineStep e (.rptd x) false)
/-- BR (R210). -/
def execBr (e : Nat) (c : BitVec 4) (target : BitVec 12) (s : State) : Outcome := run s (engineStep e (.br c target) false)
/-- CALL (R210). -/
def execCall (e : Nat) (target : BitVec 12) (s : State) : Outcome := run s (engineStep e (.call target) false)
/-- RET (R210). -/
def execRet (e : Nat) (s : State) : Outcome := run s (engineStep e .ret false)
/-- DBNZ (R220). -/
def execDbnz (e : Nat) (d : RegNo) (target : BitVec 12) (s : State) : Outcome := run s (engineStep e (.dbnz d target) false)
/-- ADD (R220). -/
def execAdd (e : Nat) (d x y : RegNo) (s : State) : Outcome := run s (engineStep e (.add d x y) false)
/-- ADDS (R220). -/
def execAdds (e : Nat) (d x y : RegNo) (s : State) : Outcome := run s (engineStep e (.adds d x y) false)
/-- SUB (R220). -/
def execSub (e : Nat) (d x y : RegNo) (s : State) : Outcome := run s (engineStep e (.sub d x y) false)
/-- SUBS (R220). -/
def execSubs (e : Nat) (d x y : RegNo) (s : State) : Outcome := run s (engineStep e (.subs d x y) false)
/-- AND (R220). -/
def execAnd (e : Nat) (d x y : RegNo) (s : State) : Outcome := run s (engineStep e (.and d x y) false)
/-- OR (R220). -/
def execOr (e : Nat) (d x y : RegNo) (s : State) : Outcome := run s (engineStep e (.or d x y) false)
/-- XOR (R220). -/
def execXor (e : Nat) (d x y : RegNo) (s : State) : Outcome := run s (engineStep e (.xor d x y) false)
/-- MIN (R220). -/
def execMin (e : Nat) (d x y : RegNo) (s : State) : Outcome := run s (engineStep e (.min d x y) false)
/-- MAX (R220). -/
def execMax (e : Nat) (d x y : RegNo) (s : State) : Outcome := run s (engineStep e (.max d x y) false)
/-- CMP (R220). -/
def execCmp (e : Nat) (x y : RegNo) (s : State) : Outcome := run s (engineStep e (.cmp x y) false)
/-- MOV (R220). -/
def execMov (e : Nat) (d x : RegNo) (s : State) : Outcome := run s (engineStep e (.mov d x) false)
/-- ABS (R220). -/
def execAbs (e : Nat) (d x : RegNo) (s : State) : Outcome := run s (engineStep e (.abs d x) false)
/-- NEG (R220). -/
def execNeg (e : Nat) (d x : RegNo) (s : State) : Outcome := run s (engineStep e (.neg d x) false)
/-- LDI (R220). -/
def execLdi (e : Nat) (d : RegNo) (i : BitVec 16) (s : State) : Outcome := run s (engineStep e (.ldi d i) false)
/-- ADDI (R220). -/
def execAddi (e : Nat) (d : RegNo) (i : BitVec 16) (s : State) : Outcome := run s (engineStep e (.addi d i) false)
/-- CMPI (R220). -/
def execCmpi (e : Nat) (d : RegNo) (i : BitVec 16) (s : State) : Outcome := run s (engineStep e (.cmpi d i) false)
/-- SHL (R220). -/
def execShl (e : Nat) (d x : RegNo) (n : BitVec 4) (s : State) : Outcome := run s (engineStep e (.shl d x n) false)
/-- SHR (R220). -/
def execShr (e : Nat) (d x : RegNo) (n : BitVec 4) (s : State) : Outcome := run s (engineStep e (.shr d x n) false)
/-- ASR (R220). -/
def execAsr (e : Nat) (d x : RegNo) (n : BitVec 4) (s : State) : Outcome := run s (engineStep e (.asr d x n) false)
/-- SHLS (R220). -/
def execShls (e : Nat) (d x : RegNo) (n : BitVec 4) (s : State) : Outcome := run s (engineStep e (.shls d x n) false)
/-- LD (R220). -/
def execLd (e : Nat) (d a : RegNo) (mode : BitVec 3) (off : BitVec 12) (ue : Bool) (s : State) : Outcome := run s (engineStep e (.ld d a mode off) ue)
/-- ST (R220). -/
def execSt (e : Nat) (x a : RegNo) (mode : BitVec 3) (off : BitVec 12) (s : State) : Outcome := run s (engineStep e (.st x a mode off) false)
/-- LDA (R220). -/
def execLda (e : Nat) (a base : RegNo) (mode : BitVec 3) (off : BitVec 12) (ue : Bool) (s : State) : Outcome := run s (engineStep e (.lda a base mode off) ue)
/-- STA (R220). -/
def execSta (e : Nat) (a base : RegNo) (mode : BitVec 3) (off : BitVec 12) (s : State) : Outcome := run s (engineStep e (.sta a base mode off) false)
/-- MOVA (R220). -/
def execMova (e : Nat) (a : RegNo) (i : BitVec 18) (s : State) : Outcome := run s (engineStep e (.mova a i) false)
/-- ADDA (R220). -/
def execAdda (e : Nat) (a x : RegNo) (s : State) : Outcome := run s (engineStep e (.adda a x) false)
/-- MOVDA (R220). -/
def execMovda (e : Nat) (d a : RegNo) (s : State) : Outcome := run s (engineStep e (.movda d a) false)
/-- MOVMO (R220). -/
def execMovmo (e : Nat) (k : BitVec 2) (i : BitVec 16) (s : State) : Outcome := run s (engineStep e (.movmo k i) false)
/-- MOVMM (R208). -/
def execMovmm (e : Nat) (k : BitVec 2) (i : BitVec 13) (s : State) : Outcome := run s (engineStep e (.movmm k i) false)
/-- MOVS (R220). -/
def execMovs (e : Nat) (d : RegNo) (lc : Bool) (s : State) : Outcome := run s (engineStep e (.movs d lc) false)
/-- MOVTF (R220). -/
def execMovtf (e : Nat) (x : RegNo) (s : State) : Outcome := run s (engineStep e (.movtf x) false)
/-- SETQ (R220). -/
def execSetq (e : Nat) (q : BitVec 3) (s : State) : Outcome := run s (engineStep e (.setq q) false)
/-- ACLD (R220). -/
def execAcld (e : Nat) (b : Bool) (x : RegNo) (sh : BitVec 6) (s : State) : Outcome := run s (engineStep e (.acld b x sh) false)
/-- ACSH (R220). -/
def execAcsh (e : Nat) (b : Bool) (sh : BitVec 6) (s : State) : Outcome := run s (engineStep e (.acsh b sh) false)
/-- ACADD (R220). -/
def execAcadd (e : Nat) (b : Bool) (s : State) : Outcome := run s (engineStep e (.acadd b) false)
/-- RND (R220). -/
def execRnd (e : Nat) (d : RegNo) (b : Bool) (sh : BitVec 6) (s : State) : Outcome := run s (engineStep e (.rnd d b sh) false)
/-- ACX (R220). -/
def execAcx (e : Nat) (d : RegNo) (b : Bool) (f : BitVec 6) (s : State) : Outcome := run s (engineStep e (.acx d b f) false)
/-- RMSQ (R220). -/
def execRmsq (e : Nat) (d : RegNo) (b : Bool) (t : RegNo) (s : State) : Outcome := run s (engineStep e (.rmsq d b t) false)
/-- LOG2 (R220). -/
def execLog2 (e : Nat) (d : RegNo) (b : Bool) (s : State) : Outcome := run s (engineStep e (.log2 d b) false)
/-- SETCH (R212). -/
def execSetch (e : Nat) (x : RegNo) (s : State) : Outcome := run s (engineStep e (.setch x) false)
/-- PUT (R212). -/
def execPut (e : Nat) (p : BitVec 3) (v : BitVec 4) (x : RegNo) (s : State) : Outcome := run s (engineStep e (.put p v x) false)
/-- TRN (R213). -/
def execTrn (e : Nat) (v l : RegNo) (k x : BitVec 2) (s : State) : Outcome := run s (engineStep e (.trn v l k x) false)
/-- PALR (R214). -/
def execPalr (e : Nat) (p : Bool) (s : State) : Outcome := run s (engineStep e (.palr p) false)
/-- FOUT (R214). -/
def execFout (e : Nat) (s : State) : Outcome := run s (engineStep e .fout false)
/-- FFTS (R216). -/
def execFfts (e : Nat) (a x : RegNo) (inv hann : Bool) (s : State) : Outcome := run s (engineStep e (.ffts a x inv hann) false)
/-- FFTW (R216). -/
def execFftw (e : Nat) (d : RegNo) (s : State) : Outcome := run s (engineStep e (.fftw d) false)
/-- FILL (R218). -/
def execFill (e : Nat) (a m n : RegNo) (s : State) : Outcome := run s (engineStep e (.fill a m n) false)
/-- SPILL (R218). -/
def execSpill (e : Nat) (a m n : RegNo) (ue : Bool) (s : State) : Outcome := run s (engineStep e (.spill a m n) ue)
/-- DMAW (R218). -/
def execDmaw (e : Nat) (s : State) : Outcome := run s (engineStep e .dmaw false)
/-- MOVP (R219). -/
def execMovp (e : Nat) (mv : Moves) (ue : Bool) (s : State) : Outcome := run s (engineStep e (.movp mv) ue)
/-- CLR (R220). -/
def execClr (e : Nat) (b : Bool) (mv : Moves) (ue : Bool) (s : State) : Outcome := run s (engineStep e (.clr b mv) ue)
/-- MPY (R220). -/
def execMpy (e : Nat) (b : Bool) (s1 s2 : RegNo) (mv : Moves) (ue : Bool) (s : State) : Outcome := run s (engineStep e (.mpy b s1 s2 mv) ue)
/-- MAC (R220). -/
def execMac (e : Nat) (b : Bool) (s1 s2 : RegNo) (mv : Moves) (ue : Bool) (s : State) : Outcome := run s (engineStep e (.mac b s1 s2 mv) ue)
/-- MSU (R220). -/
def execMsu (e : Nat) (b : Bool) (s1 s2 : RegNo) (mv : Moves) (ue : Bool) (s : State) : Outcome := run s (engineStep e (.msu b s1 s2 mv) ue)
/-- FFT_TRANSFORM_START (R217). -/
def execFftTransformStart (y : Nat) (s : State) : Outcome := run s (fftStart y)
/-- FFT_TRANSFORM_DONE (R216). -/
def execFftTransformDone (t y : Nat) (s : State) : Outcome := runAt t s (fftDone y)
/-- TRANSFER_DONE (R218). -/
def execTransferDone (t e : Nat) (s : State) : Outcome := runAt t s (transferDone e)

end Sys2Proof.Machine
end

