-- ==== Sys2Proof/Machine/Brillouin.lean ====
section
/-!
DEFINITION. Machine/Brillouin.lean: the Brillouin channel (chapter 10): acquisition (R246–R248), baseline (R249, R250), blocks and profiles
(R251, R257–R259), fitting (R252, R253), anchoring (R254, R255), zones (R256), states and restarts (R260, R261) and spectrum readback (R264).
The profile's arithmetic is binary64 (R251, R252); its order of operations is the one written here (log entry 40).
-/
namespace Sys2Proof.Machine

/-! ## The channel's settings -/

/-- The addresses of a register's copies. -/
def RegRow.copies (r : RegRow) : List Nat :=
  (List.range r.n1).flatMap (fun i => (List.range r.n2).map (fun j => r.base + i * r.s1 + j * r.s2))

/-- The RWL values of a block's registers, in address order. -/
def State.rwlValues (s : State) (rows : List RegRow) : List Nat :=
  rows.flatMap (fun r => r.copies.flatMap (fun a =>
    (r.fields.filter (fun f => f.accAt a == .rwl)).map (fun f => s.get (f.at a))))

/-- W_B (R246). -/
def State.brW (s : State) : Nat := 2 * 2 ^ s.get F.BR_CTRL_WB

/-- N_B for a fibre end and a bin width (R246); the fibre end is in mm. -/
def brBins (lF w : Nat) : Nat := (lF * 10 + w * 10211 - 1) / (w * 10211)

/-- M (R251). -/
def State.brM (s : State) : Nat := max 8 (min 32 (s.get F.BR_CTRL_SPAN_HW))

/-- The number of blocks of a full profile: ACC ÷ UPD (R257). -/
def State.brFull (s : State) : Nat := max 1 (s.get F.BR_ACC_ACC / max 1 (s.get F.BR_ACC_UPD))

/-- The block length UPD. -/
def State.brUpd (s : State) : Nat := max 1 (s.get F.BR_ACC_UPD) * (1000 * ms)

/-- The index of the timetable whose sweeps run: from an epoch on the new one, before SB_TT_STATUS shows it (R59). -/
def State.sweepIndex (s : State) : Nat := match s.sw.done with | some (new, _) => new | none => s.activeIndex

/-- What must agree for a baseline to be reused at a warm start: timetable index, TT_ and BR_ RWL values, laser channel and D_BR (R250). -/
def State.brKey (s : State) (index : Nat) : List Nat :=
  index :: s.get F.OP_LASER_CH :: s.get F.BR_RANGE_OFS_D_BR :: (s.rwlValues regsTT ++ s.rwlValues regsBR)

/-- The launch signature of the sweep: the groups that launch, with their peaks (R248). -/
def State.brSignature (s : State) : List (Nat × Nat) :=
  ((List.range (min 16 (s.get F.TT_SCHED_G))).filter (fun g => s.permitted g && !s.sched.withheld.contains g)).map
    (fun g => (g, s.get (F.TT_GROUP_CFG_PEAK g)))

/-! ## Lag products (R247) -/

/-- The 16 lag products of one bin's samples. -/
def lagsOf (xs : List Cpx) : List Cpx :=
  (List.range 16).map (fun l => ((xs.drop l).zip xs).foldl (fun a p => Cpx.add a (Cpx.mulConj p.1 p.2)) (0, 0))

/-- The lag products of n bins of `w` samples each, the codes limited to the 12 bits of a lane. -/
def binLags (w : Nat) : Nat → List Cpx → List (List Cpx)
  | 0, _ => []
  | n + 1, xs => lagsOf (padTo (0, 0) w ((xs.take w).map (fun x => (satBits 12 x.1, satBits 12 x.2)))) :: binLags w n (xs.drop w)

/-- Lag sums added bin by bin. -/
def addLags : List (List Cpx) → List (List Cpx) → List (List Cpx)
  | [], b => b
  | a, [] => a
  | x :: a, y :: b => x.zipWith Cpx.add y :: addLags a b

/-! ## The records in DRAM (R247): 256 bytes a bin, each component a 64-bit integer; log entry 34 gives their place -/

/-- The first byte of the channel's areas: one for each block of a profile, the working block and the baselines, below the readback copy. -/
def State.brArea (s : State) : Nat := s.dramBytes - 2 ^ 19 - (s.brFull + 3) * s.get F.BR_BINS_NB * 256

/-- The record of bin i in an area. -/
def State.recordAt (s : State) (slot i : Nat) : Nat := s.brArea + (slot * s.get F.BR_BINS_NB + i) * 256

/-- The words of a record as lag components. -/
def lagsOfWords : List Nat → List Cpx
  | re :: im :: ws => (BitVec.toInt (BitVec.ofNat 64 re), BitVec.toInt (BitVec.ofNat 64 im)) :: lagsOfWords ws
  | _ => []

/-- The bytes of a record. -/
def recordBytes (ls : List Cpx) : List (BitVec 8) :=
  ls.flatMap (fun z => leBytes (BitVec.ofInt 64 z.1).toNat 8 ++ leBytes (BitVec.ofInt 64 z.2).toNat 8)

/-- A record read through port 4: its lag components, and whether a word was uncorrectable. -/
def State.readRecord (s : State) (slot i : Nat) : List Cpx × Bool × State :=
  let a := s.recordAt slot i
  let (ws, ue, s) := s.readWords ⟨4, false, a, 256, [], s.now, false, none⟩ 32 (a / 8)
  (lagsOfWords ws, ue, s)

/-- A record written through port 4. -/
def State.writeLags (s : State) (slot i : Nat) (ls : List Cpx) : State :=
  let a := s.recordAt slot i
  s.writeWords 34 a (recordBytes (padTo (0, 0) 16 ls))

/-- The sum on the die added into the records from bin i on (R247); a record that reads uncorrectable is cleared and its bin is lost (R298). -/
def State.flushFrom (s : State) (x : LagSum) : Nat → Nat → LagSum × State
  | 0, _ => ({ x with flushes := x.flushes + 1, dieN := 0, die := [] }, s)
  | n + 1, i =>
    let (old, ue, s) := if x.flushes = 0 then ([], false, s) else s.readRecord x.slot i
    let now := padTo (0, 0) 16 (x.die.getD i [])
    let s := s.writeLags x.slot i (if ue then [] else if old = [] then now else old.zipWith Cpx.add now)
    s.flushFrom (if ue then { x with bad := i :: x.bad } else x) n (i + 1)

/-- What stands on the die goes to the records. -/
def State.flushLags (s : State) (x : LagSum) : LagSum × State := if x.dieN = 0 then (x, s) else s.flushFrom x (s.get F.BR_BINS_NB) 0

/-- A launch summed: on the die, and with the 16th into the records (R247). -/
def State.addLaunch (s : State) (x : LagSum) (lags : List (List Cpx)) : LagSum × State :=
  let x := { x with dieN := x.dieN + 1, die := addLags x.die lags }
  if x.dieN = 16 then s.flushLags x else (x, s)

/-- The records of a sum from bin i on, with the bins lost; a record that reads uncorrectable is cleared. -/
def State.readSums (s : State) (x : LagSum) : Nat → Nat → List (List Cpx) × List Nat × State
  | 0, _ => ([], x.bad, s)
  | n + 1, i =>
    let (ls, ue, s) := if x.flushes = 0 then (padTo (0, 0) 16 [], false, s) else s.readRecord x.slot i
    let s := if ue then s.writeLags x.slot i [] else s
    let (rest, bad, s) := s.readSums x n (i + 1)
    ((if ue then padTo (0, 0) 16 [] else ls) :: rest, if ue then i :: bad else bad, s)

/-! ## States (R260, R261) -/

/-- A baseline begun (R249) under the timetable `index`; it takes the area that the baseline held does not use. -/
def State.brRebase (s : State) (index : Nat) : State :=
  let slot := match s.br.base with | some b => 1 - b.sum.slot | none => 0
  { s.put F.BR_STATUS_REBASING 1 with br := { s.br with basing := some (s.now, { sum := { slot := slot }, key := s.brKey index }), skipFrom := none } }

/-- Blocks, baseline and the profile being formed discarded. -/
def State.brDiscard (s : State) : State :=
  let s := { s with br := { s.br with base := none, basing := none, block := {}, blocks := [], k := 0, job := none, skipFrom := none },
                    fab := s.fab.dropSpectra }
  (s.put F.BR_STATUS_BASE_VALID 0).put F.BR_STATUS_SKIPPING 0

/-- The channel restarts: blocks and baseline discarded, and a baseline taken (R261); with BI or BQ FAILED it halts. -/
def State.brRestart (s : State) (index : Nat) (event : Bool) : State :=
  let s := s.brDiscard.put F.BR_STATUS_STATE 1
  let s := if event then s.raise 0x0602 wide 0 else s
  if s.laneState 4 = 4 ∨ s.laneState 5 = 4 then s.brHalt else s.brRebase index

/-- The channel ends in OFF (R261). -/
def State.brOff (s : State) : State := (s.brDiscard.put F.BR_STATUS_REBASING 0).put F.BR_STATUS_STATE 0

/-- The fields that follow from the timetable: EN, the bin count and the synthesiser's setting (R245, R246). -/
def State.brSetup (s : State) : State :=
  match s.brilSlot with
  | none => s.put F.BR_CTRL_EN 0
  | some k =>
    let s := (s.put F.BR_CTRL_EN 1).put F.BR_BINS_NB (brBins (s.get F.TT_FIBRE_END_L_F) s.brW)
    s.put F.BR_SYN_FREQ (s.get F.BR_NOMINAL_NU_N + 750000 - 100000 * k)

/-- Blocks open at an instant (R257). -/
def State.brOpen (s : State) : State :=
  { s.put F.BR_STATUS_STATE 2 with br := { s.br with tB := s.now, k := 0, block := { sum := { slot := 2 } }, blocks := [] } }

/-- The CRC-32C over a baseline's records (R250). -/
def State.brCrc (s : State) (b : BrBase) : Nat := crc32c ((s.readSums b.sum (s.get F.BR_BINS_NB) 0).1.flatMap recordBytes)

/-- The channel at commit (R250, R261); `retained`: a warm start that kept DRAM. A baseline held is reused where key and CRC agree. -/
def State.brCommit (s : State) (retained : Bool) : State :=
  let s := (s.brSetup.put F.BR_SKIPPED_COUNT 0).put F.BR_STATUS_ANCHOR_HELD 0
  let s := ((s.put F.BR_PROFILE_LAUNCHES 0).put F.BR_STATUS_BLOCKS 0).put F.BR_NOFIT_COUNT 0
  let old := s.br.base
  let s := { s with br := { s.br with anchor := none, spec := [], unlockFrom := none } }
  if s.brilSlot.isNone then s.brOff
  else
    let t := s.brRestart s.activeIndex false
    match old with
    | some b =>
      if retained ∧ b.key = s.brKey s.activeIndex ∧ b.crc = s.brCrc b ∧ t.get F.BR_STATUS_STATE = 1 then
        { (t.put F.BR_STATUS_BASE_VALID 1).put F.BR_STATUS_REBASING 0 with br := { t.br with base := some b, basing := none, baseAt := t.now } }.brOpen
      else t
    | none => t

/-- The channel at an epoch to timetable `index` (R261); `changed`: a TT_ or BR_ RWL value differs. -/
def State.brEpoch (s : State) (index : Nat) (changed : Bool) : State :=
  let s := s.brSetup
  if s.brilSlot.isNone then s.brOff
  else if changed ∧ s.get F.BR_STATUS_STATE ≠ 4 then s.brRestart index true
  else s

/-! ## A Brillouin launch (R50, R247–R249) -/

/-- May launches be accumulated at all: BI and BQ neither OFF nor FAILED, the synthesiser locked, the channel not halted (R248)? -/
def State.brReady (s : State) : Bool :=
  let ok := fun n => decide (s.laneState n ≠ 0 ∧ s.laneState n ≠ 4)
  ok 4 && ok 5 && s.is F.BR_STATUS_SYN_LOCK && decide (s.get F.BR_STATUS_STATE ≠ 0 ∧ s.get F.BR_STATUS_STATE ≠ 4)

/-- A launch passed over (R248); `sig`: for signature alone. -/
def State.brSkip (s : State) (sig : Bool) : State :=
  let s := s.bump F.BR_SKIPPED_COUNT F.BR_SAT_SKIP_SAT 1
  if !sig then { s.put F.BR_STATUS_SKIPPING 0 with br := { s.br with skipFrom := none } }
  else
    let was := s.is F.BR_STATUS_SKIPPING
    let s := { s.put F.BR_STATUS_SKIPPING 1 with br := { s.br with skipFrom := some (s.br.skipFrom.getD s.now) } }
    if was then s else s.raise 0x0608 wide 0

/-- The lag products of a launch (R247): `samples` from the launch instant on, the first bin D_BR samples later. -/
def State.launchLags (s : State) (samples : List Cpx) : List (List Cpx) :=
  binLags (16 * s.brW) (s.get F.BR_BINS_NB) (samples.drop (s.get F.BR_RANGE_OFS_D_BR))

/-- A launch made enters the block in progress, or is passed over (R248). -/
def State.brAccumulate (s : State) (samples : List Cpx) : State :=
  if s.get F.BR_STATUS_STATE = 0 then s
  else if !s.brReady then s.brSkip false
  else match s.br.base with
    | none => s
    | some b =>
      if b.sig ≠ some s.brSignature then s.brSkip true
      else
        let (y, s) := s.addLaunch s.br.block.sum (s.launchLags samples)
        let x := s.br.block
        let x := { x with n := x.n + 1, sum := y, first := if x.n = 0 then s.now else x.first, last := s.now, stamp := s.sched.launchStamp,
                          hold := x.hold || s.holdover }
        { s.put F.BR_STATUS_SKIPPING 0 with br := { s.br with block := x, skipFrom := none } }

/-- The Brillouin slot's launch instant on a sweep while a baseline is taken (R249): the launch is withheld and its lag products go to the
baseline; the conditions of R248 hold there as well. -/
def State.brBaseLaunch (s : State) (k start : Nat) (b : BrBase) (samples : List Cpx) : State :=
  let s := (s.advanceSeq k).take 16
  if !s.brilSweep ∨ s.heldBack ∨ s.opticalState ≠ 3 ∨ s.sched.withheld.contains 16 then s
  else if !s.brReady ∨ (b.sig.isSome ∧ b.sig ≠ some s.brSignature) then s
  else
    let sig := s.brSignature
    let (x, s) := s.addLaunch b.sum (s.launchLags samples)
    { s with br := { s.br with basing := some (start, { b with n := b.n + 1, sum := x, sig := some sig }) } }

/-! ## Baselines (R248, R249) -/

/-- The baseline's time has passed: it replaces the previous one, with the CRC-32C of its records. After a restart the blocks open at its
end. -/
def baselineComplete (s : State) : State :=
  match s.br.basing with
  | none => s
  | some (start, b) =>
    if s.now < start + s.get F.BR_BASE_BASE_S * (1000 * ms) then s
    else
      let (x, s) := s.flushLags b.sum
      let b := { b with sum := x }
      let b := { b with crc := s.brCrc b }
      let s : State := { (s.put F.BR_STATUS_REBASING 0).put F.BR_STATUS_BASE_VALID 1 with br := { s.br with base := some b, basing := none, baseAt := s.now } }
      let s := s.raise 0x0601 wide 0
      if s.get F.BR_STATUS_STATE = 1 then s.brOpen else s

/-! ## Blocks (R254, R257) -/

/-- The last reading of RTD channel c in 0.001 °C, none before the first, and whether it is STALE, OPEN or SHORT (R255). -/
def State.rtdReading (s : State) (c : Nat) : Option Int × Bool :=
  let v := s.get (F.SF_TEMP_T c)
  let st := s.get (F.SF_STAT_STATE c)
  (if v = 2147483648 then none else some (s.getS (F.SF_TEMP_T c)), s.is (F.SF_STAT_STALE c) || decide (st = 3 ∨ st = 4) || decide (v = 2147483648))

/-! ## Spectra (R251) -/

/-- x as the nearest integer, ties away from zero; 0 for a value that is no number. -/
def nearest (x : Float) : Int := (Float.round x).toInt64.toInt

/-- A code of `x` in −32,767 to +32,767 (R258). -/
def code16 (x : Float) : Int := if x.isNaN then -32768 else if x ≥ 32767 then 32767 else if x ≤ -32767 then -32767 else nearest x

/-- The window w[l] of R251. -/
def brWindow (l : Nat) : Float := 0.5 + 0.5 * Float.cos (3.141592653589793 * Float.ofNat l / 16)

/-- R′[l], windowed: the lag sums per launch less the baseline's. -/
def brLags (r : List Cpx) (n : Nat) (rb : List Cpx) (nb : Nat) : List (Float × Float) :=
  ((padTo (0, 0) 16 r).zip (padTo (0, 0) 16 rb)).zipIdx.map (fun p =>
    let w := brWindow p.2
    (w * (Float.ofInt p.1.1.1 / Float.ofNat n - Float.ofInt p.1.2.1 / Float.ofNat nb),
     w * (Float.ofInt p.1.1.2 / Float.ofNat n - Float.ofInt p.1.2.2 / Float.ofNat nb)))

/-- The power of two that brings a largest component into 16,384–32,767 after rounding. -/
def brScale (top : Float) : Int :=
  let p := 15 - (Float.frExp top).2
  if nearest (Float.scaleB top p) > 32767 then p - 1 else p

/-- The sequence of one bin's transform (R251): its 16 windowed lags brought to 16 bits, zero padding, and the conjugates of the negative lags. -/
def brSequence (v : List Cpx) : List Cpx := v ++ List.replicate 97 (0, 0) ++ ((v.drop 1).reverse.map (fun z => (z.1, -z.2)))

/-- One bin's windowed lags scaled: the power of two and the sequence. -/
def brScaled (x : List (Float × Float)) : Int × List Cpx :=
  let top := x.foldl (fun a z => let b := if z.1.abs > a then z.1.abs else a; if z.2.abs > b then z.2.abs else b) 0
  let p := if top > 0 then brScale top else 0
  (p, brSequence (x.map (fun z => (nearest (Float.scaleB z.1 p), nearest (Float.scaleB z.2 p)))))

/-- The scaled sequences of all bins from the blocks' lag sums (`n` launches) and the baseline's. With an empty baseline the subtrahend has no value
and the sequence is free (log entry 1). -/
def State.brSequences (s : State) (n nBase : Nat) : Nat → List (List Cpx) → List (List Cpx) → List (Int × List Cpx) × State
  | 0, _, _ => ([], s)
  | k + 1, r, rb =>
    let (x, s) := if nBase = 0 then
        let (ws, s) := s.freeWords 32
        ((0, brSequence ((List.range 16).map (fun l => (signed16 (ws.getD (2 * l) 0), signed16 (ws.getD (2 * l + 1) 0))))), s)
      else (brScaled (brLags (r.headD []) n (rb.headD []) nBase), s)
    let (xs, s) := s.brSequences n nBase k r.tail rb.tail
    (x :: xs, s)

/-- The yards whose FFT unit the channel uses: powered, and with a unit that serves (R217, R251). -/
def State.brYards (s : State) : List Nat := (List.range 12).filter (fun y => s.domainOn (9 + y / 3) && !s.fab.fftOut.contains y)

/-- The transforms of all bins submitted to the units in turn (R217, R251). -/
def State.brSubmit (s : State) (seqs : List (List Cpx)) : State :=
  let ys := s.brYards
  let fft := seqs.zipIdx.foldl (fun a x =>
    match ys[x.2 % ys.length]? with
    | none => a
    | some y =>
      let u := kvGet {} a y
      kvSet {} a y { u with queue := u.queue ++ [{ eng := 8, word := 0, log2n := 7, inv := false, hann := false, bin := x.2, seq := x.1 }] }) s.fab.fft
  { s with fab := { s.fab with fft := fft } }

/-- The blocks' records summed, with the bins lost. -/
def State.sumBlocks (s : State) (nb : Nat) : List BrBlock → List (List Cpx) × List Nat × State
  | [] => ([], [], s)
  | b :: bs =>
    let (x, lost, s) := if b.n = 0 then ([], [], s) else s.readSums b.sum nb 0
    let (y, more, s) := s.sumBlocks nb bs
    (addLags x y, lost ++ more, s)

/-- The profile of the blocks held begins to be formed (R251, R257); one still being formed is given up. -/
def State.brForm (s : State) (b : BrBase) : State :=
  let bs := s.br.blocks
  let nb := s.get F.BR_BINS_NB
  let s := { s with fab := s.fab.dropSpectra }
  let (r, lost, s) := s.sumBlocks nb bs
  let (rb, lostB, s) := s.readSums b.sum nb 0
  let (xs, s) := s.brSequences (bs.foldl (fun a x => a + x.n) 0) b.n nb r rb
  let s := s.brSubmit (xs.map (·.2))
  { s with br := { s.br with job := some { blocks := bs, m := s.brM, bad := lost ++ lostB, scale := xs.map (·.1), left := List.range nb } } }

/-- The spectrum S[−M … M] of bin i (R251), the scaling removed. -/
def BrJob.spectrum (j : BrJob) (i : Nat) : List Float :=
  let (k, re) := kvGet (0, []) j.points i
  (List.range (2 * j.m + 1)).map (fun x => Float.scaleB (Float.ofInt (re.getD ((x + 128 - j.m) % 128) 0)) ((k : Int) - j.scale.getD i 0))

/-- The block in progress closes at its end (R257); a profile is formed while the blocks span 20 s and hold 20 s × f_B launches. -/
def blockClose (s : State) : State :=
  let st := s.get F.BR_STATUS_STATE
  if (st ≠ 2 ∧ st ≠ 3) ∨ s.now < s.br.tB + (s.br.k + 1) * s.brUpd then s
  else
    let (x, s) := s.flushLags s.br.block.sum
    let (c, bad) := s.rtdReading (s.get F.BR_COIL_CFG_RTD)
    let all := s.br.blocks ++ [{ s.br.block with sum := x, coil := c, coilBad := bad }]
    let kept := all.drop (all.length - s.brFull)
    let n := kept.foldl (fun a b => a + b.n) 0
    let due := decide (kept.length * s.brUpd ≥ 20 * (1000 * ms)) && decide (n * s.every * s.period ≥ 20 * (1000 * ms)) && decide (n > 0)
    let next := s.br.k + 1
    let s := { s with br := { s.br with blocks := kept, block := { sum := { slot := 2 + next % (s.brFull + 1) } }, k := next } }
    match due, s.br.base with
    | true, some b => s.brForm b
    | _, _ => s

/-- Every block whose time has passed closes. -/
def State.closeBlocks (s : State) : State :=
  if s.now < s.br.tB + (s.br.k + 1) * s.brUpd then s
  else (List.range ((s.now - s.br.tB) / s.brUpd - s.br.k)).foldl (fun s _ => blockClose s) s

/-! ## The launch -/

/-- The Brillouin slot's launch instant: launched and accumulated, or withheld for a baseline; what has ended before it, a baseline or
blocks, ends first (R249, R257). `samples` are BI + j × BQ from sample s_ℓ on. -/
def brillouinLaunch (tx sense : Nat) (samples : List Cpx) (s : State) : State :=
  let s := (baselineComplete s).closeBlocks
  match s.brilSlot, s.br.basing with
  | some k, some (start, b) => if s.brilDue then s.brBaseLaunch k start b samples else s
  | _, _ =>
    let (s, lit) := brilLaunch tx sense s
    if lit then s.brAccumulate samples else s

/-! ## New baselines (R248, R249) -/

/-- The re-baseline period has passed (R249). -/
def baselinePeriodic (s : State) : State :=
  let p := s.get F.BR_BASE_PERIOD
  let st := s.get F.BR_STATUS_STATE
  if p ≠ 0 ∧ (st = 2 ∨ st = 3) ∧ s.br.basing.isNone ∧ s.now ≥ s.br.baseAt + p * 60 * (1000 * ms) then s.brRebase s.sweepIndex else s

/-- Passing over for signature has lasted 60 s (R248). -/
def baselineSignature (s : State) : State :=
  match s.br.skipFrom with
  | some t => if s.br.basing.isNone ∧ s.now ≥ t + 60 * (1000 * ms) then (s.put F.BR_STATUS_SKIPPING 0).brRebase s.sweepIndex else s
  | none => s

/-! ## Fitting (R252, R253) -/

/-- The solution of a 3 × 3 system by Cramer's rule. -/
def solve3 (a b c d e f g h i x y z : Float) : Float × Float × Float :=
  let det := a * (e * i - f * h) - b * (d * i - f * g) + c * (d * h - e * g)
  ((x * (e * i - f * h) - b * (y * i - f * z) + c * (y * h - e * z)) / det,
   (a * (y * i - f * z) - x * (d * i - f * g) + c * (d * z - y * g)) / det,
   (a * (e * z - y * h) - b * (d * z - y * g) + x * (d * h - e * g)) / det)

/-- The frequency of point i of a spectrum of half width m, in MHz. -/
def brFreq (m i : Nat) : Float := 12.5 * (Float.ofNat i - Float.ofNat m)

/-- The weighted parabola through 1 ÷ S over the run: a, b and c. -/
def brParabola (pts : List (Float × Float)) : Float × Float × Float :=
  let (s0, s1, s2, s3, s4, t0, t1, t2) := pts.foldl (fun (q : Float × Float × Float × Float × Float × Float × Float × Float) p =>
    let (s0, s1, s2, s3, s4, t0, t1, t2) := q
    let f := p.1
    let w := p.2 * p.2
    (s0 + w, s1 + w * f, s2 + w * f * f, s3 + w * f * f * f, s4 + w * f * f * f * f, t0 + p.2, t1 + p.2 * f, t2 + p.2 * f * f))
    (0, 0, 0, 0, 0, 0, 0, 0)
  solve3 s0 s1 s2 s1 s2 s3 s2 s3 s4 t0 t1 t2

/-- One Gauss–Newton step for P, f_c and Γ over the run. -/
def brNewton (pts : List (Float × Float)) (p fc ga : Float) : Float × Float × Float :=
  let (a, b, c, e, f, i, x, y, z) := pts.foldl (fun (q : Float × Float × Float × Float × Float × Float × Float × Float × Float) pt =>
    let (a, b, c, e, f, i, x, y, z) := q
    let u := (pt.1 - fc) / ga
    let d := 1 + u * u
    let jp := 1 / d
    let jf := 2 * p * u / (ga * d * d)
    let jg := 2 * p * u * u / (ga * d * d)
    let r := pt.2 - p / d
    (a + jp * jp, b + jp * jf, c + jp * jg, e + jf * jf, f + jf * jg, i + jg * jg, x + jp * r, y + jf * r, z + jg * r))
    (0, 0, 0, 0, 0, 0, 0, 0, 0)
  let (dp, df, dg) := solve3 a b c b e f c f i x y z
  (p + dp, fc + df, ga + dg)

/-- The run of consecutive points around i at or above `half`, downwards and upwards. -/
def brRun (sp : Array Float) (half : Float) (i : Nat) : List Nat :=
  let down := ((List.range i).reverse.takeWhile (fun j => decide ((sp.getD j 0) ≥ half))).reverse
  let up := ((List.range (sp.size - 1 - i)).map (· + i + 1)).takeWhile (fun j => decide ((sp.getD j 0) ≥ half))
  down ++ [i] ++ up

/-- The fit of one bin: the SNR in dB where one was measured, and f_c where the bin is not NO_FIT (R252, R253). `snrMin` in dB. -/
def brFit (m : Nat) (s : List Float) (snrMin : Float) : Option Float × Option Float :=
  let sp := s.toArray
  let n := sp.size
  let best := (List.range n).foldl (fun b i => if sp.getD i 0 > sp.getD b 0 then i else b) 0
  let top := sp.getD best 0
  if !(top > 0) then (none, none)
  else
    let run := brRun sp (top / 2) best
    let run := if run.length < 3 then [best - 1, best, best + 1].eraseDups.filter (· < n) else run
    let pts := run.map (fun i => (brFreq m i, sp.getD i 0))
    let (a, b, c) := brParabola pts
    if !(c > 0) then (none, none)
    else
      let fc := -b / (2 * c)
      let p := 1 / (a - c * fc * fc)
      if !(p > 0) then (none, none)
      else
        let ga := 1 / Float.sqrt (p * c)
        let (p, fc, ga) := brNewton pts p fc ga
        let (p, fc, ga) := brNewton pts p fc ga
        let (p', fc', ga') := brNewton pts p fc ga
        let conv := decide ((fc' - fc).abs < 0.01) && decide (p' > 0) && decide (ga' > 0)
        let far := ((List.range n).filter (fun i => decide ((brFreq m i - fc').abs > 3 * ga'))).map (fun i => sp.getD i 0)
        if far.length < 8 then (none, none)
        else
          let k := Float.ofNat far.length
          let mean := far.foldl (· + ·) 0 / k
          let var := far.foldl (fun q v => q + (v - mean) * (v - mean)) 0 / (k - 1)
          let snr := 10 * Float.log10 (p' / Float.sqrt var)
          let edge := 12.5 * Float.ofNat m
          let ok := conv && decide ((fc'.abs - edge).abs > 12.5) && decide (2 * ga' ≥ 20) && decide (2 * ga' ≤ 300) && decide (snr ≥ snrMin)
          (if snr.isNaN then none else some snr, if ok then some fc' else none)

/-! ## Anchor and zones (R254–R256) -/

/-- Insertion into a rising list of numbers. -/
def insertFloat (x : Float) : List Float → List Float
  | [] => [x]
  | y :: ys => if x ≤ y then x :: y :: ys else y :: insertFloat x ys

/-- The median; the mean of the two middle values of an even count. -/
def medianFloat (xs : List Float) : Float :=
  let a := xs.foldr insertFloat []
  let n := a.length
  if n % 2 = 1 then a.getD (n / 2) 0 else (a.getD (n / 2 - 1) 0 + a.getD (n / 2) 0) / 2

/-- C_T in MHz per °C. -/
def State.brCT (s : State) : Float := Float.ofNat (s.get F.BR_COEF_T_CT) / 10000

/-- T_0 in °C. -/
def State.brT0 (s : State) : Float := Float.ofInt (s.getS F.BR_COEF_T_T0) / 100

/-- C_ε in MHz per µε. -/
def State.brCE (s : State) : Float := Float.ofNat (s.get F.BR_COEF_E_CE) / 100000

/-- T_coil in °C: the mean of the readings at the ends of the profile's blocks, with whether any of them was faulty (R254, R255). -/
def coilTemp (bs : List BrBlock) : Option Float × Bool :=
  let rs := bs.filterMap (·.coil)
  (if rs = [] then none else some (rs.foldl (fun a r => a + Float.ofInt r / 1000) 0 / Float.ofNat rs.length), bs.any (·.coilBad))

/-- The launch instant of the last launch in a profile's blocks. -/
def lastLaunch (bs : List BrBlock) : Nat := ((bs.filter (·.n > 0)).getLast?.map (·.last)).getD 0

/-- Does bin i of a profile whose last launch was made at `last` carry BEYOND_END (R86, R131, R258)? A profile whose launches were all made before the
break was confirmed carries none for it. -/
def State.brBeyond (s : State) (last i : Nat) : Bool :=
  let hi := (i + 1) * s.brW - 1
  if s.opt.breakAt ≤ last then s.beyondEnd hi else s.beyondReference hi

/-- Δ_A from f_c of each bin, where the profile can be anchored (R254, R255). -/
def State.brAnchor (s : State) (fcs : List (Option Float)) (bs : List BrBlock) : Option Float :=
  let (t, bad) := coilTemp bs
  match t with
  | none => none
  | some t =>
    let lo := s.get F.BR_COIL_BINS_FIRST
    let hi := s.get F.BR_COIL_BINS_LAST
    let vs := fcs.zipIdx.filterMap (fun p => if lo ≤ p.2 ∧ p.2 ≤ hi ∧ !s.brBeyond (lastLaunch bs) p.2 then p.1 else none)
    let d := medianFloat (vs.map (fun f => f - s.brCT * (t - s.brT0)))
    if bad ∨ vs.length < 4 ∨ !(d.abs ≤ Float.ofNat (s.get F.BR_ANCHOR_MAX_MAX) / 100) then none else some d

/-- The zone of a bin (R256). -/
def State.brZone (s : State) (i : Nat) : Option Nat :=
  (List.range 16).find? (fun z => s.is (F.BR_ZONE_A_EN z) && decide (s.get (F.BR_ZONE_A_FIRST z) ≤ i ∧ i ≤ s.get (F.BR_ZONE_B_LAST z)))

/-- ν′ − ν_0 − o_z in MHz for bin i in zone z. -/
def State.brShift (s : State) (fcs : Array (Option Float)) (anchor : Float) (z i : Nat) : Option Float :=
  ((fcs[i]?).join).map (fun f => f - anchor - Float.ofInt (s.getS (F.BR_ZONE_C_OFS z)) / 100)

/-- The temperature that a TEMP zone gives a bin. -/
def State.brTemp (s : State) (fcs : Array (Option Float)) (anchor : Float) (i : Nat) : Option Float :=
  (s.brZone i).bind (fun z => (s.brShift fcs anchor z i).map (fun d => s.brT0 + d / s.brCT))

/-- What a bin shows: temperature, strain, fit, and whether its RTD reading is faulty (R256). -/
def State.brBin (s : State) (fcs : Array (Option Float)) (anchor : Float) (i : Nat) : Option Float × Option Float × Bool × Bool :=
  let fit := ((fcs[i]?).join).isSome
  match s.brZone i with
  | none => (none, none, fit, false)
  | some z =>
    let strain := fun (t : Float) => (s.brShift fcs anchor z i).map (fun d => (d - s.brCT * (t - s.brT0)) / s.brCE)
    match s.get (F.BR_ZONE_A_MODE z) with
    | 0 => (s.brTemp fcs anchor i, if fit then some 0 else none, fit, false)
    | 1 =>
      let o := i - s.get (F.BR_ZONE_A_FIRST z)
      let j := if s.is (F.BR_ZONE_B_DIR z) then s.get (F.BR_ZONE_B_PAIR z) - o else s.get (F.BR_ZONE_B_PAIR z) + o
      match s.brTemp fcs anchor j with
      | some t => if fit then (some t, strain t, true, false) else (none, none, false, false)
      | none => (none, none, false, false)
    | 2 =>
      let (r, bad) := s.rtdReading (s.get (F.BR_ZONE_A_RTD z))
      match r with
      | some r => if fit then (some (Float.ofInt r / 1000), strain (Float.ofInt r / 1000), true, bad) else (none, none, false, bad)
      | none => (none, none, fit, true)
    | _ => (none, none, fit, false)

/-! ## The profile (R251, R257–R259) -/

/-- A code of an optional value. -/
def codeOf (x : Option Float) (unit : Float) : Int := match x with | some v => code16 (v * unit) | none => -32768

/-- The 16-byte preamble of a profile's frames (R258). -/
def brPreamble (n span : Nat) (anchor coil : Int) (blocks state : Nat) : List (BitVec 8) :=
  leBytes n 4 ++ leBytes span 4 ++ leBytes (anchor % 65536).toNat 2 ++ leBytes (coil % 65536).toNat 2 ++ leBytes blocks 1 ++ leBytes state 1 ++
    leBytes 4 1 ++ [0]

/-- The profile whose transforms are complete fitted, and its frames issued (R252–R259). -/
def State.brProfile (s : State) (j : BrJob) : State :=
  let bs := j.blocks
  let m := j.m
  let n := bs.foldl (fun a x => a + x.n) 0
  let nb := s.get F.BR_BINS_NB
  let sp := (List.range nb).map j.spectrum
  let fits := sp.map (fun x => brFit m x (Float.ofNat (s.get F.BR_CTRL_SNR_MIN) / 10))
  let fcs := fits.zipIdx.map (fun x => if j.bad.contains x.2 then none else x.1.2)
  let (tc, _) := coilTemp bs
  let en := s.is F.BR_COIL_CFG_EN
  let new := if en then s.brAnchor fcs bs else none
  let held := en && new.isNone
  let state := if !en then 3 else if !held then 0 else if s.br.anchor.isSome then 1 else 2
  let anchor : Float := match new with
    | some d => d
    | none => if en then (match s.br.anchor with | some w => Float.ofBits (UInt64.ofNat w) | none => 0) else 0
  let was := s.is F.BR_STATUS_ANCHOR_HELD
  let s := s.putB F.BR_STATUS_ANCHOR_HELD held
  let s := match new with | some d => { s with br := { s.br with anchor := some d.toBits.toNat } } | none => s
  let s := if held then s.raise 0x0603 wide 0 else if en && was then s.raise 0x0604 wide 0 else s
  let arr := fcs.toArray
  let bins := (List.range nb).map (fun i => s.brBin arr anchor i)
  let coil := if en then codeOf tc 100 else -32768
  let ac := codeOf (some anchor) 100
  let live := bs.filter (·.n > 0)
  let span := ((live.getLast?.map (·.last)).getD 0 - (live.head?.map (·.first)).getD 0) / ms
  let pre := brPreamble n span ac coil bs.length state
  let hold := bs.any (·.hold)
  let fc := max 1 (min 24576 (s.get F.BR_FRAME_FC))
  let snr := fun (i : Nat) => match (fits.getD i (none, none)).1 with
    | some v => if v ≥ 655.35 then (65535 : Int) else if v ≤ 0 then 0 else nearest (v * 100)
    | none => 0
  let nofit := bins.countP (fun x => !x.2.2.1)
  let s : State := if s.is F.CX_AUX_BR_EN then each (frameRanges nb fc) (fun r s =>
      let part := (bins.drop r.1).take r.2
      let fade := part.map (fun x => !x.2.2.1)
      let beyond := (List.range r.2).map (fun i => s.brBeyond (lastLaunch bs) (r.1 + i))
      let vals := part.zipIdx.flatMap (fun x =>
        [codeOf x.1.1 100, codeOf x.1.2.1 1, if x.1.2.2.1 then codeOf (((arr[r.1 + x.2]?).join).map (· - anchor)) 100 else -32768, snr (r.1 + x.2)])
      let stale := decide (state = 1 ∨ state = 2) || part.any (fun x => x.2.2.2)
      let flags := (if fade.any id then 2 else 0) + (if beyond.any id then 4 else 0) + (if bs.length < s.brFull then 8 else 0) +
        (if hold then 16 else 0) + (if stale then 32 else 0)
      let f : Frame := { stream := 256, product := 16, seq := s.get F.BR_FRAME_SEQ_NEXT, stamp := (live.getLast?.map (·.stamp)).getD 0, first := r.1,
                         chans := r.2, samples := 1, flags := flags, preamble := pre, v := 4, vals := vals,
                         qmap := pad8 (bitmap fade) ++ pad8 (bitmap beyond) }
      { s.bumpWrap F.BR_FRAME_SEQ_NEXT 1 with built := s.built ++ [f] }) s
    else s
  let s := ((s.put F.BR_STATUS_BLOCKS bs.length).put F.BR_PROFILE_LAUNCHES n).put F.BR_NOFIT_COUNT nofit
  let s := (s.putS F.BR_ANCHOR_OFFSET ac).putS F.BR_ANCHOR_COIL_T coil
  let s : State := { s with br := { s.br with job := none, specM := m, spec := sp.map (fun x => x.map (fun v => v.toFloat32.toBits.toNat)) } }
  if s.get F.BR_STATUS_STATE = 2 then s.put F.BR_STATUS_STATE 3 else s

/-- The profile due is issued (R258), once its transforms are complete (R251). -/
def profileIssue (s : State) : State :=
  match s.br.job with
  | some j => if j.left.isEmpty then s.brProfile j else s
  | none => s

/-! ## Synthesiser and readback -/

/-- The synthesiser loses lock (R263). -/
def brSynUnlock (s : State) : State :=
  if s.is F.BR_STATUS_SYN_LOCK then
    { s.put F.BR_STATUS_SYN_LOCK 0 with br := { s.br with unlockFrom := some s.now } }.raise 0x0606 wide 0
  else s

/-- The synthesiser locks. Lock regained raises 0x0607, and after 1 s or more without it the channel restarts (R261, R263). -/
def brSynLocked (s : State) : State :=
  if s.is F.BR_STATUS_SYN_LOCK then s
  else
    let from' := s.br.unlockFrom
    let s := { s.put F.BR_STATUS_SYN_LOCK 1 with br := { s.br with unlockFrom := none } }
    match from' with
    | none => s
    | some t =>
      let s := s.raise 0x0607 wide 0
      let st := s.get F.BR_STATUS_STATE
      if s.now ≥ t + 1000 * ms ∧ st ≠ 0 ∧ st ≠ 4 then s.brRestart s.sweepIndex true else s

/-- The word of BR_SPEC_DATA (R264). -/
def State.specWord (s : State) : Nat :=
  let i := s.get F.BR_SPEC_SEL_BIN
  let p := s.get F.BR_SPEC_SEL_POINT
  if i ≥ s.get F.BR_BINS_NB ∨ p + s.br.specM < 32 ∨ p > 32 + s.br.specM then 0x7FC00000
  else match s.br.spec[i]? with
    | some x => x.getD (p + s.br.specM - 32) 0x7FC00000
    | none => 0x7FC00000

/-- A read of BR_SPEC_DATA: the word, and POINT advanced, 64 → 0. -/
def specDataRead (s : State) : State :=
  let w := s.specWord
  let p := s.get F.BR_SPEC_SEL_POINT
  { s.put F.BR_SPEC_SEL_POINT (if p = 64 then 0 else p + 1) with resp := [w] }

/-! ## Meanings -/

/-- BRILLOUIN_LAUNCH (R50, R247–R249). -/
def execBrillouinLaunch (t tx sense : Nat) (samples : List (Int × Int)) (s : State) : Outcome := runAt t s (brillouinLaunch tx sense samples)
/-- BASELINE_COMPLETE (R249). -/
def execBaselineComplete (t : Nat) (s : State) : Outcome := runAt t s baselineComplete
/-- BASELINE_PERIODIC (R249). -/
def execBaselinePeriodic (t : Nat) (s : State) : Outcome := runAt t s baselinePeriodic
/-- BASELINE_SIGNATURE (R248). -/
def execBaselineSignature (t : Nat) (s : State) : Outcome := runAt t s baselineSignature
/-- BLOCK_CLOSE (R257). -/
def execBlockClose (t : Nat) (s : State) : Outcome := runAt t s blockClose
/-- PROFILE_ISSUE (R258). -/
def execProfileIssue (t : Nat) (s : State) : Outcome := runAt t s profileIssue
/-- BR_SYN_UNLOCK (R263). -/
def execBrSynUnlock (t : Nat) (s : State) : Outcome := runAt t s (inDomain 7 brSynUnlock)
/-- BR_SYN_LOCKED (R261, R263). -/
def execBrSynLocked (t : Nat) (s : State) : Outcome := runAt t s (inDomain 7 brSynLocked)
/-- BR_SPEC_DATA_READ (R264). -/
def execBrSpecDataRead (t : ReadAt) (s : State) : Outcome := readAt t s (access 0x160104 specDataRead)

end Sys2Proof.Machine
end

