-- ==== Sys2Proof/Machine/Sensor.lean ====
section
/-!
DEFINITION. Machine/Sensor.lean: the sensor front end, housekeeping converters, TEC loop and calibration (chapter 11).
-/
namespace Sys2Proof.Machine

/-! ## RTD channels (R265–R272) -/

/-- A change to the sensors' state. -/
def State.modSens (s : State) (f : Sens → Sens) : State := { s with sens := f s.sens }

/-- RTD channel c. -/
def State.rtd (s : State) (c : Nat) : Rtd := kvGet {} s.sens.rtd c

/-- A change to an RTD channel. -/
def State.modRtd (s : State) (c : Nat) (f : Rtd → Rtd) : State := s.modSens (fun x => { x with rtd := kvSet {} x.rtd c (f (s.rtd c)) })

/-- The channels in the scan. -/
def State.scanned (s : State) : List Nat := (List.range 8).filter (fun c => (s.get F.SF_CTRL_SCAN_EN).testBit c)

/-- R_P with its limits, in mΩ (R267). -/
def State.precR (s : State) : Nat := max 100000 (min 5000000 (s.get F.SF_PREC_R_P))

/-- NAVG with its limits. -/
def State.navg (s : State) (c : Nat) : Nat := max 1 (min 64 (s.get (F.SF_CFG_NAVG c)))

/-- An excitation amplitude in units of 0.1 mA rms (R266). -/
def excitation (a : Nat) : Nat := if a ≤ 1 then 1 else if a = 2 then 3 else 10

/-- The excitation in use on channel c: RANGE, or the automatic choice, which begins at the lowest step (log entry 42). -/
def State.ampOf (s : State) (c : Nat) : Nat :=
  let r := s.get (F.SF_CFG_RANGE c)
  if r ≠ 0 then r else max 1 (s.rtd c).amp

/-- The automatic choice at the end of a period at amplitude a: `force` in mV peak, `sense` in 0.01 % of the demodulator's range (R266). -/
def nextAmp (a force sense : Nat) : Nat :=
  let at_ := fun (v b : Nat) => v * excitation b
  let fits := fun (b : Nat) => decide (at_ force b < 2500 * excitation a ∧ at_ sense b < 9000 * excitation a)
  let best := if fits 3 then 3 else if fits 2 then 2 else 1
  if best > a then (if at_ sense (a + 1) < 6000 * excitation a then a + 1 else a) else if best < a then a - 1 else a

/-- The temperature of a resistance in mΩ through a table of breakpoints; none outside it (R271). -/
def linearise : List (Nat × Int) → Nat → Option Int
  | [], _ => none
  | [(r, t)], x => if x = r then some t else none
  | (r, t) :: (r', t') :: rest, x =>
    if x < r then none
    else if x < r' then some (t + divRound (((x - r : Nat) : Int) * (t' - t)) (r' - r))
    else linearise ((r', t') :: rest) x

/-- The factory table 0 or 1 (R271): 33 breakpoints with rising resistances, from −200 to +850 °C. -/
def factoryTable (k : Nat) : List (Nat × Int) :=
  (List.range 33).map (fun j => ((List.range (j + 1)).foldl (fun a i => a + 1 + Config.rtdStep k i) 0,
    if j = 0 then -200000 else if j = 32 then 850000 else Config.rtdTemp k j))

/-- The linearisation table of channel c: the image's, or the factory's for tables 0 and 1. -/
def State.rtdTable (s : State) (c : Nat) : List (Nat × Int) :=
  let k := s.get (F.SF_CFG_TABLE c)
  match kvGet [] s.sens.tables k with
  | [] => if k ≤ 1 then factoryTable k else []
  | t => t

/-- The temperature word of a ratio code, where it lies in the table (R267, R271). -/
def State.rtdTemp (s : State) (c q : Nat) : Option Nat :=
  (linearise (s.rtdTable c) ((2 * s.precR * q + 4194304) / 8388608)).map (fun t => (t % 4294967296).toNat)

/-- The dwell starts afresh at the next period (R268). -/
def State.dwellReset (s : State) : State := s.modSens (fun x => { x with n := 0, sum := 0, clean := true, calSwitch := false })

/-- The RTD frame at the end of a scan (R272). -/
def State.rtdFrame (s : State) : State :=
  if !s.is F.CX_AUX_RTD_EN then s
  else
    let cs := List.range 8
    let en := s.scanned
    let vals := cs.flatMap (fun c =>
      [s.get (F.SF_TEMP_T c) % 65536, s.get (F.SF_TEMP_T c) / 65536,
       s.get (F.SF_STAT_STATE c) * 32 + s.get (F.SF_STAT_STALE c) * 16 + s.get (F.SF_STAT_AMP c) * 4].map (fun v => signed16 v))
    let fade := cs.map (fun c => !en.contains c || !(s.rtd c).any)
    let coarse := en.any (fun c => decide (s.get (F.SF_STAT_STATE c) = 2))
    let stale := en.any (fun c => s.is (F.SF_STAT_STALE c))
    let flags := (if fade.any id then 2 else 0) + (if coarse then 8 else 0) + (if s.holdover then 16 else 0) + (if stale then 32 else 0)
    let pre := leBytes (s.get F.SF_STATUS_SCANS) 2 ++ leBytes (s.get F.SF_PREC_R_P) 4 ++ leBytes (s.get F.SF_CTRL_SCAN_EN) 1 ++
      leBytes (s.get F.SF_STATUS_PREC_FAULT) 1 ++ List.replicate 6 0 ++ [3, 0]
    let f : Frame := { stream := 257, product := 17, seq := s.get F.CX_RTD_SEQ_NEXT, stamp := stampOf (s.count s.now), first := 0, chans := 8, samples := 1,
                       flags := flags, preamble := pre, v := 3, vals := vals, qmap := pad8 (bitmap fade) ++ pad8 (bitmap []) ++ List.replicate 8 0 }
    { s.bumpWrap F.CX_RTD_SEQ_NEXT 1 with built := s.built ++ [f] }

/-- The dwell ends: the scan moves to the next channel, and after the last one a scan is complete (R265). -/
def State.dwellEnd (s : State) : State :=
  let c := s.get F.SF_STATUS_CUR
  let s := s.dwellReset
  match s.scanned.find? (fun k => decide (k > c)) with
  | some k => s.put F.SF_STATUS_CUR k
  | none => ((s.bumpWrap F.SF_STATUS_SCANS 1).rtdFrame).put F.SF_STATUS_CUR (s.scanned.headD 0)

/-- A fault of channel c: 3 OPEN, 4 SHORT, 5 RANGE (R269, R271). -/
def State.rtdFault (s : State) (c st : Nat) : State :=
  let was := s.get (F.SF_STAT_STATE c)
  let s := if st = 5 then s else s.bump (F.SF_FAULTS_COUNT c) (F.SF_SAT_FLT_SAT c) 1
  let s := if was = st then s else s.raise (if st = 3 then 0x0701 else if st = 4 then 0x0702 else 0x0704) c 0
  let s := (s.put (F.SF_STAT_STATE c) st).put (F.SF_STAT_STALE c) 1
  let s := match (s.rtd c).fine with
    | some (t, q) => (s.put (F.SF_TEMP_T c) t).put (F.SF_RATIO_Q c) q
    | none => s
  (s.modRtd c (fun x => { x with fault := true })).dwellEnd

/-- A value of channel c reported: 1 fine, 2 coarse (R268). -/
def State.rtdValue (s : State) (c st t q : Nat) : State :=
  let s := (((s.put (F.SF_TEMP_T c) t).put (F.SF_RATIO_Q c) q).put (F.SF_STAT_STATE c) st).put (F.SF_STAT_STALE c) 0
  s.modRtd c (fun x => { x with any := true, fine := if st = 1 then some (t, q) else x.fine, kept := x.kept && decide (st ≠ 1) })

/-- The fine value at the end of a dwell; a channel out of service returns to it (R268, R269). -/
def State.rtdFine (s : State) (c t q : Nat) : State :=
  let back := (s.rtd c).fault
  let s := s.rtdValue c 1 t q
  let s := if back then
      ((((s.modRtd c (fun x => { x with fault := false })).endCond 0x0701 c).endCond 0x0702 c).endCond 0x0704 c).raise 0x0703 c 0
    else s
  s.dwellEnd

/-- The amplitude chosen at the end of a period (R266). -/
def State.ampGo (s : State) (c a force sense : Nat) : State :=
  let b := if s.get (F.SF_CFG_RANGE c) = 0 then nextAmp a force sense else a
  s.modRtd c (fun x => { x with amp := b })

/-- Is the end of a period inside a dwell a switch (R268): an amplitude change, or a calibration's reference measurement? -/
def State.switches (s : State) (c a force sense : Nat) : Bool :=
  (decide (s.get (F.SF_CFG_RANGE c) = 0) && decide (nextAmp a force sense ≠ a)) || s.sens.calSwitch

/-- What follows a good period inside a dwell: a switch abandons the fine value, and the channel keeps the coarse one (R266, R268). -/
def State.dwellGo (s : State) (c a force sense : Nat) : State :=
  let t := s.ampGo c a force sense
  if s.switches c a force sense then
    ((t.modRtd c (fun x => { x with kept := true })).bump (F.SF_ABANDON_COUNT c) (F.SF_SAT_ABN_SAT c) 1).dwellReset
  else t

/-- A period with PREC_FAULT set: no ratio is formed, and a complete dwell inside the window clears it (R270). -/
def State.heldPeriod (s : State) (c a force sense : Nat) : State :=
  let n := s.sens.n + 1
  let s := s.modSens (fun x => { x with n := n })
  if n ≥ s.navg c then
    let ok := s.sens.clean
    let s := (s.ampGo c a force sense).dwellEnd
    if ok then ((s.put F.SF_STATUS_PREC_FAULT 0).endConds 0x0705).raise 0x0706 wide 0 else s
  else
    let t := s.ampGo c a force sense
    if s.switches c a force sense then t.dwellReset else t

/-- A period with a good conversion of code q and temperature word t (R267, R268). -/
def State.goodPeriod (s : State) (c a force sense q t : Nat) : State :=
  let first := s.sens.n = 0
  let n := s.sens.n + 1
  let sum := s.sens.sum + q
  let s := s.modSens (fun x => { x with n := n, sum := sum })
  let s := if first ∧ !(s.rtd c).fault ∧ !(s.rtd c).kept then s.rtdValue c 2 t q else s
  let k := s.navg c
  if n ≥ k then
    let m := (2 * sum + n) / (2 * n)
    match s.rtdTemp c m with
    | some u => (s.ampGo c a force sense).rtdFine c u m
    | none => (s.ampGo c a force sense).rtdFault c 5
  else s.dwellGo c a force sense

/-- The V_P check (R270): outside ±20 % of the expected value for two periods in a row. -/
def State.precCheck (s : State) (vP expected : Nat) : State :=
  let out := decide (10 * vP < 8 * expected ∨ 10 * vP > 12 * expected)
  let s := s.modSens (fun x => { x with precRun := if out then x.precRun + 1 else 0, clean := x.clean && !out })
  if s.sens.precRun ≥ 2 ∧ !s.is F.SF_STATUS_PREC_FAULT then
    let s := each (List.range 8) (fun c s => s.put (F.SF_STAT_STALE c) 1) s
    (s.put F.SF_STATUS_PREC_FAULT 1).raise 0x0705 wide 0
  else s

/-- The end of an excitation period (R265–R272): V_T and V_P in nV rms, a lead above or below the window at any time in it, the force voltage
in mV peak and the sense amplitude in 0.01 % of the demodulator's range. -/
def excitationPeriodEnd (vT vP : Nat) (high low : Bool) (force sense : Nat) (s : State) : State :=
  let c := s.get F.SF_STATUS_CUR
  if s.scanned = [] ∨ !s.domainOn 3 then s
  else if !s.scanned.contains c then (s.dwellReset).put F.SF_STATUS_CUR (s.scanned.headD 0)
  else
    let a := s.ampOf c
    let expected := s.precR * excitation a * 100
    let s := (s.put (F.SF_STAT_AMP c) a).precCheck vP expected
    let f := s.ampGo c a force sense
    if high then f.rtdFault c 3
    else if low ∨ vT * 500 < expected then f.rtdFault c 4
    else if s.is F.SF_STATUS_PREC_FAULT then s.heldPeriod c a force sense
    else
      let q := (2 * 4194304 * vT + vP) / (2 * max 1 vP)
      if vP = 0 ∨ q > 16777215 then f.rtdFault c 5
      else match s.rtdTemp c q with
        | some t => s.goodPeriod c a force sense q t
        | none => f.rtdFault c 5

/-! ## Housekeeping converters (R273–R278) -/

/-- Converter x. -/
def State.hk (s : State) (x : Nat) : HkConv := kvGet {} s.sens.hk x

/-- A change to converter x. -/
def State.modHk (s : State) (x : Nat) (f : HkConv → HkConv) : State := s.modSens (fun y => { y with hk := kvSet {} y.hk x (f (s.hk x)) })

/-- The converter whose regular sequence converter x runs (R276). -/
def State.hkOwner (s : State) (x : Nat) : Nat := if s.is (F.HK_CFG_PAIR 0) then 0 else x

/-- The input of an entry: HKA's injected entry i is input i (R275). -/
def State.hkInput (s : State) (x : Nat) (injected : Bool) (e : Nat) : Nat :=
  if injected then (if x = 0 then e else s.get (F.HK_INJ_INPUT x e)) else s.get (F.HK_SEQ_INPUT (s.hkOwner x) e)

/-- Entries minus 1 of the injected group: fixed at 3 in HKA (R288). -/
def State.hkIlen (s : State) (x : Nat) : Nat := if x = 0 then 3 else s.get (F.HK_CFG_ILEN x)

/-- Is a regular conversion under way on converter x? -/
def HkConv.regular (k : HkConv) : Bool := match k.conv with | some (false, _, _) => true | _ => false

/-- May converter x take a regular conversion now: idle, and neither an injected group nor a calibration goes before it (R275, R278)? -/
def State.hkFree (s : State) (x : Nat) : Bool :=
  let k := s.hk x
  k.conv.isNone && !s.is (F.HK_STAT_CAL x) && k.inj.isNone &&
    (k.pend.isNone || ((s.hk (s.hkOwner x)).promoted && !k.promRun)) && !k.calReq

/-- A regular conversion of entry e starts on the converters in `xs`. -/
def State.hkStart (s : State) (owner e : Nat) (xs : List Nat) (unpaired : Bool) : State :=
  let s := each xs (fun x s => s.modHk x (fun k => { k with conv := some (false, e, unpaired), promRun := k.promRun || k.pend.isSome })) s
  s.modHk owner (fun k => { k with reg := if e ≥ s.get (F.HK_CFG_LEN owner) then none else some (e + 1), promoted := false })

/-- Converter x takes its next injected conversion or its calibration, where one is due. -/
def State.hkNext (s : State) (x : Nat) : State :=
  let k := s.hk x
  if k.conv.isSome ∨ s.is (F.HK_STAT_CAL x) then s
  else match k.inj with
    | some (e, d) => s.modHk x (fun k => { k with conv := some (true, e, d) })
    | none =>
      let first := (s.hk (s.hkOwner x)).promoted && (s.hk (s.hkOwner x)).reg.isSome && !k.promRun && !k.calReq
      match k.pend with
      | some d => if first then s else s.modHk x (fun k => { k with pend := none, inj := some (0, d), conv := some (true, 0, d), promRun := false })
      | none => if k.calReq then (s.put (F.HK_STAT_CAL x) 1).modHk x (fun k => { k with calReq := false }) else s

/-- Both converters take what they convert next (R274–R276, R278). -/
def State.hkPump (s : State) : State :=
  let s := (s.hkNext 0).hkNext 1
  if s.is (F.HK_CFG_PAIR 0) then
    match (s.hk 0).reg with
    | none => s
    | some e =>
      let xs := [0, 1].filter s.hkFree
      if xs = [] ∨ (s.hk 0).regular ∨ (s.hk 1).regular then s else s.hkStart 0 e xs (xs.length = 1)
  else each [0, 1] (fun x s => match (s.hk x).reg with
    | some e => if s.hkFree x then s.hkStart x e [x] false else s
    | none => s) s

/-- An ignored trigger (R274, R275, R278). -/
def State.hkMiss (s : State) (x : Nat) : State := s.bump (F.HK_MISS_COUNT x) (F.HK_STAT_MISS_SAT x) 1

/-- A regular trigger (R274). -/
def hkRegularTrigger (x : Nat) (s : State) : State :=
  let m := s.get (F.HK_CFG_RTRIG x)
  if x > 1 ∨ m = 0 ∨ m = 3 ∨ s.hkOwner x ≠ x then s
  else
    let k := s.hk x
    let busy := k.reg.isSome || k.regular || (s.is (F.HK_CFG_PAIR 0) && (s.hk 1).regular)
    if busy ∨ s.is (F.HK_STAT_CAL x) then s.hkMiss x
    else (s.modHk x (fun k => { k with reg := some 0, regAt := s.now, promoted := false })).hkPump

/-- An injected trigger (R275); during a calibration at most one group is held (R278). -/
def hkInjectedTrigger (x : Nat) (s : State) : State :=
  let m := if x = 0 then 2 else s.get (F.HK_CFG_ITRIG x)
  if x > 1 ∨ m = 0 ∨ m = 3 then s
  else
    let k := s.hk x
    if k.inj.isSome ∨ k.pend.isSome then s.hkMiss x
    else (s.modHk x (fun k => { k with pend := some (s.is (F.HK_STAT_CAL x)), promRun := false })).hkPump

/-- A die temperature counts towards the module temperature (R281). -/
def State.noteTemp (s : State) (input code : Nat) : State :=
  if input < 10 ∨ input > 12 then s
  else s.modSens (fun y => let (sum, n) := kvGet (0, 0) y.temps input; { y with temps := kvSet (0, 0) y.temps input (sum + code, n + 1) })

/-- The thermal warning and the time at 115 °C of a die temperature (R459). -/
def State.thermal (s : State) (input code : Nat) : State :=
  if input < 10 ∨ input > 12 then s
  else
    let hot := if code ≥ 3300 then kvSet 0 s.sens.hot input (max 1 (kvGet s.now s.sens.hot input)) else kvDel input s.sens.hot
    let s := s.modSens (fun y => { y with hot := hot })
    if code ≥ 3100 ∧ !s.sens.warned.contains input then
      (s.modSens (fun y => { y with warned := input :: y.warned })).raiseAny 0x0D0A input 0
    else if code < 3000 then s.modSens (fun y => { y with warned := y.warned.filter (· ≠ input) })
    else s

/-- The conversion under way completes with its result (R277). -/
def hkConversionDone (x code : Nat) (s : State) : State :=
  match (s.hk x).conv with
  | none => s
  | some (injected, e, flag) =>
    let code := code % 4096
    let input := s.hkInput x injected e
    let s := if s.is (F.HK_DATA_VALID x) then (s.put (F.HK_STAT_OVR x) 1).bump (F.HK_OVRS_COUNT x) (F.HK_STAT_OVR_SAT x) 1 else s
    let s := ((((((s.put (F.HK_DATA_VALID x) 1).putB (F.HK_DATA_INJ x) injected).putB (F.HK_DATA_CAL_DELAYED x) (injected && flag)).putB
      (F.HK_DATA_UNPAIRED x) (!injected && flag)).put (F.HK_DATA_ENTRY x) e).put (F.HK_DATA_INPUT x) input).put (F.HK_DATA_CODE x) code
    let l := if injected then 16 + e else e
    let s := (s.put (F.HK_LAST_SEEN x l) 1).put (F.HK_LAST_CODE x l) code
    let s := s.modHk x (fun k => { k with conv := none, inj := if injected then (if e ≥ s.hkIlen x then none else some (e + 1, flag)) else k.inj })
    ((s.noteTemp input code).thermal input code).hkPump

/-- A regular entry has waited longer than AGE_LIMIT since its sequence was triggered (R275). -/
def hkEntryPromoted (x : Nat) (s : State) : State :=
  let k := s.hk x
  let lim := max 2 (min 1000 (s.get (F.HK_DELAY_AGE_LIMIT x)))
  if k.reg.isSome ∧ !k.promoted ∧ s.now > k.regAt + lim * us then
    ((s.modHk x (fun k => { k with promoted := true })).bump (F.HK_PROM_COUNT x) (F.HK_STAT_PROM_SAT x) 1).hkPump
  else s

/-- A read of HK_DATAx: the word, and VALID cleared (R277). -/
def hkDataRead (x : Nat) (s : State) : State :=
  let w := s.get (F.HK_DATA_VALID x) * 2147483648 + s.get (F.HK_DATA_INJ x) * 1073741824 + s.get (F.HK_DATA_CAL_DELAYED x) * 536870912 +
    s.get (F.HK_DATA_UNPAIRED x) * 268435456 + s.get (F.HK_DATA_ENTRY x) * 16777216 + s.get (F.HK_DATA_INPUT x) * 65536 + s.get (F.HK_DATA_CODE x)
  { s.put (F.HK_DATA_VALID x) 0 with resp := [w] }

/-- A calibration of converter x is requested; it starts when nothing injected and no regular conversion is left before it (R278). -/
def hkCalibration (x : Nat) (s : State) : State :=
  if x > 1 ∨ s.is (F.HK_STAT_CAL x) then s else (s.modHk x (fun k => { k with calReq := true })).hkPump

/-- The calibration of converter x ends with its correction (R278). -/
def hkCalibrationDone (x : Nat) (gain ofs : Int) (s : State) : State :=
  if !s.is (F.HK_STAT_CAL x) then s
  else ((((s.put (F.HK_STAT_CAL x) 0).putS (F.HK_CAL_GAIN x) gain).putS (F.HK_CAL_OFS x) ofs)).hkPump

/-! ## The TEC loop (R279, R280) -/

/-- T_SET written for the grid channel of OP_LASER (R279). -/
def State.tecSet (s : State) : State := s.putS F.HK_TEC_CFG_T_SET (Config.laserSet (s.getS F.OP_LASER_CH))

/-- The bridge and the laser warm-up start. -/
def State.tecStart (s : State) : State := s.tecSet.modSens (fun x => { x with tec := { startAt := some s.now } })

/-- u_max, 1,000 times in units of 2⁻¹⁶ of VTEC (R279): `uMax` as the supply and the cooler give it, below the present drive where the current
measured on injected entry 1 exceeds ILIM, and not below it otherwise. -/
def State.driveLimit (s : State) (uMax : Nat) : Nat :=
  let u := s.sens.tec.u.natAbs
  let i := ((s.get (F.HK_LAST_CODE 0 17) : Int) - 2048).natAbs
  if !s.is (F.HK_LAST_SEEN 0 17) then 1000 * uMax
  else if i > min 1500 (s.get F.HK_TEC_CFG_ILIM) then min (1000 * uMax) (u - 1)
  else max (1000 * uMax) u

/-- TEC_FAULT: the bridge and the laser are switched off (R280). -/
def State.tecFault (s : State) : State :=
  let s := s.modSens (fun x => { x with tec := { x.tec with startAt := none, u := 0, atMax := false, errFrom := none, limFrom := none, faultAt := s.now } })
  (((s.put F.HK_TEC_STAT_FAULT 1).raise 0x0720 wide 0).put F.OP_LASER_WARM 0)|> laserUnlock

/-- One update of the loop (R279) from the thermistor's code on HKA's injected entry 0; `temp` where there is none yet (log entry 123). -/
def tecUpdate (temp : Int) (uMax : Nat) (s : State) : State :=
  match s.sens.tec.startAt with
  | none => s
  | some st =>
    let x := s.sens.tec
    let code := s.get (F.HK_LAST_CODE 0 16)
    let e := s.getS F.HK_TEC_CFG_T_SET - (if s.is (F.HK_LAST_SEEN 0 16) then Config.thermistor code else temp)
    let i := if x.atMax then x.i else clampI (-65536000) 65536000 (x.i + s.get F.HK_TEC_GAIN_KI * e)
    let m : Int := s.driveLimit uMax
    let u := clampI (-m) m (s.get F.HK_TEC_GAIN_KP * e + i)
    let top := decide (u = m ∨ u = -m)
    let s := (s.putS F.HK_TEC_STAT_ERR e).putB F.HK_TEC_STAT_SETTLED (decide (e.natAbs ≤ 50))
    let warm := decide (s.now ≥ st + 4000 * ms)
    let errFrom := if warm ∧ e.natAbs > 500 then some (x.errFrom.getD s.now) else none
    let limFrom := if top then some (x.limFrom.getD s.now) else none
    let offFrom := if top then none else some (x.offFrom.getD s.now)
    let s := s.modSens (fun y => { y with tec := { x with i := i, u := u, atMax := top, errFrom := errFrom, limFrom := limFrom, offFrom := offFrom } })
    let limited : Bool := match limFrom with | some t => decide (s.now ≥ t + 10000 * ms) | none => false
    let left : Bool := match offFrom with | some t => decide (s.now ≥ t + 1000 * ms) | none => false
    let late : Bool := match errFrom with | some t => decide (s.now ≥ t + 2000 * ms) | none => false
    let s := if limited && !s.is F.HK_TEC_STAT_LIMIT then (s.put F.HK_TEC_STAT_LIMIT 1).raise 0x0721 wide 0
      else if left then s.put F.HK_TEC_STAT_LIMIT 0 else s
    if (s.is (F.HK_LAST_SEEN 0 16) ∧ (code = 0 ∨ code = 4095)) ∨ late then s.tecFault else s

/-- 10 s after TEC_FAULT the bridge and the warm-up start again (R280). -/
def tecRestart (s : State) : State :=
  if s.is F.HK_TEC_STAT_FAULT ∧ s.sens.tec.startAt.isNone ∧ s.now ≥ s.sens.tec.faultAt + 10000 * ms then s.tecStart else s

/-! ## Calibration passes (R281–R283) -/

/-- May a pass start: MIN_GAP has passed since the last one (R281)? -/
def State.calGap (s : State) : Bool :=
  match s.sens.cal.lastEnd with
  | none => true
  | some t => decide (s.now ≥ t + max 10 (min 3600 (s.get F.CL_DELTA_T_MIN_GAP)) * (1000 * ms))

/-- The mean of inputs 10–12 since the last evaluation, in 0.01 °C (R273, R281); `temp` where one of them has not been converted in it (log entry
123). -/
def State.moduleTemp (s : State) (temp : Int) : Int :=
  let xs := [10, 11, 12].map (fun i => kvGet (0, 0) s.sens.temps i)
  if xs.any (fun x => x.2 == 0) then temp
  else (xs.foldl (fun a x => a + ((5 * x.1 / x.2 : Nat) : Int)) 0) / 3 - 5000

/-- The module temperature evaluated once per second (R281). -/
def moduleTempCheck (given : Int) (s : State) : State :=
  let temp := s.moduleTemp given
  let s := (s.modSens (fun x => { x with temps := [] })).putS F.CL_TEMP_T_NOW temp
  let d := max 10 (min 2000 (s.get F.CL_DELTA_T_DT))
  if (temp - s.getS F.CL_TEMP_T_REF).natAbs ≤ d then s
  else if s.is F.CL_STATUS_RUNNING then s.put F.CL_STATUS_HELD 1
  else if s.calGap then s.modSens (fun x => { x with cal := { x.cal with due := true } })
  else s

/-- A pass starts (R281). -/
def State.calBegin (s : State) : State :=
  let s := s.modSens (fun x => { x with calSwitch := true, cal := { x.cal with due := false, startTemp := s.getS F.CL_TEMP_T_NOW } })
  ((s.put F.CL_STATUS_RUNNING 1).put F.CL_STATUS_HELD 0).raise 0x0801 wide 0

/-- A pass that is due, or held and now allowed, starts (R281). -/
def calStart (s : State) : State :=
  if !s.is F.CL_STATUS_RUNNING ∧ (s.sens.cal.due ∨ (s.is F.CL_STATUS_HELD ∧ s.calGap)) then s.calBegin else s

/-- A record's slice corrections put into a lane, held to the limits of R98. -/
def Lane.takeSlices (l : Lane) (cs : List (Int × Int × Int)) : Lane :=
  (cs.take 65).zipIdx.foldl (fun l c => l.setSlice c.2 { l.slice c.2 with
    ofs := clampI (-4096) 4096 c.1.1, gain := clampI (-30000) 30000 c.1.2.1, time := clampI (-400) 400 c.1.2.2 }) l

/-- A lane whose 65 slices have each completed a reference calibration (R100). -/
def Lane.allDone (l : Lane) : Lane := (List.range 65).foldl (fun l k => l.setSlice k { l.slice k with done := true }) l

/-- A record in force: delays, skews and noise floors (R36, R101, R124, R261, R283). `slices`: the record of a
start's receiver calibration, whose slice corrections are those that it leaves in force; a FAILED lane keeps what it held (R112). -/
def State.calApply (s : State) (r : CalRecord) (slices : Bool) : State :=
  let whole := s.get F.FP_RANGE_OFS_D_RX / 32 ≠ r.dRx / 32
  let wholeBr := s.get F.BR_RANGE_OFS_D_BR ≠ r.dBr
  let s := ((s.put F.FP_RANGE_OFS_D_RX r.dRx).put F.FP_RI_DELAY_TAU r.tau).put F.BR_RANGE_OFS_D_BR r.dBr
  let s := s.put F.EV_TRIGIN_SKEW_SKEW r.trigSkew
  let s := each (r.skews.zipIdx) (fun v s => if skewLanes.contains v.2 ∧ (v.2 < 4 ∨ s.domainOn 7) then s.putS (F.SL_SKEW_SKEW v.2) v.1 else s) s
  let s := each (r.noise.zipIdx) (fun v s => if v.2 < 16 then s.put (F.FP_SLOT_NOISE_NOISE v.2) v.1 else s) s
  let s := each (r.hk.zipIdx) (fun v s => if v.2 < 2 then (s.putS (F.HK_CAL_GAIN v.2) v.1.1).putS (F.HK_CAL_OFS v.2) v.1.2 else s) s
  let s := if slices then each (r.slices.zipIdx) (fun v s => if s.laneUp v.2 then s.setLane v.2 ((s.lane v.2).takeSlices v.1).allDone else s) s else s
  if s.opt.off then s
  else
    let s := if whole then s.restartGroups false else s
    if wholeBr ∧ s.get F.BR_STATUS_STATE ≠ 0 ∧ s.get F.BR_STATUS_STATE ≠ 4 then s.brRestart s.sweepIndex true else s

/-- The completed record takes effect (R283): it is then the record in force and waits to be written (R284). -/
def State.calEffect (s : State) (slices : Bool) : State :=
  match s.sens.cal.shadow with
  | none => s
  | some x =>
    let s := (s.calApply x.1 slices).modSens (fun y => { y with cal := { y.cal with shadow := none, force := some x, seq := (y.cal.seq + 1) % 4294967296 } })
    ((s.put F.CL_STATUS_NVM_PENDING 1).put F.CL_STATUS_FACTORY 0).raise 0x0802 wide 0

/-- The slice corrections in force (R101). -/
def State.slicesNow (s : State) : List (List (Int × Int × Int)) :=
  (List.range 6).map (fun n => (List.range 65).map (fun k => let c := (s.lane n).slice k; (c.ofs, c.gain, c.time)))

/-- The end of a pass: its record stands in shadow until the sweep boundary, or takes effect at once before commit (R282, R283). A later pass
copies the slice corrections, skews and noise floors in force. -/
def State.calEnd (s : State) (r : CalRecord) (later : Bool) : State :=
  let r := if later then { r with slices := s.slicesNow, skews := (List.range 6).map (fun n => s.getS (F.SL_SKEW_SKEW n)),
                                   noise := (List.range 16).map (fun k => s.get (F.FP_SLOT_NOISE_NOISE k)) } else r
  let x := s.sens.cal
  let s := s.modSens (fun y => { y with cal := { x with lastEnd := some s.now, shadow := some (r, stampOf (s.count s.now), x.startTemp, later) } })
  let s := (s.put F.CL_STATUS_RUNNING 0).putS F.CL_TEMP_T_REF x.startTemp
  let s := if later then s.bump F.CL_PASSES_COUNT F.CL_SAT_PASS_SAT 1 else s
  if s.is F.SB_STATUS_COMMITTED then s else s.calEffect (!later)

/-- A pass completes its record (R283). -/
def calPassDone (r : CalRecord) (s : State) : State := if s.is F.CL_STATUS_RUNNING then s.calEnd r true else s

/-! ## Meanings -/

/-- EXCITATION_PERIOD_END (R265–R272). -/
def execExcitationPeriodEnd (t vT vP : Nat) (high low : Bool) (force sense : Nat) (s : State) : Outcome :=
  runAt t s (excitationPeriodEnd vT vP high low force sense)
/-- HK_REGULAR_TRIGGER (R274). -/
def execHkRegularTrigger (t x : Nat) (s : State) : Outcome := runAt t s (inDomain 3 (hkRegularTrigger x))
/-- HK_INJECTED_TRIGGER (R275). -/
def execHkInjectedTrigger (t x : Nat) (s : State) : Outcome := runAt t s (inDomain 3 (hkInjectedTrigger x))
/-- HK_CONVERSION_DONE (R277). -/
def execHkConversionDone (t x code : Nat) (s : State) : Outcome := runAt t s (inDomain 3 (hkConversionDone x code))
/-- HK_ENTRY_PROMOTED (R275). -/
def execHkEntryPromoted (t x : Nat) (s : State) : Outcome := runAt t s (inDomain 3 (hkEntryPromoted x))
/-- HK_DATA_READ (R277). -/
def execHkDataRead (t : ReadAt) (x : Nat) (s : State) : Outcome := readAt t s (access (0x180070 + 0x100 * (x % 2)) (hkDataRead (x % 2)))
/-- HK_CALIBRATION (R278). -/
def execHkCalibration (t x : Nat) (s : State) : Outcome := runAt t s (inDomain 3 (hkCalibration x))
/-- HK_CALIBRATION_DONE (R278). -/
def execHkCalibrationDone (t x : Nat) (gain ofs : Int) (s : State) : Outcome := runAt t s (inDomain 3 (hkCalibrationDone x gain ofs))
/-- TEC_UPDATE (R279, R280). -/
def execTecUpdate (t : Nat) (temp : Int) (uMax : Nat) (s : State) : Outcome := runAt t s (tecUpdate temp uMax)
/-- TEC_RESTART (R280). -/
def execTecRestart (t : Nat) (s : State) : Outcome := runAt t s tecRestart
/-- MODULE_TEMP_CHECK (R281). -/
def execModuleTempCheck (t : Nat) (temp : Int) (s : State) : Outcome := runAt t s (moduleTempCheck temp)
/-- CAL_START (R281). -/
def execCalStart (t : Nat) (s : State) : Outcome := runAt t s calStart
/-- CAL_PASS_DONE (R282, R283). -/
def execCalPassDone (t : Nat) (r : CalRecord) (s : State) : Outcome := runAt t s (calPassDone r)

end Sys2Proof.Machine
end

