-- ==== Sys2Proof/Machine/Switch.lean ====
section
/-!
DEFINITION. Machine/Switch.lean: the timetable in force: loading a timetable's registers (R29, R33, R57, R65), sweep boundaries (R36, R45),
segments (R134), and the timetable switch with its epoch (R34, R35, R58–R63).
-/
namespace Sys2Proof.Machine

/-! ## A timetable's registers (R57, R65) -/

/-- Which fields a load writes. -/
def loadable (rw : Bool) (a : Acc) : Bool := a == .rwl || (rw && a == .rw)

/-- The loadable fields of the register copy at `addr` set from a word, or to their reset values where there is none. -/
def State.loadReg (s : State) (rw : Bool) (r : RegRow) (addr : Nat) (w : Option Nat) : State :=
  r.fields.foldl (fun s f => if loadable rw (f.accAt addr) then
    s.put (f.at addr) (s.heldIn (f.at addr) (match w with | some w => w / 2 ^ f.lo | none => (f.at addr).reset)) else s) s

/-- The RWL fields of a block set from records of addresses and words; a register that no record names takes its reset value. -/
def State.loadBlock (s : State) (rows : List RegRow) (recs : List (Nat × Nat)) : State :=
  each rows (fun r s => each r.copies (fun a s => s.loadReg false r a ((recs.find? (fun x => x.1 == a)).map (·.2))) s) s

/-- The descriptor registers of a section from its words; its live registers take the declared values as well (R33, R168). -/
def State.loadSection (s : State) (k : Nat) (d : Option SectionDesc) : State :=
  each (List.range 25) (fun i s =>
    let a := 0x78000 + 128 * k + 4 * i
    match regsBS.find? (·.has a) with
    | some r => s.loadReg true r a (match d with | some d => some (d.words.getD i 0) | none => none)
    | none => s) s

/-- The sections of a timetable: descriptors, EN, DTOTAL and the counts of BS_COUNT and BS_TOTAL. -/
def State.loadSections (s : State) (tt : Timetable) : State :=
  let n := tt.sections.length
  let s := each (List.range (max n (s.get F.BS_COUNT_SECTIONS))) (fun k s =>
    let d := tt.sections[k]?
    let s := (s.loadSection k d).putB (F.BS_CFG_EN k) d.isSome
    s.put (F.BS_SCALE_DTOTAL k) (match d with | some d => (descCfg d 0 1 0 0).dtotal | none => 1)) s
  (s.put F.BS_COUNT_SECTIONS n).put F.BS_TOTAL_CHANNELS (tt.sections.foldl (fun a d => a + descField d 12 17 0) 0)

/-- FB_STORE_SIZE of a timetable (R183): STORE_MS times the segment bytes per launch interval, rounded up to a MiB, at most 8,192 MiB. -/
def storeMib (tt : Timetable) : Nat :=
  let perLaunch := tt.sections.foldl (fun a d =>
    let n := descField d 12 17 0
    (List.range ((n + 1023) / 1024)).foldl (fun a r => a + segmentBytes (runChans n r)) a) 0
  let unit := max 1 (timetableTl tt) * 1048576
  min 8192 ((perLaunch * tt.storeMs * 100000 + unit - 1) / unit)

/-- The data ring of line n that a timetable declares, in MiB (R237). -/
def ringMib (tt : Timetable) (n : Nat) : Nat := timetableWord tt (0x150124 + 128 * n) % 65536

/-- The rings of the capture lines reserved at commit, behind the fixed regions (R237, R244, R333): each data ring has room for the largest that any
timetable of the image declares for its line, so that no epoch moves a ring (log entry 43). -/
def State.placeRings (s : State) : State :=
  let base := s.get F.BS_DFIFO_BASE_OFFSET + 131072
  ((List.range 16).foldl (fun (a : State × Nat) n =>
    let mib := s.sw.timetables.foldl (fun a tt => max a (ringMib tt n)) 0
    let s := a.1.put (F.EV_DATA_BASE_OFFSET n) a.2
    (s.put (F.EV_HDR_BASE_OFFSET n) (a.2 + mib * 1048576), a.2 + mib * 1048576 + 16384)) (s, base)).1

/-- The module-wide figures of a timetable: sweep period, SETTLE, store, engines and active groups. -/
def State.loadFigures (s : State) (tt : Timetable) : State :=
  let s := s.put F.TT_SWEEP_PERIOD_T (s.get F.TT_SCHED_G * s.get F.TT_LAUNCH_INTERVAL_T_L)
  let s := (s.put F.FP_ALIGN_SETTLE s.settleRun).put F.FB_ENGINES_MIN tt.minEngines
  let s := (s.put F.FB_STORE_SIZE_MS tt.storeMs).put F.FB_STORE_SIZE_MIB (storeMib tt)
  each (List.range 16) (fun g s => s.putB (F.FP_GROUP_STAT_ACTIVE g) (decide (g < s.get F.TT_SCHED_G))) s

/-- Every register that a timetable gives: its shadow set becomes active (R34, R65). Of record type 8 only the CX_SECTs change with a
timetable (R353). -/
def State.loadTimetable (s : State) (tt : Timetable) : State :=
  let s := each [regsTT, regsFP, regsEV, regsBR, regsCX.filter (fun r => r.base == 0x1C1000)] (fun rows s => s.loadBlock rows tt.regs) s
  let s := { s with sched := { s.sched with wave := tt.waves } }
  each (List.range 16) (fun n s => s.put (F.EV_RING_MIB n) (ringMib tt n)) ((s.loadSections tt).loadFigures tt)

/-- The settings of section k in a timetable. -/
def sectionCfg (tt : Timetable) (k : Nat) : Option SecCfg :=
  (tt.sections[k]?).map (fun d => descCfg d tt.index (timetableWord tt 0x30004 % 32) (timetableTl tt) (timetableWord tt 0x30010 % 268435456))

/-- The settings whose change restarts a section (R150). -/
def SecCfg.restartKey (c : SecCfg) : SecCfg :=
  { c with tt := 0, prio := 0, outLsb := 0, fs := 0, fc := 0, v := 0, fdiv := 0, palSrc := 0, palFade := 0, featUnit := 0, featDelay := 0, featId := 0 }

/-- The Rayleigh slots in force: slot, group and waveform (R124, R150). -/
def State.slotKey (s : State) : List (Nat × Nat × List Nat) :=
  ((List.range 16).filter (fun k => s.is (F.TT_SLOT_CFG_EN k) && !s.is (F.TT_SLOT_CFG_BRIL k))).map
    (fun k => (k, s.get (F.TT_SLOT_CFG_GROUP k), waveWords s.sched.wave k (s.get (F.TT_SLOT_CFG_WLEN k))))

/-- The waveform of slot k in such a list. -/
def slotWords (ks : List (Nat × Nat × List Nat)) (k : Nat) : Option (List Nat) := (ks.find? (fun x => x.1 == k)).map (·.2.2)

/-- The slots of group g in such a list. -/
def groupKey (ks : List (Nat × Nat × List Nat)) (g : Nat) : List (Nat × Nat × List Nat) := ks.filter (fun x => x.2.1 == g)

/-- The words of a timetable's record for capture line n. -/
def lineKey (tt : Timetable) (n : Nat) : List Nat := (List.range 32).map (fun i => timetableWord tt (0x150100 + 128 * n + 4 * i))

/-! ## Segments (R134, R183, R224) -/

/-- Takes the first waiting segment of group g. -/
def takeSegment (g : Nat) : List (Segment × Nat) → Option ((Segment × Nat) × List (Segment × Nat))
  | [] => none
  | x :: xs => if x.1.group = g then some (x, xs) else (takeSegment g xs).map (fun r => (r.1, x :: r.2))

/-- The next segment of group g reaches the segment store and the recorder; a command that names another one than it has no effect. -/
def segmentEmit (group sect index : Nat) (full : Bool) (s : State) : State :=
  match takeSegment group s.fp.queue with
  | none => s
  | some (x, rest) =>
    if x.1.section_ ≠ sect ∨ x.1.first ≠ 1024 * index then s
    else ((({ s with fp := { s.fp with queue := rest } }.countSegment x.1).storeSegment x.1 x.2).recordSegment x.1 full)

/-! ## Sweep boundaries (R36, R45) -/

/-- Does the first sweep still wait for the array's origin (R376)? -/
def State.originAhead (s : State) : Bool :=
  decide (s.sched.sweeps = 0) && decide (s.get F.FL_STATUS_COUNT > 0) && decide (s.get F.FL_STATUS_ID = 0) &&
  (match s.fl.origin with | some o => decide (s.now < o) | none => true)

/-- Does a sweep end at this instant (R45): T after its start, or, before the first sweep, at any? (log entry 116) -/
def State.boundaryDue (s : State) : Bool := decide (s.sched.sweeps = 0) || decide (s.now = s.sched.sweepStart + s.period)

/-- Is a segment or a job of section k between the front pipeline and its retirement? -/
def State.inFabric (s : State) (k : Nat) : Bool := s.fab.store.any (fun x => x.1.section_ == k) || s.fab.jobs.any (fun j => j.seg.section_ == k)

/-- The sections that the active timetable no longer declares end their sample ranges once nothing of theirs is in the fabric (R161, log
entry 109). -/
def State.endGone (s : State) : State :=
  each s.secs (fun x s => if x.1 ≥ s.get F.BS_COUNT_SECTIONS ∧ !s.inFabric x.1 then s.flushAll x.1 else s) s

/-- The end of a sweep and the start of the next one: what the lanes measured, a pending rate and a completed calibration record take effect
between the two. -/
def sweepBoundary (lanes : List LaneMeasure) (s : State) : State :=
  if s.opt.off ∨ s.originAhead ∨ !s.boundaryDue then s
  else ((((s.endSweep.endGone).sweepLanes lanes).applyRate).calEffect false).startSweep

/-! ## The timetable switch (R58–R63) -/

/-- The lead switch comes to a phase, which SB_TT_STATUS shows (R59, R61). -/
def State.setPhase (s : State) (st : Nat) : State := { s with sw := { s.sw with phase := st } }.put F.SB_TT_STATUS_STATE st

/-- A lead switch set PENDING, with its index in SB_TT_STATUS (R61). -/
def State.setLead (s : State) (r : SwitchReq) : State :=
  ({ s with sw := { s.sw with lead := some r } }.setPhase 1).put F.SB_TT_STATUS_PENDING_INDEX r.index

/-- A message of the switch coordination leaves over the Flotis link (R63); a stand-alone module sends none. -/
def State.sendSwitch (s : State) (m : SwitchMsg) : State :=
  if s.get F.FL_STATUS_COUNT = 0 then s else { s with fl := { s.fl with sent := m :: s.fl.sent } }

/-- A request replaced (R35, R61). -/
def State.countReplaced (s : State) : State := (s.bump F.SB_TT_STATUS_REPLACED F.SB_TT_STATUS_RSAT 1).raise 0x0D42 wide 0

/-- A request submitted (R58, R61); MODE 2 or 3 counts as an absent index and so never as the active one. -/
def State.submitSwitch (s : State) (r : SwitchReq) : State :=
  match s.sw.lead with
  | none => if r.mode < 2 ∧ r.index = s.activeIndex then s.put F.SB_TT_STATUS_STATE 4 else s.setLead r
  | some _ =>
    if s.sw.phase = 1 then s.countReplaced.setLead r
    else
      let s := if s.sw.queued.isSome then s.countReplaced else s
      ({ s with sw := { s.sw with queued := some r } }.put F.SB_TT_STATUS_QUEUED 1).put F.SB_TT_STATUS_QUEUED_INDEX r.index

/-- Module 0 passes a request to the array, with the T_L and G that its own timetable of the index has (R63, R376). -/
def State.passRequest (s : State) (r : SwitchReq) : State :=
  match s.sw.timetables.find? (fun tt => tt.index == r.index) with
  | some tt => s.sendSwitch (.request r.index r.mode r.second (timetableTl tt) (timetableWord tt 0x30004 % 32))
  | none => s

/-- A write to SB_TT_REQUEST (R58, R63): ignored before commit and during a shutdown. On modules 1–7 of an array it is answered with REJECT and
leaves the array's switch alone; module 0 passes a request that it takes. -/
def ttRequestWrite (v : Nat) (s : State) : State :=
  if !s.is F.SB_STATUS_COMMITTED ∨ s.is F.PM_STATE_SHUTTING ∨ s.opt.off then s
  else if s.get F.FL_STATUS_ID ≠ 0 then
    if v.testBit 31 then (s.put F.SB_TT_STATUS_STATE 5).put F.SB_TT_STATUS_REJ_CAUSE 4 else s
  else
    let s := (s.put F.SB_TT_REQUEST_MODE (v / 256)).put F.SB_TT_REQUEST_INDEX v
    if v.testBit 31 then
      let r : SwitchReq := ⟨v % 4, v / 256 % 4, s.get F.SB_TT_AT_HI_SEC_HI * 4294967296 + s.get F.SB_TT_AT_LO_SEC_LO, none⟩
      let at_once : Bool := s.sw.lead.isNone && decide (r.mode < 2 ∧ r.index = s.activeIndex)
      (s.submitSwitch r).when (!at_once) (·.passRequest r)
    else s

/-- The rejection is told to the array (R59, R63): by module 0 to the others, by a module 1–7 to module 0 where it is its own. -/
def State.tellRejected (s : State) (module : Nat) : State :=
  if s.get F.FL_STATUS_ID = 0 then s.sendSwitch (.rejected module)
  else if module = s.get F.FL_STATUS_ID then s.sendSwitch (.refused module) else s

/-- What a switch that was PREPARING or READY had prepared is dropped: the tracks of its timetable with the quadrants powered for them (R175), and
its waveforms. -/
def State.dropShadow (s : State) : State :=
  if s.sw.phase ≤ 1 then s
  else { s with fab := { s.fab with nextTracks := [] }, sched := { s.sched with waveShadow := [] } }.powerQuads

/-- A queued request whose lead has gone becomes the lead (R35, R61). The spec says so of the epoch of the switch ahead; of a lead that an array
module rejects it says nothing, and the model lets the queued request follow in the same way (log entry 114). -/
def State.promoteQueued (s : State) : State :=
  match s.sw.queued with
  | some q => (({ s with sw := { s.sw with queued := none } }.put F.SB_TT_STATUS_QUEUED 0).put F.SB_TT_STATUS_QUEUED_INDEX 0).setLead q
  | none => s

/-- The lead switch rejected (R59). -/
def State.rejectSwitch (s : State) (cause module : Nat) : State :=
  let s := s.dropShadow
  let s := { s with sw := { s.sw with lead := none, reports := [], arrayEpoch := none } }
  let s := ((((s.setPhase 0).put F.SB_TT_STATUS_STATE 5).put F.SB_TT_STATUS_REJ_CAUSE cause).put F.SB_TT_STATUS_REJ_MODULE module).raise 0x0D41 wide 0
  (s.tellRejected module).promoteQueued

/-- Does a module 1–7 find another T_L or G under the index than module 0 has (R376)? -/
def SwitchReq.otherGrid (r : SwitchReq) (tt : Timetable) : Bool :=
  match r.grid with
  | some (tl, g) => decide (timetableTl tt ≠ tl ∨ timetableWord tt 0x30004 % 32 ≠ g)
  | none => false

/-- The requested index is checked (R59), its grid against module 0's (R376), home yards for its tracks among the engines present included (R173); the quadrants of the new home yards are powered from PREPARING on (R175). -/
def ttSwitchCheck (s : State) : State :=
  match s.sw.lead with
  | none => s
  | some r =>
    if s.sw.phase ≠ 1 then s
    else match s.sw.timetables.find? (fun tt => tt.index == r.index) with
      | none => s.rejectSwitch 1 (s.get F.FL_STATUS_ID)
      | some tt =>
        if r.mode ≥ 2 then s.rejectSwitch 1 (s.get F.FL_STATUS_ID)
        else if !s.sw.selectable.contains r.index then s.rejectSwitch 2 (s.get F.FL_STATUS_ID)
        else if r.otherGrid tt then s.rejectSwitch 3 (s.get F.FL_STATUS_ID)
        else match s.assignYards tt with
          | none => s.rejectSwitch 2 (s.get F.FL_STATUS_ID)
          | some ts =>
            let s := { s with fab := { s.fab with nextTracks := ts } }
            (s.powerQuads).setPhase 2

/-- The seconds of the time base. -/
def State.nowSec (s : State) : Nat := s.count s.now / (1000 * ms)

/-- The first boundary of the present sweeps at or after an instant. -/
def State.boundaryFrom (s : State) (t : Nat) : Nat :=
  let p := max 1 s.period
  s.sched.sweepStart + (t - s.sched.sweepStart + p - 1) / p * p

/-- Module 0 chooses the epoch once every module, itself included, has reported READY, and sends its instant (R63): a sweep boundary at least one
sweep and 1 ms after the last READY, and at or after the requested second. -/
def State.chooseEpoch (s : State) (r : SwitchReq) : State :=
  let n := s.get F.FL_STATUS_COUNT
  let all := (List.range n).all (fun i => s.sw.reports.any (fun x => x.1 == i + 1))
  if n = 0 ∨ s.get F.FL_STATUS_ID ≠ 0 ∨ s.sw.phase ≠ 3 ∨ !all ∨ s.sw.arrayEpoch.isSome then s
  else
    let last := s.sw.reports.foldl (fun a x => max a x.2) s.sw.readyAt
    let e := last + max ms s.period
    let e := if r.mode = 1 then max e (s.now + (r.second * (1000 * ms) - s.count s.now)) else e
    let b := s.boundaryFrom e
    { s with sw := { s.sw with arrayEpoch := some b } }.sendSwitch (.epochAt b)

/-- The shadow sets are loaded: READY (R59), which a module 1–7 reports to module 0 (R63). A requested second that has passed sets LATE (R60): it
counts as passed from its start on, the instant of its start included, where the spec says only "already passed" (log entry 114). -/
def ttShadowReady (s : State) : State :=
  match s.sw.lead with
  | none => s
  | some r =>
    if s.sw.phase ≠ 2 then s
    else
      let tt := s.sw.timetables.find? (fun tt => tt.index == r.index)
      let s := { s with sw := { s.sw with readyAt := s.now },
                         sched := { s.sched with waveShadow := match tt with | some tt => tt.waves | none => [] } }
      let s := if r.mode = 1 ∧ s.nowSec ≥ r.second then s.put F.SB_TT_STATUS_LATE 1 else s
      let s := s.setPhase 3
      if s.get F.FL_STATUS_ID = 0 then s.chooseEpoch r else s.sendSwitch (.ready (s.get F.FL_STATUS_ID))

/-- May the epoch fall now: at a sweep boundary, one full sweep after READY and at or after the requested second, or in an array at the instant that
module 0 has chosen (R59, R60, R63)? -/
def State.epochDue (s : State) (r : SwitchReq) : Bool :=
  decide (s.sw.phase = 3) && s.boundaryDue &&
  (if s.get F.FL_STATUS_COUNT = 0 then
    decide (s.now ≥ s.sw.readyAt + s.period) && (decide (r.mode ≠ 1) || decide (s.nowSec ≥ r.second))
  else match s.sw.arrayEpoch with | some e => decide (s.now ≥ e) | none => false)

/-- What an epoch does to the sections (R33, R150, R193): each takes its settings with the first job launched after it. -/
def State.epochSections (s : State) (tt : Timetable) (slots : Bool) : State :=
  each (List.range tt.sections.length) (fun k s =>
    match sectionCfg tt k with
    | none => s
    | some c =>
      let x := s.sec k
      let last := match x.next.getLast? with | some n => n.2.1 | none => x.cfg
      s.setSec k { x with next := x.next ++ [(s.sw.epochs, (c, slots || decide (c.restartKey ≠ last.restartKey)))] }) s

/-- Does an epoch to a timetable restart section k (R150)? One that the new timetable does not declare counts as restarted. -/
def State.epochRestarts (s : State) (tt : Timetable) (slots : Bool) (k : Nat) : Bool :=
  match sectionCfg tt k with
  | none => true
  | some c => slots || decide (c.restartKey ≠ (s.cfgNow k).restartKey)

/-- The capture lines that an epoch affects (R62, R242): their section restarts, or their settings differ. -/
def State.epochAffects (s : State) (tt : Timetable) (slots : Bool) (n : Nat) : Bool :=
  let same : Bool := match s.activeTimetable with | some o => decide (lineKey o n = lineKey tt n) | none => false
  !same || s.epochRestarts tt slots (s.get (F.EV_LCFG_SECTION n))

/-- The captures of affected lines close at the last input before the epoch, with the settings that they had (R238, R242). -/
def State.epochClose (s : State) (lines : List Nat) : State :=
  each lines (fun n s => (s.drainLine n).closeWhere n 2 (fun _ => true)) s

/-- What an epoch does to the capture lines (R33, R62, R242): an affected line takes its new settings; any other line takes the declared ARM and
POLICY. `sizes`: the row sizes before. -/
def State.epochLines (s : State) (tt : Timetable) (affected : List Nat) (sizes : List Nat) : State :=
  each (List.range 16) (fun n s =>
    let w := timetableWord tt (0x15011C + 128 * n)
    if affected.contains n then s.setupLine n (sizes.getD n 0) w
    else
      let s := s.put (F.EV_CTRL_POLICY n) (w / 268435456)
      if w.testBit 31 then arm n s else disarm n s) s

/-- Does the newest epoch restart section k (R150)? -/
def State.restarts (s : State) (k : Nat) : Bool := match (s.sec k).next.getLast? with | some n => n.2.2 | none => false

/-- What restarts every group's alignment when an epoch changes it: L_F, POL_K and GRP_K (R124, R139). -/
def State.alignKey (s : State) : List Nat := [s.get F.TT_FIBRE_END_L_F, s.polK, s.grpK]

/-- The groups whose members or waveforms an epoch has changed restart their alignment, or all of them (R124, R139). -/
def State.epochGroups (s : State) (keys : List (Nat × Nat × List Nat)) (all : List Nat) : State :=
  let new := s.slotKey
  let far := decide (all ≠ s.alignKey)
  each (List.range 16) (fun g s =>
    if far || decide (groupKey keys g ≠ groupKey new g) then s.setGrp g { s.grp g with restart := true, atCommit := false } else s) s

/-- The recorder's numbering restarts with the sections that restart (R143, R224). -/
def State.epochStreams (s : State) : State :=
  let f : Nat × Stream → Nat × Stream := fun x => (x.1, { x.2 with restart := x.2.restart || s.restarts x.1 })
  { s with recd := { s.recd with streams := s.recd.streams.map f } }

/-- A track of the new timetable with what the track of the same channel run has come to, whose yard its older jobs keep (R150, R193). -/
def Track.follow (old : List Track) (t : Track) : Track :=
  match old.find? (fun o => o.sect == t.sect && o.run == t.run) with
  | some o => { o with yard := t.yard, weight := t.weight, oldYard := o.yard }
  | none => t

/-- The tracks in force after an epoch: the new ones, and those that only older jobs still use, which have no home yard any more (R193). -/
def nextTrackList (old new : List Track) : List Track :=
  new.map (·.follow old) ++
  (old.filter (fun o => decide (o.yard < 12) && !new.any (fun t => t.sect == o.sect && t.run == o.run))).map
    (fun o => { o with yard := 12, oldYard := o.yard, weight := 0 })

/-- The shed ladder returns to 0 rungs, and the tracks of the new timetable are in force (R173, R191, R193). -/
def State.epochFabric (s : State) : State :=
  let rungs := s.get F.FB_SHED_POS_RUNGS
  let s := s.setRungs 0
  let s := if rungs > 0 then { s with fab := { s.fab with rungAt := some s.now } }.raise 0x0401 wide 0 else s
  let s := { s with fab := { s.fab with tracks := nextTrackList s.fab.tracks s.fab.nextTracks, nextTracks := [] } }
  s.syncTracks.powerQuads

/-- Withholding, the Brillouin count and the ceilings start afresh (R50, R55, R72). -/
def State.epochSchedule (s : State) : State :=
  let s := s.withholdReset
  { s with sched := { s.sched with brilCount := 0, tailRun := [] } }.syncCeilings

/-- What launches before the epoch keep: the live levels (R150, R154). -/
def State.epochKeep (s : State) : State :=
  each (List.range (s.get F.BS_COUNT_SECTIONS)) (fun k s => s.modSec k (fun x => { x with oldLevels := some (s.sw.epochs + 1, s.liveLevels k) })) s

/-- The epoch's changes, between two sweeps (R34). -/
def State.epochApply (s : State) (tt : Timetable) : State :=
  let keys := s.slotKey
  let slots := decide (keys ≠ (s.loadTimetable tt).slotKey)
  let affected := (List.range 16).filter (s.epochAffects tt slots)
  let sizes := (List.range 16).map (fun n => rowBytes (s.lineCount n))
  let s := (s.epochClose affected).epochKeep
  let align := s.alignKey
  let br := s.rwlValues regsTT ++ s.rwlValues regsBR
  let s := s.loadTimetable tt
  let new := s.slotKey
  let s := s.buildReferences (fun k => decide (slotWords keys k = slotWords new k))
  let s := { s with sw := { s.sw with epochs := s.sw.epochs + 1, epochAt := s.now, prev := some s.activeIndex } }
  let s := (s.epochGroups keys align).epochSections tt slots
  let s := (s.epochStreams.epochLines tt affected sizes).retarget
  let s := s.epochFabric.epochSchedule
  s.brEpoch tt.index (decide (s.rwlValues regsTT ++ s.rwlValues regsBR ≠ br))

/-- The epoch (R34, R59–R62): the sweep ends, every shadow set becomes active, the queued switch becomes the lead, and the first sweep of the new
timetable starts. -/
def epoch (lanes : List LaneMeasure) (s : State) : State :=
  match s.sw.lead with
  | none => s
  | some r =>
    match s.sw.timetables.find? (fun tt => tt.index == r.index) with
    | none => s
    | some tt =>
      if s.opt.off ∨ !s.epochDue r then s
      else
        let old := s.activeIndex
        let s := ((s.endSweep.sweepLanes lanes).applyRate).calEffect false
        let s := s.epochApply tt
        let s := { s with sw := { s.sw with lead := none, phase := 0, reports := [], arrayEpoch := none, done := some (tt.index, old) } }
        s.promoteQueued.startSweep

/-- The switch is shown as DONE (R59): 0x0D40 carries the epoch's stamp, the new and the old index. -/
def ttSwitchDone (s : State) : State :=
  match s.sw.done with
  | none => s
  | some (new, old) =>
    let s := { s with sw := { s.sw with done := none } }
    let s := ((s.put F.SB_TT_STATUS_ACTIVE new).put F.TT_ID_ACTIVE new).raiseAt s.sw.epochAt 0x0D40 wide (new + 256 * old)
    if s.sw.lead.isSome then s else s.put F.SB_TT_STATUS_STATE 4

/-- The word of TT_WAVE_DATA (R65). -/
def State.waveWord (s : State) : Nat :=
  let k := s.get F.TT_WAVE_SEL_SLOT
  if s.is (F.TT_SLOT_CFG_EN k) then (waveWords s.sched.wave k (s.get (F.TT_SLOT_CFG_WLEN k))).getD (s.get F.TT_WAVE_SEL_ADDR) 0 else 0

/-- A read of TT_WAVE_DATA: the word, and ADDR advanced (R65). -/
def waveDataRead (s : State) : State :=
  let w := s.waveWord
  { s.bumpWrap F.TT_WAVE_SEL_ADDR 1 with resp := [w] }

/-! ## Meanings -/

/-- SEGMENT_EMIT (R134). -/
def execSegmentEmit (t group sect index : Nat) (full : Bool) (s : State) : Outcome := runAt t s (segmentEmit group sect index full)
/-- SWEEP_BOUNDARY (R45). -/
def execSweepBoundary (t : Nat) (lanes : List LaneMeasure) (s : State) : Outcome := runAt t s (sweepBoundary lanes)
/-- TT_SWITCH_REQUEST (R58, R63). -/
def execTtSwitchRequest (_src : Source) (t value : Nat) (s : State) : Outcome := runAt t s (access 0x20100 (ttRequestWrite value))
/-- TT_SWITCH_CHECK (R59). -/
def execTtSwitchCheck (t : Nat) (s : State) : Outcome := runAt t s ttSwitchCheck
/-- TT_SHADOW_READY (R59, R60). -/
def execTtShadowReady (t : Nat) (s : State) : Outcome := runAt t s ttShadowReady
/-- EPOCH (R34, R59–R62). -/
def execEpoch (t : Nat) (lanes : List LaneMeasure) (s : State) : Outcome := runAt t s (epoch lanes)
/-- TT_SWITCH_DONE (R59). -/
def execTtSwitchDone (t : Nat) (s : State) : Outcome := runAt t s ttSwitchDone
/-- TT_WAVE_DATA_READ (R65). -/
def execTtWaveDataRead (t : ReadAt) (s : State) : Outcome := readAt t s (access 0x30034 waveDataRead)

end Sys2Proof.Machine
end

