-- ==== Sys2Proof/Machine/Crypto.lean ====
section
/-!
DEFINITION. Machine/Crypto.lean: the digest and the signature of seals and keys (R341, R414): SHA-256, HMAC, ECDSA on P-256 and the nonce of
RFC 6979. The manual names them; their arithmetic is that of the standards (log entry 2).
-/
namespace Sys2Proof.Machine

/-! ## Bytes -/

/-- The `n` bytes of a number, most significant first. -/
def beBytes (v n : Nat) : List (BitVec 8) := (List.range n).map (fun i => BitVec.ofNat 8 (v / 2 ^ (8 * (n - 1 - i))))

/-- The number that bytes spell, most significant first. -/
def beNat (bs : List (BitVec 8)) : Nat := bs.foldl (fun a b => 256 * a + b.toNat) 0

/-! ## SHA-256

Its constants are the first 32 fraction bits of square and cube roots of the first primes, and are computed here. -/

/-- The bits below bit `f` added to `r`, highest first, while the k-th power stays within `n`: the whole part of the k-th root. -/
def rootBits (k n : Nat) : Nat → Nat → Nat
  | 0, r => r
  | f + 1, r => rootBits k n f (if (r + 2 ^ f) ^ k ≤ n then r + 2 ^ f else r)

/-- The primes below 312, of which there are 64; each number below has its smallest factor below 18. -/
def smallPrimes : List Nat :=
  (List.range 312).filter (fun n => decide (2 ≤ n) && (List.range 18).all (fun d => decide (d < 2 ∨ n ≤ d ∨ n % d ≠ 0)))

/-- The first 32 fraction bits of the k-th root of a prime. -/
def rootFraction (k p : Nat) : BitVec 32 := BitVec.ofNat 32 (rootBits k (p * 2 ^ (32 * k)) 37 0)

/-- A word turned right by each of the given places, all joined by exclusive or. -/
def turns (places : List Nat) (x : BitVec 32) : BitVec 32 := places.foldl (fun acc n => acc ^^^ x.rotateRight n) 0

/-- The chaining value: its upper and its lower four words. -/
abbrev Digest := List (BitVec 32) × List (BitVec 32)

/-- The value that the first block starts from. -/
def digestStart : Digest := let h := (smallPrimes.take 8).map (rootFraction 2); (h.take 4, h.drop 4)

/-- One round with the sum of its constant and its schedule word: each half moves down by a word. -/
def digestRound (st : Digest) (kw : BitVec 32) : Digest :=
  let (up, low) := st
  let at_ := fun (l : List (BitVec 32)) (i : Nat) => l.getD i 0
  let pick := at_ low 2 ^^^ (at_ low 0 &&& (at_ low 1 ^^^ at_ low 2))
  let most := at_ up 0 &&& (at_ up 1 ||| at_ up 2) ||| (at_ up 1 &&& at_ up 2)
  let t := kw + at_ low 3 + pick + turns [6, 11, 25] (at_ low 0)
  ((t + most + turns [2, 13, 22] (at_ up 0)) :: up.take 3, (at_ up 3 + t) :: low.take 3)

/-- The schedule of a block: `n` more words after those there are. -/
def schedule : Nat → List (BitVec 32) → List (BitVec 32)
  | 0, ws => ws
  | n + 1, ws =>
    let back := fun (k : Nat) => ws.getD (ws.length - k) 0
    schedule n (ws ++ [back 16 + back 7 + (turns [7, 18] (back 15) ^^^ (back 15 >>> 3)) + (turns [17, 19] (back 2) ^^^ (back 2 >>> 10))])

/-- A block of 64 bytes taken into the chaining value. -/
def digestBlock (st : Digest) (block : List (BitVec 8)) : Digest :=
  let ws := schedule 48 ((List.range 16).map (fun i => BitVec.ofNat 32 (beNat ((block.drop (4 * i)).take 4))))
  let out := (ws.zipWith (· + ·) (smallPrimes.map (rootFraction 3))).foldl digestRound st
  (out.1.zipWith (· + ·) st.1, out.2.zipWith (· + ·) st.2)

/-- A message with its end mark and its length in bits, in whole blocks. -/
def padMessage (bs : List (BitVec 8)) : List (BitVec 8) :=
  let size := (bs.length + 72) / 64 * 64
  padTo 0 (size - 8) (bs ++ [0x80]) ++ beBytes (8 * bs.length) 8

/-- SHA-256 (log entry 2). -/
def sha256 (bs : List (BitVec 8)) : List (BitVec 8) :=
  let msg := padMessage bs
  let (up, low) := (List.range (msg.length / 64)).foldl (fun st k => digestBlock st ((msg.drop (64 * k)).take 64)) digestStart
  (up ++ low).flatMap (fun w => beBytes w.toNat 4)

/-- HMAC with SHA-256 and a key of at most 64 bytes. -/
def hmac (key msg : List (BitVec 8)) : List (BitVec 8) :=
  let k := key ++ List.replicate (64 - key.length) 0
  sha256 (k.map (· ^^^ 0x5C) ++ sha256 (k.map (· ^^^ 0x36) ++ msg))

/-! ## P-256 -/

/-- The field's prime. -/
def ecPrime : Nat := 0xffffffff00000001000000000000000000000000ffffffffffffffffffffffff

/-- The order of the base point. -/
def ecOrder : Nat := 0xffffffff00000000ffffffffffffffffbce6faada7179e84f3b9cac2fc632551

/-- The base point. -/
def ecBase : Option (Nat × Nat) :=
  some (0x6b17d1f2e12c4247f8bce6e563a440f277037d812deb33a0f4a13945d898c296,
    0x4fe342e2fe1a7f9b8ee7eb4a7c0f9e162bce33576b315ececbb6406837bf51f5)

/-- acc × b^e modulo m, over the lowest bits of e. -/
def powMod (m : Nat) : Nat → Nat → Nat → Nat → Nat
  | 0, _, _, acc => acc
  | f + 1, b, e, acc => powMod m f (b * b % m) (e / 2) (if e % 2 = 1 then acc * b % m else acc)

/-- The inverse modulo a 256-bit prime. -/
def invMod (m a : Nat) : Nat := powMod m 256 (a % m) (m - 2) 1

/-- The point on the chord or tangent of slope l through (x, y) and a point of abscissa x', mirrored. -/
def ecChord (l x y x' : Nat) : Option (Nat × Nat) :=
  let p := ecPrime
  let u := (l * l + 2 * p - x - x') % p
  some (u, (l * (x + p - u) + p - y) % p)

/-- The sum of two points of the curve; none is the point at infinity. -/
def ecAdd : Option (Nat × Nat) → Option (Nat × Nat) → Option (Nat × Nat)
  | none, b => b
  | a, none => a
  | some (x, y), some (x', y') =>
    let p := ecPrime
    if x = x' then
      if (y + y') % p = 0 then none else ecChord ((3 * x * x + p - 3) * invMod p (2 * y) % p) x y x
    else ecChord ((y' + p - y) * invMod p (x' + p - x) % p) x y x'

/-- acc + k × a, over the lowest bits of k. -/
def ecMul : Nat → Nat → Option (Nat × Nat) → Option (Nat × Nat) → Option (Nat × Nat)
  | 0, _, _, acc => acc
  | f + 1, k, a, acc => ecMul f (k / 2) (ecAdd a a) (if k % 2 = 1 then ecAdd acc a else acc)

/-- The public key of a private one: x then y, each big-endian (R436). -/
def ecdsaPublic (d : Nat) : List (BitVec 8) :=
  match ecMul 256 d ecBase none with
  | some (x, y) => beBytes x 32 ++ beBytes y 32
  | none => List.replicate 64 0

/-! ## ECDSA with the nonce of RFC 6979 (R341) -/

/-- r and s for a nonce, where both are proper. -/
def ecdsaTry (d z k : Nat) : Option (Nat × Nat) :=
  match ecMul 256 k ecBase none with
  | none => none
  | some (x, _) =>
    let r := x % ecOrder
    let s := invMod ecOrder k * ((z + r * d) % ecOrder) % ecOrder
    if k = 0 ∨ k ≥ ecOrder ∨ r = 0 ∨ s = 0 then none else some (r, s)

/-- The candidates of RFC 6979 one after another, the first proper one taken; 64 candidates of which each fails with a chance below 2⁻³¹. -/
def ecdsaFind (d z : Nat) : Nat → List (BitVec 8) → List (BitVec 8) → Nat × Nat
  | 0, _, _ => (0, 0)
  | f + 1, key, v =>
    let v := hmac key v
    match ecdsaTry d z (beNat v) with
    | some rs => rs
    | none => let key := hmac key (v ++ [0]); ecdsaFind d z f key (hmac key v)

/-- The signature of a digest: r then s, each big-endian (R340, R341). -/
def ecdsaSign (d : Nat) (digest : List (BitVec 8)) : List (BitVec 8) :=
  let z := beNat digest
  let x := beBytes d 32 ++ beBytes (z % ecOrder) 32
  let v := List.replicate 32 (1 : BitVec 8)
  let key := hmac (List.replicate 32 0) (v ++ [0] ++ x)
  let v := hmac key v
  let key := hmac key (v ++ [1] ++ x)
  let (r, s) := ecdsaFind d z 64 key (hmac key v)
  beBytes r 32 ++ beBytes s 32

end Sys2Proof.Machine
end

