-- ==== Sys2Proof/Machine/Output.lean ====
section
/-!
DEFINITION. Machine/Output.lean: the output path (chapter 13): areas and the platform ring (R333–R339), seals (R340–R342), check-value units
(R343–R345), the notice board's consumption (R346), MSI-X (R348) and the PCIe function (R350).
-/
namespace Sys2Proof.Machine

/-! ## Regions (R333) -/

/-- The largest power of two that is at most `n`, from 2^k down. -/
def floorPow2 (n : Nat) : Nat → Nat
  | 0 => 1
  | k + 1 => if 2 ^ (k + 1) ≤ n then 2 ^ (k + 1) else floorPow2 n k

/-- A count as the signal box takes it (R333): clamped to its range and rounded down to a power of two. -/
def ringCount (lo hi n : Nat) : Nat := floorPow2 (max lo (min hi n)) 17

/-- The sidings in force. -/
def State.sidings (s : State) : Nat := min 4 (s.get F.CX_CFG_SIDINGS)

/-- The sizes of the regions brought into their ranges (R333). -/
def State.clampRegions (s : State) : State :=
  let s := s.put F.HW_RING_SIZE_SIZE (ringCount 256 65536 (s.get F.HW_RING_SIZE_SIZE))
  let s := s.put F.HW_NB_SIZE_SIZE (ringCount 1024 65536 (s.get F.HW_NB_SIZE_SIZE))
  s.put F.HW_FRAME_SIZE_SIZE (max 16 (min 512 (s.get F.HW_FRAME_SIZE_SIZE)))

/-- The fixed regions placed one behind the other (log entry 43): every size is a multiple of 4 KiB. -/
def State.placeRegions (s : State) : State :=
  let s := s.clampRegions
  let nb := 16 * s.get F.HW_RING_SIZE_SIZE
  let se := nb + 32 * s.get F.HW_NB_SIZE_SIZE
  let aux := se + 2 * 2 ^ 20
  let frame := aux + 4 * 2 ^ 20
  let side := frame + s.get F.HW_FRAME_SIZE_SIZE * 2 ^ 20
  let s := (((s.put F.HW_RING_BASE_OFFSET 0).put F.HW_NB_BASE_OFFSET nb).put F.HW_SEAL_BASE_OFFSET se).put F.HW_AUX_BASE_OFFSET aux
  let s := s.put F.HW_FRAME_BASE_OFFSET frame
  let n := s.sidings
  let s := each (List.range 4) (fun i s => s.put (F.HW_SIDING_BASE_OFFSET i) (if i < n then side + i * 16 * 2 ^ 20 else 0)) s
  s.put F.BS_DFIFO_BASE_OFFSET (side + n * 16 * 2 ^ 20)

/-- The bytes of an area, and of the pieces that no frame crosses (R337, R338). -/
def State.areaSize (s : State) (area : Nat) : Nat × Nat :=
  match area with
  | 0 => (s.get F.HW_FRAME_SIZE_SIZE * 2 ^ 20, s.get F.HW_FRAME_SIZE_SIZE * 2 ^ 20)
  | 1 => (s.sidings * (16 * 2 ^ 20), 16 * 2 ^ 20)
  | 6 => (4 * 2 ^ 20, 4 * 2 ^ 20)
  | _ => (2 * 2 ^ 20, 2 ^ 15)

/-- The window offset of a place in an area. -/
def State.windowOffset (s : State) (area pos : Nat) : Nat :=
  match area with
  | 0 => s.get F.HW_FRAME_BASE_OFFSET + pos
  | 1 => s.get (F.HW_SIDING_BASE_OFFSET (pos / (16 * 2 ^ 20))) + pos % (16 * 2 ^ 20)
  | 6 => s.get F.HW_AUX_BASE_OFFSET + pos
  | _ => s.get F.HW_SEAL_BASE_OFFSET + pos

/-- The area number of a descriptor (R335). -/
def areaCode (area pos : Nat) : Nat := if area = 1 then 1 + pos / (16 * 2 ^ 20) else area

/-- The frames of an area, oldest first. -/
def State.inArea (s : State) (area : Nat) : List Placed := s.out.placed.filter (fun p => p.area == area)

/-- Where a frame of `len` bytes starts in an area, if it has room (R337, R338). -/
def State.room (s : State) (area len : Nat) : Option Nat :=
  let (cap, piece) := s.areaSize area
  let ps := s.inArea area
  let head := kvGet 0 s.out.heads area
  let head := if head % piece + len ≤ piece then head else (head / piece + 1) * piece
  if len > piece ∨ cap = 0 then none
  else
    match ps.head?, ps.getLast? with
    | some a, some b =>
      if b.offset ≥ a.offset then
        if head + len ≤ cap then some head else if len ≤ a.offset then some 0 else none
      else if head + len ≤ a.offset then some head else none
    | _, _ => if head + len ≤ cap then some head else some 0

/-! ## The ring (R335–R337) -/

/-- The descriptor of a slot; a slot never posted is the module's (R335). -/
def State.desc (s : State) (slot : Nat) : Desc := kvGet {} s.out.ring slot

/-- Does the module own a slot? -/
def State.owns (s : State) (slot : Nat) : Bool := (s.desc slot).control.testBit 31

/-- The frames that wait for a slot. -/
def State.unposted (s : State) : List Placed := s.out.placed.filter (fun p => p.slot.isNone)

/-- Are there unposted frames in the sidings? -/
def State.sided (s : State) : Bool := s.unposted.any (fun p => p.area == 1)

/-- Has a new frame a slot of the platform ring at once (R338)? -/
def State.slotReady (s : State) : Bool :=
  let ring := s.get F.HW_RING_SIZE_SIZE
  let n := s.unposted.length
  decide (n < ring) && s.owns ((s.get F.HW_RING_NEXT_SLOT + n) % ring)

/-- The space freed at the front of each area: posted frames whose slots have come back (R337). -/
def State.freeSpace (s : State) : State :=
  let live := fun (area : Nat) => (s.inArea area).dropWhile (fun p => p.back)
  { s with out := { s.out with placed := s.out.placed.filter (fun p => (live p.area).contains p) } }

/-- CX_SIDE_FILL and CX_STATUS SIDED brought to the sidings. -/
def State.syncSidings (s : State) : State :=
  let used := (s.inArea 1).foldl (fun a p => a + p.len) 0
  let f := used * 10000 / max 1 (s.areaSize 1).1
  ((s.putB F.CX_STATUS_SIDED s.sided).putSat F.CX_SIDE_FILL_FILL f).putSat F.CX_SIDE_FILL_PEAK (max f (s.get F.CX_SIDE_FILL_PEAK))

/-! ## Seals' account of a second (R340, R341) -/

/-- A frame issued in the second in progress: stream, sequence, bytes and HOLDOVER. -/
def State.sealFrame (s : State) (stream seq : Nat) (bytes : List (BitVec 8)) (hold : Bool) : State :=
  let x := s.out.cur
  let e : SealStream := match x.streams.find? (fun y => y.1 == stream) with
    | some (_, e) => { e with last := seq, n := e.n + 1, digests := e.digests ++ sha256 bytes }
    | none => ⟨seq, seq, 1, sha256 bytes⟩
  { s with out := { s.out with cur := { x with hold := x.hold || hold, streams := kvIns stream e (kvDel stream x.streams) } } }

/-- A frame discarded in the second in progress: it lengthens the stream's latest run or opens one (R26, R340). -/
def State.sealGap (s : State) (stream seq : Nat) : State :=
  let x := s.out.cur
  let joins := fun (g : Nat × (Nat × Nat)) => g.1 == stream && (g.2.1 + g.2.2) % 2 ^ 32 == seq
  let gaps := if x.gaps.any joins then x.gaps.map (fun g => if joins g then (g.1, (g.2.1, g.2.2 + 1)) else g) else x.gaps ++ [(stream, (seq, 1))]
  { s with out := { s.out with cur := { x with gaps := gaps } } }

/-- A second boundary of the time base (R340): the second in progress closes, and `second` opens. -/
def State.sealBoundary (s : State) (second : Nat) : State :=
  let drained : Bool := match s.pw.shut with | some x => decide (x.step ≥ 2) | none => false
  if !s.is F.SB_STATUS_COMMITTED ∨ !s.domainOn 13 ∨ drained then s
  else
    let x := s.out.cur
    let s := { s with out := { s.out with due := s.out.due ++ [x],
                                          cur := { seq := (x.seq + 1) % 2 ^ 64, stamp := stampOf (second * (1000 * ms)) } } }
    s.put F.CX_SEAL_SEQ_SEQ s.out.cur.seq

/-! ## Placing frames (R331, R338, R339) -/

/-- The mode and the target of a frame (R329). -/
def State.modeOf (s : State) (f : Frame) : Nat × Nat :=
  if f.stream = 256 then (s.get F.CX_AUX_BR_MODE, s.get F.CX_AUX_TARGET)
  else if f.stream = 257 then (s.get F.CX_AUX_RTD_MODE, s.get F.CX_AUX_TARGET)
  else
    let k := f.stream
    let m := match f.product with
      | 1 => s.get (F.CX_SECT_FINE k)
      | 2 => s.get (F.CX_SECT_SKETCH k)
      | 3 => s.get (F.CX_SECT_DETECT k)
      | 4 => s.get (F.CX_SECT_BANDS k)
      | _ => s.get (F.CX_SECT_FEATURE k)
    (m, s.get (F.CX_SECT_TARGET k))

/-- Is it a Brillouin or RTD frame, which waits in the auxiliary queue (R338)? -/
def Frame.aux (f : Frame) : Bool := f.stream == 256 || f.stream == 257

/-- A frame written at a place: its bytes, the alive counter (R323) and the seal of the second. -/
def State.putFrame (s : State) (f : Frame) (area pos flags : Nat) (coded : Nat × List (BitVec 8) × List Int × Bool) : State :=
  let alive := kvGet 0 s.out.alive f.stream
  let bytes := frameBytes (s.get F.FL_STATUS_ID) alive (s.out.cur.seq % 2 ^ 32) flags coded f
  let len := (bytes.length + 63) / 64 * 64
  let s := s.wrBytes (spaceBar2 + s.windowOffset area pos) bytes
  let s := { s with out := { s.out with
                      alive := kvSet 0 s.out.alive f.stream ((alive + 1) % 16),
                      placed := s.out.placed ++ [({ area := area, offset := pos, len := bytes.length, stream := f.stream, product := f.product } : Placed)],
                      heads := kvSet 0 s.out.heads area (pos + len) } }
  s.sealFrame f.stream f.seq bytes (f.flags.testBit 4)

/-- The length of a frame's bytes. -/
def frameLen (coded : Nat × List (BitVec 8) × List Int × Bool) (f : Frame) : Nat := 64 + f.preamble.length + coded.2.1.length + f.qmap.length

/-- A frame is discarded whole: its stream's sequence has passed over it (R26, R339). -/
def State.discardFrame (s : State) (f : Frame) : State :=
  (s.bump F.CX_DISCARDED_COUNT F.CX_CNT_SAT_DISC_SAT 1).sealGap f.stream f.seq

/-- Is a frame discarded when it is built (R339)? A Brillouin or RTD frame is where every section is in the set and the queue is full. -/
def State.discards (s : State) (f : Frame) (len : Nat) : Bool :=
  if f.aux then decide (s.get F.BS_COUNT_SECTIONS > 0 ∧ s.out.disc.length ≥ s.get F.BS_COUNT_SECTIONS) && (s.room 6 len).isNone
  else s.out.disc.contains f.stream

/-- A frame coded and placed; `none` where nothing has room for it (R338, R339). -/
def State.placeFrame (s : State) (f : Frame) : Option State :=
  let (mode, target) := s.modeOf f
  let coded := codeArray mode target f
  let len := frameLen coded f
  let shrunk := fun (s : State) => if coded.2.2.2 then (s.bump F.CX_NOSHRINK_COUNT F.CX_CNT_SAT_NOSH_SAT 1).raisePerSecond 0x0A07 wide 0 else s
  let flags := f.flags + (if coded.2.2.2 then 1024 else 0)
  let stored := (len + 63) / 64 * 64
  let direct := if s.slotReady ∧ (f.aux ∨ !s.sided) then s.room 0 stored else none
  match direct with
  | some p => some ((shrunk (s.putFrame f 0 p flags coded)).when f.aux (fun s => s.put F.CX_STATUS_AUX_DISCARD 0))
  | none =>
    if s.discards f stored then some ((s.discardFrame f).when f.aux (fun s => s.put F.CX_STATUS_AUX_DISCARD 1))
    else if f.aux then (s.room 6 stored).map (fun p => (shrunk (s.putFrame f 6 p flags coded)).put F.CX_STATUS_AUX_DISCARD 0)
    else (s.room 1 stored).map (fun p =>
      let first := !s.sided
      let s := shrunk (s.putFrame f 1 p (flags + 2048) coded)
      let s := s.bump F.CX_SIDED_COUNT F.CX_CNT_SAT_SIDE_SAT 1
      (if first then s.raise 0x0A01 wide 0 else s).syncSidings)

/-- The builder stops taking results (R339). -/
def State.block (s : State) : State :=
  if s.is F.CX_STATUS_BLOCKED then s
  else { s with out := { s.out with blockedAt := some s.now } }.put F.CX_STATUS_BLOCKED 1 |>.raise 0x0A03 wide 0

/-- The block ends when every held frame has been placed (R339). -/
def State.unblock (s : State) : State :=
  if s.is F.CX_STATUS_BLOCKED ∧ s.built.isEmpty then
    { s with out := { s.out with blockedAt := none, freeAt := some s.now } }.put F.CX_STATUS_BLOCKED 0 |>.raise 0x0A04 wide 0
  else s

/-- FRAME_PLACE: the frame built first is placed or discarded; one that has no room blocks the builder, and the next frame of the other kind
(block sections on one hand, Brillouin and RTD on the other) is tried. -/
def framePlace (s : State) : State :=
  match s.built with
  | [] => s
  | f :: rest =>
    let s : State := if s.out.disc.contains f.stream then { s.discardFrame f with built := rest } else
      match s.placeFrame f with
      | some s => { s with built := rest }
      | none =>
        let s := s.block
        match rest.findIdx? (fun g => g.aux != f.aux) with
        | none => s
        | some i =>
          match rest[i]? with
          | none => s
          | some g => match s.placeFrame g with
            | some s => { s with built := f :: rest.eraseIdx i }
            | none => s
    s.unblock

/-! ## Posting (R336, R348) -/

/-- The cause of vector 0, and the account of posts not yet announced where a message goes (R348). -/
def State.frameCause (s : State) : State :=
  let before := kvGet 0 s.ev.messages 0
  let s := s.vectorCause 0
  if kvGet 0 s.ev.messages 0 ≠ before then { s with ev := { s.ev with unannounced := 0, oldest := none } } else s

/-- The slot of the next post moves on, with the lap (R335, R336). -/
def State.nextSlot (s : State) : State :=
  let n := s.get F.HW_RING_NEXT_SLOT + 1
  if n ≥ s.get F.HW_RING_SIZE_SIZE then (s.put F.HW_RING_NEXT_SLOT 0).bumpWrap F.HW_RING_NEXT_LAP 1 else s.put F.HW_RING_NEXT_SLOT n

/-- The frame that is posted next: a seal, then an auxiliary frame, then the frame area, then the sidings (R338). -/
def State.nextPost (s : State) : Option Placed :=
  [5, 6, 0, 1].findSome? (fun a => s.unposted.find? (fun p => p.area == a))

/-- FRAME_POST (R336): `ue` where the Control word reads uncorrectable, so that the slot is skipped. -/
def framePost (ue : Bool) (s : State) : State :=
  match s.nextPost with
  | none => s
  | some p =>
    let slot := s.get F.HW_RING_NEXT_SLOT
    if ue then
      let s := (s.bump F.EC_UE_COUNT F.EC_CNT_SAT_UE_SAT 1).raisePerSecond 0x0902 0 0
      ((s.bump F.HW_SKIPPED_COUNT F.HW_CNT_SAT_SKIP_SAT 1).raise 0x0A0B wide 0).nextSlot
    else if !s.owns slot then s
    else
      let d : Desc := { offset := s.windowOffset p.area p.offset, length := p.len,
                        status := p.stream + p.product * 2 ^ 16 + areaCode p.area p.offset * 2 ^ 24 + (if p.area = 1 then 2 ^ 27 else 0),
                        control := s.get F.HW_RING_NEXT_LAP }
      let was := s.sided
      let s := { s with out := { s.out with ring := kvSet {} s.out.ring slot d,
                                            placed := s.out.placed.map (fun (q : Placed) => if q = p then { q with slot := some slot } else q) } }
      let s := (s.nextSlot.bumpWrap F.HW_RING_POSTED_COUNT 1).syncSidings
      let s := if was && !s.sided then s.raise 0x0A02 wide 0 else s
      let s := { s with ev := { s.ev with unannounced := s.ev.unannounced + 1, oldest := some (s.ev.oldest.getD s.now) } }
      if s.ev.unannounced ≥ max 1 (s.get F.HW_IRQ_CFG_FRAMES) then s.frameCause else s

/-- A return write (R337): a slot that the module owns already is left. -/
def ringReturn (slot : Nat) (s : State) : State :=
  if slot ≥ s.get F.HW_RING_SIZE_SIZE ∨ s.owns slot then s
  else
    let s := { s with out := { s.out with ring := kvSet {} s.out.ring slot { s.desc slot with control := 2147483648 },
                                          placed := s.out.placed.map (fun (p : Placed) => if p.slot = some slot then { p with back := true } else p) } }
    s.freeSpace.syncSidings

/-- Any other BAR2 write (R334). -/
def bar2WriteRejected (s : State) : State := (s.bump F.HW_BAD_WRITES_COUNT F.HW_CNT_SAT_BADW_SAT 1).raisePerSecond 0x0A0E wide 0

/-! ## Discarding (R339) -/

/-- CX_STATUS brought to the discard set. -/
def State.syncDiscard (s : State) : State :=
  (s.putSat F.CX_STATUS_DISCARD_SECTS s.out.disc.length).putB F.CX_STATUS_DISCARDING (!s.out.disc.isEmpty)

/-- May a section join: the ladder full and the builder blocked, both for DWELL and for DWELL since the last joined? -/
def State.joinDue (s : State) : Bool :=
  let dwell := max 1 (s.get F.FB_SHED_CFG_DWELL) * ms
  match s.out.blockedAt with
  | none => false
  | some b =>
    decide (s.get F.FB_SHED_POS_RUNGS ≥ 3 * s.get F.BS_COUNT_SECTIONS) &&
    decide (s.now ≥ max b (s.fab.rungAt.getD 0) + dwell) && (s.out.disc.isEmpty || decide (s.now ≥ s.out.discAt + dwell))

/-- The next section joins the discard set, and its held frames go. -/
def discardJoin (s : State) : State :=
  if !s.joinDue then s
  else
    match s.sectionOrder.find? (fun k => !s.out.disc.contains k) with
    | none => s
    | some k =>
      let s := if s.out.disc.isEmpty then s.raise 0x0A05 wide 0 else s
      let s := { s with out := { s.out with disc := k :: s.out.disc, discAt := s.now } }
      let gone := s.built.filter (fun f => f.stream == k)
      let s := each gone (fun f s => s.discardFrame f) { s with built := s.built.filter (fun f => f.stream != k) }
      s.syncDiscard.unblock

/-- The latest section leaves the set after HOLD without a block. -/
def discardLeave (s : State) : State :=
  let hold := max 1 (s.get F.FB_SHED_CFG_HOLD) * ms
  match s.out.disc, s.out.freeAt with
  | _ :: ks, some u =>
    if s.is F.CX_STATUS_BLOCKED ∨ s.now < max u s.out.discAt + hold then s
    else
      let s := { s with out := { s.out with disc := ks, discAt := s.now } }
      let s := if ks.isEmpty then (s.endConds 0x0A05).raise 0x0A06 wide 0 else s
      (s.syncDiscard).put F.CX_STATUS_AUX_DISCARD 0
  | _, _ => s

/-! ## Seals (R340–R342) -/

/-- Does the module sign: the key generated and not zeroised, in PROVISION or FIELD (R416, R417)? -/
def State.signingKey (s : State) : Option (List (BitVec 8)) :=
  if s.otp.life = 1 ∨ s.otp.life = 2 then s.otp.sealKey else none

/-- The seal record of a second up to its signature (R340). -/
def State.sealRecord (s : State) (x : SealSecond) : List (BitVec 8) :=
  let gaps := x.gaps.take 1024
  let flags := (if s.out.chainStart then 1 else 0) + (if x.hold then 2 else 0) + (if x.gaps.length > 1024 then 4 else 0)
  let len := 128 + 48 * x.streams.length + 16 * gaps.length + 64
  let keyHash := match s.signingKey, s.otp.sealPub with
    | some _, some p => sha256 p
    | _, _ => List.replicate 32 0
  leBytes 0x4C414553 4 ++ leBytes 1 2 ++ leBytes (s.get F.FL_STATUS_ID) 1 ++ leBytes flags 1 ++ leBytes x.seq 8 ++ leBytes x.stamp 12 ++
  leBytes s.out.sealLost 4 ++ padTo 0 32 (if s.out.chainStart then [] else s.out.prevHash) ++ leBytes s.otp.serial 8 ++
  leBytes x.streams.length 2 ++ leBytes gaps.length 2 ++ leBytes len 4 ++ keyHash ++ List.replicate 16 0 ++
  x.streams.flatMap (fun e => leBytes e.1 4 ++ leBytes e.2.first 4 ++ leBytes e.2.last 4 ++ leBytes e.2.n 4 ++ sha256 e.2.digests) ++
  gaps.flatMap (fun g => leBytes g.1 4 ++ leBytes g.2.1 4 ++ leBytes g.2.2 4 ++ leBytes 0 4)

/-- A seal record with its signature (R341, R416). -/
def State.signSeal (s : State) (body : List (BitVec 8)) : List (BitVec 8) :=
  body ++ (match s.signingKey with
    | some k => ecdsaSign (beNat k) (sha256 body)
    | none => List.replicate 64 0)

/-- Where 64 seals wait, the oldest is dropped (R342). -/
def State.dropSeal (s : State) : State :=
  let waiting := s.unposted.filter (fun p => p.area == 5)
  match waiting with
  | p :: _ =>
    if waiting.length < 64 then s
    else
      let s := { s with out := { s.out with placed := s.out.placed.erase p, sealLost := s.out.sealLost + 1 } }
      (s.bump F.CX_SEAL_LOST_COUNT F.CX_CNT_SAT_LOST_SAT 1).raise 0x0A08 wide 0
  | [] => s

/-- The piece of the seal area for the next seal, of 64 pieces of 32 KiB (R333, R342): the next that holds no seal which waits or which host
software has not returned (log entry 45). -/
def State.sealPlace (s : State) : Nat :=
  let held := fun (k : Nat) => s.out.placed.any (fun p => p.area == 5 && !p.back && p.offset == k * 2 ^ 15)
  (((List.range 64).map (fun i => (s.out.sealSlot + i) % 64)).find? (fun k => !held k)).getD s.out.sealSlot

/-- A second's seal is built, signed and placed as a frame of stream 0x0102 (R340–R342). -/
def State.buildSeal (s : State) (x : SealSecond) : State :=
  let s := s.dropSeal
  let rec_ := s.signSeal (s.sealRecord x)
  let f : Frame := { stream := 258, product := 18, seq := s.out.sealSeq, stamp := x.stamp, first := 0, chans := 0, samples := 0, flags := 0,
                     preamble := [], v := 0, vals := [], qmap := pad8 rec_ }
  let alive := kvGet 0 s.out.alive 258
  let bytes := frameBytes (s.get F.FL_STATUS_ID) alive (x.seq % 2 ^ 32) 0 (0, [], [], false) f
  let pos := s.sealPlace * 2 ^ 15
  let s := s.wrBytes (spaceBar2 + s.windowOffset 5 pos) bytes
  { s with out := { s.out with
      alive := kvSet 0 s.out.alive 258 ((alive + 1) % 16),
      placed := s.out.placed ++ [({ area := 5, offset := pos, len := bytes.length, stream := 258, product := 18 } : Placed)],
      prevHash := sha256 rec_, chainStart := false, sealLost := 0, sealSeq := (s.out.sealSeq + 1) % 2 ^ 32,
      sealSlot := (s.sealPlace + 1) % 64 } }

/-- SEAL_POST (R340). -/
def sealPost (s : State) : State :=
  match s.out.due with
  | [] => s
  | x :: rest => { s with out := { s.out with due := rest } }.buildSeal x

/-! ## Check-value units (R343–R345) -/

/-- A byte of the BAR2 window (R333, R334): the ring, the notice board and the detector FIFO from their entries, every other region from its bytes. -/
def State.windowByte (s : State) (o : Nat) : BitVec 8 :=
  let ring := s.get F.HW_RING_BASE_OFFSET
  let nb := s.get F.HW_NB_BASE_OFFSET
  let df := s.get F.BS_DFIFO_BASE_OFFSET
  if !s.ev.placed then 0
  else if ring ≤ o ∧ o < ring + 16 * s.get F.HW_RING_SIZE_SIZE then
    let d := s.desc ((o - ring) / 16)
    (leBytes d.offset 4 ++ leBytes d.length 4 ++ leBytes d.status 4 ++ leBytes d.control 4).getD ((o - ring) % 16) 0
  else if nb ≤ o ∧ o < nb + 32 * s.get F.HW_NB_SIZE_SIZE then
    match s.ev.nb.find? (fun e => e.1 == (o - nb) / 32) with
    | some e => e.2.bytes.getD ((o - nb) % 32) 0
    | none => 0
  else if df ≤ o ∧ o < df + 131072 then
    BitVec.ofNat 8 (kvGet 0 s.dfifo ((o - df) / 32) / 2 ^ (8 * ((o - df) % 32)))
  else s.rdByte (spaceBar2 + o)

/-- A byte of a scan space (R345). -/
def State.scanByte (s : State) (space hi a : Nat) : BitVec 8 :=
  match space with
  | 0 => s.windowByte a
  | 1 => s.rdByte (spaceDram + hi * 2 ^ 32 + a)
  | 2 => s.rdByte (spaceYard + hi % 16 * 2 ^ 20 + a)
  | _ => s.rdByte (spaceNvm + a)

/-- The bytes of a scan space. -/
def State.scanSize (s : State) (space : Nat) : Nat :=
  match space with
  | 0 => 2 ^ 30
  | 1 => s.dramBytes
  | 2 => 262144
  | _ => s.nvmMib * 2 ^ 20

/-- Why a scan of unit u is refused: 0 it is not; else the cause (R345). -/
def State.scanRefusal (s : State) (u : Nat) : Nat :=
  let space := s.get (F.CK_SRC_SPACE u)
  let hi := s.get (F.CK_SRC_ADDR_HI u)
  let start := (if space = 1 then hi * 2 ^ 32 else 0) + s.get (F.CK_ADDR_VALUE u)
  let w := s.get (F.CK_FMT_WIDTH u)
  if (space = 1 ∨ space = 2) ∧ !(s.otp.life = 0 ∨ s.otp.life = 1 ∨ s.otp.life = 3) then 1
  else if start + s.get (F.CK_LEN_VALUE u) > s.scanSize space ∨ (space = 2 ∧ hi % 16 ≥ 12) then 2
  else if w < 8 ∨ w > 64 then 3
  else 0

/-- SCAN_START: a write of START to a unit's CK_CTRL (R344, R345). -/
def scanStart (u : Nat) (s : State) : State :=
  if u ≥ 4 ∨ s.get (F.CK_CTRL_MODE u) = 1 ∨ s.is (F.CK_CTRL_BUSY u) then s
  else
    let c := s.scanRefusal u
    let s := s.put (F.CK_CTRL_REFUSED u) c
    if c ≠ 0 then (s.put (F.CK_CTRL_DONE u) 1).raise 0x0A0A wide 0
    else { s with out := { s.out with scans := kvIns u s.now (kvDel u s.out.scans) } }.put (F.CK_CTRL_BUSY u) 1

/-- The CRC of a scan space from address `a` on. -/
def State.scanGo (s : State) (w poly : Nat) (refin : Bool) (space hi : Nat) : Nat → Nat → Nat → Nat
  | 0, _, c => c
  | n + 1, a, c => s.scanGo w poly refin space hi n (a + 1) (crcByte w poly refin c (s.scanByte space hi a))

/-- SCAN_DONE (R344). -/
def scanDone (u : Nat) (s : State) : State :=
  if u ≥ 4 ∨ !s.is (F.CK_CTRL_BUSY u) then s
  else
    let w := s.get (F.CK_FMT_WIDTH u)
    let cut := fun (lo hi : Nat) => (lo + 2 ^ 32 * hi) % 2 ^ w
    let poly := cut (s.get (F.CK_POLY_LO_VALUE u)) (s.get (F.CK_POLY_HI_VALUE u))
    let init := cut (s.get (F.CK_INIT_LO_VALUE u)) (s.get (F.CK_INIT_HI_VALUE u))
    let xor := cut (s.get (F.CK_XOR_LO_VALUE u)) (s.get (F.CK_XOR_HI_VALUE u))
    let c := s.scanGo w poly (s.is (F.CK_FMT_REFIN u)) (s.get (F.CK_SRC_SPACE u)) (s.get (F.CK_SRC_ADDR_HI u)) (s.get (F.CK_LEN_VALUE u))
      (s.get (F.CK_ADDR_VALUE u)) init
    let r := crcEnd w (s.is (F.CK_FMT_REFOUT u)) xor c
    let s := ((s.put (F.CK_RES_LO_VALUE u) r).put (F.CK_RES_HI_VALUE u) (r / 2 ^ 32)).put (F.CK_CTRL_BUSY u) 0
    { s with out := { s.out with scans := kvDel u s.out.scans } }.put (F.CK_CTRL_DONE u) 1 |>.raise 0x0A0A wide 0

/-! ## Notice board, vectors and the function (R346–R350) -/

/-- A write to HW_NB_RD (R166, R346, R347). -/
def hwNbRdWrite (v : Nat) (s : State) : State :=
  let v := v % 2 ^ 32
  if indexOk (s.get F.HW_NB_WR_COUNT) (s.get F.HW_NB_RD_COUNT) v then
    let s := (s.put F.HW_NB_RD_COUNT v).syncNb
    if s.ev.placed then s.nbReportLost else s
  else s.put F.HW_NB_STAT_RD_ERR 1

/-- A W1C write to HW_IRQ_PEND (R348). -/
def irqPendClear (v : Nat) (s : State) : State := s.put F.HW_IRQ_PEND_PEND (s.get F.HW_IRQ_PEND_PEND &&& (v % 2 ^ 32 ^^^ 0xFFFFFFFF))

/-- The time cause of vector 0 (R348). -/
def frameVectorTimeout (s : State) : State :=
  let us_ := s.get F.HW_IRQ_CFG_USEC
  match s.ev.oldest with
  | some t => if us_ ≠ 0 ∧ s.now ≥ t + us_ * us then s.frameCause else s
  | none => s

/-- An MSI-X entry unmasked: the message of a set PBA bit goes (R348). -/
def msixUnmask (v : Nat) (s : State) : State :=
  if v ≥ 32 then s
  else
    let was := s.ev.pba.testBit v
    let s := { s with ev := { s.ev with masked := s.ev.masked &&& (2 ^ v ^^^ 0xFFFFFFFF), pba := s.ev.pba &&& (2 ^ v ^^^ 0xFFFFFFFF) } }
    let s := { s with out := { s.out with msix := kvSet 0 s.out.msix (4 * v + 3) (kvGet 0 s.out.msix (4 * v + 3) / 2 * 2) } }
    if was then
      let s := { s with ev := { s.ev with messages := kvSet 0 s.ev.messages v (kvGet 0 s.ev.messages v + 1) } }
      if v = 0 then { s with ev := { s.ev with unannounced := 0, oldest := none } } else s
    else s

/-- What a function-level, hot or link-down reset resets (R350). -/
def State.resetFunction (s : State) : State :=
  let s := { s with ev := { s.ev with masked := 0xFFFFFFFF, pba := 0 }, out := { s.out with d3 := false, msix := [] },
                    dram := { s.dram with aer := false } }
  let s := ((s.put F.HW_IRQ_PEND_PEND 0).put F.HW_BAD_WRITES_COUNT 0).put F.HW_SKIPPED_COUNT 0
  (((s.put F.HW_NB_LOST_COUNT 0).put F.HW_CNT_SAT_BADW_SAT 0).put F.HW_CNT_SAT_SKIP_SAT 0).put F.HW_CNT_SAT_LOST_SAT 0

/-- The link goes down (R350): its reset, and event 0x0A0C. -/
def linkDown (s : State) : State :=
  if !s.is F.HW_LINK_UP then s
  else (((s.resetFunction.put F.HW_LINK_UP 0).put F.HW_LINK_SPEED 0).put F.HW_LINK_WIDTH 0).raise 0x0A0C wide 0

/-- The link is up (R350, R355): generation 1–4 and 1, 2 or 4 lanes. -/
def linkUp (speed width : Nat) (s : State) : State :=
  if s.is F.HW_LINK_UP then s
  else (((s.put F.HW_LINK_UP 1).put F.HW_LINK_SPEED (max 1 (min 4 speed))).put F.HW_LINK_WIDTH (floorPow2 (max 1 (min 4 width)) 2)).raise 0x0A0D wide 0

/-- The function moves between D0 and D3hot (R350). -/
def d3hot (on : Bool) (s : State) : State := { s with out := { s.out with d3 := on } }

/-! ## Meanings -/

/-- FRAME_PLACE (R338). -/
def execFramePlace (t : Nat) (s : State) : Outcome := runAt t s framePlace

/-- FRAME_POST (R336). -/
def execFramePost (t : Nat) (ue : Bool) (s : State) : Outcome := runAt t s (framePost ue)

/-- RING_RETURN (R337). -/
def execRingReturn (t slot : Nat) (s : State) : Outcome := runAt t s (inDomain 13 (ringReturn slot))

/-- BAR2_WRITE_REJECTED (R334). -/
def execBar2WriteRejected (t : Nat) (s : State) : Outcome := runAt t s (inDomain 14 bar2WriteRejected)

/-- DISCARD_JOIN (R339). -/
def execDiscardJoin (t : Nat) (s : State) : Outcome := runAt t s discardJoin

/-- DISCARD_LEAVE (R339). -/
def execDiscardLeave (t : Nat) (s : State) : Outcome := runAt t s discardLeave

/-- SEAL_POST (R340). -/
def execSealPost (t : Nat) (s : State) : Outcome := runAt t s sealPost

/-- SCAN_START (R344). -/
def execScanStart (t u : Nat) (s : State) : Outcome := runAt t s (access (0x1D0000 + 256 * u) (scanStart u))

/-- SCAN_DONE (R344). -/
def execScanDone (t u : Nat) (s : State) : Outcome := runAt t s (scanDone u)

/-- HW_NB_RD_WRITE (R346). -/
def execHwNbRdWrite (t value : Nat) (s : State) : Outcome := runAt t s (access 0x1E0054 (hwNbRdWrite value))

/-- IRQ_PEND_CLEAR (R348). -/
def execIrqPendClear (t value : Nat) (s : State) : Outcome := runAt t s (access 0x1E0060 (irqPendClear value))

/-- FRAME_VECTOR_TIMEOUT (R348). -/
def execFrameVectorTimeout (t : Nat) (s : State) : Outcome := runAt t s frameVectorTimeout

/-- MSIX_UNMASK (R348). -/
def execMsixUnmask (t v : Nat) (s : State) : Outcome := runAt t s (inDomain 14 (msixUnmask v))

/-- FUNCTION_RESET (R350). -/
def execFunctionReset (t : Nat) (s : State) : Outcome := runAt t s (inDomain 14 State.resetFunction)

/-- LINK_DOWN (R350). -/
def execLinkDown (t : Nat) (s : State) : Outcome := runAt t s (inDomain 14 linkDown)

/-- LINK_UP (R350). -/
def execLinkUp (t speed width : Nat) (s : State) : Outcome := runAt t s (inDomain 14 (linkUp speed width))

/-- D3HOT (R350). -/
def execD3hot (t : Nat) (on : Bool) (s : State) : Outcome := runAt t s (inDomain 14 (d3hot on))

end Sys2Proof.Machine
end

