-- ==== Sys2Proof/Machine/TimeBase.lean ====
section
/-!
DEFINITION. Machine/TimeBase.lean: the time base (R356–R363), TRIG_IN (R364), the event inputs and their statistics (R366–R371).
-/
namespace Sys2Proof.Machine

/-! ## The counter and its state (R356, R357, R360) -/

/-- A slew towards `e` more ticks begins: what the slew in progress has added stays (R360). -/
def State.slewTo (s : State) (e : Int) : State :=
  { s with tb := { off := s.tb.off + s.slewed s.now, slew := e, slewFrom := s.now } }

/-- The count moved by `e` ticks at once. -/
def State.stepBy (s : State) (e : Int) : State := { s with tb := { s.tb with off := s.tb.off + e } }

/-- TIME_STATE set; leaving ALIGNED starts TB_HOLD_S (R357, R380). -/
def State.setTime (s : State) (st : Nat) : State :=
  let old := s.get F.TB_STATUS_TIME_STATE
  let left := if st = 1 then none else if old = 1 then some s.now else s.tref.leftAt
  { s with tref := { s.tref with leftAt := left } }.put F.TB_STATUS_TIME_STATE st

/-- TB_HOLD_S: whole seconds since ALIGNED was left. -/
def State.holdSeconds (s : State) : Nat :=
  match s.tref.leftAt with
  | some t => min 0xFFFFFFFF ((s.now - t) / (1000 * ms))
  | none => 0

/-- The three words of a stamp. -/
def stampWords (st : Nat) : Nat × Nat × Nat := (st % 2 ^ 32, st / 2 ^ 32 % 2 ^ 32, st / 2 ^ 64 % 2 ^ 32)

/-- TB_NOW0 read: the whole counter latched (R356). -/
def tbNowRead (s : State) : State :=
  let (a, b, c) := stampWords (stampOf (s.count s.now))
  { ((s.put F.TB_NOW0_VALUE a).put F.TB_NOW1_VALUE b).put F.TB_NOW2_VALUE c with resp := [a] }

/-- Word 0 of TB_TRIG_LAST (0), TB_TL_LAST (1) or TB_LAUNCH_LAST (2) read: words 1 and 2 latched (R380). -/
def stampWord0Read (which : Nat) (s : State) : State :=
  match which with
  | 0 => let (a, b, c) := stampWords s.tref.trigStamp
         { ((s.put F.TB_TRIG_LAST0_VALUE a).put F.TB_TRIG_LAST1_VALUE b).put F.TB_TRIG_LAST2_VALUE c with resp := [a] }
  | 1 => let (a, b, c) := stampWords s.sched.trigStamp
         { ((s.put F.TB_TL_LAST0_VALUE a).put F.TB_TL_LAST1_VALUE b).put F.TB_TL_LAST2_VALUE c with resp := [a] }
  | _ => let (a, b, c) := stampWords s.sched.launchStamp
         { ((s.put F.TB_LAUNCH_LAST0_VALUE a).put F.TB_LAUNCH_LAST1_VALUE b).put F.TB_LAUNCH_LAST2_VALUE c with resp := [a] }

/-! ## References (R358–R360) -/

/-- Does the module use its own REF10M and PPS lands: powered, and module 0 or stand-alone? -/
def State.ownRef (s : State) : Bool := s.domainOn 2 && decide (s.get F.FL_STATUS_ID = 0)

/-- REF10M is qualified (R105, R358). -/
def refQualified (s : State) : State :=
  if !s.ownRef then s
  else
    let s := s.put F.TB_STATUS_REF_PRESENT 1
    if s.is F.TB_STATUS_REF_QUAL then s
    else
      let s := (s.put F.TB_STATUS_REF_QUAL 1).raise 0x0B01 wide 0
      if s.get F.SL_STATUS_CLK_STATE = 1 then s else s.clkSteer

/-- REF10M is lost; `edges` where edges still arrive, off frequency (R105, R358). -/
def refLost (edges : Bool) (s : State) : State :=
  if !s.ownRef then s
  else
    let s := s.putB F.TB_STATUS_REF_PRESENT edges
    if !s.is F.TB_STATUS_REF_QUAL then s else ((s.put F.TB_STATUS_REF_QUAL 0).raise 0x0B02 wide 0).clkLost

/-- The phase error of an instant of the counter: its distance from the nearest second boundary (R359). -/
def phaseError (c : Int) : Int :=
  let r := c % ((1000 * ms : Nat) : Int)
  if 2 * r ≥ ((1000 * ms : Nat) : Int) then r - (1000 * ms : Nat) else r

/-- What a qualification starts (R360): a step in FREE; in HOLDOVER RECOVERING, with a slew up to 1 ms and a step above. -/
def State.startRemoval (s : State) (e : Int) : State :=
  let st := s.get F.TB_STATUS_TIME_STATE
  if st = 0 then { s with tref := { s.tref with step := some (-e) } }
  else if st = 2 then
    let s := { (s.setTime 3) with tref := { (s.setTime 3).tref with small := 0 } }
    if e.natAbs ≤ ms then s.slewTo (-e) else { s with tref := { s.tref with step := some (-e) } }
  else s

/-- PPS is qualified after four edges (R359). -/
def State.qualifyPps (s : State) : State :=
  if s.is F.TB_STATUS_PPS_QUAL ∨ s.tref.run.length < 4 then s
  else ((s.put F.TB_STATUS_PPS_QUAL 1).raise 0x0B03 wide 0).startRemoval s.tref.lastE

/-- Module 0 of an array sends an epoch, once it is known, with the boundary that it applies to: the next one (R361, R377). -/
def State.sendEpoch (s : State) : State :=
  match s.tref.epoch with
  | some (v, false) =>
    if s.get F.FL_STATUS_COUNT > 0 then { s with fl := { s.fl with epochs := s.fl.epochs ++ [(v, s.count s.now / (1000 * ms) + 1)] } } else s
  | _ => s

/-- A good edge, or the change to HOLDOVER: an epoch that waits takes effect at the next boundary (R361). -/
def State.releaseEpoch (s : State) : State :=
  match s.tref.epoch with
  | some (v, true) => { s with tref := { s.tref with epoch := some (v, false) } }.sendEpoch
  | _ => s

/-- PPS is lost (R359): a state that was ALIGNED or RECOVERING becomes HOLDOVER. -/
def State.losePps (s : State) : State :=
  let s := { s with tref := { s.tref with glitches := 0, small := 0, step := none } }
  let s := (s.put F.TB_STATUS_PPS_QUAL 0).raise 0x0B04 wide 0
  let s := if s.get F.TB_STATUS_TIME_STATE = 1 ∨ s.get F.TB_STATUS_TIME_STATE = 3 then ((s.slewTo 0).setTime 2).releaseEpoch else s
  s.qualifyPps

/-- A good edge while PPS is qualified steers the time base (R360). -/
def State.steer (s : State) (e : Int) : State :=
  let st := s.get F.TB_STATUS_TIME_STATE
  let tight := decide (e.natAbs ≤ 10 * ns)
  if st = 1 then
    if tight then s.slewTo (-e) else
      let s := (s.slewTo (-e)).setTime 3
      { s with tref := { s.tref with small := 0 } }
  else if st = 3 then
    let s := if s.tref.step.isSome then s
      else if e.natAbs ≤ ms then s.slewTo (-e) else { s with tref := { s.tref with step := some (-e) } }
    let n := if tight then s.tref.small + 1 else 0
    let s := { s with tref := { s.tref with small := n } }
    if n ≥ 3 then (s.setTime 1).raise 0x0B07 wide 0 else s
  else s

/-- A PPS edge (R359–R361). -/
def ppsEdge (s : State) : State :=
  if !s.ownRef then s
  else
    let comp := s.getS F.TB_PPS_CFG_IN_COMP
    let c : Int := divRound ((s.count s.now : Int) * 10 - comp * 65536) 10
    let e := phaseError c
    let next := fun (p : Nat) => decide (((s.now : Int) - p - (1000 * ms : Nat)).natAbs ≤ us)
    let run := match s.tref.run with
      | p :: _ => if next p then s.now :: s.tref.run.take 3 else [s.now]
      | [] => [s.now]
    let tenths := divRound (e * 10) 65536
    let s := s.put F.TB_PPS_ERR_E ((clampI (-2147483647) 2147483647 tenths) % 4294967296).toNat
    let s := { s with tref := { s.tref with run := run, edgeAt := some s.now, lastE := e } }
    let s := s.put F.TB_STATUS_PPS_PRESENT 1
    if s.get F.TB_STATUS_TIME_STATE = 1 ∧ e.natAbs > us then
      let s := { s with tref := { s.tref with glitches := s.tref.glitches + 1 } }
      if s.tref.glitches ≥ 3 then s.losePps else s
    else
      let s := { s with tref := { s.tref with glitches := 0, goodAt := some s.now } }.releaseEpoch
      if s.is F.TB_STATUS_PPS_QUAL then s.steer e else s.qualifyPps

/-- PPS_LOST (R359): 1.100 s without a good edge; where no edge came at all, the run of consecutive edges is over too. -/
def ppsLost (s : State) : State :=
  if !s.ownRef then s
  else
    let late : Option Nat → Bool := fun x => match x with | some t => decide (s.now ≥ t + 1100 * ms) | none => false
    let s := if late s.tref.edgeAt then { s with tref := { s.tref with run := [] } }.put F.TB_STATUS_PPS_PRESENT 0 else s
    if s.is F.TB_STATUS_PPS_QUAL ∧ late s.tref.goodAt then s.losePps else s

/-! ## Second boundaries (R340, R360–R362) -/

/-- The second boundary nearest to the counter's present value. -/
def State.nearestSecond (s : State) : Nat := (s.count s.now + 500 * ms) / (1000 * ms)

/-- A pending step is taken (R360): FREE becomes ALIGNED. -/
def State.takeStep (s : State) : State :=
  match s.tref.step with
  | none => s
  | some e =>
    let s := { s with tref := { s.tref with step := none } }
    let s := (s.stepBy e).raiseWhole 0x0B05 (e % 18446744073709551616).toNat
    if s.get F.TB_STATUS_TIME_STATE = 0 then s.setTime 1 else s

/-- A pending epoch takes effect at the boundary `second` (R361): the stamp of its event carries the new SEC. -/
def State.takeEpoch (s : State) (second : Nat) : State :=
  let due : Bool := match s.tref.epochAt with | some b => decide (b ≤ second) | none => true
  match s.tref.epoch with
  | some (v, false) =>
    if !due then s
    else
      let s := { s with tref := { s.tref with epoch := none, epochAt := none } }
      let s := (s.stepBy (((v : Int) - second) * (1000 * ms : Nat))).put F.TB_STATUS_EPOCH_PENDING 0
      s.raiseEv ⟨0x0B06, wide, 0, 0, some (second % 281474976710656), v * (1000 * ms)⟩
  | _ => s

/-- PPS_OUT rises, unless it rose within the last 500 ms (R362). -/
def State.raisePps (s : State) : State :=
  let ok : Bool := match s.tref.ppsRise with | some t => decide (s.now ≥ t + 500 * ms) | none => true
  if s.is F.TB_PPS_CFG_OUT_EN ∧ ok then { s with tref := { s.tref with ppsRise := some s.now, ppsOut := true } } else s

/-- SECOND_BOUNDARY (R136, R356): the loads of the second that ends are shown, a step or an epoch that waits takes effect, and the seal's second
changes. -/
def secondBoundary (s : State) : State :=
  if !s.domainOn 2 then s
  else
    let b := s.nearestSecond
    let s := if s.domainOn 8 then s.loadSecond else s
    let s := s.raisePps
    let s := (s.takeEpoch b).takeStep
    s.sealBoundary s.nearestSecond

/-- PPS_OUT falls OUT_WIDTH ms after it rose (R362). -/
def ppsOutPulseEnd (s : State) : State :=
  match s.tref.ppsRise with
  | some t => if s.now ≥ t + max 1 (min 500 (s.get F.TB_PPS_CFG_OUT_WIDTH)) * ms then { s with tref := { s.tref with ppsOut := false } } else s
  | none => s

/-- An epoch submitted (R361); in ALIGNED or RECOVERING it waits for a good PPS edge. -/
def State.submitEpoch (s : State) : State :=
  let st := s.get F.TB_STATUS_TIME_STATE
  let second := s.get F.TB_EPOCH_HI_SEC_HI * 4294967296 + s.get F.TB_EPOCH_LO_SEC_LO
  let s := { s with tref := { s.tref with epoch := some (second, decide (st = 1 ∨ st = 3)), epochAt := none } }
  s.sendEpoch.put F.TB_STATUS_EPOCH_PENDING 1

/-- A write to TB_EPOCH_HI (R361): with SET it submits the epoch, which modules 1–7 ignore. -/
def epochWrite (v : Nat) (s : State) : State :=
  let s := if v.testBit 30 then s.put F.TB_EPOCH_HI_IGNORED 0 else s
  if v.testBit 31 ∧ s.get F.FL_STATUS_ID ≠ 0 then s.put F.TB_EPOCH_HI_IGNORED 1
  else
    let s := s.put F.TB_EPOCH_HI_SEC_HI v
    if v.testBit 31 then s.submitEpoch else s

/-! ## TRIG_IN (R364) -/

/-- A TRIG_IN edge that has held its level: one within HOLDOFF of the previous qualified edge is ignored (R364). -/
def trigInEdge (s : State) : State :=
  let near : Bool := match s.tref.trigAt with
    | some t => decide (s.now < t + max 10 (s.get F.TB_TRIG_CFG_HOLDOFF) * (10 * ns))
    | none => false
  if near ∨ !s.domainOn 2 then s
  else
    let s := { s with tref := { s.tref with trigAt := some s.now, trigStamp := stampOf (s.count s.now) } }
    (s.bump F.TB_TRIG_COUNT_COUNT F.TB_CNT_SAT_TRIG_SAT 1).trigInTrigger

/-! ## Event inputs (R366–R368) -/

/-- An event input. -/
def State.evIn (s : State) (n : Nat) : EvtIn := kvGet {} s.evt n

/-- An event input changed. -/
def State.setEvIn (s : State) (n : Nat) (x : EvtIn) : State :=
  { s with evt := kvSet {} s.evt n x }.putSat (F.TB_EVT_STAT_LEVEL n) x.queue.length

/-- Does the input stamp an edge of this polarity (R366)? -/
def State.edgeWanted (s : State) (n : Nat) (falling : Bool) : Bool :=
  s.is (F.TB_EVT_CFG_EN n) && (match s.get (F.TB_EVT_CFG_EDGE n) with | 1 => falling | 2 => true | _ => !falling)

/-- What a stamp adds to the measurement that runs (R369, R370): stamps up to the gate, or intervals up to N. -/
def measure (freq : Bool) (gate n : Nat) (m : Meas) (t k : Nat) : Meas :=
  match m.first with
  | none => { m with first := some (t, k), prev := some (t, k), pts := [(0, 0)] }
  | some (t0, k0) =>
    let (tp, kp) := m.prev.getD (t0, k0)
    let gap := decide (k ≠ kp + 1)
    if freq then
      if t ≥ t0 + gate then m
      else { m with prev := some (t, k), pts := m.pts ++ [(t - t0, k - k0)], loss := m.loss || gap }
    else if m.deltas.length ≥ n then m
    else if gap then { m with prev := some (t, k), loss := true }
    else { m with prev := some (t, k), deltas := m.deltas ++ [(t : Int) - tp] }

/-- The N or gate of an input. -/
def State.statParam (s : State) (n : Nat) : Nat := max 1 (s.get (F.TB_STAT_CFG_PARAM n))

/-- An edge at an event input (R366, R367, R369). -/
def evtEdge (n : Nat) (falling : Bool) (s : State) : State :=
  if n ≥ 8 ∨ !s.domainOn 2 ∨ !s.edgeWanted n falling then s
  else
    let x := s.evIn n
    let k := x.edges + 1
    let dead := if n < 2 then 4 * ns else 10 * ns
    let blind : Bool := match x.last with | some t => decide (s.now < t + dead) | none => false
    let x := { x with edges := k, last := some s.now, from_ := s.now, silent := false }
    if blind then s.setEvIn n { x with loss := true }
    else
      let t := s.count s.now
      let freq := decide (s.get (F.TB_STAT_CFG_MODE n) = 0)
      let x := { x with meas := x.meas.map (fun m => measure freq (s.statParam n * us) (s.statParam n) m t k) }
      if x.queue.length ≥ 1024 then
        let s := s.setEvIn n { x with loss := true }
        (s.bump (F.TB_EVT_STAT_DROPPED n) (F.TB_EVT_STAT_DSAT n) 1).raisePerSecond 0x0B09 n 0
      else
        let e : EvtEntry := ⟨stampOf t, falling, decide (s.get F.TB_STATUS_TIME_STATE ≠ 1), x.loss, k % 65536⟩
        s.setEvIn n { x with queue := x.queue ++ [e], loss := false }

/-- No edge for TMO ms (R368). -/
def evtTimeout (n : Nat) (s : State) : State :=
  let x := s.evIn n
  let tmo := s.get (F.TB_EVT_CFG_TMO n)
  if n ≥ 8 ∨ !s.is (F.TB_EVT_CFG_EN n) ∨ tmo = 0 ∨ x.silent ∨ s.now < x.from_ + tmo * ms then s
  else ((s.setEvIn n { x with silent := true }).put (F.TB_EVT_STAT_TIMEOUT n) 1).raise 0x0B08 n 0

/-- Where EN of an input has just been set, `was` its value before, the silence of R368 begins at that instant. -/
def State.noteEnabled (s : State) (n : Nat) (was : Bool) : State :=
  if !was && s.is (F.TB_EVT_CFG_EN n) then { s with evt := kvSet {} s.evt n { s.evIn n with from_ := s.now, silent := false } } else s

/-- A read of TB_EVT_Q0n (R367). -/
def evtQueueRead (n : Nat) (s : State) : State :=
  if n ≥ 8 then s
  else
    let x := s.evIn n
    match x.queue with
    | [] => { s.put (F.TB_EVT_Q3_WORD n) (s.get (F.TB_EVT_Q3_WORD n) % 2 ^ 31) with resp := [0] }
    | e :: rest =>
      let (a, b, c) := stampWords e.stamp
      let d := 2 ^ 31 + (if e.falling then 2 ^ 30 else 0) + (if e.hold then 2 ^ 29 else 0) + (if e.loss then 2 ^ 28 else 0) + e.count
      let s := s.setEvIn n { x with queue := rest }
      { (((s.put (F.TB_EVT_Q0_WORD n) a).put (F.TB_EVT_Q1_WORD n) b).put (F.TB_EVT_Q2_WORD n) c).put (F.TB_EVT_Q3_WORD n) d with resp := [a] }

/-! ## Statistics (R369–R371) -/

/-- GO: a measurement starts afresh, with the settings of the write (R371). -/
def statGo (n v : Nat) (s : State) : State :=
  if n ≥ 8 then s
  else
    let s := (((s.put (F.TB_STAT_CFG_CONT n) (v / 2 ^ 30)).put (F.TB_STAT_CFG_EVT n) (v / 2 ^ 29)).put (F.TB_STAT_CFG_MODE n) (v / 2 ^ 28)).put
      (F.TB_STAT_CFG_PARAM n) v
    if v.testBit 31 then
      let x := s.evIn n
      (s.setEvIn n { x with meas := some {}, latched := false }).put (F.TB_STAT_STAT_BUSY n) 1
    else s

/-- The square root of a ÷ b, rounded to the nearest integer. -/
def rootRound (a b : Nat) : Nat := (isqrt (4 * a / max 1 b) + 1) / 2

/-- The results of a frequency measurement (R369). With fewer than 3 stamps A and C have no value and are free (log entry 1). -/
def State.freqResult (s : State) (m : Meas) : StatRes × State :=
  let n := m.pts.length
  let sum := fun (f : Nat × Nat → Nat) => m.pts.foldl (fun a p => a + f p) 0
  let sk := sum (·.2)
  let st := sum (·.1)
  let num : Int := (n * sum (fun p => p.1 * p.2) : Nat) - (sk * st : Nat)
  let den := n * sum (fun p => p.2 * p.2) - sk * sk
  if n < 3 ∨ num ≤ 0 then
    let (a, s) := s.free 64
    let (c, s) := s.free 64
    ({ a := a, b := n, c := c, invalid := decide (n < 3), loss := m.loss, count := n }, s)
  else
    let a := divRound ((1000000 * 65536 * 1000000000 * den : Nat)) num.toNat
    let tt := n * sum (fun p => p.1 * p.1) - st * st
    let c := rootRound (den * tt - num.toNat * num.toNat) (den * n * n)
    ({ a := a, b := n, c := c, loss := m.loss, count := n }, s)

/-- The results of an interval measurement (R370). -/
def statsResult (m : Meas) : StatRes :=
  let n := m.deltas.length
  let sum : Int := m.deltas.foldl (· + ·) 0
  let sq : Int := m.deltas.foldl (fun (a d : Int) => a + (n * d - sum) * (n * d - sum)) 0
  { a := divRound sum (max 1 n), b := if n ≤ 1 then 0 else rootRound sq.toNat (n * n * (n - 1)),
    c := m.deltas.foldl min (m.deltas.headD 0), d := m.deltas.foldl max (m.deltas.headD 0), loss := m.loss, count := n }

/-- The words of a signed 64-bit result. -/
def State.put64 (s : State) (lo hi : Fld) (v : Int) : State :=
  let w := (v % 18446744073709551616).toNat
  (s.put lo w).put hi (w / 4294967296)

/-- The result registers brought to the latest results. -/
def State.showStat (s : State) (n : Nat) : State :=
  let r := (s.evIn n).res
  let s := s.put64 (F.TB_STAT_A_LO_VALUE n) (F.TB_STAT_A_HI_VALUE n) r.a
  let s := s.put64 (F.TB_STAT_B_LO_VALUE n) (F.TB_STAT_B_HI_VALUE n) r.b
  let s := s.put64 (F.TB_STAT_C_LO_VALUE n) (F.TB_STAT_C_HI_VALUE n) r.c
  let s := s.put64 (F.TB_STAT_D_LO_VALUE n) (F.TB_STAT_D_HI_VALUE n) r.d
  ((s.putB (F.TB_STAT_STAT_INVALID n) r.invalid).putB (F.TB_STAT_STAT_LOSS n) r.loss).putSat (F.TB_STAT_STAT_COUNT n) r.count

/-- Is the measurement of an input complete: its gate has passed, or its intervals are there? -/
def State.measDone (s : State) (n : Nat) (m : Meas) : Bool :=
  if s.get (F.TB_STAT_CFG_MODE n) = 0 then
    match m.first with
    | some (t0, _) => decide (s.count s.now ≥ t0 + s.statParam n * us)
    | none => false
  else decide (m.deltas.length ≥ s.statParam n)

/-- STAT_DONE (R371): the results change together unless a read holds them; with CONT the next measurement starts. -/
def statDone (n : Nat) (s : State) : State :=
  if n ≥ 8 then s
  else
    match (s.evIn n).meas with
    | none => s
    | some m =>
      if !s.measDone n m then s
      else
        let (r, s) := if s.get (F.TB_STAT_CFG_MODE n) = 0 then s.freqResult m else (statsResult m, s)
        let x := s.evIn n
        let cont := s.is (F.TB_STAT_CFG_CONT n)
        let s := s.setEvIn n { x with res := r, meas := if cont then some {} else none }
        let s := if x.latched then s else s.showStat n
        let s := (s.putB (F.TB_STAT_STAT_BUSY n) cont).put (F.TB_STAT_STAT_DONE n) 1
        if s.is (F.TB_STAT_CFG_EVT n) then s.raise 0x0B0A n 0 else s

/-- A read of TB_STAT_An_LO: the results latched together (R371). -/
def statResultRead (n : Nat) (s : State) : State :=
  if n ≥ 8 then s
  else
    let s := s.setEvIn n { s.evIn n with latched := true }
    let s := s.showStat n
    { s with resp := [s.get (F.TB_STAT_A_LO_VALUE n)] }

/-! ## Meanings -/

/-- REF_QUALIFIED (R358). -/
def execRefQualified (t : Nat) (s : State) : Outcome := runAt t s refQualified

/-- REF_LOST (R358). -/
def execRefLost (t : Nat) (edges : Bool) (s : State) : Outcome := runAt t s (refLost edges)

/-- PPS_EDGE (R359). -/
def execPpsEdge (t : Nat) (s : State) : Outcome := runAt t s ppsEdge

/-- PPS_LOST (R359). -/
def execPpsLost (t : Nat) (s : State) : Outcome := runAt t s ppsLost

/-- SECOND_BOUNDARY (R356). -/
def execSecondBoundary (t : Nat) (s : State) : Outcome := runAt t s secondBoundary

/-- PPS_OUT_PULSE_END (R362). -/
def execPpsOutPulseEnd (t : Nat) (s : State) : Outcome := runAt t s ppsOutPulseEnd

/-- TB_NOW_READ (R356). -/
def execTbNowRead (t : ReadAt) (s : State) : Outcome := readAt t s (access 0x1F0004 tbNowRead)

/-- STAMP_WORD0_READ (R380). -/
def execStampWord0Read (t : ReadAt) (which : Nat) (s : State) : Outcome := readAt t s (access 0x1F0034 (stampWord0Read which))

/-- EPOCH_WRITE (R361). -/
def execEpochWrite (t value : Nat) (s : State) : Outcome := runAt t s (access 0x1F0014 (epochWrite value))

/-- TRIG_IN_EDGE (R364). -/
def execTrigInEdge (t : Nat) (s : State) : Outcome := runAt t s trigInEdge

/-- EVT_EDGE (R366). -/
def execEvtEdge (t n : Nat) (falling : Bool) (s : State) : Outcome := runAt t s (evtEdge n falling)

/-- EVT_TIMEOUT (R368). -/
def execEvtTimeout (t n : Nat) (s : State) : Outcome := runAt t s (evtTimeout n)

/-- EVT_QUEUE_READ (R367). -/
def execEvtQueueRead (t : ReadAt) (n : Nat) (s : State) : Outcome := readAt t s (access (0x1F0108 + 128 * n) (evtQueueRead n))

/-- STAT_GO (R371). -/
def execStatGo (t n value : Nat) (s : State) : Outcome := runAt t s (access (0x1F0118 + 128 * n) (statGo n value))

/-- STAT_DONE (R371). -/
def execStatDone (t n : Nat) (s : State) : Outcome := runAt t s (statDone n)

/-- STAT_RESULT_READ (R371). -/
def execStatResultRead (t : ReadAt) (n : Nat) (s : State) : Outcome := readAt t s (access (0x1F0120 + 128 * n) (statResultRead n))

end Sys2Proof.Machine
end

