-- ==== Sys2Proof/Machine/Array.lean ====
section
/-!
DEFINITION. Machine/Array.lean: module arrays (R372–R377): the Flotis ports, numbering, the exchange of time, cross-triggers, the sweep
origin, and the coordination of timetable switches and epochs (R63, R361).
-/
namespace Sys2Proof.Machine

/-! ## Ports (R372, R375) -/

/-- Is a port's link up: port 0 UP, 1 DOWN? -/
def State.portUp (s : State) (port : Nat) : Bool := if port = 0 then s.is F.FL_STATUS_UP_LINK else s.is F.FL_STATUS_DOWN_LINK

/-- A port's link bit set. -/
def State.setPort (s : State) (port : Nat) (up : Bool) : State :=
  if port = 0 then s.putB F.FL_STATUS_UP_LINK up else s.putB F.FL_STATUS_DOWN_LINK up

/-- FL_LINK_UP (R372); a module 1–7 whose source port returns steers its clock to the link again (R105, R375). -/
def flLinkUp (port : Nat) (s : State) : State :=
  if !s.domainOn 15 ∨ s.portUp port then s
  else
    let s := (s.setPort port true).raise 0x0C01 (min 1 port) 0
    if s.get F.FL_STATUS_ID ≠ 0 then s.clkSteer else s

/-- FL_LINK_DOWN (R375): a module that loses its source port holds its clock and its time. -/
def flLinkDown (port : Nat) (s : State) : State :=
  if !s.domainOn 15 ∨ !s.portUp port then s
  else
    let s := (s.setPort port false).raise 0x0C02 (min 1 port) 0
    let s := if port = 0 then s.put F.FL_DELAY_UP_VALID 0 else s.put F.FL_DELAY_DOWN_VALID 0
    if s.get F.FL_STATUS_ID ≠ 0 ∧ s.get F.FL_STATUS_SRC_PORT = min 1 port then
      let s := s.clkLost
      let s := { s with fl := { s.fl with thetas := [], beyondFrom := none, withinFrom := none } }
      if s.get F.TB_STATUS_TIME_STATE = 1 ∨ s.get F.TB_STATUS_TIME_STATE = 3 then (s.slewTo 0).setTime 2 else s
    else s

/-- ARRAY_RETIMED (R375): in a ring the module takes array time from its other port; `path` is the delay that this port's path forwards. -/
def arrayRetimed (path : Nat) (s : State) : State :=
  let src := s.get F.FL_STATUS_SRC_PORT
  if s.get F.FL_STATUS_ID = 0 ∨ s.get F.FL_STATUS_TOPOLOGY ≠ 2 ∨ s.portUp src ∨ !s.portUp (1 - src) then s
  else ((s.put F.FL_STATUS_SRC_PORT (1 - src)).put F.FL_PATH_D path).raise 0x0C04 wide 0 |>.clkSteer

/-- FLOTIS_POWER_DOWN (R372): 500 ms after start a module without a partner on either port is stand-alone. -/
def flotisPowerDown (s : State) : State :=
  let late := match s.pw.startAt, s.pw.commitAt with
    | some t, _ => decide (s.now ≥ t + 500 * ms)
    | none, some _ => true
    | none, none => false
  if !s.domainOn 15 ∨ !late ∨ s.portUp 0 ∨ s.portUp 1 then s
  else
    let s := ((s.put F.FL_STATUS_TOPOLOGY 0).put F.FL_STATUS_COUNT 0).put F.FL_STATUS_ID 0
    s.put F.PM_DOMAINS_ON (s.get F.PM_DOMAINS_ON &&& (0xFFFF - 2 ^ 15))

/-- ARRAY_NUMBERING (R372): the module's place in the array; an eighth follower takes no ID. -/
def arrayNumbering (id count : Nat) (ring : Bool) (s : State) : State :=
  if !s.domainOn 15 ∨ s.fl.numbered then s
  else
    let s := { s with fl := { s.fl with numbered := true } }
    if id ≥ 8 then ((s.put F.FL_STATUS_TOPOLOGY 3).put F.FL_STATUS_ID 0).raise 0x0C05 wide 0
    else
      let n := max 1 (min 8 count)
      let s := (((s.put F.FL_STATUS_ID id).put F.FL_STATUS_COUNT (n - 1)).put F.FL_STATUS_TOPOLOGY (if ring then 2 else 1)).raise 0x0C03 wide n
      if id ≠ 0 ∧ s.get F.SL_STATUS_CLK_STATE ≠ 1 then s.clkSteer else s

/-! ## Array time (R357, R373, R374) -/

/-- Ticks as whole picoseconds. -/
def toPs (t : Int) : Int := divRound (t * 1000) 65536

/-- Picoseconds as ticks. -/
def ofPs (p : Int) : Int := divRound (p * 65536) 1000

/-- TIME_STATE of a module 1–7 from module 0's and its own lock (R357). -/
def State.followTime (s : State) (lead : Nat) (theta : Int) : State :=
  let st := if lead = 1 then (if s.get F.SL_STATUS_CLK_STATE = 1 ∧ theta.natAbs ≤ 10000 then 1 else 3) else min 3 lead
  if s.get F.TB_STATUS_TIME_STATE = st then s else s.setTime st

/-- The run of θ beyond and within 1 ns (R374); a condition of 0x0C06 ends after 100 ms within. -/
def State.judgeTheta (s : State) (theta : Int) : State :=
  if theta.natAbs > 1000 then
    { s with fl := { s.fl with beyondFrom := some (s.fl.beyondFrom.getD s.now), withinFrom := none } }
  else
    let from_ := s.fl.withinFrom.getD s.now
    let s := { s with fl := { s.fl with beyondFrom := none, withinFrom := some from_ } }
    if s.now ≥ from_ + 100 * ms ∧ s.ev.conds.any (fun c => c.1 == 0x0C06) then s.endConds 0x0C06 else s

/-- The offset from the source brought in (R373): the first array time sets the counter; later θ, filtered over the exchanges of 10 ms, is
removed by a slew. -/
def State.takeTheta (s : State) (lead path : Nat) (d theta : Int) : State :=
  let s := s.putSat F.FL_PATH_D (path + (max 0 d).toNat)
  let first := s.get F.TB_STATUS_TIME_STATE = 0 ∧ s.fl.thetas.isEmpty
  let ths := (theta :: s.fl.thetas).take 100
  let mean := divRound (ths.foldl (· + ·) 0) ths.length
  let s := { s with fl := { s.fl with thetas := if first then [0] else ths } }
  if first then ((s.stepBy (-(ofPs theta))).putS F.FL_OFFSET_THETA 0).followTime lead 0
  else (((s.putS F.FL_OFFSET_THETA mean).slewTo (-(ofPs mean))).judgeTheta theta).followTime lead mean

/-- TIME_EXCHANGE (R373): the four stamps, in ticks, at `port`; `path` is the delay that the source forwards, in ps, `lead` module 0's
TIME_STATE, and `bad` the link words that have failed their check at the port since the last exchange (R381). -/
def timeExchange (port : Nat) (t1 t2 t3 t4 : Int) (path lead bad : Nat) (s : State) : State :=
  if !s.domainOn 15 ∨ !s.portUp port then s
  else
    let s := if port = 0 then s.bump F.FL_ERR_UP_COUNT F.FL_CNT_SAT_ERRU_SAT bad else s.bump F.FL_ERR_DOWN_COUNT F.FL_CNT_SAT_ERRD_SAT bad
    let d2 := (t4 - t1) - (t3 - t2)
    let d := divRound (d2 * 1000) (2 * 65536)
    let a := if port = 0 then s.getS F.FL_ASYM_UP_A else s.getS F.FL_ASYM_DOWN_A
    let s := if port = 0 then (s.put F.FL_DELAY_UP_VALID 1).putSat F.FL_DELAY_UP_D (max 0 d).toNat
      else (s.put F.FL_DELAY_DOWN_VALID 1).putSat F.FL_DELAY_DOWN_D (max 0 d).toNat
    if s.get F.FL_STATUS_ID = 0 ∨ s.get F.FL_STATUS_SRC_PORT ≠ min 1 port then s
    else
      let din := divRound (d2 * 1000 - a * 65536) (2 * 65536)
      s.takeTheta lead path din (divRound ((t2 - t1) * 2000 - d2 * 1000 + a * 65536) (2 * 65536))

/-- ALIGN_FAULT (R374). -/
def alignFault (s : State) : State :=
  match s.fl.beyondFrom with
  | some t => if s.now ≥ t + 100 * ms ∧ !s.ev.conds.any (fun c => c.1 == 0x0C06) then s.raise 0x0C06 wide 0 else s
  | none => s

/-! ## Messages (R63, R240, R361, R376, R377) -/

/-- Is a message of a sender the first copy (R377)? Its own come back in a ring and are dropped. -/
def State.firstCopy (s : State) (sender seq : Nat) : Bool :=
  decide (sender ≠ s.get F.FL_STATUS_ID) &&
  (match s.fl.seen.find? (fun x => x.1 == sender) with
   | some (_, q) => let d := (seq + 65536 - q % 65536) % 65536; decide (1 ≤ d ∧ d < 32768)
   | none => true)

/-- A first copy is acted on by `f` and forwarded on the other port (R377). -/
def State.message (s : State) (sender seq : Nat) (f : State → State) : State :=
  if !s.domainOn 15 ∨ !s.firstCopy sender seq then s
  else
    let s := { s with fl := { s.fl with seen := kvIns sender (seq % 65536) (kvDel sender s.fl.seen) } }
    let s : State := if s.portUp 0 ∧ s.portUp 1 then { s with fl := { s.fl with forwarded := s.fl.forwarded + 1 } } else s
    f s

/-- CROSS_TRIGGER_RECEIVE (R240). -/
def crossTriggerReceive (sender seq line : Nat) (at_ : Int) (s : State) : State :=
  s.message sender seq (fun s => (s.bump F.FL_XT_RECV_COUNT F.FL_CNT_SAT_RECV_SAT 1).crossTrigger sender line at_)

/-- SWITCH_MESSAGE_RECEIVE (R63, R376) on a module 1–7: kind 0 a request with module 0's T_L and G, which the check of the request compares with
the module's own (R376); 1 the epoch's instant; 2 a rejection by a module. -/
def switchMessageReceive (seq kind index mode second tl g : Nat) (s : State) : State :=
  s.message 0 seq (fun s =>
    match kind with
    | 0 => s.submitSwitch ⟨index % 4, mode % 4, second, some (tl, g)⟩
    | 1 => { s with sw := { s.sw with arrayEpoch := some second } }
    | _ => if s.sw.lead.isSome then s.rejectSwitch 3 mode else s)

/-- SWITCH_READY_REPORT (R63) at module 0: a module's READY, after the last of which the epoch is chosen, or its rejection. -/
def switchReadyReport (module : Nat) (ready : Bool) (s : State) : State :=
  match s.sw.lead with
  | none => s
  | some r =>
    if s.get F.FL_STATUS_ID ≠ 0 ∨ module = 0 ∨ module > s.get F.FL_STATUS_COUNT then s
    else if ready then { s with sw := { s.sw with reports := kvIns module s.now (kvDel module s.sw.reports) } }.chooseEpoch r
    else s.rejectSwitch 3 module

/-- EPOCH_MESSAGE_RECEIVE (R361): module 0's epoch and the second that it applies to. -/
def epochMessageReceive (seq value second : Nat) (s : State) : State :=
  s.message 0 seq (fun s =>
    { s with tref := { s.tref with epoch := some (value, false), epochAt := some second } }.put F.TB_STATUS_EPOCH_PENDING 1)

/-- The sweep origin once every report is in and the module itself has committed (R376): the first whole millisecond at least 10 ms later. -/
def State.setOrigin (s : State) : State :=
  if s.fl.origin.isSome ∨ s.fl.ready.length < s.get F.FL_STATUS_COUNT ∨ !s.is F.SB_STATUS_COMMITTED then s
  else
    let c := s.count s.now
    let c0 := (c + 10 * ms + ms - 1) / ms * ms
    { s with fl := { s.fl with origin := some (s.now + (c0 - c)) } }

/-- READY_REPORT (R376) at module 0. -/
def readyReport (module : Nat) (s : State) : State :=
  if s.get F.FL_STATUS_ID ≠ 0 ∨ module = 0 ∨ module > s.get F.FL_STATUS_COUNT ∨ s.fl.origin.isSome then s
  else { s with fl := { s.fl with ready := kvIns module s.now (kvDel module s.fl.ready) } }.setOrigin

/-! ## Meanings -/

/-- FL_LINK_UP (R372). -/
def execFlLinkUp (t port : Nat) (s : State) : Outcome := runAt t s (flLinkUp port)

/-- FL_LINK_DOWN (R375). -/
def execFlLinkDown (t port : Nat) (s : State) : Outcome := runAt t s (flLinkDown port)

/-- ARRAY_RETIMED (R375). -/
def execArrayRetimed (t path : Nat) (s : State) : Outcome := runAt t s (arrayRetimed path)

/-- FLOTIS_POWER_DOWN (R372). -/
def execFlotisPowerDown (t : Nat) (s : State) : Outcome := runAt t s flotisPowerDown

/-- ARRAY_NUMBERING (R372). -/
def execArrayNumbering (t id count : Nat) (ring : Bool) (s : State) : Outcome := runAt t s (arrayNumbering id count ring)

/-- TIME_EXCHANGE (R373). -/
def execTimeExchange (t port : Nat) (t1 t2 t3 t4 : Int) (path lead bad : Nat) (s : State) : Outcome :=
  runAt t s (timeExchange port t1 t2 t3 t4 path lead bad)

/-- ALIGN_FAULT (R374). -/
def execAlignFault (t : Nat) (s : State) : Outcome := runAt t s alignFault

/-- CROSS_TRIGGER_RECEIVE (R240). -/
def execCrossTriggerReceive (t sender seq line : Nat) (at_ : Int) (s : State) : Outcome := runAt t s (crossTriggerReceive sender seq line at_)

/-- SWITCH_MESSAGE_RECEIVE (R63). -/
def execSwitchMessageReceive (t seq kind index mode second tl g : Nat) (s : State) : Outcome :=
  runAt t s (switchMessageReceive seq kind index mode second tl g)

/-- EPOCH_MESSAGE_RECEIVE (R361). -/
def execEpochMessageReceive (t seq value second : Nat) (s : State) : Outcome := runAt t s (epochMessageReceive seq value second)

/-- READY_REPORT (R376). -/
def execReadyReport (t module : Nat) (s : State) : Outcome := runAt t s (readyReport module)

/-- SWITCH_READY_REPORT (R63). -/
def execSwitchReadyReport (t module : Nat) (ready : Bool) (s : State) : Outcome := runAt t s (switchReadyReport module ready)

end Sys2Proof.Machine
end

