-- ==== Sys2Proof/Machine/SelfTest.lean ====
section
/-!
DEFINITION. Machine/SelfTest.lean: self-test units and plans (R424–R427), the quick test and what a start takes out of service (R428, R429),
the journal (R430, R431), host-run slices and raw access (R432, R433).
-/
namespace Sys2Proof.Machine

/-! ## Units and lanes (R424, R425) -/

/-- LC_RTC: seconds since VBAT was applied (R435). -/
def State.rtc (s : State) : Nat := (s.now - s.pw.vbatAt) / (1000 * ms)

/-- The DRAM slices of a channel. -/
def sliceUnits (c : Nat) : List Nat := (List.range 14).map (0x800 + 16 * c + ·)

/-- The units of a yard in unit-number order. -/
def yardUnits (y : Nat) : List Nat :=
  [0, 0x100, 0x200, 0x300, 0x400].flatMap (fun b => (List.range 8).map (b + 8 * y + ·)) ++ [0x500 + y]

/-- Every unit of the part, in unit-number order. -/
def State.allUnits (s : State) : List Nat :=
  [0, 0x100, 0x200, 0x300, 0x400].flatMap (fun b => (List.range 96).map (b + ·)) ++ (List.range 12).map (0x500 + ·) ++
  (List.range s.channels).flatMap sliceUnits

/-- The time budget of a unit's slice, in ms. -/
def unitBudget (u : Nat) : Nat :=
  if u < 0x100 then 20 else if u < 0x400 then 1 else if u < 0x500 then 2 else if u < 0x800 then 1 else 500

/-- The units of a lane: 0–3 the DRAM channels, 4–15 the powered yards. -/
def State.laneUnits (s : State) (l : Nat) : List Nat :=
  if l < 4 then (if l < s.channels then sliceUnits l else [])
  else if (s.get F.FB_QUAD_POWERED).testBit ((l - 4) / 3) then yardUnits (l - 4) else []

/-- The result of a unit as the next journal will hold it. -/
def State.unit (s : State) (u : Nat) : UnitRes := kvGet {} s.bt.work.units u

/-- The coming journal changed. -/
def State.modWork (s : State) (f : Journal → Journal) : State := { s with bt := { s.bt with work := f s.bt.work } }

/-- The result of a unit changed. -/
def State.modUnit (s : State) (u : Nat) (f : UnitRes → UnitRes) : State :=
  s.modWork (fun w => { w with units := kvSet {} w.units u (f (kvGet {} w.units u)) })

/-- A failure record (R431); the earliest 256 are kept. -/
def State.addFail (s : State) (u cause bit addr : Nat) : State :=
  let n := s.bt.work.fails.length
  if n ≥ 256 then s
  else
    let s := s.modUnit u (fun x => if x.fail = 65535 then { x with fail := n } else x)
    s.modWork (fun w => { w with fails := w.fails ++ [⟨u, cause, bit, addr, s.rtc, w.seq + 1⟩] })

/-! ## The plan of a shutdown (R426) -/

/-- The units taken first, while the sum of their budgets stays within the budget: those taken, the sum, and whether all were. -/
def planFirst (budget : Nat) : List Nat → Nat → List Nat → List Nat × Nat × Bool
  | [], sum, acc => (acc, sum, true)
  | u :: us, sum, acc => if sum + unitBudget u > budget then (acc, sum, false) else planFirst budget us (sum + unitBudget u) (acc ++ [u])

/-- The rotation from index i on, without the units already planned: the whole plan and the pointer. -/
def planRotate (units pri : List Nat) (budget : Nat) : Nat → Nat → Nat → List Nat → Nat → List Nat × Nat
  | 0, _, _, acc, ptr => (acc, ptr)
  | f + 1, i, sum, acc, ptr =>
    let u := units.getD (i % units.length) 0
    if pri.contains u then planRotate units pri budget f (i + 1) sum acc ptr
    else if sum + unitBudget u > budget then (acc, ptr)
    else planRotate units pri budget f (i + 1) (sum + unitBudget u) (acc ++ [u]) ((i + 1) % units.length)

/-- A lane's plan and its new pointer. -/
def planLane (units pri : List Nat) (ptr budget : Nat) : List Nat × Nat :=
  match planFirst budget pri 0 [] with
  | (acc, _, false) => (acc, ptr)
  | (acc, sum, true) => planRotate units pri budget units.length ptr sum acc ptr

/-- Does a plan take the unit first: UNKNOWN, QUICK or FAIL, or withdrawn? -/
def UnitRes.urgent (x : UnitRes) : Bool := x.withdrawn || x.result == 2 || x.result == 4 || x.result == 6

/-- The units withdrawn in service are reported: FAIL, withdrawn, with a failure record of cause 3 (R180, R318, R431). -/
def State.noteWithdrawn (s : State) : State :=
  let eng := (List.range 96).filter (fun e => s.get (F.YD_ENG_STATE (e / 8) (e % 8)) == 3)
  each (eng ++ s.dram.marked.map (0x400 + ·)) (fun u s =>
    if (s.unit u).withdrawn then s
    else (s.modUnit u (fun x => { x with result := 4, withdrawn := true, onePass := false, seq := s.bt.work.seq + 1 })).addFail u 3 0xFF 0) s

/-- The plan for step 4 with a budget in ms. -/
def State.makePlan (s : State) (budget : Nat) : State :=
  let s := s.noteWithdrawn
  each (List.range 16) (fun l s =>
    let units := s.laneUnits l
    let (plan, ptr) := planLane units (units.filter (fun u => (s.unit u).urgent)) (s.bt.work.ptrs.getD l 0 % max 1 units.length) budget
    let s := s.modWork (fun w => { w with ptrs := (padTo 0 16 w.ptrs).set l ptr })
    if plan = [] then s else { s with bt := { s.bt with plan := s.bt.plan ++ [(l, (plan, 0))] } }) s

/-! ## Results of slices (R425, R429) -/

/-- A unit passes: a withdrawn one returns with its second pass in a row (R429). -/
def State.unitPass (s : State) (u : Nat) : State :=
  let fixed := s.rowsUsed u > 0
  let s := s.modUnit u (fun x =>
    let y := { x with result := if fixed then 3 else 1, unrepaired := false, fail := 65535, seq := (s.bt.work.seq + 1) % 65536 }
    if x.withdrawn then { y with withdrawn := !x.onePass, onePass := !x.onePass } else y)
  s

/-- A unit fails with a cause at the given addresses (R431). -/
def State.unitFail (s : State) (f : UnitFail) (cause : Nat) : State :=
  let s := s.modUnit f.unit (fun x => { x with result := 4, onePass := false, fail := 65535, seq := (s.bt.work.seq + 1) % 65536 })
  if f.addrs = [] then s.addFail f.unit cause f.bit 0 else each f.addrs (fun a s => s.addFail f.unit cause f.bit a) s

/-- The lane's first slice leaves the plan and the next one starts; with the last slice of all, step 4 ends (R427). -/
def State.nextSlice (s : State) (lane : Nat) : State :=
  let plan := (s.bt.plan.map (fun x => if x.1 = lane then (x.1, (x.2.1.drop 1, s.now)) else x)).filter (fun x => x.2.1 != [])
  { s with bt := { s.bt with plan := plan, testEnd := if plan.isEmpty then some s.now else s.bt.testEnd } }

/-- LC_RTC at an instant (R435). -/
def State.rtcAt (s : State) (t : Nat) : Nat := (t - s.pw.vbatAt) / (1000 * ms)

/-- LC_RTC at the end of step 4: with its last slice, or when its budget has passed (R403, R427). -/
def State.testRtc (s : State) : Nat :=
  match s.bt.testFrom, s.bt.testEnd with
  | _, some e => s.rtcAt e
  | some t, none => s.rtcAt (min s.now (if s.bt.plan.isEmpty then t else t + s.get F.SB_SHUTDOWN_BUDGET * 1000 * ms))
  | none, none => s.rtc

/-- The slice that a lane runs in step 4. -/
def State.slice? (s : State) (lane : Nat) : Option (Nat × Nat) :=
  match s.bt.testFrom, s.bt.plan.find? (fun x => x.1 == lane) with
  | some t, some (_, u :: _, a) => some (u, max t a)
  | _, _ => none

/-! ## What a start takes out of service (R429) -/

/-- The effect of a withdrawn unit: its engine, its bank or its FFT unit is out of service. -/
def State.outOfService (s : State) (u : Nat) : State :=
  if u < 0x400 then s.put (F.YD_ENG_STATE (u % 256 / 8) (u % 8)) 2
  else if u < 0x500 then { s with fab := { s.fab with banksOut := (u - 0x400) :: s.fab.banksOut.filter (· ≠ u - 0x400) } }
  else if u < 0x800 then { s with fab := { s.fab with fftOut := (u - 0x500) :: s.fab.fftOut.filter (· ≠ u - 0x500) } }
  else s

/-- A unit withdrawn at start. -/
def State.withdrawUnit (s : State) (u : Nat) : State :=
  ((s.modUnit u (fun x => { x with result := 4, withdrawn := true })).outOfService u).raiseAny 0x0F03 u 0

/-- The failing rows of a macro or bank moved to its spare rows, or the unit withdrawn (R429). -/
def State.repairRows (s : State) (u : Nat) (addrs : List Nat) : State :=
  let rows := ((addrs.map (· / 32)).eraseDups).filter (fun r => !s.bt.work.sram.any (fun x => x.1 == u && x.2.1 == r))
  let used := s.rowsUsed u
  if used + rows.length > 4 then s.withdrawUnit u
  else
    let s := s.modWork (fun w => { w with sram := w.sram ++ rows.zipIdx.map (fun r => (u, (r.1, used + r.2))) })
    (s.modUnit u (fun x => { x with result := 3 })).raiseAny 0x0F06 u 0

/-- A failing DRAM word (channel, channel address ÷ 8) remapped, or its region withdrawn, or left in service (R312, R313, R429). -/
def State.repairWord (s : State) (u c a : Nat) : State :=
  let key := c * 2 ^ 34 + 8 * a
  let r := a / 131072
  if s.dram.remaps.contains key ∨ s.dram.regions.any (fun x => x.1 == c && x.2.1 == r) then s
  else if s.dram.remaps.countP (fun k => k / 2 ^ 34 == c) < 16 then { s with dram := { s.dram with remaps := s.dram.remaps ++ [key] } }
  else if s.dram.regions.length < 256 then { s with dram := { s.dram with regions := s.dram.regions ++ [(c, (r, false))] } }
  else (s.modUnit u (fun x => { x with unrepaired := true })).bump F.EC_UNHANDLED_COUNT F.EC_CNT_SAT_UNH_SAT 1

/-- A failing DRAM slice (R429). -/
def State.repairSlice (s : State) (u : Nat) (addrs : List Nat) : State :=
  let s := s.modUnit u (fun x => { x with unrepaired := false })
  let t := each addrs (fun a s => s.repairWord u (u / 16 % 4) a) s
  let t := if (t.unit u).unrepaired then t else t.modUnit u (fun x => { x with result := 3 })
  let t := if t.dram.remaps.length > s.dram.remaps.length then t.raiseAny 0x0F06 u 0 else t
  if t.dram.regions.length > s.dram.regions.length then t.raiseAny 0x0F03 u 0 else t

/-- The action that R429 gives a failing unit. -/
def State.applyFailure (s : State) (u : Nat) (addrs : List Nat) : State :=
  if u < 0x100 then s.withdrawUnit u
  else if u < 0x500 then s.repairRows u addrs
  else if u < 0x800 then s.withdrawUnit u
  else s.repairSlice u addrs

/-- The DRAM unit that a channel's word or region lies in. -/
def dramUnit (c region : Nat) : Nat := 0x800 + 16 * c + region / 1024

/-- DC_CAP and the counts of EC_REMAPc and EC_WITHDRAWN brought to the lists (R312, R313). -/
def State.syncRegions (s : State) : State :=
  let s := each (List.range 4) (fun c s => s.put (F.EC_REMAP_USED c) (s.dram.remaps.countP (fun k => k / 2 ^ 34 == c))) s
  let s := s.put F.EC_WITHDRAWN_REGIONS s.dram.regions.length
  let s := (s.put F.DC_CFG_CHANNELS s.channels).putB F.DC_CFG_HASH (!s.otp.px940)
  s.put F.DC_CAP_MIB (s.channels * 14336 - s.dram.regions.countP (fun x => !x.2.2))

/-- The memory system at a start: the remaps and region withdrawals of the journal and of newer entries of the event log (R316, R429). -/
def State.memoryStart (s : State) : State :=
  let w := s.bt.work
  let s := { s with dram := { remaps := w.remaps.map (fun x => x.1 * 2 ^ 34 + 8 * x.2.2), regions := w.regions.map (fun x => (x.1, (x.2, false))) } }
  let s := each (s.bt.evlog.filter (fun e => newer e.1 w.seq)) (fun e s =>
    let (out, c, x) := e.2
    if out then
      if s.dram.regions.any (fun y => y.1 == c && y.2.1 == x) then s
      else { s with dram := { s.dram with regions := s.dram.regions ++ [(c, (x, false))] } }
    else if s.dram.remaps.contains (c * 2 ^ 34 + 8 * x) then s
    else { s with dram := { s.dram with remaps := s.dram.remaps ++ [c * 2 ^ 34 + 8 * x] } }) s
  s.syncRegions

/-- What the journal has withdrawn is out of service again. -/
def State.reapply (s : State) : State :=
  (each (s.bt.work.units.filter (fun x => x.2.withdrawn)) (fun x s => s.outOfService x.1) s).syncEngines

/-! ## The registers of BT_ (R437) -/

/-- BT_SUMMARY, BT_LAST_TEST and BT_ROTATION brought to the results. -/
def State.syncBt (s : State) : State :=
  let n := fun (p : UnitRes → Bool) => s.bt.work.units.countP (fun x => p x.2)
  let s := (s.putSat F.BT_SUMMARY0_A (n (fun x => x.result == 1 || x.result == 2 || x.result == 3))).putSat F.BT_SUMMARY0_B (n (fun x => x.result == 4))
  let s := (s.putSat F.BT_SUMMARY1_A (n (fun x => x.result == 6))).putSat F.BT_SUMMARY1_B (n (fun x => x.withdrawn))
  let p := s.bt.work.ptrs
  (s.put F.BT_LAST_TEST_VALUE s.bt.work.lastTest).put F.BT_ROTATION_VALUE
    (p.getD 0 0 + 256 * p.getD 1 0 + 65536 * p.getD 2 0 + 16777216 * p.getD 3 0)

/-- The word of BT_UNIT_DATA: bytes 2–5 of the unit's journal entry (R430, R437). -/
def State.unitWord (s : State) : Nat :=
  let x := s.unit (s.get F.BT_UNIT_SEL_VALUE % 65536)
  x.result + 256 * ((if x.withdrawn then 1 else 0) + (if x.onePass then 2 else 0) + (if x.unrepaired then 4 else 0)) + 65536 * (x.seq % 65536)

/-- The 16 bytes of a failure record (R431). -/
def FailRec.bytes (f : FailRec) : List (BitVec 8) :=
  leBytes f.unit 2 ++ leBytes f.cause 1 ++ leBytes f.bit 1 ++ leBytes f.addr 4 ++ leBytes f.rtc 4 ++ leBytes f.seq 4

/-- Word k of the failure record that BT_FAIL_SEL selects: the journal's records, then those of host slices. -/
def State.failWord (s : State) (k : Nat) : Nat :=
  match (s.bt.work.fails ++ s.bt.hostFails)[s.get F.BT_FAIL_SEL_VALUE % 256]? with
  | some f => ((f.bytes.drop (4 * k)).take 4).foldr (fun b a => b.toNat + 256 * a) 0
  | none => 0

/-! ## The journal (R426, R427, R430) -/

/-- The bytes of a journal (R430). -/
def State.journalBytes (s : State) (j : Journal) : List (BitVec 8) :=
  let flags := (if j.clean then 1 else 0) + (if j.emergency then 2 else 0) + (if j.rtcOk then 4 else 0)
  let head := leBytes 0x4A545342 4 ++ leBytes 1 2 ++ leBytes flags 1 ++ leBytes (if s.otp.px940 then 0x40 else 0x60) 1 ++ leBytes j.seq 4 ++
    leBytes j.rtc 4 ++ leBytes j.lastTest 4 ++ (padTo 0 16 j.ptrs).flatMap (fun p => leBytes p 1) ++ leBytes j.fails.length 2 ++
    leBytes j.regions.length 2 ++ leBytes (min 128 j.sram.length) 2 ++ leBytes j.remaps.length 2 ++ leBytes (min 65535 j.abandoned) 2
  let units := s.allUnits.flatMap (fun u =>
    let x := kvGet {} j.units u
    leBytes u 2 ++ leBytes x.result 1 ++ leBytes ((if x.withdrawn then 1 else 0) + (if x.onePass then 2 else 0) + (if x.unrepaired then 4 else 0)) 1 ++
    leBytes x.seq 2 ++ leBytes x.fail 2)
  let fails := j.fails.flatMap FailRec.bytes
  let regions := j.regions.flatMap (fun x => leBytes (x.1 * 2 ^ 30 + x.2) 4)
  let rows := (j.sram.take 128).flatMap (fun x => leBytes x.1 2 ++ leBytes x.2.1 2 ++ leBytes x.2.2 1 ++ leBytes 0 3)
  let maps := j.remaps.flatMap (fun x => leBytes x.1 1 ++ leBytes x.2.1 1 ++ leBytes 0 2 ++ leBytes x.2.2 4)
  let body := padTo 0 16380 (padTo 0 10752 (padTo 0 9728 (padTo 0 8704 (padTo 0 4608 (padTo 0 64 head ++ units) ++ fails) ++ regions) ++ rows) ++ maps)
  body ++ leBytes (crc32 body) 4

/-- The lists of remaps as the journal holds them: the spares of each channel in order. -/
def State.remapList (s : State) : List (Nat × (Nat × Nat)) :=
  (List.range 4).flatMap (fun c => ((s.dram.remaps.filter (fun k => k / 2 ^ 34 == c)).zipIdx).map (fun k => (c, (k.2, k.1 % 2 ^ 34 / 8))))

/-- The journal that step 5 writes: planned slices that did not complete leave their units UNKNOWN (R405, R426, R427). -/
def State.closeJournal (s : State) (emergency tested : Bool) : State :=
  let s := s.noteWithdrawn
  let s := each (s.bt.plan.flatMap (fun x => x.2.1)) (fun u s => s.modUnit u (fun x => { x with result := 6 })) s
  let last := if tested then s.testRtc else s.bt.work.lastTest
  let s := s.modWork (fun w => { w with
    seq := (w.seq + 1) % 2 ^ 32, emergency := emergency, rtcOk := s.pw.rtcOk, rtc := s.rtc, lastTest := last,
    clean := !emergency && s.pw.rtcOk && !w.units.any (fun x => x.2.result == 6),
    regions := s.dram.regions.map (fun x => (x.1, x.2.1)), remaps := s.remapList })
  { s with bt := { s.bt with plan := [], testFrom := none, testEnd := none } }.syncBt

/-- The journal written to the slot that is not in force; with its check OPEN clears and the other slot is erased within 2 s (R394, R426). -/
def State.storeJournal (s : State) (ok : Bool) : State :=
  let slot := match s.bt.force with | some 0 => 1 | _ => 0
  let s := s.wrBytes (spaceNvm + 0x30000 + 0x4000 * slot) (s.journalBytes s.bt.work)
  if ok then
    { s with bt := { s.bt with journals := kvIns slot s.bt.work (kvDel slot s.bt.journals), force := some slot, open_ := false, eraseAt := some (1 - slot, s.now + 2000 * ms),
                               bad := s.bt.bad.filter (· ≠ slot) },
             pw := { s.pw with rtcOk := true } }
  else { s with bt := { s.bt with journals := kvDel slot s.bt.journals, bad := slot :: s.bt.bad.filter (· ≠ slot) } }

/-! ## The test at start (R427–R429) -/

/-- The journals read at start: one that fails its check is reported; the newer of those left is in force (R285, R430). -/
def State.readJournals (s : State) (bad : List Nat) : State :=
  let failing := [0, 1].filter (fun k => s.bt.bad.contains k || (bad.contains k && s.bt.journals.any (fun x => x.1 == k)))
  let s := { s with bt := { s.bt with bad := failing } }
  let s := each failing (fun b s => { s with bt := { s.bt with journals := kvDel b s.bt.journals } }.raiseAny 0x0F04 b 0) s
  let a := s.bt.journals.find? (fun x => x.1 == 0)
  let b := s.bt.journals.find? (fun x => x.1 == 1)
  let best := match a, b with
    | some x, some y => some (if newer y.2.seq x.2.seq then y else x)
    | some x, none => some x
    | none, y => y
  { s with bt := { s.bt with loaded := true, force := best.map (·.1), work := (best.map (·.2)).getD {} } }

/-- Is the journal clean for a cold start (R427)? -/
def State.cleanStart (s : State) : Bool :=
  s.bt.force.isSome && s.bt.work.clean && !s.bt.open_ && s.pw.rtcOk && decide (s.bt.work.lastTest ≤ s.rtc) &&
  decide (s.rtc - s.bt.work.lastTest < 604800)

/-- The results of the quick test on the units that it ran: a DRAM slice that passes takes QUICK; a withdrawn unit keeps its result (R428). -/
def State.quickResults (s : State) (fails : List UnitFail) : State :=
  each s.allUnits (fun u s =>
    match fails.find? (fun f => f.unit == u) with
    | some f => s.unitFail f 1
    | none =>
      if (s.unit u).withdrawn then s
      else s.modUnit u (fun x => { x with result := if u ≥ 0x800 then 2 else if s.rowsUsed u > 0 then 3 else 1, fail := 65535 })) s

/-- The failing addresses that the records give a unit. -/
def State.failAddrs (s : State) (u : Nat) : List Nat :=
  let q := (s.unit u).seq
  (s.bt.work.fails.filter (fun f => f.unit == u && f.seq % 65536 == q && f.cause != 3)).map (·.addr)

/-- What the journal and the quick test have found is applied (R429): failures first found are acted on, and what was repaired or withdrawn before
is so again. -/
def State.applyResults (s : State) : State :=
  let old := s.bt.work.units.filter (fun x => x.2.withdrawn)
  let s := each old (fun x s => (s.outOfService x.1).raiseAny 0x0F03 x.1 0) s
  let s := each ((s.bt.work.sram.map (·.1)).eraseDups) (fun u s => s.raiseAny 0x0F06 u 0) s
  let s := each ((s.dram.regions.map (fun x => dramUnit x.1 x.2.1)).eraseDups) (fun u s => s.raiseAny 0x0F03 u 0) s
  let s := each ((s.dram.remaps.map (fun k => dramUnit (k / 2 ^ 34) (k % 2 ^ 34 / 2 ^ 20))).eraseDups) (fun u s => s.raiseAny 0x0F06 u 0) s
  let new := s.bt.work.units.filter (fun x => x.2.result == 4 && !x.2.withdrawn)
  let s := each new (fun x s => s.applyFailure x.1 (s.failAddrs x.1)) s
  (s.syncRegions).syncEngines

/-- Step 3 of a cold start: the journals are read, the quick test has run where they are not clean, and its results are applied. `true` when it ran. -/
def State.startTest (s : State) (bad : List Nat) (fails : List UnitFail) : State × Bool :=
  let s := s.readJournals bad
  let clean := s.cleanStart
  let unknown := s.bt.work.units.countP (fun x => x.2.result == 6)
  let s := s.memoryStart
  let s := if clean then s else s.quickResults fails
  let s := s.applyResults
  let s := if clean then s else s.raiseAny 0x0F01 wide (min 65535 fails.length + 65536 * min 65535 unknown)
  let s := ((s.putB F.BT_STATUS_QUICK (!clean)).putB F.BT_STATUS_CLEAN clean).putB F.BT_STATUS_OPEN_SEEN s.bt.open_
  let s := s.put F.BT_STATUS_JOURNAL (match s.bt.force with | none => 0 | some n => n + 1)
  (s.putSat F.SB_SHUTDOWN_ABANDONED s.bt.work.abandoned |>.syncBt, !clean)

/-! ## Host-run slices and raw access (R432, R433) -/

/-- May the BT_RUN and BT_ACC registers be used in this lifecycle state (R417)? -/
def State.btOpen (s : State) : Bool := s.otp.life == 1 || s.otp.life == 3

/-- Is a unit out of service (R432)? Which DRAM slices hold an allocated region is the signal box's to know. -/
def State.unitFree (s : State) (u : Nat) (allocated : Bool) : Bool :=
  if u ≥ 0x800 then !allocated
  else
    let y := if u < 0x500 then u % 256 / 8 else u - 0x500
    let out := if u < 0x400 then decide (s.get (F.YD_ENG_STATE y (u % 8)) ≥ 2) else decide (u < 0x500) && s.fab.banksOut.contains (u - 0x400)
    out || !s.fab.tracks.any (fun t => t.yard == y)

/-- Why a host slice is refused: 0 it is not (R432). -/
def State.btRefusal (s : State) (u : Nat) (allocated : Bool) : Nat :=
  let y := if u < 0x500 then u % 256 / 8 else u - 0x500
  let powered := if u ≥ 0x800 then s.domainOn 13 else s.domainOn (9 + y / 3)
  if !s.allUnits.contains u ∨ !powered ∨ (s.get F.PM_STATE_STATE = 3 ∧ u < 0x800) then 2
  else if !s.unitFree u allocated then 3
  else 0

/-- A host slice ends, or is refused, with a result. -/
def State.btEnd (s : State) (result n : Nat) : State :=
  let u := s.get F.BT_RUN_UNIT
  ((((s.put F.BT_RUN_STATUS_BUSY 0).put F.BT_RUN_STATUS_DONE 1).put F.BT_RUN_STATUS_RESULT result).putSat F.BT_RUN_STATUS_FAILS n).raiseAny 0x0F05 u 0

/-- A DRAM slice's contents are destroyed (R425): its bytes then count as never written. -/
def State.destroySlice (s : State) (u : Nat) : State :=
  let inside := fun (a : Nat) => let (c, x) := s.chanOf a; c == u / 16 % 4 && x / 2 ^ 30 == u % 16
  { s with mem := s.mem.filter (fun e =>
      if spaceDram ≤ e.1 ∧ e.1 < spaceCheck then !inside (e.1 - spaceDram)
      else if spaceCheck ≤ e.1 ∧ e.1 < spaceNvm then !inside (8 * (e.1 - spaceCheck))
      else true) }

/-- A write to BT_RUN (R432). -/
def btRun (v : Nat) (allocated : Bool) (s : State) : State :=
  if !s.btOpen then s
  else
    let s := (s.put F.BT_RUN_ALGO (v / 65536)).put F.BT_RUN_UNIT v
    if !v.testBit 31 ∨ s.is F.BT_RUN_STATUS_BUSY then s
    else
      let u := v % 65536
      let r := s.btRefusal u allocated
      if r ≠ 0 then s.btEnd r 0
      else
        let s := if u ≥ 0x800 then s.destroySlice u else s
        let s := { s with bt := { s.bt with run := some (u, s.now), lastRun := some u, acc := [] } }
        let s := s.modUnit u (fun x => { x with result := 6 })
        ((s.put F.BT_RUN_STATUS_BUSY 1).put F.BT_RUN_STATUS_RESULT 0).put F.BT_RUN_STATUS_FAILS 0

/-- BT_RUN_DONE: the slice that runs passes, fails at the given addresses, or is aborted at twice its budget (R425, R432). -/
def btRunDone (bit : Nat) (addrs : List Nat) (s : State) : State :=
  match s.bt.run with
  | none => s
  | some (u, t0) =>
    let s := { s with bt := { s.bt with run := none } }
    let late := decide (s.now ≥ t0 + 2 * unitBudget u * ms)
    let recs := (if late then [(0, 0xFF)] else addrs.map (fun a => (a, bit))).map (fun a =>
      ({ unit := u, cause := if late then 2 else 1, bit := a.2, addr := a.1, rtc := s.rtc, seq := s.bt.work.seq } : FailRec))
    let s := { s with bt := { s.bt with hostFails := s.bt.hostFails ++ recs } }
    s.btEnd (if late then 4 else if addrs = [] then 0 else 1) (if late then 0 else addrs.length)

/-- The check bits of a 32-bit SRAM protection word (R317). -/
def sramCheck (d : Nat) : Nat :=
  let (h, b) := hamming (dataPositions 38) (d % 2 ^ 32)
  h + (if b != parityOf 6 h then 64 else 0)

/-- The data and check bits of the SRAM word that an access names; a word that nothing has written since the run holds free values. -/
def State.accWord (s : State) (a : Nat) : (Nat × Nat) × State :=
  match s.bt.acc.find? (fun x => x.1 == a) with
  | some x => (x.2, s)
  | none =>
    let (d, s) := s.free 32
    let (c, s) := s.free 7
    ((d, c), s)

/-- A raw access to a word of a macro or bank. -/
def accSram (cmd : Nat) (s : State) : State :=
  let a := s.get F.BT_ACC_ADDR_VALUE
  let (old, s) := s.accWord a
  let d := s.get F.BT_ACC_DATA_LO_VALUE
  let new := match cmd with
    | 1 => (d, sramCheck d)
    | 2 => (d, old.2)
    | 3 => (old.1, s.get F.BT_ACC_CHECK_VALUE % 128)
    | _ => old
  let s := { s with bt := { s.bt with acc := kvIns a new (kvDel a s.bt.acc) } }
  if cmd = 4 then ((s.put F.BT_ACC_DATA_LO_VALUE new.1).put F.BT_ACC_DATA_HI_VALUE 0).put F.BT_ACC_CHECK_VALUE new.2 else s

/-- The number of the DRAM data word at a word address within a slice of 2²⁷ words (R292, R424). -/
def State.accPlace (s : State) (u a : Nat) : Nat := s.systemOf (u / 16 % 4) (u % 16 * 2 ^ 30 + 8 * (a % 2 ^ 27)) / 8

/-- A raw access to a DRAM word: memory holds its data, and its check byte as the difference from the one that R295 computes. -/
def accDram (cmd u : Nat) (s : State) : State :=
  let w := s.accPlace u (s.get F.BT_ACC_ADDR_VALUE)
  let old := s.dataWord w
  let check := checkByte old ^^^ s.checkDiff w
  let d := s.get F.BT_ACC_DATA_LO_VALUE + 2 ^ 32 * s.get F.BT_ACC_DATA_HI_VALUE
  match cmd with
  | 1 => s.storeWord w d 0
  | 2 => s.storeWord w d (check ^^^ checkByte d)
  | 3 => s.storeWord w old (s.get F.BT_ACC_CHECK_VALUE % 256 ^^^ checkByte old)
  | _ => ((s.put F.BT_ACC_DATA_LO_VALUE old).put F.BT_ACC_DATA_HI_VALUE (old / 2 ^ 32)).put F.BT_ACC_CHECK_VALUE check

/-- A raw access (R433): 1 data with its check bits, 2 data alone, 3 check bits alone, 4 a read. An access to no unit that is out of service, or to
one that has no words, sets REFUSED. -/
def btAcc (cmd : Nat) (s : State) : State :=
  if !s.btOpen then s
  else if cmd = 0 ∨ cmd > 4 then s
  else
    match s.bt.lastRun with
    | none => s.put F.BT_RUN_STATUS_REFUSED 1
    | some u =>
      if s.get F.BT_RUN_UNIT ≠ u ∨ s.btRefusal u false ≠ 0 ∨ s.bt.run.isSome ∨ u < 0x100 ∨ (0x500 ≤ u ∧ u < 0x800) then s.put F.BT_RUN_STATUS_REFUSED 1
      else if u < 0x800 then accSram cmd s
      else accDram cmd u s

/-! ## Meanings -/

/-- BT_RUN (R432): a write to the register. -/
def execBtRun (t value : Nat) (allocated : Bool) (s : State) : Outcome := runAt t s (access 0x210100 (btRun value allocated))
/-- BT_RUN_DONE (R432). -/
def execBtRunDone (t bit : Nat) (addrs : List Nat) (s : State) : Outcome := runAt t s (btRunDone bit addrs)
/-- BT_ACC_WRITE_CODED (R433). -/
def execBtAccWriteCoded (t : Nat) (s : State) : Outcome := runAt t s (access 0x210120 (btAcc 1))
/-- BT_ACC_WRITE_DATA (R433). -/
def execBtAccWriteData (t : Nat) (s : State) : Outcome := runAt t s (access 0x210120 (btAcc 2))
/-- BT_ACC_WRITE_CHECK (R433). -/
def execBtAccWriteCheck (t : Nat) (s : State) : Outcome := runAt t s (access 0x210120 (btAcc 3))
/-- BT_ACC_READ (R433). -/
def execBtAccRead (t : Nat) (s : State) : Outcome := runAt t s (access 0x210120 (btAcc 4))

end Sys2Proof.Machine
end

