-- ==== Sys2Proof/Machine/Nvm.lean ====
section
/-!
DEFINITION. Machine/Nvm.lean: the NVM's layout (R393), whether an image slot is valid (R398), and in-field update: the NV_CMD operations and
the rollback counter (R395, R400–R402). What a power-state change does to an operation that waits stands in Machine/Power.lean.
-/
namespace Sys2Proof.Machine

/-! ## Layout (R393) -/

/-- The slot size S in MiB of a device of `c` MiB. -/
def slotMib (c : Nat) : Nat := min 128 ((c - 2) / 2)

/-- The NVM offset of image slot A (0) or B (1). -/
def State.slotBase (s : State) (slot : Nat) : Nat := 0x100000 + slot * s.get F.NV_STATUS_SLOT_MIB * 2 ^ 20

/-- The slot that host software may write. -/
def State.inactiveSlot (s : State) : Nat := 1 - s.get F.NV_STATUS_ACTIVE

/-! ## Image slots (R398, R417) -/

/-- Does the SHA-256 of an image's verification key match the hash that the lifecycle state names: the one in OTP, or in MANUFACTURE and RETURN the
Kamros factory key hash (R398, R413, R417)? -/
def State.keyAccepted (s : State) (i : Image) : Bool :=
  if s.otp.life = 1 ∨ s.otp.life = 2 then s.otp.vkHash == some (sha256 i.key)
  else if s.otp.life = 0 ∨ s.otp.life = 3 then sha256 i.key == Config.factoryKeyHash
  else false

/-- Does an image list each of the record types 16–21 exactly once, and type 22 at most once (R397)? -/
def imageTypesOk (i : Image) : Bool :=
  (List.range 6).all (fun k => i.entries.countP (fun e => e.1 == 16 + k) == 1) && decide (i.entries.countP (fun e => e.1 == 22) ≤ 1)

/-- Do the module-record table, every record and every timetable section lie within Image length (R396, R398)? -/
def imageInsideOk (i : Image) : Bool :=
  let inside := fun (a n : Nat) => decide (a + n ≤ i.length)
  let offs := i.ttOffs.filter (· ≠ 0)
  inside i.tableOff (12 * i.recCount) && i.entries.all (fun e => inside e.2.1 e.2.2) && decide (offs.length = i.timetables.length) &&
  (offs.zip i.timetables).all (fun p => inside p.1 p.2.length)

/-- Does a header meet R396's magic, format version and limits in a slot of `mib` MiB? -/
def imageHeaderOk (i : Image) (mib : Nat) : Bool :=
  decide (i.magic = 0x4D495850 ∧ i.version = 1) && decide (192 ≤ i.length ∧ i.length ≤ min mib 128 * 2 ^ 20) &&
  decide (6 ≤ i.recCount ∧ i.recCount ≤ 16) && decide (i.entries.length = i.recCount) && decide (1 ≤ i.ttCount ∧ i.ttCount ≤ 4) &&
  decide (i.timetables.length = i.ttCount)

/-- AUTO_RAISE (R396, R402). -/
def imageAutoRaise (i : Image) : Bool := i.flags.testBit 0

/-- The first condition of R398 that a slot fails, as NV_SLOTx FAIL codes it: 0 none, 1 header, 2 part, 3 key hash, 4 signature, 5 rollback. A slot
without an image fails its header. -/
def State.slotFail (s : State) : Option Image → Nat
  | none => 1
  | some i =>
    if !(imageHeaderOk i (s.get F.NV_STATUS_SLOT_MIB) && imageTypesOk i && imageInsideOk i) then 1
    else if !i.partMask.testBit (if s.otp.px940 then 1 else 0) then 2
    else if !s.keyAccepted i then 3
    else if !i.signatureOk then 4
    else if i.rl < s.otp.rollback then 5
    else 0

/-- NV_SLOTx written from what a slot holds. -/
def State.showSlot (s : State) (slot : Nat) (i : Option Image) : State :=
  let f := s.slotFail i
  let rl := match i with | some i => if f = 1 then 0 else i.rl | none => 0
  let b := match i with | some i => if f = 1 then 0 else i.build | none => 0
  if slot = 0 then (((s.putB F.NV_SLOTA_VALID (f = 0)).put F.NV_SLOTA_FAIL f).put F.NV_SLOTA_RL rl).put F.NV_SLOTA_BUILD b
  else (((s.putB F.NV_SLOTB_VALID (f = 0)).put F.NV_SLOTB_FAIL f).put F.NV_SLOTB_RL rl).put F.NV_SLOTB_BUILD b

/-! ## Rollback counter (R402) -/

/-- A raise to level `rl`: refused beyond the counter's 64 steps. -/
def State.raiseRollback (s : State) (rl : Nat) : State × Bool :=
  if rl > 64 ∨ s.otp.rollback ≥ 64 then (s, false)
  else if rl > s.otp.rollback then ({ s with otp := { s.otp with rollback := rl } }.raiseAny 0x0D08 wide 0, true)
  else (s, true)

/-- RL of the active image: that of the slot in NV_STATUS ACTIVE where it is valid. -/
def State.activeRl (s : State) : Option Nat :=
  if s.get F.NV_STATUS_ACTIVE = 0 then (if s.is F.NV_SLOTA_VALID then some (s.get F.NV_SLOTA_RL) else none)
  else if s.is F.NV_SLOTB_VALID then some (s.get F.NV_SLOTB_RL) else none

/-! ## NV_CMD operations (R395, R400, R401) -/

/-- Are operations available: RUN, IDLE or SAFE_HOLD, and no shutdown accepted? -/
def State.nvAvailable (s : State) : Bool :=
  decide (s.get F.PM_STATE_STATE ≥ 1) && s.pw.shut.isNone && s.pw.held.isNone

/-- The end of an operation: DONE, RESULT and event 0x0D07. -/
def State.nvEnd (s : State) (result : Nat) : State :=
  let s := { s with nv := { s.nv with op := none } }
  (((s.put F.NV_STATUS_BUSY 0).put F.NV_STATUS_DONE 1).put F.NV_STATUS_RESULT result).raiseAny 0x0D07 wide 0

/-- An operation under way. -/
def State.nvRuns (s : State) (cmd result : Nat) : State := { s with nv := { s.nv with op := some (cmd, result) } }.put F.NV_STATUS_BUSY 1

/-- One more image write (R400). -/
def State.countWrite (s : State) : State := s.bumpNoFlag F.NV_WRITES_COUNT 1

/-- The bytes of NV_BUF. -/
def State.nvBytes (s : State) (n : Nat) : List (BitVec 8) :=
  (List.range n).map (fun i => BitVec.ofNat 8 (s.get (F.NV_BUF_DATA (i / 4)) / 2 ^ (8 * (i % 4))))

/-- Bytes programmed from NVM address `a` on: programming clears bits of the NOR device and sets none. -/
def State.nvProgramAt (s : State) (a : Nat) (bs : List (BitVec 8)) : State :=
  s.wrBytes (spaceNvm + a) (((s.rdBytes (spaceNvm + a) bs.length).zip bs).map (fun p => p.1 &&& p.2))

/-- Byte i of NV_BUF set. -/
def State.nvPutByte (s : State) (i : Nat) (b : BitVec 8) : State :=
  let f := F.NV_BUF_DATA (i / 4)
  let w := s.get f
  let k := 2 ^ (8 * (i % 4))
  s.put f (w - w / k % 256 * k + b.toNat * k)

/-- Is an NVM range one that READ may copy (R393, R400): in the device and clear of the reserved areas? -/
def State.nvReadable (s : State) (a n : Nat) : Bool :=
  decide (1 ≤ n ∧ n ≤ 32768) &&
  (decide (0x10000 ≤ a ∧ a + n ≤ 0x38000) || decide (0x100000 ≤ a ∧ a + n ≤ s.nvmMib * 2 ^ 20))

/-- ERASE: the whole inactive slot reads 0xFF, and its VALID clears. -/
def State.nvErase (s : State) : State :=
  let b := spaceNvm + s.slotBase s.inactiveSlot
  let e := b + s.get F.NV_STATUS_SLOT_MIB * 2 ^ 20
  let s := { s with mem := s.mem.filter (fun c => !(decide (b ≤ c.1) && decide (c.1 < e))) }
  let s := if s.inactiveSlot = 0 then s.put F.NV_SLOTA_VALID 0 else s.put F.NV_SLOTB_VALID 0
  s.countWrite.nvRuns 1 0

/-- PROGRAM: NV_LEN bytes of NV_BUF to slot offset NV_ADDR of the inactive slot. -/
def State.nvProgram (s : State) : State :=
  let a := s.get F.NV_ADDR_VALUE
  let n := s.get F.NV_LEN_VALUE
  if n = 0 ∨ n > 32768 ∨ a % 256 ≠ 0 ∨ a + n > s.get F.NV_STATUS_SLOT_MIB * 2 ^ 20 then s.nvEnd 2
  else (s.nvProgramAt (s.slotBase s.inactiveSlot + a) (s.nvBytes n)).countWrite.nvRuns 2 0

/-- READ: NV_LEN bytes from NVM offset NV_ADDR to NV_BUF. -/
def State.nvRead (s : State) : State :=
  let a := s.get F.NV_ADDR_VALUE
  let n := s.get F.NV_LEN_VALUE
  if !s.nvReadable a n then s.nvEnd 2
  else (each (List.range n) (fun i t => t.nvPutByte i (s.rdByte (spaceNvm + a + i))) s).nvRuns 4 0

/-- RAISE: the rollback counter takes the RL of the active image. -/
def State.nvRaise (s : State) : State :=
  match s.activeRl with
  | none => s.nvRuns 5 3
  | some rl => let (s, ok) := s.raiseRollback rl; s.nvRuns 5 (if ok then 0 else 3)

/-- An operation starts. -/
def State.nvBegin (s : State) (cmd : Nat) : State :=
  let s := { s with nv := { s.nv with wait := none } }
  match cmd with
  | 1 => s.nvErase
  | 2 => s.nvProgram
  | 3 => s.nvRuns 3 0
  | 4 => s.nvRead
  | _ => s.nvRaise

/-- An operation that waited for a start or a shutdown begins once the module is in RUN, IDLE or SAFE_HOLD. -/
def State.nvResume (s : State) : State :=
  match s.nv.wait with
  | some c => if s.nvAvailable then s.nvBegin c else s
  | none => s

/-- A write of NV_CMD with GO: ignored while BUSY. -/
def nvCmd (cmd : Nat) (s : State) : State :=
  if s.is F.NV_STATUS_BUSY then s
  else
    let s := s.put F.NV_CMD_CMD cmd
    if s.nvAvailable then s.nvBegin cmd else { s with nv := { s.nv with wait := some cmd } }.put F.NV_STATUS_BUSY 1

/-- The operation under way ends; VERIFY shows what the inactive slot holds. -/
def State.nvFinish (s : State) (ok : Bool) (img : Option Image) : State :=
  match s.nv.op with
  | none => s
  | some (cmd, result) =>
    if !ok then s.nvEnd 1
    else if cmd = 3 then (s.showSlot s.inactiveSlot img).nvEnd (if s.slotFail img = 0 then 0 else 4)
    else s.nvEnd result

/-! ## Meanings -/

/-- NV_ERASE (R400). -/
def execNvErase (_src : Source) (t : Nat) (s : State) : Outcome := runAt t s (access 0x220014 (nvCmd 1))
/-- NV_PROGRAM (R400). -/
def execNvProgram (_src : Source) (t : Nat) (s : State) : Outcome := runAt t s (access 0x220014 (nvCmd 2))
/-- NV_VERIFY (R400). -/
def execNvVerify (_src : Source) (t : Nat) (s : State) : Outcome := runAt t s (access 0x220014 (nvCmd 3))
/-- NV_READ (R400). -/
def execNvRead (_src : Source) (t : Nat) (s : State) : Outcome := runAt t s (access 0x220014 (nvCmd 4))
/-- NV_RAISE (R402). -/
def execNvRaise (_src : Source) (t : Nat) (s : State) : Outcome := runAt t s (access 0x220014 (nvCmd 5))

end Sys2Proof.Machine
end

