-- ==== Sys2Proof/Machine/Power.lean ====
section
/-!
DEFINITION. Machine/Power.lean: power domains and states (R382, R383), cold and warm starts with commit (R384–R387), failed starts and
SAFE_HOLD (R388–R392), the shutdown sequence (R403–R405), supplies (R442) and the thermal wait (R459). A step of a start or of the
sequence that the module takes on its own is a command that says when the step ended and what it met.
-/
namespace Sys2Proof.Machine

/-! ## Domains (R382) -/

/-- Is a register entry kept when the domains of `on` are powered? Beside the blocks of those domains: NV_WRITES and the cause of the last
failure; the lands that OP_ registers show; the laser's state while PD_LASER is powered, the sample clock's while PD_SBOX is; and what a start has
withdrawn, while PD_FP is. -/
def keepsKey (on key : Nat) : Bool :=
  let a := key / 32
  on.testBit (blockDomain (a / 65536)) || (on.testBit 8 && decide (0x80000 ≤ a ∧ a < 0x140000)) || a == 0x220010 ||
  [F.SB_START_INFO_CAUSE.key, F.OP_IL_PIN.key, F.OP_IL_LOOP_OK.key, F.OP_AMP_MON.key].contains key ||
  (on.testBit 4 && [F.OP_LASER_LOCKED.key, F.OP_LASER_WARM.key].contains key) ||
  (on.testBit 2 && [F.SL_STATUS_UNLOCK_SEEN.key, F.SL_STATUS_REF_SRC.key, F.SL_STATUS_CLK_STATE.key, F.SL_CLK_FERR_FERR.key].contains key)

/-- Is a byte of memory held when the domains of `held` are powered or in retention? -/
def keepsCell (held a : Nat) : Bool :=
  if a < spaceNvm then held.testBit 13
  else if a < spaceYard then true
  else if a < spaceTest then held.testBit (9 + (a - spaceYard) / 2 ^ 20 / 3)
  else if a < spaceEngine then held.testBit 13
  else held.testBit (9 + (a - spaceEngine) / 2 ^ 20 / 24)

/-- The logic of the optical path, the lanes, the fabric and the sensors that loses power. -/
def State.dropPaths (s : State) (on held : Nat) : State :=
  let off := fun (d : Nat) => !on.testBit d
  let s := if off 5 then { s with sched := {}, opt := {} } else s
  let s := if off 6 then { s with lanes := [] } else s
  let s := if off 7 then { s with br := if held.testBit 13 then { base := s.br.base, baseAt := s.br.baseAt } else {} } else s
  let s := if off 8 then { s with fp := {}, secs := [], dfifo := [], built := [], fab := {} } else s
  let s := if off 3 then { s with sens := { cal := { slots := s.sens.cal.slots, bad := s.sens.cal.bad, eraseAt := s.sens.cal.eraseAt } } } else s
  if off 4 then { s with sens := { s.sens with tec := {} }, pw := { s.pw with laserAt := none } } else s

/-- The logic of the signal box, memory, output and the array that loses power; the notice board needs DRAM. -/
def State.dropLinks (s : State) (on held : Nat) : State :=
  let off := fun (d : Nat) => !on.testBit d
  let s := if off 1 then { s with nv := {} } else s
  let s := if off 2 then { s with sw := {}, evt := [], tref := {} } else s
  let s := if off 15 then { s with fl := {} } else s
  let s := if off 13 then
      { s with recd := {}, dram := if held.testBit 13 then { remaps := s.dram.remaps, regions := s.dram.regions, marked := s.dram.marked } else {},
               ev := { s.ev with placed := false, nb := if held.testBit 13 then s.ev.nb else [] },
               pw := { s.pw with trained := if held.testBit 13 then s.pw.trained else none } }
    else s
  if off 14 then { s with out := {}, ev := { s.ev with masked := 0xFFFFFFFF, pba := 0, unannounced := 0, oldest := none } }
  else if held.testBit 13 then s
  else { s with out := { d3 := s.out.d3, msix := s.out.msix } }

/-- The domains of `on` powered and those of `ret` in retention: what lies in any domain that is not powered before and after is lost, DRAM and
yards only where not even retention holds them, and the time base starts with PD_SBOX (R356, R382). -/
def State.setDomains (s : State) (on ret : Nat) : State :=
  let up := on.testBit 2 && !s.domainOn 2
  let kept := on &&& s.get F.PM_DOMAINS_ON
  let held := (on ||| ret) &&& (s.get F.PM_DOMAINS_ON ||| s.get F.PM_DOMAINS_RETAINED)
  let s := { s with regs := s.regs.filter (fun e => keepsKey kept e.1), mem := s.mem.filter (fun c => keepsCell held c.1) }
  let s := (s.dropPaths kept held).dropLinks kept held
  let s := if up then { s with tb := { off := -(s.now : Int) } } else s
  (s.put F.PM_DOMAINS_ON on).put F.PM_DOMAINS_RETAINED ret

/-- A set of domains as a mask. -/
def domainMask (ds : List Nat) : Nat := ds.foldl (fun a d => a ||| 2 ^ d) 0

/-- The bit of domain d where it is powered now. -/
def State.ifOn (s : State) (d : Nat) : List Nat := if s.domainOn d then [d] else []

/-- PD_RXB, where a timetable of the image has a Brillouin slot (R97). -/
def State.rxbWanted (s : State) : List Nat := if s.sw.timetables.any (·.brillouin) then [7] else []

/-! ## Leaving a state -/

/-- Optical state OFF (R69, R70): gate closed, the dead-man timer stopped (R79), and the change reported. -/
def State.lightOff (s : State) : State := { s with opt := { s.opt with off := true, dmRunning := false } }.syncOptics

/-- Whatever start or shutdown was in progress is over. -/
def State.clearStart (s : State) : State :=
  let s := { s with pw := { s.pw with coldDue := false, startAt := none, steps := [], allCold := false, image := none, tt := none, commitAt := none,
                                      settled := false, failedAt := none, shut := none, held := none, retained := false },
                    bt := { s.bt with plan := [], testFrom := none, testEnd := none, run := none, loaded := false } }
  ((s.put F.PM_STATE_SHUTTING 0).put F.PM_STATE_THERM_WAIT 0).put F.PM_STATE_STATE 0

/-- OFF with the domains of `on` left powered. -/
def State.goOff (s : State) (on : List Nat) : State := s.clearStart.setDomains (domainMask on) 0

/-- The thermal wait in OFF that precedes a cold start (R459). -/
def State.thermalWait (s : State) : State := ((s.goOff ([0, 3] ++ s.ifOn 14))).put F.PM_STATE_THERM_WAIT 1

/-- A cold start is due. -/
def State.needCold (s : State) : State := { s with pw := { s.pw with coldDue := true, failedAt := none } }

/-! ## SAFE_HOLD and failed starts (R388–R392) -/

/-- SAFE_HOLD is entered; `trained`: how its one DRAM training ends (R391). -/
def State.safeHold (s : State) (trained : Bool) : State :=
  let partner := if s.portUp 0 || s.portUp 1 then s.ifOn 15 else []
  let fresh := !s.domainOn 13
  let s := s.goOff ([0, 1, 2, 3, 14] ++ partner ++ (if trained then [13] else []))
  let s := ((s.put F.PM_START_HOLD 1).put F.PM_STATE_STATE 3).put F.SB_STATUS_PHASE 5 |>.put F.SB_STATUS_COMMITTED 0
  let s : State := if trained then
      let s := if fresh then s.memoryStart else s
      (s.put F.HW_NB_SIZE_SIZE (s.pw.nbSize.getD 4096)).placeRegions.placeBoard
    else s
  (s.raiseAny 0x0D03 wide 0).nvResume

/-- A start fails (R388–R391): counted, and a cold start follows 1 s later, or SAFE_HOLD. -/
def State.failStart (s : State) (cause : Nat) (trained : Bool) : State :=
  let fails := min 3 (s.get F.PM_START_FAILS + 1)
  let s := ((s.put F.PM_START_FAILS fails).put F.SB_START_INFO_CAUSE cause).put F.PM_STATE_LAST_RESET (if cause = 8 then 4 else 5)
  let s := (s.raiseAny 0x0D02 wide (cause + 256 * fails)).lightOff
  if fails < 3 then
    let s := s.goOff [0]
    { s with pw := { s.pw with failedAt := some s.now } }
  else s.safeHold trained

/-! ## Zeroisation (R420) -/

/-- The image key and the private seal key are blown; `false` where that has been done before. -/
def State.zeroise (s : State) : State × Bool :=
  if s.otp.zeroised then (s, false)
  else ({ s with otp := { s.otp with zeroised := true, imageKey := none, sealKey := none } }.raiseAny 0x0E04 wide 0, true)

/-- What the boot ROM finds at power-up (R419, R420): a zeroisation latched on VBAT, and PD_AON without its contents. -/
def State.bootTamper (s : State) : State :=
  let s := if s.is F.LC_TAMPER_PENDING then (s.put F.LC_TAMPER_PENDING 0).zeroise.1 else s
  let lost := s.pw.aonLost
  let s := { s with pw := { s.pw with aonLost := false } }
  let armed : Bool := match s.otp.tamper with | some w => w.testBit 31 | none => false
  if lost && armed then ((s.put F.LC_TAMPER_VBAT_LOST 1).raiseAny 0x0E03 wide 0).zeroise.1 else s

/-! ## Cold start, steps 1 to 3 (R384, R385, R393) -/

/-- The calibration record that a start takes (R285); `bad`: slots whose record fails its check word, magic or version. -/
def State.calChoose (s : State) (bad : List Nat) : State :=
  let failing := [0, 1].filter (fun k => s.sens.cal.bad.contains k || (bad.contains k && s.sens.cal.slots.any (fun x => x.1 == k)))
  let s := s.modSens (fun y => { y with cal := { y.cal with bad := failing } })
  let s := each failing (fun k s => s.raiseAny 0x0804 k 0) s
  let good := s.sens.cal.slots.filter (fun x => !bad.contains x.1)
  let a := good.find? (fun x => x.1 == 0)
  let b := good.find? (fun x => x.1 == 1)
  let best := match a, b with
    | some x, some y => some (if newer y.2.1 x.2.1 then y else x)
    | some x, none => some x
    | none, y => y
  let s := (s.putB F.CL_STATUS_A_VALID a.isSome).putB F.CL_STATUS_B_VALID b.isSome
  let s := (s.put F.CL_SEQ_A_SEQ ((a.map (·.2.1)).getD 0)).put F.CL_SEQ_B_SEQ ((b.map (·.2.1)).getD 0)
  match best with
  | some x =>
    let s := s.modSens (fun y => { y with cal := { y.cal with slots := good, seq := x.2.1, force := some (x.2.2, 0, 0, false) } })
    (s.put F.CL_STATUS_ACTIVE (x.1 + 1)).put F.CL_STATUS_FACTORY 0
  | none =>
    let s := s.modSens (fun y => { y with cal := { y.cal with slots := good, seq := 0, force := some (s.otp.factory, 0, 0, false) } })
    ((s.put F.CL_STATUS_ACTIVE 0).put F.CL_STATUS_FACTORY 1).raiseAny 0x0805 wide 0

/-- Step 3: PD_LASER, PD_HK, PD_MEM and PD_FLOTIS powered; TEC loop and laser warm-up start. -/
def State.startPower (s : State) (calBad : List Nat) : State :=
  let s := s.setDomains (domainMask [0, 1, 2, 3, 4, 13, 14, 15]) 0
  let s := { s with dram := {}, pw := { s.pw with laserAt := some s.now } }.tecStart
  (s.put F.SB_STATUS_PHASE 1).calChoose calBad

/-- Step 1: the attempt is counted, conditions end, PD_BOOT and PD_SBOX are released (R389, R469). -/
def State.startCount (s : State) : State :=
  let s := (s.bumpWrap F.PM_START_ATTEMPTS 1).put F.PM_STATE_KIND 0
  let s := { s with ev := { s.ev with conds := [] } }.syncActive
  let s := s.goOff [0, 1, 2, 14]
  let s := ((s.put F.SB_STATUS_COMMITTED 0).put F.SB_STATUS_STEPS 0).put F.SB_STATUS_PHASE 0
  let s := { s with pw := { s.pw with startAt := some s.now, allCold := true } }
  let s := s.bootTamper
  match s.pw.rail with
  | some r => { s with pw := { s.pw with rail := none } }.raiseAny 0x0D0C r 0
  | none => s

/-- COLD_START: steps 1 to 3. `mode`: how the NVM answers (0 not at all, 1 in the 1-4-4 fallback, 2 in octal DTR); `cap`: its capacity code; with
HOLD set the slots are verified first (R392). -/
def coldStart (mode cap : Nat) (crystal : Bool) (calBad : List Nat) (trained : Bool) (s : State) : State :=
  if !s.pw.coldDue ∨ !s.pw.supplies ∨ s.pw.pfwLow then s
  else
    let s := s.startCount
    if !crystal then ((s.put F.SL_STATUS_CLK_FAIL 1).raiseAny 0x0207 wide 0).failStart 5 trained
    else if mode = 0 then (if s.is F.PM_START_HOLD then s.safeHold trained else s.failStart 1 trained)
    else
      let cap := min 2 cap
      let s := (s.putB F.NV_STATUS_FALLBACK (mode = 1)).put F.NV_STATUS_CAP cap |>.put F.NV_STATUS_SLOT_MIB (slotMib (64 * 2 ^ cap))
      if s.is F.PM_START_HOLD then s.put F.SB_STATUS_PHASE 1 else s.startPower calBad

/-! ## Supplies and the thermal wait (R419, R442, R459) -/

/-- PD_AON has lost its contents with VBAT (R407, R419). -/
def State.loseAon (s : State) : State :=
  { s with regs := s.regs.filter (fun e => decide (e.1 / 32 / 65536 ≥ 2) && e.1 / 32 != 0x220010),
           ev := { s.ev with log := [], logLost := 0, conds := [], rate := [] },
           bt := { s.bt with open_ := false }, lc := {},
           pw := { s.pw with cache := none, rtcOk := false, vbatAt := s.now, nbSize := none, rail := none, aonLost := true } }

/-- Main supplies become good. -/
def supplyGood (aonLost : Bool) (s : State) : State :=
  if s.pw.supplies then s
  else
    let s := if aonLost then s.loseAon else s
    { s with pw := { s.pw with supplies := true, pfwLow := false } }.thermalWait

/-- One reading of the thermal wait (R459): the codes of inputs 10, 11 and 12. It ends when all three read below 95 °C. -/
def thermalWaitReading (a b c : Nat) (s : State) : State :=
  if !s.is F.PM_STATE_THERM_WAIT then s
  else
    let s := ((s.thermal 10 a).thermal 11 b).thermal 12 c
    if a < 2900 ∧ b < 2900 ∧ c < 2900 then (s.put F.PM_STATE_THERM_WAIT 0).needCold else s

/-- Every supply of the module gone but VBAT: everything but PD_AON loses power at once. -/
def State.powerGone (s : State) (last : Nat) : State :=
  let s := { s with pw := { s.pw with supplies := false } }
  (s.goOff [0]).put F.PM_STATE_LAST_RESET last

/-- A main rail out of its band for 10 µs (R442). -/
def supplyFault (rail : Nat) (s : State) : State :=
  if !s.pw.supplies then s
  else
    let s := s.powerGone 0
    { s with pw := { s.pw with rail := some rail } }

/-- Every rail within its band for 100 ms after a fault (R442). -/
def supplyRecovered (s : State) : State :=
  if s.pw.supplies ∨ s.pw.rail.isNone then s
  else { s with pw := { s.pw with supplies := true, pfwLow := false } }.thermalWait

/-- Main supplies lost (R383). -/
def supplyLoss (s : State) : State := if s.pw.supplies then s.powerGone (if s.pw.pfwLow then 1 else 0) else s

/-- 1 s after a failed start (R390). -/
def retryDelayEnd (s : State) : State :=
  match s.pw.failedAt with
  | some t => if s.now ≥ t + 1000 * ms ∧ s.pw.supplies then s.needCold else s
  | none => s

/-! ## The steps of a start (R384) -/

/-- Is a start in progress? -/
def State.starting (s : State) : Bool := s.pw.startAt.isSome

/-- Does the start in progress run every step in its cold form? -/
def State.coldForms (s : State) : Bool := s.pw.allCold

/-- Has step `k` of R384 run in the start in progress? -/
def State.stepDone (s : State) (k : Nat) : Bool := s.pw.steps.contains k

/-- Step k of R384 complete. -/
def State.markStep (s : State) (k : Nat) : State := { s with pw := { s.pw with steps := k :: s.pw.steps.filter (· ≠ k) } }

/-- Step k of R384 complete in its cold form (SB_STATUS STEPS). -/
def State.ranCold (s : State) (k : Nat) : State :=
  (s.markStep k).put F.SB_STATUS_STEPS (s.get F.SB_STATUS_STEPS ||| 2 ^ k)

/-- The slot that R399 selects: highest RL, then the higher build, then slot A. -/
def State.bestSlot (s : State) (a b : Option Image) : Option (Nat × Image) :=
  let ok := fun (i : Option Image) => s.slotFail i == 0
  match (if ok a then a else none), (if ok b then b else none) with
  | some x, some y => if x.rl < y.rl ∨ (x.rl = y.rl ∧ x.build < y.build) then some (1, y) else some (0, x)
  | some x, none => some (0, x)
  | none, some y => some (1, y)
  | none, none => none

/-- Both slots shown, and a failing one reported (R399). -/
def State.showSlots (s : State) (a b : Option Image) : State :=
  let s := (s.showSlot 0 a).showSlot 1 b
  let s := if s.slotFail a = 0 then s else s.raiseAny 0x0D06 0 (s.slotFail a)
  if s.slotFail b = 0 then s else s.raiseAny 0x0D06 1 (s.slotFail b)

/-- SLOT_VERIFIED (R384 step 0, R392, R398, R399). `calBad` and `trained` as for COLD_START. -/
def slotVerified (a b : Option Image) (calBad : List Nat) (trained : Bool) (s : State) : State :=
  if !s.starting ∨ s.stepDone 0 ∨ s.get F.SB_STATUS_PHASE = 0 then s
  else
    let s := s.showSlots a b
    match s.bestSlot a b with
    | none => if s.is F.PM_START_HOLD then s.safeHold trained else s.failStart 2 trained
    | some (k, img) =>
      let s := if s.is F.PM_START_HOLD then ((s.put F.PM_START_HOLD 0).put F.PM_START_FAILS 0 |>.endConds 0x0D03).startPower calBad else s
      let other := s.is F.PM_STATE_KIND && decide (k ≠ s.get F.NV_STATUS_ACTIVE)
      let s := { s with pw := { s.pw with image := some (k, img), allCold := s.pw.allCold || other, cache := some (k, s.get F.NV_WRITES_COUNT) } }
      ((s.put F.NV_STATUS_ACTIVE k).put F.SB_STATUS_PHASE 2).ranCold 0

/-- DRAM_TRAINED (R384 step 2): the module temperature and the supply band of each DRAM rail are kept for a warm start. -/
def dramTrained (ok : Bool) (temp : Int) (bands : List Nat) (trained : Bool) (s : State) : State :=
  if !s.starting ∨ !s.domainOn 13 ∨ s.stepDone 2 then s
  else if !ok then s.failStart 4 trained
  else { s with pw := { s.pw with trained := some (temp, bands) } }.ranCold 2

/-- QUICK_TEST_DONE (R384 step 3, R427–R429): `bad` journals that fail their check, `fails` what the quick test finds where it runs. -/
def quickTestDone (bad : List Nat) (fails : List UnitFail) (s : State) : State :=
  if !s.starting ∨ !s.coldForms ∨ !s.stepDone 2 ∨ s.stepDone 3 then s
  else
    let (s, ran) := s.startTest bad fails
    if ran then s.ranCold 3 else s.markStep 3

/-- May a timetable be selected (R23, R44, R50, R57, R131, R173, R313, R329, R397)? -/
def State.canSelect (s : State) (img : Image) (tt : Timetable) : Bool :=
  let lF := timetableWord tt 0x30010 % 2 ^ 28
  let g := timetableWord tt 0x30004 % 32
  let every := timetableWord tt 0x30018 % 32
  let sects := (List.range tt.sections.length).map (fun k => timetableWord tt (0x1C1000 + 4 * k))
  let fixed := fun (m : Nat) => decide (2 ≤ m ∧ m ≤ 4)
  let modeOk := fun (w : Nat) => [0, 3, 6, 9, 12].all (fun b => decide (w / 2 ^ b % 8 ≤ 4)) && !fixed (w / 64 % 8) && !fixed (w / 512 % 8)
  let rings := (List.range 16).foldl (fun a n => a + img.timetables.foldl (fun a tt => max a (ringMib tt n)) 0) 0
  tt.headerOk && tt.tableOk && tt.tagOk && s.otp.imageKey.isSome && decide (img.timetables.countP (fun x => x.index == tt.index) = 1) &&
  decide (tt.minEngines ≤ s.get F.FB_ENGINES_PRESENT) && !(s.otp.safeOpt && decide (lF > 100000000)) &&
  decide (1 ≤ every ∧ every ≤ 16) && decide (1 ≤ tt.sectionCount ∧ tt.sectionCount ≤ 256) && sects.all modeOk && tt.sections.all (fun d => descOk d ((lF * 10 + 10210) / 10211) g) &&
  decide (tt.sections.foldl (fun a d => a + descField d 12 17 0) 0 ≤ 131072) && decide (storeMib tt + rings ≤ s.get F.DC_CAP_MIB) &&
  (s.assignYards tt).isSome

/-- The timetables of the image, which may be selected, and the first of them (R23). -/
def State.chooseTimetable (s : State) : State :=
  match s.pw.image with
  | none => s
  | some (_, img) =>
    let ok := img.timetables.filter (s.canSelect img)
    { s with sw := { s.sw with timetables := img.timetables, selectable := ok.map (·.index), done := none }, pw := { s.pw with tt := ok.head?.map (·.index) } }

/-- Is lane n's domain powered (R95)? -/
def State.lanePowered (s : State) (n : Nat) : Bool := s.domainOn 6 && (decide (n < 4) || s.domainOn 7)

/-- Lane n from the stored slice corrections (R98–R101), judged anew: CONVERGING. -/
def State.laneStart (s : State) (n : Nat) : State :=
  let cs := match s.sens.cal.force with | some x => x.1.slices.getD n [] | none => []
  let s := s.setLane n (({} : Lane).takeSlices cs)
  (s.put (F.SL_LANE_STATUS_RETIRED n) 0x7F).setLaneState n 1

/-- Each lane that is powered and enabled runs, each other is OFF (R97, R100). -/
def State.lanesEnable (s : State) : State :=
  let en := s.get F.SL_CTRL_LANE_EN
  each (List.range 6) (fun n s =>
    if s.lanePowered n && en.testBit n then (if s.laneState n = 0 then s.laneStart n else s)
    else if s.laneState n = 0 then s
    else (s.setLane n {}).setLaneState n 0) s

/-- The receive and transmit domains powered, stored calibration applied and what the lands and fuses say shown again (R77, R78, R97, R384
step 8, R469). -/
def State.pathsUp (s : State) (more : List Nat) : State :=
  let now := s.get F.PM_DOMAINS_ON
  let s := s.setDomains (now ||| domainMask ([5, 6, 8] ++ s.rxbWanted ++ more)) 0
  let s := (s.putB F.OP_FUSE_STATUS_FUSED s.otp.safeOpt).syncCeilings
  let s := if s.is F.OP_IL_PIN then s.setCause F.OP_STATE_INTERLOCK 0x0102 wide 0 else s
  let s := match s.sens.cal.force with | some x => s.calApply x.1 false | none => s
  (s.clkStart.lanesEnable).reapply

/-- PD_RXB brought to what the image that starts needs (R97), where the start has powered the receiver already. -/
def State.rxbSet (s : State) : State :=
  if !s.domainOn 5 ∨ s.domainOn 7 = !s.rxbWanted.isEmpty then s
  else (s.setDomains (s.get F.PM_DOMAINS_ON ^^^ 128) (s.get F.PM_DOMAINS_RETAINED)).lanesEnable

/-- Once the laser is WARM and LOCKED and the timetable chosen, a cold start powers the receiver and calibrates it (R281, R384, R385). -/
def State.receiverPower (s : State) : State :=
  if !s.starting ∨ !s.is F.OP_LASER_WARM ∨ !s.is F.OP_LASER_LOCKED ∨ s.pw.tt.isNone ∨ !s.coldForms then s
  else
    let s := if s.domainOn 5 then s else s.pathsUp []
    if s.stepDone 5 ∨ s.is F.CL_STATUS_RUNNING then s else s.calBegin

/-- ENGINE_CODE_LOADED (R384 steps 1 and 7): the timetables' code decrypted, a timetable chosen (R23, R44, R57, R173). -/
def engineCodeLoaded (trained : Bool) (s : State) : State :=
  if !s.starting ∨ s.pw.image.isNone ∨ s.stepDone 1 ∨ !s.domainOn 13 ∨ (s.coldForms ∧ !s.stepDone 3) then s
  else
    let s := s.chooseTimetable.rxbSet
    if s.pw.tt.isNone then s.failStart 3 trained else (s.ranCold 1).receiverPower

/-- LASER_WARM (R384 step 4): 4 s after the TEC loop and the warm-up started. -/
def laserWarm (s : State) : State :=
  match s.sens.tec.startAt with
  | none => s
  | some a =>
    if s.now < a + 4000 * ms ∨ !s.domainOn 4 ∨ s.is F.OP_LASER_WARM then s
    else
      let s := s.put F.OP_LASER_WARM 1
      if s.starting then (s.ranCold 4).receiverPower else s

/-- LASER_LOCKED in a start: step 7 of the model's list tells that the laser has been LOCKED since PD_LASER was powered (R388). -/
def laserLockedNow (s : State) : State := if s.domainOn 4 then ((laserLocked s).markStep 7).receiverPower else s

/-- RECEIVER_CAL_DONE (R103, R281–R283, R384 step 5): skews applied and valid; the sample clock has left STARTING before. -/
def receiverCalDone (r : CalRecord) (s : State) : State :=
  if !s.starting ∨ !s.is F.CL_STATUS_RUNNING ∨ s.stepDone 5 ∨ !s.domainOn 6 ∨ s.get F.SL_STATUS_CLK_STATE = 0 then s
  else (each (List.range 6) (fun n s => s.converge n) ((s.calEnd r false).put F.SL_STATUS_SKEW_VALID 1)).ranCold 5

/-! ## Commit (R387) -/

/-- Has the image step run, or may it be skipped (R384)? -/
def State.imageReady (s : State) : Bool :=
  s.stepDone 0 || (!s.coldForms && s.pw.cache == some (s.get F.NV_STATUS_ACTIVE, s.get F.NV_WRITES_COUNT))

/-- Has DRAM been trained, or does the training kept still hold (R384)? -/
def State.dramReady (s : State) (temp : Int) (bands : List Nat) : Bool :=
  s.stepDone 2 || (!s.coldForms && (match s.pw.trained with
    | some (t, b) => decide ((t - temp).natAbs ≤ 1000) && b == bands
    | none => false))

/-- Is the module aligned in its array, or have 500 ms passed since PD_FLOTIS was powered (R372)? -/
def State.arrayReady (s : State) : Bool :=
  !(s.portUp 0 || s.portUp 1) || (s.fl.numbered && decide (s.get F.TB_STATUS_TIME_STATE = 1)) ||
  (match s.pw.laserAt with | some a => decide (s.now ≥ a + 500 * ms) | none => true)

/-- May the start commit: every step run, or skipped under its condition? -/
def State.canCommit (s : State) (temp : Int) (bands : List Nat) (crcOk : Bool) : Bool :=
  s.starting && s.pw.image.isSome && s.pw.tt.isSome && s.imageReady && s.dramReady temp bands &&
  (s.stepDone 1 || (!s.coldForms && s.pw.retained && crcOk)) && (!s.coldForms || (s.stepDone 3 && s.stepDone 5)) &&
  s.is F.OP_LASER_WARM && s.is F.OP_LASER_LOCKED && s.domainOn 5 && s.arrayReady

/-- A record of addresses and words applied to a block: every RWL field, and the RW fields of the registers that it names (R397). -/
def State.loadRecord (s : State) (rows : List RegRow) (recs : List (Nat × Nat)) : State :=
  let s := s.loadBlock rows recs
  each rows (fun r s => each r.copies (fun a s => match recs.find? (fun x => x.1 == a) with
    | some x => s.loadReg true r a (some x.2)
    | none => s) s) s

/-- The module records of the image (R397): the dead-man limits, BUDGET of an optional record 22, and the hash masks, which a PX-940 does not have. -/
def State.loadModule (s : State) (img : Image) : State :=
  let word := fun (a : Nat) => (img.records.find? (fun x => x.1 == a)).map (·.2)
  let s := each [regsOP, regsSL, regsFB, regsDC, regsEC, regsTB, regsFL, regsSF, regsHK, regsCL] (fun rows s => s.loadRecord rows img.records) s
  let s := s.put F.OP_DM_CFG_TIMEOUT (max 10 (s.get F.OP_DM_CFG_TIMEOUT))
  let s := { s.putB F.OP_DM_CFG_LOCKED img.dmLocked with opt := { s.opt with dmLimit := s.get F.OP_DM_CFG_TIMEOUT } }
  let s := s.put F.SB_SHUTDOWN_BUDGET (match img.entries.find? (fun e => e.1 == 22), word 0x2000C with | some _, some w => max 1 (w / 2 ^ 24 % 256) | _, _ => 10)
  let s := s.modSens (fun y => { y with tables := img.tables })
  if s.otp.px940 then each (List.range 4) (fun i s => s.put (F.DC_HASH_MASK i) 0) s else s

/-- The output path at commit (R333, R335, R340): regions placed, the ring and every area empty, the seal chain begun. -/
def State.outputStart (s : State) : State :=
  let s := { s with out := { d3 := s.out.d3, msix := s.out.msix, scans := s.out.scans, cur := { stamp := stampOf (s.count s.now / (1000 * ms) * (1000 * ms)) } } }
  let s := (s.put F.HW_RING_NEXT_SLOT 0).put F.HW_RING_NEXT_LAP 0 |>.put F.HW_RING_POSTED_COUNT 0
  let s := (s.put F.CX_SEAL_SEQ_SEQ 0).put F.CX_RTD_SEQ_NEXT 0
  let s := (s.put F.CX_STATUS_BLOCKED 0).put F.CX_STATUS_AUX_DISCARD 0 |>.put F.CX_SIDE_FILL_PEAK 0
  s.syncDiscard.syncSidings

/-- The sections of the committed timetable, each restarting without an event (R143, R150). -/
def State.sectionsStart (s : State) (tt : Timetable) : State :=
  let s := { s with secs := [], dfifo := [], built := [] }
  let s := each (List.range tt.sections.length) (fun k s => match sectionCfg tt k with
    | some c => s.setSec k { cfg := c, restart := some false }
    | none => s) s
  ((s.put F.BS_DFIFO_WR_COUNT 0).put F.BS_DFIFO_RD_COUNT 0).syncDfifo

/-- Tracks, engines and the recorder's lines (R173, R175, R237, R242). -/
def State.fabricStart (s : State) (tt : Timetable) : State :=
  let s := { s with fab := { s.fab with tracks := (s.assignYards tt).getD [], nextTracks := [], store := [], jobs := [], engines := [], fft := [],
                                        code := [], winFrom := s.now, halfFrom := none } }
  let s := { s with sw := { s.sw with epochs := 0, epochAt := s.now, prev := none }, fp := { s.fp with queue := [] } }
  let s := s.syncEngines.syncTracks.powerQuads
  (each (List.range 16) (fun n s => s.setupLine n (rowBytes (s.lineCount n)) (timetableWord tt (0x15011C + 128 * n))) { s with recd := {} }).retarget

/-- Adaptive voltage at commit (R187, R188): READ_VOUT, and VOUT_MODE, which must show LINEAR16. -/
def State.voltageStart (s : State) (ack linear16 : Bool) (vout status : Nat) : State :=
  let s := ((s.put F.FB_PMBUS_FAILS 0).put F.FB_STATUS_AV_FAULT 0).put F.FB_STATUS_AV_CEIL 0
  if !ack then s.pmbusFail status
  else
    let s := (s.vcoreAt vout).put F.FB_AV_VOUT_READBACK vout
    if linear16 then s else (s.put F.FB_STATUS_AV_FAULT 1).raise 0x0403 wide 0

/-- Sensors at commit (R266, R277, R279, R287, R289): no value yet, the scan at its lowest enabled channel, no pass counted, T_SET for the channel
that the image names. -/
def State.sensorsStart (s : State) : State :=
  let s := each (List.range 4) (fun x s => each (List.range 20) (fun l s => s.put (F.HK_LAST_SEEN x l) 0) s) s
  let s := s.modSens (fun y => { y with rtd := [], n := 0, sum := 0, clean := true, calSwitch := false, precRun := 0 })
  let s := each (List.range 8) (fun c s =>
    ((((s.put (F.SF_TEMP_T c) 0x80000000).put (F.SF_RATIO_Q c) 0).put (F.SF_STAT_STATE c) 0).put (F.SF_STAT_STALE c) 0).put (F.SF_STAT_AMP c) 0) s
  let s := (s.put F.CL_PASSES_COUNT 0).put F.CL_SAT_PASS_SAT 0
  s.tecSet.put F.SF_STATUS_CUR (s.scanned.headD 0)

/-- The optical engine leaves OFF with the dead-man timer running (R70, R80); its averaging window is empty, so diagnostic pulses are in use from the
first sweep on (R82). -/
def State.opticsStart (s : State) : State :=
  let s := { s with opt := { off := false, dmRunning := true, dmLimit := s.opt.dmLimit, collecting := true, ampSeen := s.is F.OP_AMP_MON } }
  (s.dmReload.syncCeilings.put F.OP_DIAG_ACTIVE 0).syncWindow

/-- The start is over and the module in RUN (R382, R387, R408). -/
def State.runNow (s : State) (img : Nat) : State :=
  let ms_ := match s.pw.startAt with | some a => (s.now - a) / ms | none => 0
  let s := { s with pw := { s.pw with startAt := none, steps := [], allCold := false, retained := false, commitAt := some s.now, settled := false,
                                      cache := some (img, s.get F.NV_WRITES_COUNT), nbSize := some (s.get F.HW_NB_SIZE_SIZE) } }
  ((s.put F.SB_STATUS_COMMITTED 1).put F.SB_STATUS_PHASE 3).put F.PM_STATE_STATE 2 |>.putSat F.SB_START_INFO_MS ms_

/-- The array's sweep origin at commit, and whether the module's grid differs from module 0's (R376); `lead`: module 0's T_L and G. -/
def State.arrayStart (s : State) (lead : Option (Nat × Nat)) : State :=
  match lead with
  | some (tl, g) =>
    if s.get F.FL_STATUS_ID ≠ 0 ∧ (tl ≠ s.get F.TT_LAUNCH_INTERVAL_T_L ∨ g ≠ s.get F.TT_SCHED_G) then
      (s.put F.FL_STATUS_MISMATCH 1).raise 0x0C05 wide 0
    else s
  | none => s

/-- COMMIT (R29, R80, R333, R384, R387). `temp`, `bands` and `crcOk` are the conditions of a warm start's skipped steps. -/
def commit (temp : Int) (bands : List Nat) (crcOk ack linear16 : Bool) (vout status : Nat) (lead : Option (Nat × Nat)) (s : State) : State :=
  if !s.canCommit temp bands crcOk then s
  else
    match s.pw.image, s.sw.timetables.find? (fun tt => some tt.index == s.pw.tt) with
    | some (slot, img), some tt =>
      let kept := s.is F.PM_STATE_KIND && !s.coldForms
      let was := fun (n : Nat) => s.is (F.TB_EVT_CFG_EN n)
      let s := each (List.range 8) (fun n s => s.noteEnabled n (was n)) (s.loadModule img)
      let s := each [regsCX, regsHW, regsCK] (fun rows s => s.loadRecord rows tt.regs) s
      let s := ((s.placeRegions.placeRings.loadTimetable tt).buildReferences (fun _ => false)).put F.TT_ID_COUNT img.timetables.length |>.put F.SB_TT_STATUS_ACTIVE tt.index |>.put F.TT_ID_ACTIVE tt.index
      let s := ((s.outputStart.sectionsStart tt).restartGroups true).fabricStart tt
      let s := (s.syncRegions.voltageStart ack linear16 vout status).sensorsStart.lanesEnable
      let s := s.opticsStart.runNow slot
      let s := s.brCommit kept
      let s := if s.brilSlot.isSome ∧ !s.is F.BR_STATUS_BASE_VALID then s.put F.SB_STATUS_STEPS (s.get F.SB_STATUS_STEPS ||| 64) else s
      let s := (s.placeBoard.raise 0x0D01 wide (tt.index + 256 * s.get F.PM_STATE_KIND)).arrayStart lead
      let s := s.setOrigin.nvResume
      if s.get F.FL_STATUS_COUNT = 0 ∨ s.is F.FL_STATUS_MISMATCH then s.startSweep else s
    | _, _ => s

/-- 60 s in RUN after commit (R389, R402). -/
def runSettled (s : State) : State :=
  match s.pw.commitAt with
  | some c =>
    if s.get F.PM_STATE_STATE ≠ 2 ∨ s.pw.settled ∨ s.now < c + 60000 * ms ∨ s.pw.shut.isSome then s
    else
      let s := { s with pw := { s.pw with settled := true } }.put F.PM_START_FAILS 0
      match s.pw.image with
      | some (_, img) => if imageAutoRaise img then (s.raiseRollback img.rl).1 else s
      | none => s
  | none => s

/-! ## Warm start (R384, R385) -/

/-- The conditions that a warm start keeps: those of the domains that IDLE keeps powered (R469). -/
def keptConds : List Nat := [0x010E, 0x0705, 0x0720, 0x0805, 0x0C06]

/-- A warm start's step 1: domains powered, DRAM and yards leave retention, withdrawals applied and stored calibration taken. -/
def State.warmStart (s : State) : State :=
  let s := (s.bumpWrap F.PM_START_ATTEMPTS 1).put F.PM_STATE_KIND 1 |>.put F.PM_STATE_STATE 0
  let s := { s with ev := { s.ev with conds := s.ev.conds.filter (fun c => keptConds.contains c.1) } }.syncActive
  let s := ((s.put F.SB_STATUS_COMMITTED 0).put F.SB_STATUS_STEPS 0).put F.SB_STATUS_PHASE 2
  let s := { s with pw := { s.pw with startAt := some s.now, steps := [7], allCold := false, commitAt := none, settled := false } }
  let s := s.pathsUp [9, 10, 11, 12, 13]
  (s.memoryStart.syncBt).chooseTimetable

/-! ## The shutdown sequence (R403–R405) -/

/-- A timetable switch under way or queued is abandoned. -/
def State.abandonSwitch (s : State) : State :=
  let lead := s.sw.lead.isSome
  let s := { s with sw := { s.sw with lead := none, phase := 0, queued := none, reports := [], arrayEpoch := none }, fab := { s.fab with nextTracks := [] } }
  let s := if lead then (s.put F.SB_TT_STATUS_STATE 0).put F.SB_TT_STATUS_PENDING_INDEX 0 else s
  (s.put F.SB_TT_STATUS_QUEUED 0).put F.SB_TT_STATUS_QUEUED_INDEX 0

/-- The laser off, as step 1 has it for a target of OFF. -/
def State.laserOff (s : State) : State :=
  let s := { s with sens := { s.sens with tec := {} }, pw := { s.pw with laserAt := none } }
  (s.put F.OP_LASER_LOCKED 0).put F.OP_LASER_WARM 0

/-- A sequence is accepted: event 0x0D04, OPEN, the plan of step 4 and step 1 (R403, R426). -/
def State.beginShutdown (s : State) (target then_ : Nat) (emergency : Bool) : State :=
  let s := s.raiseAny 0x0D04 wide target
  let s := (s.put F.PM_STATE_SHUTTING 1).put F.SB_STATUS_PHASE 4 |>.put F.SB_SHUTDOWN_STEP 1
  let s := (s.lightOff.closeAll 5).abandonSwitch
  let s := { s with bt := { s.bt with open_ := true, plan := [], testFrom := none, testEnd := none } }
  let s := if target = 3 then (s.laserOff.makePlan (s.get F.SB_SHUTDOWN_BUDGET * 1000)) else s
  { s with pw := { s.pw with shut := some ⟨target, then_, emergency, 1, s.now⟩ } }

/-- A second command during the sequence: the deeper target holds (R404). -/
def State.deepen (s : State) (x : Shutdown) (target then_ : Nat) : State :=
  if x.emergency ∨ target < x.target then s
  else
    let s := if target > x.target then s.laserOff.makePlan (s.get F.SB_SHUTDOWN_BUDGET * 1000) else s
    { s with pw := { s.pw with shut := some { x with target := target, then_ := then_ } } }

/-- A shutdown command in RUN or IDLE, or during a sequence; it waits for an NVM operation under way (R401). -/
def State.shutdownCmd (s : State) (target then_ : Nat) : State :=
  match s.pw.shut, s.pw.held with
  | some x, _ => s.deepen x target then_
  | none, some (t, _) => if target < t then s else { s with pw := { s.pw with held := some (target, then_) } }
  | none, none =>
    if s.nv.op.isSome then { s with pw := { s.pw with held := some (target, then_) } } else s.beginShutdown target then_ false

/-- Does the module run or idle, or is it on its way out of that? -/
def State.working (s : State) : Bool := decide (s.get F.PM_STATE_STATE = 1 ∨ s.get F.PM_STATE_STATE = 2)

/-- Step 6 (R382, R403), and what follows the sequence: `then_` 0 nothing, 1 a cold start, 2 a warm start, 3 a cold start without thermal wait,
4 nothing, with PD_HOST off. -/
def State.endShutdown (s : State) (x : Shutdown) : State :=
  if x.target = 1 then
    let was := s.pw.commitAt.isSome || s.pw.retained
    let s := s.setDomains (domainMask ([0, 1, 2, 3, 4, 14] ++ s.ifOn 15)) (domainMask [9, 10, 11, 12, 13])
    let s := { s with pw := { s.pw with shut := none, commitAt := none, settled := false, retained := was } }
    let s := ((s.put F.PM_STATE_SHUTTING 0).put F.PM_STATE_STATE 1).put F.SB_STATUS_PHASE 6 |>.put F.SB_SHUTDOWN_STEP 6
    if x.then_ = 2 then s.warmStart else s.nvResume
  else
    let s := s.goOff (if x.then_ = 0 ∨ x.then_ = 1 then [0, 14] else [0])
    if x.then_ = 1 then s.thermalWait else if x.then_ = 3 then s.needCold else s

/-- The early seal of step 2, and every frame that has a slot posted (R340, R403). -/
def State.drainFrames (s : State) : State :=
  if !s.is F.SB_STATUS_COMMITTED ∨ !s.domainOn 13 then s
  else
    let s := s.sealBoundary s.nearestSecond
    let s := each (List.range s.out.due.length) (fun _ s => sealPost s) s
    each (List.range s.unposted.length) (fun _ s => framePost false s) s

/-- The sequence's last complete step. -/
def State.shutStep (s : State) (x : Shutdown) (k : Nat) : State :=
  { s with pw := { s.pw with shut := some { x with step := k } } }.put F.SB_SHUTDOWN_STEP k

/-- Step 3 complete: step 4 begins for a target of OFF. -/
def State.beginTests (s : State) (x : Shutdown) : State := { s.shutStep x 3 with bt := { s.bt with testFrom := some s.now } }

/-- SHUTDOWN_DRAIN_DONE (R403 step 2): the frames that no slot took are abandoned. It ends with the store and the jobs empty, or after 200 ms. -/
def shutdownDrainDone (s : State) : State :=
  match s.pw.shut with
  | none => s
  | some x =>
    if x.emergency ∨ x.step ≠ 1 ∨ ((s.fab.store ≠ [] ∨ s.fab.jobs ≠ []) ∧ s.now < x.at_ + 200 * ms) then s
    else
      let s := s.drainFrames
      let lost := if s.domainOn 8 then s.unposted.length + s.built.length else 0
      let s := s.modWork (fun w => { w with abandoned := min 65535 lost })
      if s.is F.CL_STATUS_NVM_PENDING then s.shutStep x 2 else s.beginTests x

/-- SELF_TEST_SLICE_DONE (R425–R427): the slice that the lane runs passes, or fails as given. -/
def selfTestSliceDone (lane : Nat) (fail : Option UnitFail) (s : State) : State :=
  match s.slice? lane, s.bt.testFrom with
  | some (u, a), some t =>
    if s.now > a + 2 * unitBudget u * ms ∨ s.now > t + s.get F.SB_SHUTDOWN_BUDGET * 1000 * ms then s
    else (match fail with
      | some f => s.unitFail { f with unit := u } 1
      | none => s.unitPass u).nextSlice lane
  | _, _ => s

/-- SELF_TEST_SLICE_TIMEOUT (R425): a slice not finished at twice its budget. -/
def selfTestSliceTimeout (lane : Nat) (s : State) : State :=
  match s.slice? lane with
  | some (u, a) => if s.now < a + 2 * unitBudget u * ms then s else (s.unitFail ⟨u, 0xFF, []⟩ 2).nextSlice lane
  | none => s

/-- May step 5 end: steps 1 to 4 complete, or the emergency form? -/
def State.journalDue (s : State) (x : Shutdown) : Bool :=
  x.emergency || (decide (x.step ≥ 3) && (decide (x.target = 1) || s.bt.plan.isEmpty ||
    (match s.bt.testFrom with | some t => decide (s.now ≥ t + s.get F.SB_SHUTDOWN_BUDGET * 1000 * ms) | none => true)))

/-- JOURNAL_WRITTEN (R403 steps 5 and 6, R426, R430). -/
def journalWritten (ok : Bool) (s : State) : State :=
  match s.pw.shut with
  | none => s
  | some x =>
    if !s.journalDue x then s
    else (((s.closeJournal x.emergency (!x.emergency && decide (x.target = 3))).storeJournal ok).put F.SB_SHUTDOWN_STEP 5).endShutdown x

/-- The sequence to OFF, or OFF at once where no start has read the journals yet. -/
def State.forceOff (s : State) (emergency : Bool) : State :=
  if s.pw.shut.isSome then (match s.pw.shut with
    | some x => if emergency then { s with pw := { s.pw with shut := some { x with target := 3, then_ := 4, emergency := true } } } else s.deepen x 3 4
    | none => s)
  else if s.domainOn 1 && (s.bt.loaded || s.working) then { s with pw := { s.pw with held := none, startAt := none } }.beginShutdown 3 4 emergency
  else if s.domainOn 1 then s.lightOff.goOff [0]
  else s

/-- POWER_FAIL (R405): PFW# falls. -/
def powerFail (s : State) : State :=
  if s.pw.pfwLow ∨ !s.pw.supplies then s
  else
    let s := { s with pw := { s.pw with pfwLow := true } }
    ((s.put F.PM_STATE_LAST_RESET 1).raiseAny 0x0D05 wide 0).forceOff true

/-- POWER_RESTORED (R405): PFW# high again and the supplies good for 100 ms. -/
def powerRestored (s : State) : State :=
  if !s.pw.pfwLow ∨ !s.pw.supplies then s
  else
    let s := { s with pw := { s.pw with pfwLow := false } }
    match s.pw.shut with
    | some x => { s with pw := { s.pw with shut := some { x with then_ := 3 } } }
    | none => s.needCold

/-- THERMAL_SHUTDOWN (R459): an input of 10–12 at or above 115 °C for 100 ms. -/
def thermalShutdown (s : State) : State :=
  match s.sens.hot.find? (fun x => decide (s.now ≥ x.2 + 100 * ms)) with
  | none => s
  | some (i, _) =>
    if !s.domainOn 1 then s else (({ s with sens := { s.sens with hot := [] } }.raiseAny 0x0D0B i 0)).forceOff false

/-- CLK_FAIL (R106): the crystal stopped or more than 100 ppm off. In a start it fails the start (R388). -/
def clkFail (trained : Bool) (s : State) : State :=
  if !s.domainOn 2 then s
  else
    let s := (s.put F.SL_STATUS_CLK_FAIL 1).raiseAny 0x0207 wide 0
    if s.starting then s.failStart 5 trained else s.forceOff false

/-- START_TIMEOUT (R388): the laser not LOCKED within 10 s of PD_LASER power-up, or no commit within 30 s. -/
def startTimeout (trained : Bool) (s : State) : State :=
  match s.pw.startAt with
  | none => s
  | some a =>
    let laser : Bool := match s.pw.laserAt with | some l => decide (s.now ≥ l + 10000 * ms) && !s.stepDone 7 | none => false
    if laser then s.failStart 6 trained
    else if s.now ≥ a + 30000 * ms then s.failStart 7 trained
    else s

/-- WATCHDOG_EXPIRY (R384, R388, R389): a failed start unless 60 s in RUN have passed; then a reset and a cold start. -/
def watchdogExpiry (trained : Bool) (s : State) : State :=
  if !s.domainOn 2 then s
  else if s.pw.settled then ((s.lightOff.goOff [0]).put F.PM_STATE_LAST_RESET 4).needCold
  else s.failStart 8 trained

/-! ## Power commands (R383, R392, R404, R407, R408) -/

/-- SB_CMD IDLE. -/
def sbCmdIdle (s : State) : State :=
  if s.pw.shut.isSome ∨ s.get F.PM_STATE_STATE = 2 then s.shutdownCmd 1 0 else s

/-- SB_CMD RUN: a warm start in IDLE; during a shutdown to IDLE it is held. -/
def sbCmdRun (s : State) : State :=
  match s.pw.shut, s.pw.held with
  | some x, _ => if x.target = 1 then { s with pw := { s.pw with shut := some { x with then_ := 2 } } } else s
  | none, some (t, _) => if t = 1 then { s with pw := { s.pw with held := some (1, 2) } } else s
  | none, none => if s.get F.PM_STATE_STATE = 1 then s.warmStart else s

/-- SB_CMD OFF. -/
def sbCmdOff (s : State) : State := if s.pw.shut.isSome ∨ s.working then s.shutdownCmd 3 0 else s

/-- SB_CMD RETRY, in SAFE_HOLD only. -/
def sbCmdRetry (s : State) : State :=
  if s.get F.PM_STATE_STATE ≠ 3 ∨ s.pw.shut.isSome then s
  else
    let s := ((s.put F.PM_START_HOLD 0).put F.PM_START_FAILS 0).put F.PM_STATE_LAST_RESET 6 |>.put F.PM_STATE_STATE 0
    (s.endConds 0x0D03).needCold

/-- Is what follows the shutdown, running or waiting, `k`? -/
def State.follows (s : State) (k : Nat) : Bool :=
  (match s.pw.shut with | some x => x.then_ == k | none => false) || (match s.pw.held with | some x => x.2 == k | none => false)

/-- A reset by a shutdown: LAST_RESET takes its code where the command is accepted. -/
def State.resetBy (s : State) (target then_ code : Nat) : State :=
  let s := s.shutdownCmd target then_
  if s.follows then_ then s.put F.PM_STATE_LAST_RESET code else s

/-- PM_RESET COLD: a full shutdown and a cold start; in OFF, a start in progress included, a cold start. -/
def pmResetCold (s : State) : State :=
  if s.pw.shut.isSome ∨ s.working then s.resetBy 3 1 2
  else if s.get F.PM_STATE_STATE = 0 ∧ s.pw.supplies then (s.thermalWait).put F.PM_STATE_LAST_RESET 2
  else s

/-- PM_RESET WARM: shutdown to IDLE and a warm start. -/
def pmResetWarm (s : State) : State :=
  if s.pw.shut.isSome ∨ s.working then s.resetBy 1 2 3 else s

/-! ## Writes that the module makes to the NVM on its own (R284, R394, R395) -/

/-- `n` free bytes: what the spec gives no content (log entry 1). -/
def State.freeBytes (s : State) (n : Nat) : List (BitVec 8) × State :=
  ((List.range n).map (fun i => Config.freeValue 8 (s.freeCtr + i)), { s with freeCtr := s.freeCtr + n })

/-- A stored record of `len` bytes: its header, free content and the check word over all before it (R284). -/
def State.recordOf (s : State) (header : List (BitVec 8)) (len : Nat) : List (BitVec 8) × State :=
  let (bs, s) := s.freeBytes (len - header.length)
  let bs := (header ++ bs).take (len - 4)
  (bs ++ leBytes (crc32 bs) 4, s)

/-- The 64-byte header of a calibration record (R284). -/
def calHeader (seq length stamp : Nat) (temp : Int) (later : Bool) : List (BitVec 8) :=
  leBytes 0x4C43414C 4 ++ leBytes 1 2 ++ leBytes 0 2 ++ leBytes seq 4 ++ leBytes length 4 ++ stampBytes stamp ++
  leBytes (temp % 65536).toNat 2 ++ leBytes (if later then 1 else 0) 1 ++ List.replicate 33 0

/-- CAL_RECORD_WRITE (R284): the record in force goes to the slot that does not hold it; `ok`: it reads back. During a shutdown it is step 3. -/
def calRecordWrite (ok : Bool) (s : State) : State :=
  let due : Bool := match s.pw.shut with | some x => !x.emergency && decide (x.step = 2) | none => s.domainOn 1
  match s.sens.cal.force with
  | none => s
  | some (r, stamp, temp, later) =>
    if !s.is F.CL_STATUS_NVM_PENDING ∨ !due then s
    else
      let slot := if s.get F.CL_STATUS_ACTIVE = 1 then 1 else 0
      let seq := s.sens.cal.seq
      let a := spaceNvm + 0x10000 * (slot + 1)
      let (v, s) := s.free 16
      let len := 64 + v % 65473
      let (bs, s) := if ok then s.recordOf (calHeader seq len stamp temp later) len else s.freeBytes 0x10000
      let s := s.wrBytes a bs
      let s : State := if !ok then
          (if slot = 0 then (s.put F.CL_STATUS_A_VALID 0).put F.CL_SEQ_A_SEQ 0 else (s.put F.CL_STATUS_B_VALID 0).put F.CL_SEQ_B_SEQ 0).modSens
            (fun y => { y with cal := { y.cal with slots := kvDel slot y.cal.slots, bad := slot :: y.cal.bad.filter (· ≠ slot) } })
        else
          let s := s.modSens (fun y => { y with cal := { y.cal with slots := kvIns slot (seq, r) (kvDel slot y.cal.slots), bad := y.cal.bad.filter (· ≠ slot),
                                                                    eraseAt := some (s.now + 2000 * ms) } })
          let s := if slot = 0 then (s.put F.CL_STATUS_A_VALID 1).put F.CL_SEQ_A_SEQ seq else (s.put F.CL_STATUS_B_VALID 1).put F.CL_SEQ_B_SEQ seq
          let s := (s.put F.CL_STATUS_ACTIVE (slot + 1)).put F.CL_STATUS_NVM_PENDING 0
          (s.raiseAny 0x0803 slot 0).endConds 0x0805
      match s.pw.shut with
      | some x => s.beginTests x
      | none => s

/-- NVM_SLOT_ERASE (R394): the other slot of a pair is erased within 2 s of a record or a journal that has verified. -/
def nvmSlotErase (journal : Bool) (s : State) : State :=
  if !s.domainOn 1 then s
  else if journal then
    match s.bt.eraseAt with
    | none => s
    | some (slot, _) =>
      let a := spaceNvm + 0x30000 + 0x4000 * slot
      { s with mem := s.mem.filter (fun c => !(decide (a ≤ c.1) && decide (c.1 < a + 0x4000))),
               bt := { s.bt with eraseAt := none, journals := kvDel slot s.bt.journals, bad := s.bt.bad.filter (· ≠ slot) } }
  else
    match s.sens.cal.eraseAt with
    | none => s
    | some _ =>
      let slot := if s.get F.CL_STATUS_ACTIVE = 1 then 1 else 0
      let a := spaceNvm + 0x10000 * (slot + 1)
      let s := { s with mem := s.mem.filter (fun c => !(decide (a ≤ c.1) && decide (c.1 < a + 0x10000))),
                        sens := { s.sens with cal := { s.sens.cal with eraseAt := none, slots := kvDel slot s.sens.cal.slots, bad := s.sens.cal.bad.filter (· ≠ slot) } } }
      if slot = 0 then (s.put F.CL_STATUS_A_VALID 0).put F.CL_SEQ_A_SEQ 0 else (s.put F.CL_STATUS_B_VALID 0).put F.CL_SEQ_B_SEQ 0

/-- NV_DONE (R400, R401): the operation ends, and a shutdown that waited for it begins. -/
def nvDone (ok : Bool) (img : Option Image) (s : State) : State :=
  if s.nv.op.isNone then s
  else
    let s := s.nvFinish ok img
    match s.pw.held with
    | some (target, then_) => { s with pw := { s.pw with held := none } }.beginShutdown target then_ false
    | none => s.nvResume

/-! ## Meanings -/

/-- SUPPLY_GOOD (R383, R419, R459). -/
def execSupplyGood (t : Nat) (aonLost : Bool) (s : State) : Outcome := runAt t s (supplyGood aonLost)
/-- COLD_START (R384, R385, R389). -/
def execColdStart (t mode cap : Nat) (crystal : Bool) (calBad : List Nat) (trained : Bool) (s : State) : Outcome :=
  runAt t s (coldStart mode cap crystal calBad trained)
/-- THERMAL_WAIT_READING (R459). -/
def execThermalWaitReading (t a b c : Nat) (s : State) : Outcome := runAt t s (thermalWaitReading a b c)
/-- SLOT_VERIFIED (R399). -/
def execSlotVerified (t : Nat) (a b : Option Image) (calBad : List Nat) (trained : Bool) (s : State) : Outcome :=
  runAt t s (slotVerified a b calBad trained)
/-- DRAM_TRAINED (R384). -/
def execDramTrained (t : Nat) (ok : Bool) (temp : Int) (bands : List Nat) (trained : Bool) (s : State) : Outcome :=
  runAt t s (dramTrained ok temp bands trained)
/-- QUICK_TEST_DONE (R428, R429). -/
def execQuickTestDone (t : Nat) (bad : List Nat) (fails : List UnitFail) (s : State) : Outcome := runAt t s (quickTestDone bad fails)
/-- ENGINE_CODE_LOADED (R23, R384). -/
def execEngineCodeLoaded (t : Nat) (trained : Bool) (s : State) : Outcome := runAt t s (engineCodeLoaded trained)
/-- LASER_WARM (R384). -/
def execLaserWarm (t : Nat) (s : State) : Outcome := runAt t s laserWarm
/-- LASER_LOCKED (R68). -/
def execLaserLocked (t : Nat) (s : State) : Outcome := runAt t s laserLockedNow
/-- RECEIVER_CAL_DONE (R282, R384). -/
def execReceiverCalDone (t : Nat) (r : CalRecord) (s : State) : Outcome := runAt t s (receiverCalDone r)
/-- COMMIT (R387). -/
def execCommit (t : Nat) (temp : Int) (bands : List Nat) (crcOk ack linear16 : Bool) (vout status : Nat) (lead : Option (Nat × Nat)) (s : State) : Outcome :=
  runAt t s (commit temp bands crcOk ack linear16 vout status lead)
/-- START_TIMEOUT (R388). -/
def execStartTimeout (t : Nat) (trained : Bool) (s : State) : Outcome := runAt t s (startTimeout trained)
/-- WATCHDOG_EXPIRY (R388). -/
def execWatchdogExpiry (t : Nat) (trained : Bool) (s : State) : Outcome := runAt t s (watchdogExpiry trained)
/-- RETRY_DELAY_END (R390). -/
def execRetryDelayEnd (t : Nat) (s : State) : Outcome := runAt t s retryDelayEnd
/-- RUN_SETTLED (R389, R402). -/
def execRunSettled (t : Nat) (s : State) : Outcome := runAt t s runSettled
/-- SB_CMD_IDLE (R403). -/
def execSbCmdIdle (_src : Source) (t : Nat) (s : State) : Outcome := runAt t s (access 0x20008 sbCmdIdle)
/-- SB_CMD_RUN (R384, R404). -/
def execSbCmdRun (_src : Source) (t : Nat) (s : State) : Outcome := runAt t s (access 0x20008 sbCmdRun)
/-- SB_CMD_OFF (R403). -/
def execSbCmdOff (_src : Source) (t : Nat) (s : State) : Outcome := runAt t s (access 0x20008 sbCmdOff)
/-- SB_CMD_RETRY (R392). -/
def execSbCmdRetry (_src : Source) (t : Nat) (s : State) : Outcome := runAt t s (access 0x20008 sbCmdRetry)
/-- PM_RESET_COLD (R383). -/
def execPmResetCold (_src : Source) (t : Nat) (s : State) : Outcome := runAt t s (access 0x1000C pmResetCold)
/-- PM_RESET_WARM (R383). -/
def execPmResetWarm (_src : Source) (t : Nat) (s : State) : Outcome := runAt t s (access 0x1000C pmResetWarm)
/-- SHUTDOWN_DRAIN_DONE (R403). -/
def execShutdownDrainDone (t : Nat) (s : State) : Outcome := runAt t s shutdownDrainDone
/-- SELF_TEST_SLICE_DONE (R425). -/
def execSelfTestSliceDone (t lane : Nat) (fail : Option UnitFail) (s : State) : Outcome := runAt t s (selfTestSliceDone lane fail)
/-- SELF_TEST_SLICE_TIMEOUT (R425). -/
def execSelfTestSliceTimeout (t lane : Nat) (s : State) : Outcome := runAt t s (selfTestSliceTimeout lane)
/-- JOURNAL_WRITTEN (R403, R426). -/
def execJournalWritten (t : Nat) (ok : Bool) (s : State) : Outcome := runAt t s (journalWritten ok)
/-- POWER_FAIL (R405). -/
def execPowerFail (t : Nat) (s : State) : Outcome := runAt t s powerFail
/-- POWER_RESTORED (R405). -/
def execPowerRestored (t : Nat) (s : State) : Outcome := runAt t s powerRestored
/-- SUPPLY_FAULT (R442). -/
def execSupplyFault (t rail : Nat) (s : State) : Outcome := runAt t s (supplyFault rail)
/-- SUPPLY_RECOVERED (R442). -/
def execSupplyRecovered (t : Nat) (s : State) : Outcome := runAt t s supplyRecovered
/-- SUPPLY_LOSS (R383). -/
def execSupplyLoss (t : Nat) (s : State) : Outcome := runAt t s supplyLoss
/-- THERMAL_SHUTDOWN (R459). -/
def execThermalShutdown (t : Nat) (s : State) : Outcome := runAt t s thermalShutdown
/-- CLK_FAIL (R106). -/
def execClkFail (t : Nat) (trained : Bool) (s : State) : Outcome := runAt t s (clkFail trained)
/-- CAL_RECORD_WRITE (R284). -/
def execCalRecordWrite (t : Nat) (ok : Bool) (s : State) : Outcome := runAt t s (calRecordWrite ok)
/-- NVM_SLOT_ERASE (R394). -/
def execNvmSlotErase (t : Nat) (journal : Bool) (s : State) : Outcome := runAt t s (nvmSlotErase journal)
/-- NV_DONE (R400). -/
def execNvDone (t : Nat) (ok : Bool) (img : Option Image) (s : State) : Outcome := runAt t s (nvDone ok img)

end Sys2Proof.Machine
end

