-- ==== Sys2Proof/Machine/Lifecycle.lean ====
section
/-!
DEFINITION. Machine/Lifecycle.lean: lifecycle transitions (R410–R413), keys (R414–R416), tamper inputs and zeroisation (R419–R421), and the
JTAG port (R422, R423, R454).
-/
namespace Sys2Proof.Machine

/-! ## What the LC_ and SE_ registers show -/

/-- The word of four bytes of a value from byte 4i on, least significant first; 0 where the value is absent. -/
def wordOfBytes (bs : Option (List (BitVec 8))) (i : Nat) : Nat :=
  match bs with
  | some l => ((l.drop (4 * i)).take 4).zipIdx.foldl (fun acc x => acc + x.1.toNat * 2 ^ (8 * x.2)) 0
  | none => 0

/-- SE_KCV: the first four bytes of SHA-256 of the image key (R414). -/
def State.keyCheck (s : State) : Nat := wordOfBytes (s.otp.imageKey.map sha256) 0

/-- The bits of SE_STATUS that show OTP (R436); RETIRED: the seal key has been zeroised (R416). -/
def State.keyBits (s : State) : Nat :=
  (if s.otp.imageKey.isSome then 1 else 0) + (if s.otp.vkHash.isSome then 2 else 0) + (if s.otp.sealPub.isSome then 4 else 0) +
  (if s.otp.tamper.isSome then 8 else 0) + (if s.otp.zeroised then 16 else 0) +
  (if s.otp.zeroised && s.otp.sealPub.isSome then 32 else 0)

/-- The IDCODE (R454): step letter, part number field, manufacturer field and 1. -/
def State.idcode (s : State) : Nat := s.otp.step / 16 % 16 * 2 ^ 28 + 0x0960 * 2 ^ 12 + 0x4E5 * 2 + 1

/-- How the PCIe function identifies itself (R452): vendor, device, subsystem vendor, subsystem, revision and device serial number. -/
def State.pcieIdentity (s : State) : List Nat := [0x1F5E, 0x0960, 0x1F5E, 0x0001, s.otp.step % 256, s.otp.serial % 2 ^ 64]

/-! ## Transitions (R410–R413) -/

/-- A sequence that ends without a transition: cause, and event 0x0E02. -/
def State.lcRefuse (s : State) (cause : Nat) : State :=
  ({ s with lc := { s.lc with first := none } }.put F.LC_TRANS_STATUS_RESULT cause).raiseAny 0x0E02 wide 0

/-- The first write of a sequence; a further one restarts it. -/
def lcFirst (code : Nat) (s : State) : State := { s with lc := { s.lc with first := some (code, s.now) } }

/-- Is the optical state OFF or DARK? -/
def State.darkOrOff (s : State) : Bool := decide (s.get F.OP_STATE_STATE ≤ 1)

/-- Why a transition to `code` is refused, as LC_TRANS_STATUS codes it; 0 where R411 permits it. -/
def State.lcCause (s : State) (code : Nat) : Nat :=
  let life := s.otp.life
  if code = 2 ∧ life = 1 then
    if s.otp.imageKey.isSome && s.otp.vkHash.isSome && s.otp.sealKey.isSome then (if s.darkOrOff then 0 else 4) else 3
  else if code = 3 ∧ (life = 1 ∨ life = 2) then (if s.darkOrOff then 0 else 4)
  else if code = 4 ∧ life ≤ 3 then 0
  else 2

/-- The emergency sequence to OFF, where the module then stays: nothing that waits in OFF starts it again (R413, R422). -/
def State.offToStay (s : State) : State :=
  let s := { s with pw := { s.pw with failedAt := none, coldDue := false } }.put F.PM_STATE_THERM_WAIT 0
  s.forceOff true

/-- A transition is made: fuses, RESULT 1 and event 0x0E01; to RETURN or SCRAP the keys go and the emergency sequence begins (R413). -/
def State.lcMake (s : State) (code : Nat) : State :=
  let s := { s with otp := { s.otp with life := code }, lc := { s.lc with first := none } }
  let s := (s.put F.LC_TRANS_STATUS_RESULT 1).raiseAny 0x0E01 wide code
  if code ≥ 3 then s.zeroise.1.offToStay else s

/-- The second write of a sequence. -/
def lcSecond (code : Nat) (s : State) : State :=
  match s.lc.first with
  | some (c, t) =>
    if c = code ∧ s.now ≤ t + ms then (if s.lcCause code = 0 then s.lcMake code else s.lcRefuse (s.lcCause code)) else s.lcRefuse 5
  | none => s.lcRefuse 5

/-- A write of LC_TRANSITION (R412): any other value closes a sequence that is open. -/
def lcWrite (v : Nat) (s : State) : State :=
  let code := v % 256
  if v / 256 = 0xA5 then lcFirst code s
  else if v / 256 = 0x5A then lcSecond code s
  else if s.lc.first.isSome then s.lcRefuse 5
  else s

/-! ## Key and tamper programming (R414–R416, R421) -/

/-- The 32 bytes of SE_KEY_DATA. -/
def State.keyData (s : State) : List (BitVec 8) :=
  (List.range 32).map (fun i => BitVec.ofNat 8 (s.get (F.SE_KEY_DATA_DATA (i / 4)) / 2 ^ (8 * (i % 4))))

/-- Is what a command programs present already? -/
def State.keyPresent (s : State) (cmd : Nat) : Bool :=
  match cmd with
  | 1 => s.otp.imageKey.isSome
  | 2 => s.otp.vkHash.isSome
  | 3 => s.otp.sealPub.isSome
  | _ => s.otp.tamper.isSome

/-- Why an SE_ command is refused, as SE_STATUS RESULT codes it; 0 where it runs (R415). -/
def State.seCause (s : State) (cmd : Nat) : Nat :=
  if s.keyPresent cmd then 1 else if s.otp.life ≠ 1 then 2 else if s.otp.zeroised then 3 else 0

/-- The word of the tamper settings as programmed so far. -/
def State.tamperWord (s : State) : Nat :=
  s.get F.SE_TAMPER_CFG_VBATLOSS * 2 ^ 31 + s.get F.SE_TAMPER_CFG_LEVEL1 * 2 ^ 15 + s.get F.SE_TAMPER_CFG_MODE1 * 2 ^ 12 +
  s.get F.SE_TAMPER_CFG_LEVEL0 * 2 ^ 7 + s.get F.SE_TAMPER_CFG_MODE0 * 2 ^ 4

/-- GEN_SEAL: a key pair from the on-die random source (log entry 1), the private half in 1 to the order less 1; the public half follows from
it (log entry 2). -/
def State.genSeal (s : State) : State :=
  let (v, s) := s.free 256
  let d := v % (ecOrder - 1) + 1
  { s with otp := { s.otp with sealKey := some (beBytes d 32), sealPub := some (ecdsaPublic d) } }

/-- What a command programs into OTP. -/
def State.seProgram (s : State) (cmd : Nat) : State :=
  match cmd with
  | 1 => { s with otp := { s.otp with imageKey := some s.keyData } }
  | 2 => { s with otp := { s.otp with vkHash := some s.keyData } }
  | 3 => s.genSeal
  | _ => { s with otp := { s.otp with tamper := some s.tamperWord } }

/-- A write of SE_CMD with GO. -/
def seCmd (cmd : Nat) (s : State) : State :=
  let s := s.put F.SE_CMD_CMD cmd
  if cmd = 0 ∨ cmd > 4 then s
  else if s.seCause cmd ≠ 0 then (s.put F.SE_STATUS_RESULT (s.seCause cmd)).put F.SE_STATUS_DONE 1
  else
    let s := s.seProgram cmd
    let s := if cmd ≤ 2 then each (List.range 8) (fun i s => s.put (F.SE_KEY_DATA_DATA i) 0) s else s
    ((s.put F.SE_STATUS_RESULT 0).put F.SE_STATUS_DONE 1).raiseAny 0x0E05 wide 0

/-! ## Tamper inputs (R419–R421) -/

/-- The mode of a tamper pin: 0 before the settings are fused, and where they say 3. -/
def State.tamperMode (s : State) (pin : Nat) : Nat :=
  match s.otp.tamper with
  | some w => let m := w / 2 ^ (8 * pin + 4) % 4; if m = 3 then 0 else m
  | none => 0

/-- The programmed active level of a tamper pin. -/
def State.tamperLevel (s : State) (pin : Nat) : Bool :=
  match s.otp.tamper with
  | some w => w.testBit (8 * pin + 7)
  | none => false

/-- The latch bit of a pin. -/
def tamperLatch (pin : Nat) : Fld := if pin = 0 then F.LC_TAMPER_TAMP0 else F.LC_TAMPER_TAMP1

/-- TAMPER (R419, R420): a pin has held a level for 1 ms. -/
def tamper (pin : Nat) (level : Bool) (s : State) : State :=
  if pin > 1 then s
  else
    let l := s.get F.LC_TAMPER_LEVEL
    let s := s.put F.LC_TAMPER_LEVEL (if level then l ||| 2 ^ pin else l - (l &&& 2 ^ pin))
    let mode := s.tamperMode pin
    if mode = 0 ∨ level ≠ s.tamperLevel pin then s
    else
      let s := s.put (tamperLatch pin) 1
      if s.otp.zeroised then s
      else
        let s := s.raiseAny 0x0E03 wide 0
        if mode = 1 then s
        else if s.pw.supplies then s.zeroise.1.forceOff true
        else s.put F.LC_TAMPER_PENDING 1

/-! ## The JTAG port (R422, R423, R454) -/

/-- EXTEST, CLAMP or HIGHZ in force? -/
def State.scanning (s : State) : Bool := decide (3 ≤ s.lc.jtag ∧ s.lc.jtag ≤ 5)

/-- The TAP leaves EXTEST, CLAMP and HIGHZ: a cold start as on PM_RESET COLD in OFF, at the end of the sequence where that still runs. -/
def State.scanOver (s : State) : State :=
  let s := s.put F.LC_STATE_BSCAN 0
  match s.pw.shut with
  | some x => { s with pw := { s.pw with shut := some { x with then_ := 1 } } }.put F.PM_STATE_LAST_RESET 2
  | none => pmResetCold s

/-- An instruction is selected; EXTEST, CLAMP and HIGHZ start the emergency sequence, any other ends them. -/
def State.jtagSelect (s : State) (k : Nat) : State :=
  let was := s.scanning
  let s := { s with lc := { s.lc with jtag := k } }
  if s.scanning then (if was then s else (s.put F.LC_STATE_BSCAN 1).offToStay)
  else if was then s.scanOver
  else s

/-- BSCAN_EXIT: the TAP leaves the three instructions; after that it holds IDCODE, as in Test-Logic-Reset. -/
def bscanExit (s : State) : State := if s.scanning then s.jtagSelect 1 else s

/-- INTDBG: internal debug in MANUFACTURE and RETURN, BYPASS elsewhere. -/
def intdbg (s : State) : State :=
  if s.otp.life = 0 ∨ s.otp.life = 3 then
    let s := s.jtagSelect 6
    (s.put F.LC_STATE_DEBUG_OPEN 1).raiseAny 0x0E07 wide 0
  else s.jtagSelect 0

/-! ## Meanings -/

/-- LC_TRANSITION_FIRST (R412). -/
def execLcTransitionFirst (_src : Source) (t code : Nat) (s : State) : Outcome := runAt t s (access 0x10 (lcFirst (code % 256)))
/-- LC_TRANSITION_SECOND (R411–R413). -/
def execLcTransitionSecond (_src : Source) (t code : Nat) (s : State) : Outcome := runAt t s (access 0x10 (lcSecond (code % 256)))
/-- PROG_IMAGE_KEY (R415). -/
def execProgImageKey (_src : Source) (t : Nat) (s : State) : Outcome := runAt t s (access 0x230004 (seCmd 1))
/-- PROG_VK_HASH (R415). -/
def execProgVkHash (_src : Source) (t : Nat) (s : State) : Outcome := runAt t s (access 0x230004 (seCmd 2))
/-- GEN_SEAL (R414). -/
def execGenSeal (_src : Source) (t : Nat) (s : State) : Outcome := runAt t s (access 0x230004 (seCmd 3))
/-- PROG_TAMPER (R421). -/
def execProgTamper (_src : Source) (t : Nat) (s : State) : Outcome := runAt t s (access 0x230004 (seCmd 4))
/-- TAMPER (R419, R420). -/
def execTamper (t pin : Nat) (level : Bool) (s : State) : Outcome := runAt t s (tamper pin level)
/-- BYPASS (R422). -/
def execBypass (t : Nat) (s : State) : Outcome := runAt t s (fun s => s.jtagSelect 0)
/-- IDCODE (R422, R454). -/
def execIdcode (t : Nat) (s : State) : Outcome := runAt t s (fun s => { s.jtagSelect 1 with resp := [s.idcode] })
/-- SAMPLE_PRELOAD (R422). -/
def execSamplePreload (t : Nat) (s : State) : Outcome := runAt t s (fun s => s.jtagSelect 2)
/-- EXTEST (R422). -/
def execExtest (t : Nat) (s : State) : Outcome := runAt t s (fun s => s.jtagSelect 3)
/-- CLAMP (R422). -/
def execClamp (t : Nat) (s : State) : Outcome := runAt t s (fun s => s.jtagSelect 4)
/-- HIGHZ (R422). -/
def execHighz (t : Nat) (s : State) : Outcome := runAt t s (fun s => s.jtagSelect 5)
/-- BSCAN_EXIT (R422). -/
def execBscanExit (t : Nat) (s : State) : Outcome := runAt t s bscanExit
/-- INTDBG (R423). -/
def execIntdbg (t : Nat) (s : State) : Outcome := runAt t s intdbg

end Sys2Proof.Machine
end

