-- ==== Sys2Proof/Machine/Readback.lean ====
section
/-!
DEFINITION. Machine/Readback.lean: the readback copy of a group's profile in DRAM, and the reads of FP_PROF_DATA (R139, R140).
-/
namespace Sys2Proof.Machine

/-- The readback copy's place: the last 512 KiB of system addresses (log entry 43). A bin takes 4 bytes, as FP_PROF_DATA shows it. -/
def State.copyArea (s : State) : Nat := s.dramBytes - 2 ^ 19

/-- A valid word of FP_PROF_DATA; an amplitude with no value in dB is free (log entry 1). -/
def State.ampWord (s : State) (a : Option Int) (faded : Bool) : Nat × State :=
  let top := 2 ^ 31 + (if faded then 2 ^ 30 else 0)
  match a with
  | some x => (top + (satBits 16 x % 65536).toNat, s)
  | none => let (r, s) := s.free 16; (top + r, s)

/-- The bytes of a copy. -/
def State.profileBytes (s : State) : List (Option Int × Bool) → List (BitVec 8) × State
  | [] => ([], s)
  | x :: xs =>
    let (w, s) := s.ampWord x.1 x.2
    let (bs, s) := s.profileBytes xs
    (leBytes w 4 ++ bs, s)

/-- The copy is complete: its bins stand in DRAM, written through port 0 (R140). -/
def profileFrozen (s : State) : State :=
  match s.fp.copyOf with
  | some (seq, sweep) =>
    if s.is F.FP_PROF_SEL_FREEZE ∧ !s.is F.FP_PROF_SEL_FROZEN then
      let (bs, s) := s.profileBytes s.fp.copy
      let s := s.writeWords (bs.length / 8 + 2) s.copyArea bs
      let s := { s with fp := { s.fp with copy := [], copyLen := s.fp.copy.length } }
      ((s.put F.FP_PROF_SEL_FROZEN 1).put F.FP_PROF_TAG_SEQ seq).put F.FP_PROF_SWEEP_COUNT sweep
    else s
  | none => s

/-- The word that FP_PROF_DATA returns for the selected bin (R140): while FROZEN is 1 that of the copy. -/
def State.profWord (s : State) : Nat × State :=
  let b := s.get F.FP_PROF_SEL_BIN
  let g := s.get F.FP_PROF_SEL_GROUP
  let p := s.grp g
  if s.is F.FP_PROF_SEL_FREEZE then
    if s.is F.FP_PROF_SEL_FROZEN ∧ b < s.fp.copyLen then
      let a := s.copyArea + 4 * b
      let (ws, _, s) := s.readWords ⟨0, false, a, 4, [], s.now, false, none⟩ 1 (a / 8)
      (ws.headD 0 / 2 ^ (8 * (a % 8)) % 2 ^ 32, s)
    else (0, s)
  else
    match (if s.is (F.FP_GROUP_STAT_ACTIVE g) && p.launched && !p.restart && decide (b < s.binCount) then p.v[b]? else none) with
    | some v => s.ampWord (ampCode v p.noise) (p.faded.getD b false)
    | none => (0, s)

/-- A read of FP_PROF_DATA: the word, and BIN advanced (R140). -/
def profDataRead (s : State) : State :=
  let (w, s) := s.profWord
  { s.bumpWrap F.FP_PROF_SEL_BIN 1 with resp := [w] }

/-- PROFILE_FROZEN (R140). -/
def execProfileFrozen (t : Nat) (s : State) : Outcome := runAt t s profileFrozen
/-- FP_PROF_DATA_READ (R140). -/
def execFpProfDataRead (t : ReadAt) (s : State) : Outcome := readAt t s (access 0x60304 profDataRead)

end Sys2Proof.Machine
end

