-- ==== Sys2Proof/Machine/Control.lean ====
section
/-!
DEFINITION. Machine/Control.lean: the control space as a whole (R6–R10, R29–R33, R38–R41): what a read of any register returns and does, what
a write of any register does, counter clears (R470), the fault summary (R467), and the MGMT port (R449).
-/
namespace Sys2Proof.Machine

/-- The copy number that an address names among `n` copies of a register from `base` on, `stride` bytes apart. -/
def copyOf (base stride n addr : Nat) : Option Nat :=
  if base ≤ addr ∧ (addr - base) % stride = 0 ∧ (addr - base) / stride < n then some ((addr - base) / stride) else none

/-! ## Reads -/

/-- Does the address lie in the window of a section at or above the section count (R169)? -/
def State.noSection (s : State) (addr : Nat) : Bool :=
  decide (0x78000 ≤ addr ∧ addr < 0x80000) && decide ((addr - 0x78000) / 128 ≥ s.get F.BS_COUNT_SECTIONS)

/-- Is the address a register of lane BI or BQ while PD_RXB is off (R97)? -/
def State.noLane (s : State) (addr : Nat) : Bool :=
  !s.domainOn 7 && ((copyOf 0x50030 4 2 addr).isSome || decide (0x50180 ≤ addr ∧ addr < 0x501C0))

/-- Is the address in the part of the BT_ block that the lifecycle state closes (R417, R437)? -/
def State.closedBt (s : State) (addr : Nat) : Bool := !s.btOpen && decide (0x210100 ≤ addr ∧ addr < 0x210200)

/-- Does the address name no register in the present state? -/
def State.hidden (s : State) (addr : Nat) : Bool := s.noSection addr || s.noLane addr || s.closedBt addr

/-- The number of the check-value unit in FRAME mode whose parameter register the address names (R354). -/
def State.frameParam (s : State) (addr : Nat) : Bool :=
  (copyOf 0x1D0000 256 4 (addr / 256 * 256)).isSome && decide (4 ≤ addr % 256 ∧ addr % 256 < 0x20) &&
  decide (s.get (F.CK_CTRL_MODE ((addr - 0x1D0000) / 256)) = 1)

/-- The word of the fields stored for a register, or of their reset values; WO fields read 0 (R8). -/
def State.fieldWord (s : State) (fresh : Bool) (addr : Nat) : Nat :=
  match findReg addr with
  | some r => r.fields.foldl (fun acc f =>
      if f.accAt addr = .wo then acc else acc + (if fresh then (f.at addr).reset else s.get (f.at addr)) * 2 ^ f.lo) 0
  | none => 0

/-- The word of the MSI-X table or the PBA (R349). R349 gives the table no layout: beside the mask bit of each entry's last word, which PCI Express
gives, the model keeps every bit as written and reads it back, reserved bits and low address bits among them (log entry 13). -/
def State.msixWord (s : State) (addr : Nat) : Nat :=
  if addr = 0x1E9000 then s.ev.pba
  else if addr < 0x1E8200 then
    let v := (addr - 0x1E8000) / 16
    let k := (addr - 0x1E8000) / 4 % 4
    let w := kvGet 0 s.out.msix (4 * v + k)
    if k = 3 then w / 2 * 2 + (if s.ev.masked.testBit v then 1 else 0) else w
  else 0

/-- The words of LC_ that OTP and the real-time counter supply (R435), and of SE_ that OTP supplies (R436). -/
def State.identityWord (s : State) (addr : Nat) : Option Nat :=
  if addr = 0x0 then some (s.otp.step % 256 / 16 * 2 ^ 12 + s.otp.step % 16 * 2 ^ 8 + (if s.otp.px940 then 0x40 else 0x60))
  else if addr = 0x4 then some (s.otp.serial % 2 ^ 32)
  else if addr = 0x8 then some (s.otp.serial / 2 ^ 32 % 2 ^ 32)
  else if addr = 0xC then some ((if s.otp.zeroised then 2 ^ 31 else 0) + s.get F.LC_STATE_DEBUG_OPEN * 2 ^ 30 + s.get F.LC_STATE_BSCAN * 2 ^ 29 + s.otp.life % 8)
  else if addr = 0x18 then some (min s.rtc 0xFFFFFFFF)
  else if addr = 0x230000 then
    some (s.get F.SE_STATUS_BUSY * 2 ^ 31 + s.get F.SE_STATUS_RESULT * 2 ^ 28 + s.get F.SE_STATUS_DONE * 2 ^ 27 + s.keyBits)
  else if addr = 0x230060 then some s.keyCheck
  else if addr = 0x2300C0 then some (s.otp.tamper.getD s.tamperWord)
  else match copyOf 0x230040 4 8 addr with
    | some i => some (wordOfBytes s.otp.vkHash i)
    | none => (copyOf 0x230080 4 16 addr).map (wordOfBytes s.otp.sealPub)

/-- The words that the machine computes when they are read: the readback words, the timers that run on, and OTP. -/
def State.computedWord (s : State) (addr : Nat) : Option Nat :=
  if addr / 65536 = 0 ∨ addr / 65536 = 0x23 then s.identityWord addr
  else if addr = 0x40020 ∧ !s.opt.off then some s.monAvgWord
  else if addr = 0x40034 ∧ !s.opt.off then some s.diagWord
  else if addr = 0x40048 then some (s.get F.OP_DM_STATUS_BADKICK * 2 ^ 31 + s.get F.OP_DM_STATUS_EXPIRED * 2 ^ 30 + s.dmRemain)
  else if addr = 0x70024 then some s.chainWord
  else if addr = 0x1B0068 then some s.regionWord
  else if addr = 0x1F0020 then some s.holdSeconds
  else if addr = 0x210024 then some s.unitWord
  else if addr = 0x22000C then some ((if s.otp.rollback ≥ 64 then 128 else 0) + s.otp.rollback % 128)
  else if 0x1E8000 ≤ addr ∧ addr < 0x1EA000 then some (s.msixWord addr)
  else (copyOf 0x21002C 4 4 addr).map s.failWord

/-- What a register whose read has no side effect returns. -/
def State.plainWord (s : State) (addr : Nat) : Nat :=
  if s.hidden addr then 0
  else match s.computedWord addr with
    | some w => w
    | none => s.fieldWord (s.frameParam addr) addr

/-- The reads with side effects: each leaves its word as the answer. -/
def readEffect (addr : Nat) (s : State) : Option State :=
  if addr = 0x30034 then some (waveDataRead s)
  else if addr = 0x40050 then some (ilRead s)
  else if addr = 0x60304 then some (profDataRead s)
  else if addr = 0x7002C then some (alarmDataRead s)
  else if addr = 0x140020 then some (fbUtilRead s)
  else if addr = 0x160104 then some (specDataRead s)
  else if addr = 0x180070 then some (hkDataRead 0 s)
  else if addr = 0x180170 then some (hkDataRead 1 s)
  else if addr = 0x1F0004 then some (tbNowRead s)
  else if addr = 0x1F0034 then some (stampWord0Read 0 s)
  else if addr = 0x1F0044 then some (stampWord0Read 1 s)
  else if addr = 0x1F0060 then some (stampWord0Read 2 s)
  else match copyOf 0x1F0108 128 8 addr with
    | some n => some (evtQueueRead n s)
    | none => (copyOf 0x1F0120 128 8 addr).map (fun n => statResultRead n s)

/-- A read of the control space: the word is the answer. -/
def readReg (addr : Nat) (s : State) : State :=
  match readEffect addr s with
  | some s' => s'
  | none => { s with resp := [s.plainWord addr] }

/-! ## Counters and their SAT bits (R470) -/

/-- The SAT bits and counters of the launch, optical, sampling and pipeline blocks. -/
def satFront (addr : Nat) : List (Fld × Fld) :=
  if addr = 0x30020 then [(F.TT_STATUS_WSAT, F.TT_WITHHELD_COUNT)]
  else if addr = 0x20104 then [(F.SB_TT_STATUS_RSAT, F.SB_TT_STATUS_REPLACED)]
  else if addr = 0x4009C then [(F.OP_CNT_SAT_KICK_SAT, F.OP_BADKICKS_COUNT), (F.OP_CNT_SAT_BREAK_SAT, F.OP_BREAKS_COUNT), (F.OP_CNT_SAT_CUT_SAT, F.OP_CUTS_COUNT)]
  else if addr = 0x60038 then [(F.FP_CNT_SAT_FADE_SAT, F.FP_FADE_COUNT_COUNT), (F.FP_CNT_SAT_SAT_SAT, F.FP_SAT_COUNT_COUNT)]
  else match copyOf 0x50100 32 6 addr with
    | some n => [(F.SL_LANE_STATUS_CLIP_SAT n, F.SL_LANE_CLIPS_COUNT n), (F.SL_LANE_STATUS_LIM_SAT n, F.SL_LANE_LIMITS_HITS n)]
    | none => match copyOf 0x7805C 128 256 addr with
      | some k => [(F.BS_SAT_FILL_SAT k, F.BS_FILLED_COUNT k), (F.BS_SAT_SLEW_SAT k, F.BS_SLEW_COUNT k), (F.BS_SAT_MERGE_SAT k, F.BS_MERGED_COUNT k),
                   (F.BS_SAT_EVT_SAT k, F.BS_DET_EVTS_COUNT k), (F.BS_SAT_REPL_SAT k, F.BS_PAL_REPL_COUNT k)]
      | none => []

/-- Those of the fabric, the recorder, the Brillouin channel and the sensors. -/
def satMiddle (addr : Nat) : List (Fld × Fld) :=
  if addr = 0x140070 then [(F.FB_CNT_SAT_DISC_SAT, F.FB_DISCARDS_COUNT), (F.FB_CNT_SAT_FAULT_SAT, F.FB_FAULTS_COUNT),
                           (F.FB_CNT_SAT_PROM_SAT, F.FB_PROMOTED_COUNT), (F.FB_CNT_SAT_DONE_SAT, F.FB_DONE_COUNT)]
  else if addr = 0x150020 then [(F.EV_SAT_DROP_SAT, F.EV_DROPPED_COUNT)]
  else if addr = 0x16004C then [(F.BR_SAT_SKIP_SAT, F.BR_SKIPPED_COUNT)]
  else if addr = 0x190018 then [(F.CL_SAT_PASS_SAT, F.CL_PASSES_COUNT)]
  else match copyOf 0x150148 128 16 addr with
    | some n => [(F.EV_LSAT_MRG_SAT n, F.EV_MERGED_COUNT n), (F.EV_LSAT_IGN_SAT n, F.EV_IGNORED_COUNT n)]
    | none => match copyOf 0x170118 32 8 addr with
      | some c => [(F.SF_SAT_ABN_SAT c, F.SF_ABANDON_COUNT c), (F.SF_SAT_FLT_SAT c, F.SF_FAULTS_COUNT c)]
      | none => match copyOf 0x180074 256 2 addr with
        | some x => [(F.HK_STAT_PROM_SAT x, F.HK_PROM_COUNT x), (F.HK_STAT_MISS_SAT x, F.HK_MISS_COUNT x), (F.HK_STAT_OVR_SAT x, F.HK_OVRS_COUNT x)]
        | none => []

/-- Those of memory, output, time and the array. -/
def satBack (addr : Nat) : List (Fld × Fld) :=
  if addr = 0x1A0050 then [(F.DC_CNT_SAT_PROM_SAT, F.DC_PROMOTED_COUNT), (F.DC_CNT_SAT_CAP_SAT, F.DC_PANIC_CAPS_COUNT),
                           (F.DC_CNT_SAT_RH_SAT, F.DC_RH_REFRESHES_COUNT), (F.DC_CNT_SAT_REF_SAT, F.DC_FORCED_REF_COUNT)]
  else if addr = 0x1B0024 then [(F.EC_CORR_SAT_SRAM_SAT, F.EC_SRAM_CORR_COUNT)]
  else if addr = 0x1B0034 then [(F.EC_CNT_SAT_UNH_SAT, F.EC_UNHANDLED_COUNT), (F.EC_CNT_SAT_LOST_SAT, F.EC_SUSPECT_LOST_COUNT), (F.EC_CNT_SAT_UE_SAT, F.EC_UE_COUNT)]
  else if addr = 0x1C0030 then [(F.CX_CNT_SAT_SIDE_SAT, F.CX_SIDED_COUNT), (F.CX_CNT_SAT_LOST_SAT, F.CX_SEAL_LOST_COUNT),
                                (F.CX_CNT_SAT_DISC_SAT, F.CX_DISCARDED_COUNT), (F.CX_CNT_SAT_NOSH_SAT, F.CX_NOSHRINK_COUNT)]
  else if addr = 0x1E008C then [(F.HW_CNT_SAT_LOST_SAT, F.HW_NB_LOST_COUNT), (F.HW_CNT_SAT_SKIP_SAT, F.HW_SKIPPED_COUNT), (F.HW_CNT_SAT_BADW_SAT, F.HW_BAD_WRITES_COUNT)]
  else if addr = 0x1F0070 then [(F.TB_CNT_SAT_TRIG_SAT, F.TB_TRIG_COUNT_COUNT), (F.TB_CNT_SAT_REF_SAT, F.TB_TL_REFUSED_COUNT), (F.TB_CNT_SAT_TL_SAT, F.TB_TL_COUNT_COUNT)]
  else if addr = 0x200030 then [(F.FL_CNT_SAT_ERRD_SAT, F.FL_ERR_DOWN_COUNT), (F.FL_CNT_SAT_ERRU_SAT, F.FL_ERR_UP_COUNT),
                                (F.FL_CNT_SAT_RECV_SAT, F.FL_XT_RECV_COUNT), (F.FL_CNT_SAT_SENT_SAT, F.FL_XT_SENT_COUNT)]
  else match copyOf 0x1F0104 128 8 addr with
    | some n => [(F.TB_EVT_STAT_DSAT n, F.TB_EVT_STAT_DROPPED n)]
    | none => []

/-- Every SAT bit of the register at `addr` with its counter. -/
def satPairs (addr : Nat) : List (Fld × Fld) := satFront addr ++ satMiddle addr ++ satBack addr

/-- The bits of EC_CORR_SAT CH_SAT clear their channels' counters (R320). -/
def State.corrClear (s : State) (v : Nat) : State :=
  let s := each (List.range 4) (fun c s => if v.testBit c then s.put (F.EC_CORR_COUNT c) 0 else s) s
  s.put F.EC_CORR_SAT_CH_SAT (s.get F.EC_CORR_SAT_CH_SAT &&& (v % 16 ^^^ 15))

/-- The SAT bits that the word `v` written to `addr` clears, each with its counter. -/
def satClear (addr v : Nat) (s : State) : State :=
  if s.hidden addr then s
  else
    let s := each (satPairs addr) (fun p s => if v.testBit (p.1.key % 32) then (s.put p.1 0).put p.2 0 else s) s
    if addr = 0x1B0024 then s.corrClear v else s

/-! ## PM_FAULT (R467) -/

/-- A write to PM_FAULT: LATCH bits whose ACTIVE bit is clear. -/
def faultLatchClear (v : Nat) (s : State) : State :=
  let w := v / 2 % 2 ^ 15
  let stay := s.get F.PM_FAULT_ACTIVE ||| (w ^^^ 0x7FFF)
  s.put F.PM_FAULT_LATCH (s.get F.PM_FAULT_LATCH &&& stay)

/-! ## Output lands that summarise registers -/

/-- Is FAULT# low (R441, R467): with VIO present, a start that has neither committed nor entered SAFE_HOLD, its thermal wait and the second between
a failed start and the next included, or any LATCH bit? -/
def State.faultLow (s : State) : Bool :=
  (s.pw.supplies && (s.starting || s.pw.coldDue || s.pw.failedAt.isSome || s.is F.PM_STATE_THERM_WAIT)) || decide (s.get F.PM_FAULT_LATCH ≠ 0)

/-- Is MGMT_IRQ# low (R450)? -/
def State.mgmtIrqLow (s : State) : Bool := decide (s.get F.HW_IRQ_PEND_PEND ≠ 0)

/-- Is AMP_EN# low (R89, R91)? -/
def State.ampEnLow (s : State) : Bool := s.is F.OP_AMP_EN_OUT

/-! ## Writes -/

/-- A field that the part does not have: address hashing on a PX-940 (R1, R294). -/
def State.absent (s : State) (f : Fld) : Bool := s.otp.px940 && (List.range 4).any (fun i => f.key == (F.DC_HASH_MASK i).key)

/-- One field of a register written with its bits `x` (R8, R10, R29). -/
def State.writeField (s : State) (src : Source) (acc : Acc) (f : Fld) (x : Nat) : State :=
  match acc with
  | .rw => s.put f x
  | .rwl =>
    if src = .signalBox ∧ !s.is F.SB_STATUS_COMMITTED ∧ !s.absent f then s.put f (s.heldIn f (x % 2 ^ f.width)) else s
  | .w1c => s.put f (s.get f &&& (x % 2 ^ f.width ^^^ (2 ^ f.width - 1)))
  | _ => s

/-- A register without an effect of its own written field by field. -/
def State.writeFields (s : State) (src : Source) (addr v : Nat) : State :=
  match findReg addr with
  | some r => r.fields.foldl (fun s f => s.writeField src (f.accAt addr) (f.at addr) (v / 2 ^ f.lo)) s
  | none => s

/-- A word of the MSI-X table (R348, R349): bit 0 of an entry's last word masks it. -/
def msixWrite (addr v : Nat) (s : State) : State :=
  let n := (addr - 0x1E8000) / 16
  let k := (addr - 0x1E8000) / 4 % 4
  let s := { s with out := { s.out with msix := kvSet 0 s.out.msix (4 * n + k) (v % 2 ^ 32) } }
  if k ≠ 3 then s
  else if v.testBit 0 then { s with ev := { s.ev with masked := s.ev.masked ||| 2 ^ n } }
  else if s.ev.masked.testBit n then msixUnmask n s
  else s

/-- A write to SB_CMD: its key and its command (R392, R404, R408). -/
def sbCmdWrite (v : Nat) (s : State) : State :=
  if v / 65536 ≠ 0x51A7 then s
  else match v % 8 with
    | 1 => sbCmdIdle s
    | 2 => sbCmdRun s
    | 3 => sbCmdOff s
    | 4 => sbCmdRetry s
    | _ => s

/-- A write to PM_RESET: its key and its kind (R383, R407). -/
def pmResetWrite (v : Nat) (s : State) : State :=
  if v / 256 ≠ 0xB0075E then s
  else match v % 4 with
    | 1 => pmResetCold s
    | 2 => pmResetWarm s
    | _ => s

/-- A write to NV_CMD: with GO the command, without it the CMD field. -/
def nvCmdWrite (v : Nat) (s : State) : State :=
  let c := v % 8
  if v.testBit 31 ∧ 1 ≤ c ∧ c ≤ 5 then nvCmd c s else s.put F.NV_CMD_CMD c

/-- A write to SE_CMD: with GO the command, without it the CMD field. -/
def seCmdWrite (v : Nat) (s : State) : State := if v.testBit 31 then seCmd (v % 8) s else s.put F.SE_CMD_CMD v

/-- A write to SE_TAMPER_CFG: in PROVISION before the settings are fused (R421). -/
def tamperCfgWrite (v : Nat) (s : State) : State :=
  if s.otp.life = 1 ∧ s.otp.tamper.isNone then s.writeFields .host 0x2300C0 v else s

/-- A write to SE_KEY_DATAi, which never reads back (R415). -/
def keyDataWrite (i v : Nat) (s : State) : State := s.put (F.SE_KEY_DATA_DATA i) v

/-- A write to EC_TEST_CTRL (R299). -/
def testCtrlWrite (v : Nat) (s : State) : State :=
  match v % 8 with
  | 1 => s.testCmd v testWriteCoded
  | 2 => s.testCmd v testWriteData
  | 3 => s.testCmd v testWriteCheck
  | 4 => s.testCmd v testRead
  | _ => s.testCmd v id

/-- A write to CK_CTRLu (R344): DONE is cleared, MODE is RWL, START begins a scan. -/
def ckCtrlWrite (src : Source) (u v : Nat) (s : State) : State :=
  let s := s.writeFields src (0x1D0000 + 256 * u) v
  if v.testBit 31 then scanStart u s else s

/-- The registers of the optical path whose writes have effects of their own. -/
def writeFront (addr v : Nat) (s : State) : Option State :=
  if addr = 0x40004 then some (opCtrlWrite v s)
  else if addr = 0x40040 then some (dmCfgWrite v s)
  else if addr = 0x40044 then some (kick v s)
  else if addr = 0x400A0 then some (fuseWrite v s)
  else if addr = 0x20100 then some (ttRequestWrite v s)
  else if addr = 0x50300 then some (sliceSelWrite v s)
  else if addr = 0x60300 then some (profileFreeze v s)
  else if addr = 0x70018 then some (dfifoRdWrite v s)
  else if addr = 0x150018 then some (hostTrigger v s)
  else match copyOf 0x15011C 128 16 addr with
    | some n => some (evCtrlWrite n v s)
    | none => (copyOf 0x150138 128 16 addr).map (fun n => evRecRdWrite n v s)

/-- Those of memory, output and the time base. -/
def writeBack (src : Source) (addr v : Nat) (s : State) : Option State :=
  if addr = 0x1B0040 then some (suspectSelWrite v s)
  else if addr = 0x1B0100 then some (testCtrlWrite v s)
  else if addr = 0x1E0054 then some (hwNbRdWrite v s)
  else if addr = 0x1E0060 then some (irqPendClear v s)
  else if addr = 0x1F0014 then some (epochWrite v s)
  else if 0x1E8000 ≤ addr ∧ addr < 0x1E8200 then some (msixWrite addr v s)
  else match copyOf 0x1D0000 256 4 addr with
    | some u => some (ckCtrlWrite src u v s)
    | none => match copyOf 0x1F0100 128 8 addr with
      | some n => some ((s.writeFields src addr v).noteEnabled n (s.is (F.TB_EVT_CFG_EN n)))
      | none => (copyOf 0x1F0118 128 8 addr).map (fun n => statGo n v s)

/-- Those of power, NVM, lifecycle, security and self-test; `allocated` as for BT_RUN. -/
def writeSystem (addr v : Nat) (allocated : Bool) (s : State) : Option State :=
  if addr = 0x10 then some (lcWrite v s)
  else if addr = 0x1000C then some (pmResetWrite v s)
  else if addr = 0x10020 then some (faultLatchClear v s)
  else if addr = 0x20008 then some (sbCmdWrite v s)
  else if addr = 0x210100 then some (btRun v allocated s)
  else if addr = 0x210120 then some (btAcc (v % 8) s)
  else if addr = 0x220014 then some (nvCmdWrite v s)
  else if addr = 0x230004 then some (seCmdWrite v s)
  else if addr = 0x2300C0 then some (tamperCfgWrite v s)
  else (copyOf 0x230010 4 8 addr).map (fun i => keyDataWrite i v s)

/-- A write of one word to a register of a powered block. -/
def writeReg (src : Source) (addr v : Nat) (allocated : Bool) (s : State) : State :=
  if s.hidden addr ∨ s.frameParam addr then s
  else match writeFront addr v s with
    | some s' => s'
    | none => match writeBack src addr v s with
      | some s' => s'
      | none => match writeSystem addr v allocated s with
        | some s' => s'
        | none =>
          let s := (satClear addr v s).writeFields src addr v
          if addr = 0x50000 then s.lanesEnable else s

/-- A write with byte enables `be`: one with fewer than four is discarded (R7). -/
def registerWrite (src : Source) (addr v be : Nat) (allocated : Bool) (s : State) : State :=
  if be % 16 = 15 then writeReg src addr (v % 2 ^ 32) allocated s else s

/-! ## The MGMT port (R449) -/

/-- Consecutive words read, from the address on. -/
def mgmtRead : Nat → Nat → State → State
  | 0, _, s => { s with resp := [] }
  | n + 1, addr, s =>
    let s := access addr (readReg addr) s
    let w := s.resp
    let s := mgmtRead n (addr + 4) s
    { s with resp := w ++ s.resp }

/-- Consecutive words written, each taking effect before the next. -/
def mgmtWrite (allocated : Bool) : Nat → List Nat → State → State
  | _, [], s => s
  | addr, v :: vs, s => mgmtWrite allocated (addr + 4) vs (access addr (writeReg .host addr (v % 2 ^ 32) allocated) s)

/-! ## Meanings -/

/-- REGISTER_WRITE (R6–R10, R29, R40). -/
def execRegisterWrite (src : Source) (t addr value be : Nat) (allocated : Bool) (s : State) : Outcome :=
  if addr % 4 ≠ 0 then .refused (.misaligned addr) else runAt t s (access addr (registerWrite src addr value be allocated))
/-- SAT_CLEAR (R470). -/
def execSatClear (t addr value : Nat) (s : State) : Outcome :=
  if addr % 4 ≠ 0 then .refused (.misaligned addr) else runAt t s (access addr (satClear addr (value % 2 ^ 32)))
/-- MGMT_READ (R449): at most 64 words of a transaction. -/
def execMgmtRead (t addr n : Nat) (s : State) : Outcome :=
  if addr % 4 ≠ 0 then .refused (.misaligned addr) else runAt t s (mgmtRead (min n 64) (addr % 2 ^ 24))
/-- MGMT_WRITE (R449): at most 64 words of a transaction. -/
def execMgmtWrite (t addr : Nat) (words : List Nat) (allocated : Bool) (s : State) : Outcome :=
  if addr % 4 ≠ 0 then .refused (.misaligned addr) else runAt t s (mgmtWrite allocated (addr % 2 ^ 24) (words.take 64))
/-- MGMT_INVALID_COMMAND (R449): 0xFF on MGMT_MISO. -/
def execMgmtInvalidCommand (t : Nat) (s : State) : Outcome := runAt t s (fun s => { s with resp := [0xFF] })
/-- FAULT_LATCH_CLEAR (R467). -/
def execFaultLatchClear (t value : Nat) (s : State) : Outcome := runAt t s (access 0x10020 (faultLatchClear (value % 2 ^ 32)))

end Sys2Proof.Machine
end

