-- ==== Sys2Proof/Machine/Dispatch.lean ====
section
/-!
DEFINITION. Machine/Dispatch.lean: one arm per command, each one direct call of its meaning.
-/
namespace Sys2Proof.Machine

def exec (i : Instr) (s : State) : Host.Outcome State Fault Refusal :=
  match i with
  | .registerWrite src t addr value be allocated => Sys2Proof.Machine.execRegisterWrite src t addr value be allocated s
  | .satClear t addr value => Sys2Proof.Machine.execSatClear t addr value s
  | .fbUtilRead t => Sys2Proof.Machine.execFbUtilRead t s
  | .mgmtRead t addr n => Sys2Proof.Machine.execMgmtRead t addr n s
  | .mgmtWrite t addr words allocated => Sys2Proof.Machine.execMgmtWrite t addr words allocated s
  | .mgmtInvalidCommand t => Sys2Proof.Machine.execMgmtInvalidCommand t s
  | .sweepBoundary t lanes => Sys2Proof.Machine.execSweepBoundary t lanes s
  | .groupLaunch t g tx sense ret => Sys2Proof.Machine.execGroupLaunch t g tx sense ret s
  | .brillouinLaunch t tx sense samples => Sys2Proof.Machine.execBrillouinLaunch t tx sense samples s
  | .diagnosticPulse t tx sense => Sys2Proof.Machine.execDiagnosticPulse t tx sense s
  | .retestPulse t tx sense => Sys2Proof.Machine.execRetestPulse t tx sense s
  | .triggeredLaunch t tx sense => Sys2Proof.Machine.execTriggeredLaunch t tx sense s
  | .receiveGuardEnd t slot level => Sys2Proof.Machine.execReceiveGuardEnd t slot level s
  | .ttSwitchRequest src t value => Sys2Proof.Machine.execTtSwitchRequest src t value s
  | .ttSwitchCheck t => Sys2Proof.Machine.execTtSwitchCheck t s
  | .ttShadowReady t => Sys2Proof.Machine.execTtShadowReady t s
  | .epoch t lanes => Sys2Proof.Machine.execEpoch t lanes s
  | .ttSwitchDone t => Sys2Proof.Machine.execTtSwitchDone t s
  | .laserUnlock t => Sys2Proof.Machine.execLaserUnlock t s
  | .laserLocked t => Sys2Proof.Machine.execLaserLocked t s
  | .dark t => Sys2Proof.Machine.execDark t s
  | .probe t => Sys2Proof.Machine.execProbe t s
  | .resume t => Sys2Proof.Machine.execResume t s
  | .restore t => Sys2Proof.Machine.execRestore t s
  | .rebase t => Sys2Proof.Machine.execRebase t s
  | .fuseArm t => Sys2Proof.Machine.execFuseArm t s
  | .fuseBlow t => Sys2Proof.Machine.execFuseBlow t s
  | .fuseOtherValue t value => Sys2Proof.Machine.execFuseOtherValue t value s
  | .interlockOpen t => Sys2Proof.Machine.execInterlockOpen t s
  | .interlockOk t => Sys2Proof.Machine.execInterlockOk t s
  | .kick t value => Sys2Proof.Machine.execKick t value s
  | .dmCfgWrite src t value => Sys2Proof.Machine.execDmCfgWrite src t value s
  | .deadmanExpired t => Sys2Proof.Machine.execDeadmanExpired t s
  | .breakDetection t => Sys2Proof.Machine.execBreakDetection t s
  | .ampMonRise t => Sys2Proof.Machine.execAmpMonRise t s
  | .ampFault t => Sys2Proof.Machine.execAmpFault t s
  | .ampNotReady t => Sys2Proof.Machine.execAmpNotReady t s
  | .sliceRotation t => Sys2Proof.Machine.execSliceRotation t s
  | .sliceCalibration t lane slice reference ok ofs gain time => Sys2Proof.Machine.execSliceCalibration t lane slice reference ok ofs gain time s
  | .clkLocked t ferr => Sys2Proof.Machine.execClkLocked t ferr s
  | .clkFail t trained => Sys2Proof.Machine.execClkFail t trained s
  | .unlockSeen t => Sys2Proof.Machine.execUnlockSeen t s
  | .slSliceSelWrite t value => Sys2Proof.Machine.execSlSliceSelWrite t value s
  | .ttWaveDataRead t => Sys2Proof.Machine.execTtWaveDataRead t s
  | .segmentEmit t group sect index full => Sys2Proof.Machine.execSegmentEmit t group sect index full s
  | .riLost t mean => Sys2Proof.Machine.execRiLost t mean s
  | .riOk t => Sys2Proof.Machine.execRiOk t s
  | .profileFreeze t value => Sys2Proof.Machine.execProfileFreeze t value s
  | .profileFrozen t => Sys2Proof.Machine.execProfileFrozen t s
  | .fpProfDataRead t => Sys2Proof.Machine.execFpProfDataRead t s
  | .dispatch t ue => Sys2Proof.Machine.execDispatch t ue s
  | .shareStart t e layout => Sys2Proof.Machine.execShareStart t e layout s
  | .jobPromoted t => Sys2Proof.Machine.execJobPromoted t s
  | .shareTimeout t e => Sys2Proof.Machine.execShareTimeout t e s
  | .yardRehome t y => Sys2Proof.Machine.execYardRehome t y s
  | .jobRetire t sect ue => Sys2Proof.Machine.execJobRetire t sect ue s
  | .storeOverrunEnd t => Sys2Proof.Machine.execStoreOverrunEnd t s
  | .throughputWindow t speeds ack status => Sys2Proof.Machine.execThroughputWindow t speeds ack status s
  | .readVout t ack vout status => Sys2Proof.Machine.execReadVout t ack vout status s
  | .yardCodeLoad t y => Sys2Proof.Machine.execYardCodeLoad t y s
  | .nop e => Sys2Proof.Machine.execNop e s
  | .exit t e => Sys2Proof.Machine.execExit t e s
  | .rpt e n => Sys2Proof.Machine.execRpt e n s
  | .rptd e x => Sys2Proof.Machine.execRptd e x s
  | .br e c target => Sys2Proof.Machine.execBr e c target s
  | .call e target => Sys2Proof.Machine.execCall e target s
  | .ret e => Sys2Proof.Machine.execRet e s
  | .dbnz e d target => Sys2Proof.Machine.execDbnz e d target s
  | .add e d x y => Sys2Proof.Machine.execAdd e d x y s
  | .adds e d x y => Sys2Proof.Machine.execAdds e d x y s
  | .sub e d x y => Sys2Proof.Machine.execSub e d x y s
  | .subs e d x y => Sys2Proof.Machine.execSubs e d x y s
  | .and e d x y => Sys2Proof.Machine.execAnd e d x y s
  | .or e d x y => Sys2Proof.Machine.execOr e d x y s
  | .xor e d x y => Sys2Proof.Machine.execXor e d x y s
  | .min e d x y => Sys2Proof.Machine.execMin e d x y s
  | .max e d x y => Sys2Proof.Machine.execMax e d x y s
  | .cmp e x y => Sys2Proof.Machine.execCmp e x y s
  | .mov e d x => Sys2Proof.Machine.execMov e d x s
  | .abs e d x => Sys2Proof.Machine.execAbs e d x s
  | .neg e d x => Sys2Proof.Machine.execNeg e d x s
  | .ldi e d imm => Sys2Proof.Machine.execLdi e d imm s
  | .addi e d imm => Sys2Proof.Machine.execAddi e d imm s
  | .cmpi e d imm => Sys2Proof.Machine.execCmpi e d imm s
  | .shl e d x n => Sys2Proof.Machine.execShl e d x n s
  | .shr e d x n => Sys2Proof.Machine.execShr e d x n s
  | .asr e d x n => Sys2Proof.Machine.execAsr e d x n s
  | .shls e d x n => Sys2Proof.Machine.execShls e d x n s
  | .ld e d a mode off ue => Sys2Proof.Machine.execLd e d a mode off ue s
  | .st e x a mode off => Sys2Proof.Machine.execSt e x a mode off s
  | .lda e a base mode off ue => Sys2Proof.Machine.execLda e a base mode off ue s
  | .sta e a base mode off => Sys2Proof.Machine.execSta e a base mode off s
  | .mova e a imm => Sys2Proof.Machine.execMova e a imm s
  | .adda e a x => Sys2Proof.Machine.execAdda e a x s
  | .movda e d a => Sys2Proof.Machine.execMovda e d a s
  | .movmo e k imm => Sys2Proof.Machine.execMovmo e k imm s
  | .movmm e k imm => Sys2Proof.Machine.execMovmm e k imm s
  | .movs e d lc => Sys2Proof.Machine.execMovs e d lc s
  | .movtf e x => Sys2Proof.Machine.execMovtf e x s
  | .setq e q => Sys2Proof.Machine.execSetq e q s
  | .acld e b x sh => Sys2Proof.Machine.execAcld e b x sh s
  | .acsh e b sh => Sys2Proof.Machine.execAcsh e b sh s
  | .acadd e b => Sys2Proof.Machine.execAcadd e b s
  | .rnd e d b sh => Sys2Proof.Machine.execRnd e d b sh s
  | .acx e d b f => Sys2Proof.Machine.execAcx e d b f s
  | .rmsq e d b t => Sys2Proof.Machine.execRmsq e d b t s
  | .log2 e d b => Sys2Proof.Machine.execLog2 e d b s
  | .setch e x => Sys2Proof.Machine.execSetch e x s
  | .put e p v x => Sys2Proof.Machine.execPut e p v x s
  | .trn e v l k x => Sys2Proof.Machine.execTrn e v l k x s
  | .palr e p => Sys2Proof.Machine.execPalr e p s
  | .fout e => Sys2Proof.Machine.execFout e s
  | .ffts e a x inv hann => Sys2Proof.Machine.execFfts e a x inv hann s
  | .fftw e d => Sys2Proof.Machine.execFftw e d s
  | .fill e a m n => Sys2Proof.Machine.execFill e a m n s
  | .spill e a m n ue => Sys2Proof.Machine.execSpill e a m n ue s
  | .dmaw e => Sys2Proof.Machine.execDmaw e s
  | .movp e mv ue => Sys2Proof.Machine.execMovp e mv ue s
  | .clr e b mv ue => Sys2Proof.Machine.execClr e b mv ue s
  | .mpy e b s1 s2 mv ue => Sys2Proof.Machine.execMpy e b s1 s2 mv ue s
  | .mac e b s1 s2 mv ue => Sys2Proof.Machine.execMac e b s1 s2 mv ue s
  | .msu e b s1 s2 mv ue => Sys2Proof.Machine.execMsu e b s1 s2 mv ue s
  | .fftTransformStart y => Sys2Proof.Machine.execFftTransformStart y s
  | .fftTransformDone t y => Sys2Proof.Machine.execFftTransformDone t y s
  | .transferDone t e => Sys2Proof.Machine.execTransferDone t e s
  | .hostTrigger t lines => Sys2Proof.Machine.execHostTrigger t lines s
  | .triggerProcess t n => Sys2Proof.Machine.execTriggerProcess t n s
  | .trigOutPulseEnd t => Sys2Proof.Machine.execTrigOutPulseEnd t s
  | .arm t n => Sys2Proof.Machine.execArm t n s
  | .disarm t n => Sys2Proof.Machine.execDisarm t n s
  | .bwShort t => Sys2Proof.Machine.execBwShort t s
  | .rateLower t => Sys2Proof.Machine.execRateLower t s
  | .evRecRdWrite t n value => Sys2Proof.Machine.execEvRecRdWrite t n value s
  | .bsDfifoRdWrite t value => Sys2Proof.Machine.execBsDfifoRdWrite t value s
  | .bsAlarmDataRead t => Sys2Proof.Machine.execBsAlarmDataRead t s
  | .baselineComplete t => Sys2Proof.Machine.execBaselineComplete t s
  | .baselinePeriodic t => Sys2Proof.Machine.execBaselinePeriodic t s
  | .baselineSignature t => Sys2Proof.Machine.execBaselineSignature t s
  | .blockClose t => Sys2Proof.Machine.execBlockClose t s
  | .profileIssue t => Sys2Proof.Machine.execProfileIssue t s
  | .brSynUnlock t => Sys2Proof.Machine.execBrSynUnlock t s
  | .brSynLocked t => Sys2Proof.Machine.execBrSynLocked t s
  | .brSpecDataRead t => Sys2Proof.Machine.execBrSpecDataRead t s
  | .excitationPeriodEnd t vT vP high low force sense => Sys2Proof.Machine.execExcitationPeriodEnd t vT vP high low force sense s
  | .hkRegularTrigger t x => Sys2Proof.Machine.execHkRegularTrigger t x s
  | .hkInjectedTrigger t x => Sys2Proof.Machine.execHkInjectedTrigger t x s
  | .hkConversionDone t x code => Sys2Proof.Machine.execHkConversionDone t x code s
  | .hkEntryPromoted t x => Sys2Proof.Machine.execHkEntryPromoted t x s
  | .hkDataRead t x => Sys2Proof.Machine.execHkDataRead t x s
  | .hkCalibration t x => Sys2Proof.Machine.execHkCalibration t x s
  | .hkCalibrationDone t x gain ofs => Sys2Proof.Machine.execHkCalibrationDone t x gain ofs s
  | .tecUpdate t temp uMax => Sys2Proof.Machine.execTecUpdate t temp uMax s
  | .tecRestart t => Sys2Proof.Machine.execTecRestart t s
  | .moduleTempCheck t temp => Sys2Proof.Machine.execModuleTempCheck t temp s
  | .calStart t => Sys2Proof.Machine.execCalStart t s
  | .calPassDone t r => Sys2Proof.Machine.execCalPassDone t r s
  | .calRecordWrite t ok => Sys2Proof.Machine.execCalRecordWrite t ok s
  | .nvmSlotErase t journal => Sys2Proof.Machine.execNvmSlotErase t journal s
  | .dramRequest t port write addr n data fill bin => Sys2Proof.Machine.execDramRequest t port write addr n data fill bin s
  | .dramServe t fill upsets => Sys2Proof.Machine.execDramServe t fill upsets s
  | .requestPromoted t => Sys2Proof.Machine.execRequestPromoted t s
  | .panicCap t => Sys2Proof.Machine.execPanicCap t s
  | .refreshDue t bank mult => Sys2Proof.Machine.execRefreshDue t bank mult s
  | .activationTableClear t => Sys2Proof.Machine.execActivationTableClear t s
  | .patrolRead t upsets => Sys2Proof.Machine.execPatrolRead t upsets s
  | .sramPatrol t loc flips code sect => Sys2Proof.Machine.execSramPatrol t loc flips code sect s
  | .yardCodeReload t y => Sys2Proof.Machine.execYardCodeReload t y s
  | .eventLogWrite t => Sys2Proof.Machine.execEventLogWrite t s
  | .ecTestWriteCoded t value => Sys2Proof.Machine.execEcTestWriteCoded t value s
  | .ecTestWriteData t value => Sys2Proof.Machine.execEcTestWriteData t value s
  | .ecTestWriteCheck t value => Sys2Proof.Machine.execEcTestWriteCheck t value s
  | .ecTestRead t value => Sys2Proof.Machine.execEcTestRead t value s
  | .ecSuspectSelWrite t value => Sys2Proof.Machine.execEcSuspectSelWrite t value s
  | .framePlace t => Sys2Proof.Machine.execFramePlace t s
  | .framePost t ue => Sys2Proof.Machine.execFramePost t ue s
  | .ringReturn t slot => Sys2Proof.Machine.execRingReturn t slot s
  | .bar2WriteRejected t => Sys2Proof.Machine.execBar2WriteRejected t s
  | .discardJoin t => Sys2Proof.Machine.execDiscardJoin t s
  | .discardLeave t => Sys2Proof.Machine.execDiscardLeave t s
  | .sealPost t => Sys2Proof.Machine.execSealPost t s
  | .scanStart t u => Sys2Proof.Machine.execScanStart t u s
  | .scanDone t u => Sys2Proof.Machine.execScanDone t u s
  | .hwNbRdWrite t value => Sys2Proof.Machine.execHwNbRdWrite t value s
  | .irqPendClear t value => Sys2Proof.Machine.execIrqPendClear t value s
  | .frameVectorTimeout t => Sys2Proof.Machine.execFrameVectorTimeout t s
  | .msixUnmask t v => Sys2Proof.Machine.execMsixUnmask t v s
  | .functionReset t => Sys2Proof.Machine.execFunctionReset t s
  | .linkDown t => Sys2Proof.Machine.execLinkDown t s
  | .linkUp t speed width => Sys2Proof.Machine.execLinkUp t speed width s
  | .refQualified t => Sys2Proof.Machine.execRefQualified t s
  | .refLost t edges => Sys2Proof.Machine.execRefLost t edges s
  | .ppsEdge t => Sys2Proof.Machine.execPpsEdge t s
  | .ppsLost t => Sys2Proof.Machine.execPpsLost t s
  | .secondBoundary t => Sys2Proof.Machine.execSecondBoundary t s
  | .ppsOutPulseEnd t => Sys2Proof.Machine.execPpsOutPulseEnd t s
  | .tbNowRead t => Sys2Proof.Machine.execTbNowRead t s
  | .stampWord0Read t which => Sys2Proof.Machine.execStampWord0Read t which s
  | .epochWrite t value => Sys2Proof.Machine.execEpochWrite t value s
  | .trigInEdge t => Sys2Proof.Machine.execTrigInEdge t s
  | .evtEdge t n falling => Sys2Proof.Machine.execEvtEdge t n falling s
  | .evtTimeout t n => Sys2Proof.Machine.execEvtTimeout t n s
  | .evtQueueRead t n => Sys2Proof.Machine.execEvtQueueRead t n s
  | .statGo t n value => Sys2Proof.Machine.execStatGo t n value s
  | .statDone t n => Sys2Proof.Machine.execStatDone t n s
  | .statResultRead t n => Sys2Proof.Machine.execStatResultRead t n s
  | .flLinkUp t port => Sys2Proof.Machine.execFlLinkUp t port s
  | .flLinkDown t port => Sys2Proof.Machine.execFlLinkDown t port s
  | .arrayRetimed t path => Sys2Proof.Machine.execArrayRetimed t path s
  | .flotisPowerDown t => Sys2Proof.Machine.execFlotisPowerDown t s
  | .arrayNumbering t id count ring => Sys2Proof.Machine.execArrayNumbering t id count ring s
  | .timeExchange t port t1 t2 t3 t4 path lead bad => Sys2Proof.Machine.execTimeExchange t port t1 t2 t3 t4 path lead bad s
  | .alignFault t => Sys2Proof.Machine.execAlignFault t s
  | .crossTriggerReceive t sender seq line at_ => Sys2Proof.Machine.execCrossTriggerReceive t sender seq line at_ s
  | .switchMessageReceive t seq kind index mode second tl g => Sys2Proof.Machine.execSwitchMessageReceive t seq kind index mode second tl g s
  | .epochMessageReceive t seq value second => Sys2Proof.Machine.execEpochMessageReceive t seq value second s
  | .readyReport t module => Sys2Proof.Machine.execReadyReport t module s
  | .supplyGood t aonLost => Sys2Proof.Machine.execSupplyGood t aonLost s
  | .coldStart t mode cap crystal calBad trained => Sys2Proof.Machine.execColdStart t mode cap crystal calBad trained s
  | .thermalWaitReading t a b c => Sys2Proof.Machine.execThermalWaitReading t a b c s
  | .slotVerified t a b calBad trained => Sys2Proof.Machine.execSlotVerified t a b calBad trained s
  | .dramTrained t ok temp bands trained => Sys2Proof.Machine.execDramTrained t ok temp bands trained s
  | .quickTestDone t bad fails => Sys2Proof.Machine.execQuickTestDone t bad fails s
  | .engineCodeLoaded t trained => Sys2Proof.Machine.execEngineCodeLoaded t trained s
  | .laserWarm t => Sys2Proof.Machine.execLaserWarm t s
  | .receiverCalDone t r => Sys2Proof.Machine.execReceiverCalDone t r s
  | .commit t temp bands crcOk ack linear16 vout status lead => Sys2Proof.Machine.execCommit t temp bands crcOk ack linear16 vout status lead s
  | .startTimeout t trained => Sys2Proof.Machine.execStartTimeout t trained s
  | .watchdogExpiry t trained => Sys2Proof.Machine.execWatchdogExpiry t trained s
  | .retryDelayEnd t => Sys2Proof.Machine.execRetryDelayEnd t s
  | .runSettled t => Sys2Proof.Machine.execRunSettled t s
  | .sbCmdIdle src t => Sys2Proof.Machine.execSbCmdIdle src t s
  | .sbCmdRun src t => Sys2Proof.Machine.execSbCmdRun src t s
  | .sbCmdOff src t => Sys2Proof.Machine.execSbCmdOff src t s
  | .sbCmdRetry src t => Sys2Proof.Machine.execSbCmdRetry src t s
  | .pmResetCold src t => Sys2Proof.Machine.execPmResetCold src t s
  | .pmResetWarm src t => Sys2Proof.Machine.execPmResetWarm src t s
  | .shutdownDrainDone t => Sys2Proof.Machine.execShutdownDrainDone t s
  | .selfTestSliceDone t lane fail => Sys2Proof.Machine.execSelfTestSliceDone t lane fail s
  | .selfTestSliceTimeout t lane => Sys2Proof.Machine.execSelfTestSliceTimeout t lane s
  | .journalWritten t ok => Sys2Proof.Machine.execJournalWritten t ok s
  | .powerFail t => Sys2Proof.Machine.execPowerFail t s
  | .powerRestored t => Sys2Proof.Machine.execPowerRestored t s
  | .supplyFault t rail => Sys2Proof.Machine.execSupplyFault t rail s
  | .supplyRecovered t => Sys2Proof.Machine.execSupplyRecovered t s
  | .supplyLoss t => Sys2Proof.Machine.execSupplyLoss t s
  | .thermalShutdown t => Sys2Proof.Machine.execThermalShutdown t s
  | .nvErase src t => Sys2Proof.Machine.execNvErase src t s
  | .nvProgram src t => Sys2Proof.Machine.execNvProgram src t s
  | .nvVerify src t => Sys2Proof.Machine.execNvVerify src t s
  | .nvRead src t => Sys2Proof.Machine.execNvRead src t s
  | .nvRaise src t => Sys2Proof.Machine.execNvRaise src t s
  | .nvDone t ok img => Sys2Proof.Machine.execNvDone t ok img s
  | .lcTransitionFirst src t code => Sys2Proof.Machine.execLcTransitionFirst src t code s
  | .lcTransitionSecond src t code => Sys2Proof.Machine.execLcTransitionSecond src t code s
  | .progImageKey src t => Sys2Proof.Machine.execProgImageKey src t s
  | .progVkHash src t => Sys2Proof.Machine.execProgVkHash src t s
  | .genSeal src t => Sys2Proof.Machine.execGenSeal src t s
  | .progTamper src t => Sys2Proof.Machine.execProgTamper src t s
  | .tamper t pin level => Sys2Proof.Machine.execTamper t pin level s
  | .bypass t => Sys2Proof.Machine.execBypass t s
  | .idcode t => Sys2Proof.Machine.execIdcode t s
  | .samplePreload t => Sys2Proof.Machine.execSamplePreload t s
  | .extest t => Sys2Proof.Machine.execExtest t s
  | .clamp t => Sys2Proof.Machine.execClamp t s
  | .highz t => Sys2Proof.Machine.execHighz t s
  | .bscanExit t => Sys2Proof.Machine.execBscanExit t s
  | .intdbg t => Sys2Proof.Machine.execIntdbg t s
  | .btRun t value allocated => Sys2Proof.Machine.execBtRun t value allocated s
  | .btRunDone t bit addrs => Sys2Proof.Machine.execBtRunDone t bit addrs s
  | .btAccWriteCoded t => Sys2Proof.Machine.execBtAccWriteCoded t s
  | .btAccWriteData t => Sys2Proof.Machine.execBtAccWriteData t s
  | .btAccWriteCheck t => Sys2Proof.Machine.execBtAccWriteCheck t s
  | .btAccRead t => Sys2Proof.Machine.execBtAccRead t s
  | .faultLatchClear t value => Sys2Proof.Machine.execFaultLatchClear t value s
  | .switchReadyReport t module ready => Sys2Proof.Machine.execSwitchReadyReport t module ready s
  | .d3hot t on => Sys2Proof.Machine.execD3hot t on s

end Sys2Proof.Machine
end

