-- ==== Sys2Proof/Safety.lean ====
section
/-!
DEFINITION. Safety.lean: what counts as a safe state and a safe run of the block, and what a command leaves alone, in the terms the claims use.
-/
namespace Sys2Proof.Machine

/-- OP_STATE STATE and TT_STATUS PROBE show the state that the causes give (R69, R70), AMP_EN# is asserted exactly when the amplifier is in use,
the state is PROBE or FULL and the safe-optical state is not fused (R89, R91), and no event is left unposted (R463). -/
structure State.Settled (s : State) : Prop where
  state : s.get F.OP_STATE_STATE = s.opticalState
  probe : s.get F.TT_STATUS_PROBE = if s.opticalState = 2 then 1 else 0
  amp : s.get F.OP_AMP_EN_OUT = if s.is F.OP_AMP_USE ∧ 2 ≤ s.opticalState ∧ s.is F.OP_FUSE_STATUS_FUSED = false then 1 else 0
  posted : s.ev.outbox = []

/-- A step that stops the block: a fault or a refusal. -/
def Stops (o : Outcome) : Prop := ∀ u, o ≠ .next u

/-- The registers that posting an event or settling the optical state may write: PM_FAULT and PM_FAULT_CODE (R467), the notice board's
count, occupancy and losses (R346, R347), the vector pending bits (R348), and OP_STATE STATE, TT_STATUS PROBE and OP_AMP EN_OUT (R69–R71, R89). -/
def settleKeys : List Nat :=
  [F.PM_FAULT_ACTIVE.key, F.PM_FAULT_LATCH.key, F.PM_FAULT_CODE_FIRST.key, F.PM_FAULT_CODE_LAST.key, F.HW_NB_WR_COUNT.key,
   F.HW_NB_STAT_OCCUPANCY.key, F.HW_NB_LOST_COUNT.key, F.HW_CNT_SAT_LOST_SAT.key, F.HW_IRQ_PEND_PEND.key, F.OP_STATE_STATE.key,
   F.TT_STATUS_PROBE.key, F.OP_AMP_EN_OUT.key]

/-- The registers that raising and posting an event may write: PM_FAULT, PM_FAULT_CODE, the notice board's and the vector pending bits. -/
def eventKeys : List Nat := settleKeys.take 9

/-- The parts of the state beside the registers, the present instant and the event machinery. -/
inductive Part where
  | mem | freeCtr | resp | sched | opt | sw | lanes | fp | secs | dfifo | built | fab | recd | br | sens | dram | out | evt | tref | fl
  | bt | pw | nv | lc | tb | otp | pending
deriving DecidableEq, Repr

/-- A part is the same in both states. Of the scheduler the light under way, and of the optical engine the record of when AMP_EN# last went
low, follow the optical state and are no part of the comparison. -/
def Part.same (p : Part) (s u : State) : Prop :=
  match p with
  | .mem => u.mem = s.mem
  | .freeCtr => u.freeCtr = s.freeCtr
  | .resp => u.resp = s.resp
  | .sched => u.sched = { s.sched with light := u.sched.light }
  | .opt => u.opt = { s.opt with ampSince := u.opt.ampSince, ampSeen := u.opt.ampSeen }
  | .sw => u.sw = s.sw
  | .lanes => u.lanes = s.lanes
  | .fp => u.fp = s.fp
  | .secs => u.secs = s.secs
  | .dfifo => u.dfifo = s.dfifo
  | .built => u.built = s.built
  | .fab => u.fab = s.fab
  | .recd => u.recd = s.recd
  | .br => u.br = s.br
  | .sens => u.sens = s.sens
  | .dram => u.dram = s.dram
  | .out => u.out = s.out
  | .evt => u.evt = s.evt
  | .tref => u.tref = s.tref
  | .fl => u.fl = s.fl
  | .bt => u.bt = s.bt
  | .pw => u.pw = s.pw
  | .nv => u.nv = s.nv
  | .lc => u.lc = s.lc
  | .tb => u.tb = s.tb
  | .otp => u.otp = s.otp
  | .pending => u.pending = s.pending

/-- Nothing changes between two states but the named register fields, the registers of `settleKeys`, the named parts, the present instant and
the event machinery. -/
def OnlyChanges (fields : List Fld) (parts : List Part) (s u : State) : Prop :=
  (∀ f : Fld, f.key ∉ settleKeys → f.key ∉ fields.map (·.key) → u.get f = s.get f) ∧ ∀ p : Part, p ∉ parts → p.same s u

/-- The registers that the memory controller may write at an access to DRAM: corrections (R296), uncorrectable words (R298), the suspect list's
losses (R314) and the row-hammer refreshes (R308), each with its SAT bit. -/
def dramFields : List Fld :=
  [F.EC_CORR_COUNT 0, F.EC_CORR_COUNT 1, F.EC_CORR_COUNT 2, F.EC_CORR_COUNT 3, F.EC_CORR_SAT_CH_SAT, F.EC_UE_COUNT, F.EC_CNT_SAT_UE_SAT,
   F.EC_SUSPECT_LOST_COUNT, F.EC_CNT_SAT_LOST_SAT, F.DC_RH_REFRESHES_COUNT, F.DC_CNT_SAT_RH_SAT]

/-! ## Engines -/

/-- Engine e of the 96 runs a share instruction by instruction, its program counter is within the program on a word that is an instruction and
stands without a known error, and it neither waits nor stands under a repeat. -/
def State.engineReady (s : State) (e : Nat) : Prop :=
  e < 96 ∧ s.fetchFault e = none ∧ ∃ r l h, (s.eng e).run = some r ∧ r.layout = some l ∧ r.hdr = some h ∧ inWords (s.eng e).pc l.code h.codeWords = true ∧
    (s.eng e).wait = none ∧ (s.eng e).rep = none

/-- An engine after an instruction that does nothing but pass: the instruction is counted (R209), and the program counter moves on, from a delay
slot to the branch's target (R210). -/
def Eng.passes (x : Eng) : Eng :=
  { ({ x with slot := none } : Eng).tick with pc := pastSlot x.slot x.pc }

/-- Nothing but engine e changes, and the named parts. -/
def OnlyEngine (e : Nat) (ps : List Part) (s u : State) : Prop :=
  OnlyChanges [] (.fab :: ps) s u ∧ u.fab = { s.fab with engines := u.fab.engines } ∧ ∀ i, i ≠ e → u.eng i = s.eng i

/-- Engine e passes an instruction that writes `v` to Dd, seen by the next one, and leaves FLG at `flg`. -/
def WritesD (e : Nat) (ps : List Part) (d : RegNo) (v flg : Nat) (s u : State) : Prop :=
  (u.eng e).dv d = v ∧ (∀ r, r ≠ d → (u.eng e).dv r = (s.eng e).passes.dv r) ∧
  u.eng e = { (s.eng e).passes with d := (u.eng e).d, flg := flg } ∧ OnlyEngine e ps s u

/-- Engine e passes an instruction that writes `v` to an accumulator, seen by the next MAC and MSU and by any reader after that, and leaves FLG at
`flg` (R209). -/
def WritesAcc (e : Nat) (b : Bool) (v : Int) (flg : Nat) (s u : State) : Prop :=
  (u.eng e).acc b false = v ∧ (u.eng e).passes.acc b true = v ∧
  u.eng e = { (s.eng e).passes with aca := if b then (s.eng e).passes.aca else (u.eng e).aca,
                                    acb := if b then (u.eng e).acb else (s.eng e).passes.acb, flg := flg } ∧ OnlyEngine e [] s u

/-- Engine e passes an instruction that writes `v` to Aa, seen as a value by the next instruction and as an address by the third (R209). -/
def WritesA (e : Nat) (a : RegNo) (v : Nat) (s u : State) : Prop :=
  (u.eng e).aval a = v ∧ (u.eng e).passes.passes.addr a = v ∧
  (∀ r, r ≠ a → (u.eng e).aval r = (s.eng e).passes.aval r ∧ (u.eng e).addr r = (s.eng e).passes.addr r) ∧
  u.eng e = { (s.eng e).passes with a := (u.eng e).a } ∧ OnlyEngine e [] s u

/-- What Ar holds after post-modification by kind: 0 none, 1 +1, 2 −1, 3 +OFS, under the MOD of its pair (R207, R208). -/
def Eng.stepped (x : Eng) (r : RegNo) (kind : Nat) : Nat :=
  let m := x.mv (r.toNat % 4)
  if kind = 1 then advance (x.addr r) (m / 65536) 1 % 2 ^ 18 else if kind = 2 then advance (x.addr r) (m / 65536) (-1) % 2 ^ 18
  else if kind = 3 then advance (x.addr r) (m / 65536) (signed16 m) % 2 ^ 18 else x.passes.addr r

/-! ## Power -/

/-- Of the 16 domains exactly those of `ds` are powered. -/
def State.poweredOnly (s : State) (ds : List Nat) : Prop := ∀ d, d < 16 → (s.domainOn d = true ↔ d ∈ ds)

/-- A start has failed with a cause (R389–R391): it is counted up to 3, the module is dark, and a cold start follows 1 s later with only PD_AON
powered, or on the third failure SAFE_HOLD is entered, with PD_MEM powered where its training succeeds. -/
structure FailedStart (cause : Nat) (trained : Bool) (s u : State) : Prop where
  why : u.get F.SB_START_INFO_CAUSE = cause
  fails : u.get F.PM_START_FAILS = min 3 (s.get F.PM_START_FAILS + 1)
  last : u.get F.PM_STATE_LAST_RESET = if cause = 8 then 4 else 5
  dark : u.opticalState = 0
  ended : u.pw.startAt = none ∧ u.pw.shut = none ∧ u.pw.coldDue = false
  again : s.get F.PM_START_FAILS < 2 → u.get F.PM_STATE_STATE = 0 ∧ u.pw.failedAt = some u.now ∧ u.poweredOnly [0]
  hold : 2 ≤ s.get F.PM_START_FAILS → u.get F.PM_STATE_STATE = 3 ∧ u.get F.PM_START_HOLD = 1 ∧ u.pw.failedAt = none ∧
    (∀ d ∈ [0, 1, 2, 3, 14], u.domainOn d = true) ∧ (∀ d ∈ [4, 5, 6, 7, 8, 9, 10, 11, 12], u.domainOn d = false) ∧ u.domainOn 13 = trained

/-- A shutdown to `target` (1 IDLE, 3 OFF) has been accepted (R403, R405): its step 1 is complete, with the gate closed, no switch under way or
queued, and the OPEN flag set. `then_` is what follows it. -/
structure ShutdownBegun (target then_ : Nat) (emergency : Bool) (u : State) : Prop where
  shut : u.pw.shut = some ⟨target, then_, emergency, 1, u.now⟩
  shutting : u.get F.PM_STATE_SHUTTING = 1
  phase : u.get F.SB_STATUS_PHASE = 4
  step : u.get F.SB_SHUTDOWN_STEP = 1
  dark : u.opticalState = 0
  opened : u.bt.open_ = true
  switch : u.sw.lead = none ∧ u.sw.queued = none

end Sys2Proof.Machine
end

