-- ==== Sys2Proof/WellFormed.lean ====
section
/-!
DEFINITION. WellFormed.lean: which commands a sender can form. A register number, a lane, a unit or a word of a command lies in the range
that the spec gives; each check has a name, and the first one that fails is reported.
-/
namespace Sys2Proof

/-- The checks of a command's operands. -/
inductive IllFormed where
  /-- The module has 96 engines, 8 in each of 12 yards (R38, R199). -/
  | engineNumber
  /-- There are 12 yards (R38). -/
  | yardNumber
  /-- There are 16 diversity groups (R19). -/
  | groupNumber
  /-- There are 16 slots (R17). -/
  | slotNumber
  /-- There are at most 256 block sections (R133). -/
  | sectionNumber
  /-- There are six sampling lanes (R95). -/
  | laneNumber
  /-- A lane has 65 slices (R98). -/
  | sliceNumber
  /-- What is measured at a sweep boundary covers all six lanes (R102, R103). -/
  | laneCount
  /-- There are two housekeeping converters (R273). -/
  | converterNumber
  /-- There are 16 capture lines (R223). -/
  | lineNumber
  /-- There are 8 event inputs (R366). -/
  | inputNumber
  /-- There are 4 check units (R344). -/
  | unitNumber
  /-- There are 32 MSI-X vectors (R348). -/
  | vectorNumber
  /-- The Flotis link has the ports UP and DOWN (R372). -/
  | linkPort
  /-- The DRAM controller has seven ports (R300). -/
  | dramPort
  /-- Four channels of 16 banks (R292). -/
  | bankNumber
  /-- The device reports one of three refresh rates (R307). -/
  | refreshRate
  /-- There are two tamper pins (R419). -/
  | tamperPin
  /-- There are ten supply rails (R439). -/
  | railNumber
  /-- A shutdown test runs on 4 DRAM lanes and 12 yard lanes (R425). -/
  | testLane
  /-- A register stands at a multiple of 4 below 2²⁴ (R6, R7, R449). -/
  | registerAddress
  /-- A register word has 32 bits (R6). -/
  | word
  /-- An access has four byte enables (R6). -/
  | byteEnables
  /-- A DRAM request carries at least one word, and a write its data (R300). -/
  | burstLength
  /-- A DRAM word has 72 stored bits, an SRAM word 39 (R295). -/
  | bitNumber
  /-- An array has at most 8 modules (R372). -/
  | moduleNumber
  /-- A switch message is a request, an instant or a rejection (R63). -/
  | messageKind
  /-- Three latched stamps can be read (R380). -/
  | stampChoice
  /-- A housekeeping code has 12 bits (R277). -/
  | adcCode
  /-- The NVM answers in one of three ways (R384). -/
  | nvmMode
  /-- TIME_STATE has four values (R357). -/
  | timeState
  /-- The PCIe link trains at generation 1 to 4 (R353). -/
  | linkGeneration
deriving DecidableEq, Repr

/-- The checks of a command with their outcomes. -/
def Instr.checks (i : Instr) : List (IllFormed × Bool) :=
  match i with
  | .registerWrite _ _ addr value be _ => [(.registerAddress, decide (addr % 4 = 0 ∧ addr < 2 ^ 24)), (.word, decide (value < 2 ^ 32)), (.byteEnables, decide (be < 16))]
  | .satClear _ addr value => [(.registerAddress, decide (addr % 4 = 0 ∧ addr < 2 ^ 24)), (.word, decide (value < 2 ^ 32))]
  | .fbUtilRead r => [(.byteEnables, decide (r.be < 16))]
  | .mgmtRead _ addr _ => [(.registerAddress, decide (addr % 4 = 0 ∧ addr < 2 ^ 24))]
  | .mgmtWrite _ addr words _ => [(.registerAddress, decide (addr % 4 = 0 ∧ addr < 2 ^ 24)), (.word, words.all (fun w => decide (w < 2 ^ 32)))]
  | .mgmtInvalidCommand _ => []
  | .sweepBoundary _ lanes => [(.laneCount, decide (lanes.length = 6))]
  | .groupLaunch _ g _ _ _ => [(.groupNumber, decide (g < 16))]
  | .brillouinLaunch _ _ _ _ => []
  | .diagnosticPulse _ _ _ => []
  | .retestPulse _ _ _ => []
  | .triggeredLaunch _ _ _ => []
  | .receiveGuardEnd _ slot _ => [(.slotNumber, decide (slot < 16))]
  | .ttSwitchRequest _ _ value => [(.word, decide (value < 2 ^ 32))]
  | .ttSwitchCheck _ => []
  | .ttShadowReady _ => []
  | .epoch _ lanes => [(.laneCount, decide (lanes.length = 6))]
  | .ttSwitchDone _ => []
  | .laserUnlock _ => []
  | .laserLocked _ => []
  | .dark _ => []
  | .probe _ => []
  | .resume _ => []
  | .restore _ => []
  | .rebase _ => []
  | .fuseArm _ => []
  | .fuseBlow _ => []
  | .fuseOtherValue _ value => [(.word, decide (value < 2 ^ 32))]
  | .interlockOpen _ => []
  | .interlockOk _ => []
  | .kick _ value => [(.word, decide (value < 2 ^ 32))]
  | .dmCfgWrite _ _ value => [(.word, decide (value < 2 ^ 32))]
  | .deadmanExpired _ => []
  | .breakDetection _ => []
  | .ampMonRise _ => []
  | .ampFault _ => []
  | .ampNotReady _ => []
  | .sliceRotation _ => []
  | .sliceCalibration _ lane slice _ _ _ _ _ => [(.laneNumber, decide (lane < 6)), (.sliceNumber, decide (slice < 65))]
  | .clkLocked _ _ => []
  | .clkFail _ _ => []
  | .unlockSeen _ => []
  | .slSliceSelWrite _ value => [(.word, decide (value < 2 ^ 32))]
  | .ttWaveDataRead r => [(.byteEnables, decide (r.be < 16))]
  | .segmentEmit _ group sect _ _ => [(.groupNumber, decide (group < 16)), (.sectionNumber, decide (sect < 256))]
  | .riLost _ _ => []
  | .riOk _ => []
  | .profileFreeze _ value => [(.word, decide (value < 2 ^ 32))]
  | .profileFrozen _ => []
  | .fpProfDataRead r => [(.byteEnables, decide (r.be < 16))]
  | .dispatch _ _ => []
  | .shareStart _ e _ => [(.engineNumber, decide (e < 96))]
  | .jobPromoted _ => []
  | .shareTimeout _ e => [(.engineNumber, decide (e < 96))]
  | .yardRehome _ y => [(.yardNumber, decide (y < 12))]
  | .jobRetire _ sect _ => [(.sectionNumber, decide (sect < 256))]
  | .storeOverrunEnd _ => []
  | .throughputWindow _ _ _ _ => []
  | .readVout _ _ _ _ => []
  | .yardCodeLoad _ y => [(.yardNumber, decide (y < 12))]
  | .nop e => [(.engineNumber, decide (e < 96))]
  | .exit _ e => [(.engineNumber, decide (e < 96))]
  | .rpt e _ => [(.engineNumber, decide (e < 96))]
  | .rptd e _ => [(.engineNumber, decide (e < 96))]
  | .br e _ _ => [(.engineNumber, decide (e < 96))]
  | .call e _ => [(.engineNumber, decide (e < 96))]
  | .ret e => [(.engineNumber, decide (e < 96))]
  | .dbnz e _ _ => [(.engineNumber, decide (e < 96))]
  | .add e _ _ _ => [(.engineNumber, decide (e < 96))]
  | .adds e _ _ _ => [(.engineNumber, decide (e < 96))]
  | .sub e _ _ _ => [(.engineNumber, decide (e < 96))]
  | .subs e _ _ _ => [(.engineNumber, decide (e < 96))]
  | .and e _ _ _ => [(.engineNumber, decide (e < 96))]
  | .or e _ _ _ => [(.engineNumber, decide (e < 96))]
  | .xor e _ _ _ => [(.engineNumber, decide (e < 96))]
  | .min e _ _ _ => [(.engineNumber, decide (e < 96))]
  | .max e _ _ _ => [(.engineNumber, decide (e < 96))]
  | .cmp e _ _ => [(.engineNumber, decide (e < 96))]
  | .mov e _ _ => [(.engineNumber, decide (e < 96))]
  | .abs e _ _ => [(.engineNumber, decide (e < 96))]
  | .neg e _ _ => [(.engineNumber, decide (e < 96))]
  | .ldi e _ _ => [(.engineNumber, decide (e < 96))]
  | .addi e _ _ => [(.engineNumber, decide (e < 96))]
  | .cmpi e _ _ => [(.engineNumber, decide (e < 96))]
  | .shl e _ _ _ => [(.engineNumber, decide (e < 96))]
  | .shr e _ _ _ => [(.engineNumber, decide (e < 96))]
  | .asr e _ _ _ => [(.engineNumber, decide (e < 96))]
  | .shls e _ _ _ => [(.engineNumber, decide (e < 96))]
  | .ld e _ _ _ _ _ => [(.engineNumber, decide (e < 96))]
  | .st e _ _ _ _ => [(.engineNumber, decide (e < 96))]
  | .lda e _ _ _ _ _ => [(.engineNumber, decide (e < 96))]
  | .sta e _ _ _ _ => [(.engineNumber, decide (e < 96))]
  | .mova e _ _ => [(.engineNumber, decide (e < 96))]
  | .adda e _ _ => [(.engineNumber, decide (e < 96))]
  | .movda e _ _ => [(.engineNumber, decide (e < 96))]
  | .movmo e _ _ => [(.engineNumber, decide (e < 96))]
  | .movmm e _ _ => [(.engineNumber, decide (e < 96))]
  | .movs e _ _ => [(.engineNumber, decide (e < 96))]
  | .movtf e _ => [(.engineNumber, decide (e < 96))]
  | .setq e _ => [(.engineNumber, decide (e < 96))]
  | .acld e _ _ _ => [(.engineNumber, decide (e < 96))]
  | .acsh e _ _ => [(.engineNumber, decide (e < 96))]
  | .acadd e _ => [(.engineNumber, decide (e < 96))]
  | .rnd e _ _ _ => [(.engineNumber, decide (e < 96))]
  | .acx e _ _ _ => [(.engineNumber, decide (e < 96))]
  | .rmsq e _ _ _ => [(.engineNumber, decide (e < 96))]
  | .log2 e _ _ => [(.engineNumber, decide (e < 96))]
  | .setch e _ => [(.engineNumber, decide (e < 96))]
  | .put e _ _ _ => [(.engineNumber, decide (e < 96))]
  | .trn e _ _ _ _ => [(.engineNumber, decide (e < 96))]
  | .palr e _ => [(.engineNumber, decide (e < 96))]
  | .fout e => [(.engineNumber, decide (e < 96))]
  | .ffts e _ _ _ _ => [(.engineNumber, decide (e < 96))]
  | .fftw e _ => [(.engineNumber, decide (e < 96))]
  | .fill e _ _ _ => [(.engineNumber, decide (e < 96))]
  | .spill e _ _ _ _ => [(.engineNumber, decide (e < 96))]
  | .dmaw e => [(.engineNumber, decide (e < 96))]
  | .movp e _ _ => [(.engineNumber, decide (e < 96))]
  | .clr e _ _ _ => [(.engineNumber, decide (e < 96))]
  | .mpy e _ _ _ _ _ => [(.engineNumber, decide (e < 96))]
  | .mac e _ _ _ _ _ => [(.engineNumber, decide (e < 96))]
  | .msu e _ _ _ _ _ => [(.engineNumber, decide (e < 96))]
  | .fftTransformStart y => [(.yardNumber, decide (y < 12))]
  | .fftTransformDone _ y => [(.yardNumber, decide (y < 12))]
  | .transferDone _ e => [(.engineNumber, decide (e < 96))]
  | .hostTrigger _ lines => [(.word, decide (lines < 2 ^ 32))]
  | .triggerProcess _ n => [(.lineNumber, decide (n < 16))]
  | .trigOutPulseEnd _ => []
  | .arm _ n => [(.lineNumber, decide (n < 16))]
  | .disarm _ n => [(.lineNumber, decide (n < 16))]
  | .bwShort _ => []
  | .rateLower _ => []
  | .evRecRdWrite _ n value => [(.lineNumber, decide (n < 16)), (.word, decide (value < 2 ^ 32))]
  | .bsDfifoRdWrite _ value => [(.word, decide (value < 2 ^ 32))]
  | .bsAlarmDataRead r => [(.byteEnables, decide (r.be < 16))]
  | .baselineComplete _ => []
  | .baselinePeriodic _ => []
  | .baselineSignature _ => []
  | .blockClose _ => []
  | .profileIssue _ => []
  | .brSynUnlock _ => []
  | .brSynLocked _ => []
  | .brSpecDataRead r => [(.byteEnables, decide (r.be < 16))]
  | .excitationPeriodEnd _ _ _ _ _ _ _ => []
  | .hkRegularTrigger _ x => [(.converterNumber, decide (x < 2))]
  | .hkInjectedTrigger _ x => [(.converterNumber, decide (x < 2))]
  | .hkConversionDone _ x code => [(.converterNumber, decide (x < 2)), (.adcCode, decide (code < 4096))]
  | .hkEntryPromoted _ x => [(.converterNumber, decide (x < 2))]
  | .hkDataRead r x => [(.converterNumber, decide (x < 2)), (.byteEnables, decide (r.be < 16))]
  | .hkCalibration _ x => [(.converterNumber, decide (x < 2))]
  | .hkCalibrationDone _ x _ _ => [(.converterNumber, decide (x < 2))]
  | .tecUpdate _ _ _ => []
  | .tecRestart _ => []
  | .moduleTempCheck _ _ => []
  | .calStart _ => []
  | .calPassDone _ _ => []
  | .calRecordWrite _ _ => []
  | .nvmSlotErase _ _ => []
  | .dramRequest _ port write _ n data _ _ => [(.dramPort, decide (port < 7)), (.burstLength, decide (0 < n ∧ (write = true → data.length = n)))]
  | .dramServe _ _ upsets => [(.bitNumber, upsets.all (fun u => decide (u.2 < 72)))]
  | .requestPromoted _ => []
  | .panicCap _ => []
  | .refreshDue _ bank mult => [(.bankNumber, decide (bank < 64)), (.refreshRate, decide (mult ≤ 2))]
  | .activationTableClear _ => []
  | .patrolRead _ upsets => [(.bitNumber, upsets.all (fun u => decide (u.2 < 72)))]
  | .sramPatrol _ _ flips _ _ => [(.bitNumber, flips.all (fun b => decide (b < 39)))]
  | .yardCodeReload _ y => [(.yardNumber, decide (y < 12))]
  | .eventLogWrite _ => []
  | .ecTestWriteCoded _ value => [(.word, decide (value < 2 ^ 32))]
  | .ecTestWriteData _ value => [(.word, decide (value < 2 ^ 32))]
  | .ecTestWriteCheck _ value => [(.word, decide (value < 2 ^ 32))]
  | .ecTestRead _ value => [(.word, decide (value < 2 ^ 32))]
  | .ecSuspectSelWrite _ value => [(.word, decide (value < 2 ^ 32))]
  | .framePlace _ => []
  | .framePost _ _ => []
  | .ringReturn _ _ => []
  | .bar2WriteRejected _ => []
  | .discardJoin _ => []
  | .discardLeave _ => []
  | .sealPost _ => []
  | .scanStart _ u => [(.unitNumber, decide (u < 4))]
  | .scanDone _ u => [(.unitNumber, decide (u < 4))]
  | .hwNbRdWrite _ value => [(.word, decide (value < 2 ^ 32))]
  | .irqPendClear _ value => [(.word, decide (value < 2 ^ 32))]
  | .frameVectorTimeout _ => []
  | .msixUnmask _ v => [(.vectorNumber, decide (v < 32))]
  | .functionReset _ => []
  | .linkDown _ => []
  | .linkUp _ speed _ => [(.linkGeneration, decide (1 ≤ speed ∧ speed ≤ 4))]
  | .refQualified _ => []
  | .refLost _ _ => []
  | .ppsEdge _ => []
  | .ppsLost _ => []
  | .secondBoundary _ => []
  | .ppsOutPulseEnd _ => []
  | .tbNowRead r => [(.byteEnables, decide (r.be < 16))]
  | .stampWord0Read r which => [(.stampChoice, decide (which < 3)), (.byteEnables, decide (r.be < 16))]
  | .epochWrite _ value => [(.word, decide (value < 2 ^ 32))]
  | .trigInEdge _ => []
  | .evtEdge _ n _ => [(.inputNumber, decide (n < 8))]
  | .evtTimeout _ n => [(.inputNumber, decide (n < 8))]
  | .evtQueueRead r n => [(.inputNumber, decide (n < 8)), (.byteEnables, decide (r.be < 16))]
  | .statGo _ n value => [(.inputNumber, decide (n < 8)), (.word, decide (value < 2 ^ 32))]
  | .statDone _ n => [(.inputNumber, decide (n < 8))]
  | .statResultRead r n => [(.inputNumber, decide (n < 8)), (.byteEnables, decide (r.be < 16))]
  | .flLinkUp _ port => [(.linkPort, decide (port < 2))]
  | .flLinkDown _ port => [(.linkPort, decide (port < 2))]
  | .arrayRetimed _ _ => []
  | .flotisPowerDown _ => []
  | .arrayNumbering _ id count _ => [(.moduleNumber, decide (id < count ∧ count ≤ 8))]
  | .timeExchange _ port _ _ _ _ _ lead _ => [(.linkPort, decide (port < 2)), (.timeState, decide (lead < 4))]
  | .alignFault _ => []
  | .crossTriggerReceive _ sender _ _ _ => [(.moduleNumber, decide (sender < 8))]
  | .switchMessageReceive _ _ kind _ _ _ _ _ => [(.messageKind, decide (kind < 3))]
  | .epochMessageReceive _ _ value _ => [(.word, decide (value < 2 ^ 32))]
  | .readyReport _ module => [(.moduleNumber, decide (module < 8))]
  | .supplyGood _ _ => []
  | .coldStart _ mode _ _ _ _ => [(.nvmMode, decide (mode < 3))]
  | .thermalWaitReading _ _ _ _ => []
  | .slotVerified _ _ _ _ _ => []
  | .dramTrained _ _ _ _ _ => []
  | .quickTestDone _ _ _ => []
  | .engineCodeLoaded _ _ => []
  | .laserWarm _ => []
  | .receiverCalDone _ _ => []
  | .commit _ _ _ _ _ _ _ _ _ => []
  | .startTimeout _ _ => []
  | .watchdogExpiry _ _ => []
  | .retryDelayEnd _ => []
  | .runSettled _ => []
  | .sbCmdIdle _ _ => []
  | .sbCmdRun _ _ => []
  | .sbCmdOff _ _ => []
  | .sbCmdRetry _ _ => []
  | .pmResetCold _ _ => []
  | .pmResetWarm _ _ => []
  | .shutdownDrainDone _ => []
  | .selfTestSliceDone _ lane _ => [(.testLane, decide (lane < 16))]
  | .selfTestSliceTimeout _ lane => [(.testLane, decide (lane < 16))]
  | .journalWritten _ _ => []
  | .powerFail _ => []
  | .powerRestored _ => []
  | .supplyFault _ rail => [(.railNumber, decide (rail < 10))]
  | .supplyRecovered _ => []
  | .supplyLoss _ => []
  | .thermalShutdown _ => []
  | .nvErase _ _ => []
  | .nvProgram _ _ => []
  | .nvVerify _ _ => []
  | .nvRead _ _ => []
  | .nvRaise _ _ => []
  | .nvDone _ _ _ => []
  | .lcTransitionFirst _ _ code => [(.word, decide (code < 2 ^ 32))]
  | .lcTransitionSecond _ _ code => [(.word, decide (code < 2 ^ 32))]
  | .progImageKey _ _ => []
  | .progVkHash _ _ => []
  | .genSeal _ _ => []
  | .progTamper _ _ => []
  | .tamper _ pin _ => [(.tamperPin, decide (pin < 2))]
  | .bypass _ => []
  | .idcode _ => []
  | .samplePreload _ => []
  | .extest _ => []
  | .clamp _ => []
  | .highz _ => []
  | .bscanExit _ => []
  | .intdbg _ => []
  | .btRun _ value _ => [(.word, decide (value < 2 ^ 32))]
  | .btRunDone _ _ _ => []
  | .btAccWriteCoded _ => []
  | .btAccWriteData _ => []
  | .btAccWriteCheck _ => []
  | .btAccRead _ => []
  | .faultLatchClear _ value => [(.word, decide (value < 2 ^ 32))]
  | .switchReadyReport _ module _ => [(.moduleNumber, decide (module < 8))]
  | .d3hot _ _ => []

/-- Every check of a command holds. -/
def Instr.wf (i : Instr) : Bool := i.checks.all (fun c => c.2)

/-- The first check that a command fails. -/
def Instr.reject (i : Instr) : Option IllFormed := (i.checks.find? (fun c => !c.2)).map (fun c => c.1)

/-- A command is well formed exactly when no check rejects it. -/
theorem Instr.wf_iff_reject (i : Instr) : i.wf = true ↔ i.reject = none := by
  simp [Instr.wf, Instr.reject, List.find?_eq_none]

end Sys2Proof
end

