-- ==== Sys2Proof/Certificates/Slice0/Obligations.lean ====
section
/-!
DEFINITION. Certificates/Slice0/Obligations.lean: the statements about the block that are to be proved. OBLIGATIONS.json says each in full; a
docstring names the rules and the log entries of the readings that the model chose.
-/
open Sys2Proof Sys2Proof.Machine

/-- A step runs the command at the front of the queue on the rest of it, and an empty queue idles (95_what_each_step_holds.md, INDEX.md). The model's choice, log entry 4. -/
def Obligations.StepRunsFront : Prop :=
  (∀ (c : Instr) (q : List Instr) (s : State), step { s with pending := c :: q } = exec c { s with pending := q }) ∧
  (∀ s : State, s.pending = [] → step s = .next s) ∧
  (∀ (c : Instr) (s : State), (∀ src t addr v be al, addr % 4 ≠ 0 → c ≠ .registerWrite src t addr v be al) →
    (∀ t addr v, addr % 4 ≠ 0 → c ≠ .satClear t addr v) → (∀ t addr n, addr % 4 ≠ 0 → c ≠ .mgmtRead t addr n) →
    (∀ t addr ws al, addr % 4 ≠ 0 → c ≠ .mgmtWrite t addr ws al) →
    (∀ t port w addr n data fill bin, s.dramBytes < addr + n → c ≠ .dramRequest t port w addr n data fill bin) → ∃ u, exec c s = .next u) ∧
  (∀ nbits w : Nat, decodeTableWord nbits w = none) ∧ (∀ (s : State) (nbits w : Nat), s.withFetchWord nbits w = s)

/-- An access to a block whose domain is off completes without effect and is recorded (R40). -/
def Obligations.OffDomainAccess : Prop := ∀ (s : State) (t addr : Nat), addr % 4 = 0 → s.blockOn (addr % 2 ^ 24) = false → addr % 2 ^ 24 / 65536 < 64 →
  (∃ u, exec (.mgmtRead t addr 1) s = .next u ∧ u.resp = [0] ∧
    (if addr % 2 ^ 24 / 65536 < 32 then (u.get F.PM_OFFACC_LO_BLOCK).testBit (addr % 2 ^ 24 / 65536) = true
      else (u.get F.PM_OFFACC_HI_BLOCK).testBit (addr % 2 ^ 24 / 65536 - 32) = true) ∧
    OnlyChanges [F.PM_OFFACC_LO_BLOCK, F.PM_OFFACC_HI_BLOCK] [.resp] s u) ∧
  (∀ v be src al, addr < 2 ^ 24 → ∃ u, exec (.registerWrite src t addr v be al) s = .next u ∧
    (if addr / 65536 < 32 then (u.get F.PM_OFFACC_LO_BLOCK).testBit (addr / 65536) = true
      else (u.get F.PM_OFFACC_HI_BLOCK).testBit (addr / 65536 - 32) = true) ∧
    OnlyChanges [F.PM_OFFACC_LO_BLOCK, F.PM_OFFACC_HI_BLOCK] [.resp] s u) ∧
  (∀ v, addr < 2 ^ 24 → ∃ u, exec (.satClear t addr v) s = .next u ∧
    OnlyChanges [F.PM_OFFACC_LO_BLOCK, F.PM_OFFACC_HI_BLOCK] [.resp] s u) ∧
  (∀ v al, ∃ u, exec (.mgmtWrite t addr [v] al) s = .next u ∧
    (if addr % 2 ^ 24 / 65536 < 32 then (u.get F.PM_OFFACC_LO_BLOCK).testBit (addr % 2 ^ 24 / 65536) = true
      else (u.get F.PM_OFFACC_HI_BLOCK).testBit (addr % 2 ^ 24 / 65536 - 32) = true) ∧
    OnlyChanges [F.PM_OFFACC_LO_BLOCK, F.PM_OFFACC_HI_BLOCK] [.resp] s u)

/-- Accesses to an unpowered block through commands of their own are answered alike (R40, R382). The model's choices: log entry 96. -/
def Obligations.OffDomainCommands : Prop := ∀ (s : State) (src : Source) (t v n : Nat) (al : Bool) (r : ReadAt),
  (s.domainOn 5 = false → ∀ i ∈ [Instr.dark t, .probe t, .resume t, .restore t, .rebase t, .kick t v, .fuseArm t, .fuseBlow t, .ttWaveDataRead r],
    ∃ u, exec i s = .next u ∧ u.resp = [0] ∧ OnlyChanges [F.PM_OFFACC_LO_BLOCK] [.resp] s u) ∧
  (s.domainOn 2 = false → ∀ i ∈ [Instr.tbNowRead r, .epochWrite t v, .stampWord0Read r n, .sbCmdIdle src t, .sbCmdRun src t, .sbCmdOff src t,
      .sbCmdRetry src t], ∃ u, exec i s = .next u ∧ u.resp = [0] ∧ OnlyChanges [F.PM_OFFACC_LO_BLOCK] [.resp] s u) ∧
  (s.domainOn 1 = false → ∀ i ∈ [Instr.nvErase src t, .nvProgram src t, .nvVerify src t, .nvRead src t, .nvRaise src t, .progImageKey src t,
      .progVkHash src t, .genSeal src t, .progTamper src t, .btRun t v al, .btAccRead t],
    ∃ u, exec i s = .next u ∧ u.resp = [0] ∧ OnlyChanges [F.PM_OFFACC_HI_BLOCK] [.resp] s u)

/-- A step that answers a next state leaves the block settled (R69, R70, R89, R91, R463). The model's choices: log entry 104. -/
def Obligations.StepsSettle : Prop := ∀ s u : State, s.Settled → step s = .next u → u.Settled

/-- The machine at reset is settled, dark, and lists no memory, command or condition (R69, R70, R382, R346). The model's choices: log entries 13, 16, 23, 67. -/
def Obligations.ResetIsSettled : Prop := State.reset.Settled ∧ State.reset.opticalState = 0 ∧ Memory.wf State.reset.mem = true ∧
  State.reset.mem = [] ∧ State.reset.pending = [] ∧ State.reset.poweredOnly [0] ∧ State.reset.get F.PM_FAULT_LATCH = 0 ∧
  State.reset.ev.conds = [] ∧ State.reset.ev.placed = false

/-- The commands that store keep memory in its canonical form (R292, R295, R299, R393, R394, R400). The model's choices: log entries 3, 106. -/
def Obligations.MemoryStaysCanonical : Prop := ∀ (s u : State) (src : Source) (t v fill : Nat) (ups : List (Nat × Nat)) (b al : Bool),
  Memory.wf s.mem = true →
  ∀ i ∈ [Instr.dramServe t fill ups, .ecTestWriteCoded t v, .ecTestWriteData t v, .ecTestWriteCheck t v, .nvErase src t, .nvProgram src t,
    .nvmSlotErase t b, .calRecordWrite t b, .btRun t v al], exec i s = .next u → Memory.wf u.mem = true

/-- Decoding the word of an engine instruction gives it back (R219, R220, R221). The model's choices: log entry 24. -/
def Obligations.EngineWordsRoundTrip : Prop :=
  (∀ op : EOp, decodeEngine (encodeEngine op) = some op) ∧ ∀ (w : Nat) (op : EOp), decodeEngine w = some op → encodeEngine op = w

/-- Sequence numbers compare by the half-range rule (R15). -/
def Obligations.HalfRangeRule : Prop := ∀ a b : Nat, a < 4294967296 → b < 4294967296 →
  (newer a b = true ↔ 1 ≤ (a + 4294967296 - b) % 4294967296 ∧ (a + 4294967296 - b) % 4294967296 ≤ 2147483647) ∧
  ((a + 4294967296 - b) % 4294967296 = 0 ↔ a = b) ∧ ((a + 4294967296 - b) % 4294967296 = 2147483648 → newer a b = false ∧ newer b a = false) ∧
  (newer a b = false → a ≠ b → 2147483648 ≤ (a + 4294967296 - b) % 4294967296)

/-- The commands of OP_CTRL set and clear the causes that R71 gives them (R70, R71, R84, R94). -/
def Obligations.OpticalCommandsAct : Prop := ∀ (s : State) (t : Nat), s.domainOn 5 = true →
  (∃ u, exec (.dark t) s = .next u ∧ u.get F.OP_STATE_HOST_DARK = 1 ∧ (s.opt.off = false → u.get F.OP_STATE_STATE = 1) ∧
    OnlyChanges [F.OP_STATE_HOST_DARK] [] s u) ∧
  (∃ u, exec (.probe t) s = .next u ∧ u.get F.OP_STATE_HOST_PROBE = 1 ∧
    (s.opt.off = false → s.darkCause = false → u.get F.OP_STATE_STATE = 2) ∧ OnlyChanges [F.OP_STATE_HOST_PROBE] [] s u) ∧
  (∃ u, exec (.resume t) s = .next u ∧ u.is F.OP_STATE_HOST_DARK = false ∧ u.is F.OP_STATE_OVERPOWER = false ∧
    u.is F.OP_STATE_LOOP_FAULT = false ∧ u.is F.OP_STATE_LAUNCH_OPEN = false ∧
    u.is F.OP_STATE_INTERLOCK = (s.is F.OP_STATE_INTERLOCK && !s.is F.OP_IL_LOOP_OK) ∧
    u.is F.OP_STATE_AMP_FAULT = (s.is F.OP_STATE_AMP_FAULT && !s.is F.OP_AMP_MON) ∧
    u.opt.owed = s.opt.owed ++ (if s.is F.OP_STATE_LOOP_FAULT then [.loop] else []) ++
      (if s.is F.OP_STATE_LAUNCH_OPEN then [.launchOpen] else []) ∧
    OnlyChanges [F.OP_STATE_HOST_DARK, F.OP_STATE_OVERPOWER, F.OP_STATE_LOOP_FAULT, F.OP_STATE_LAUNCH_OPEN, F.OP_STATE_INTERLOCK,
      F.OP_STATE_AMP_FAULT] [.opt] s u) ∧
  (∃ u, exec (.restore t) s = .next u ∧ u.is F.OP_STATE_HOST_PROBE = false ∧
    u.is F.OP_STATE_DEADMAN = (s.is F.OP_STATE_DEADMAN && !s.opt.kickSince) ∧ u.is F.OP_BREAK_POS_VALID = false ∧
    u.is F.OP_STATE_BREAK = (s.is F.OP_STATE_BREAK && !s.is F.OP_BREAK_POS_VALID) ∧
    OnlyChanges [F.OP_STATE_HOST_PROBE, F.OP_STATE_DEADMAN, F.OP_BREAK_POS_VALID, F.OP_STATE_BREAK] [.opt] s u) ∧
  (∃ u, exec (.rebase t) s = .next u ∧ u.opt.ends = [] ∧ u.opt.collecting = true ∧ OnlyChanges [] [.opt] s u)

/-- The pins, the laser and the dead-man timer set their causes, and the laser and the interlock end theirs (R68, R70, R78, R80, R89, R90). The model's choices: log entries 15, 16, 114, 115. -/
def Obligations.CausesFollowTheirSources : Prop := ∀ (s : State) (t : Nat),
  (s.domainOn 4 = true → s.is F.OP_LASER_LOCKED = true → ∃ u, exec (.laserUnlock t) s = .next u ∧ u.get F.OP_LASER_LOCKED = 0 ∧
    u.get F.OP_STATE_LASER = 1 ∧ (s.opt.off = false → u.get F.OP_STATE_STATE = 1) ∧ OnlyChanges [F.OP_LASER_LOCKED, F.OP_STATE_LASER] [] s u) ∧
  (s.domainOn 5 = true → ∃ u, exec (.interlockOpen t) s = .next u ∧ u.get F.OP_IL_PIN = 1 ∧ u.get F.OP_IL_LOOP_OK = 0 ∧
    u.is F.OP_STATE_INTERLOCK = true ∧ (s.opt.off = false → u.get F.OP_STATE_STATE = 1) ∧
    OnlyChanges [F.OP_IL_PIN, F.OP_IL_LOOP_OK, F.OP_STATE_INTERLOCK] [] s u) ∧
  (s.domainOn 5 = true → ∃ u, exec (.interlockOk t) s = .next u ∧ u.get F.OP_IL_PIN = 0 ∧ u.is F.OP_IL_LOOP_OK = true ∧
    u.is F.OP_STATE_INTERLOCK = (s.is F.OP_STATE_INTERLOCK && !s.is F.OP_IL_AUTO) ∧
    OnlyChanges [F.OP_IL_PIN, F.OP_IL_LOOP_OK, F.OP_STATE_INTERLOCK] [] s u) ∧
  (∃ u, exec (.ampMonRise t) s = .next u ∧ u.get F.OP_AMP_MON = 1 ∧ OnlyChanges [F.OP_AMP_MON] [] s u) ∧
  (s.is F.OP_AMP_USE = true → 2 ≤ s.opticalState → s.opt.ampSeen = true → ∃ u, exec (.ampFault t) s = .next u ∧
    u.get F.OP_AMP_MON = 0 ∧ u.is F.OP_STATE_AMP_FAULT = true ∧ u.get F.OP_STATE_STATE = 1 ∧
    OnlyChanges [F.OP_AMP_MON, F.OP_STATE_AMP_FAULT] [] s u) ∧
  (s.is F.OP_AMP_USE = true → 2 ≤ s.opticalState → s.opt.ampSeen = false → s.opt.ampSince + s.get F.OP_AMP_READY_TMO * ms ≤ t →
    ∃ u, exec (.ampNotReady t) s = .next u ∧ u.is F.OP_STATE_AMP_FAULT = true ∧ u.get F.OP_STATE_STATE = 1 ∧
    OnlyChanges [F.OP_STATE_AMP_FAULT] [] s u) ∧
  (∀ d, s.opt.dmDeadline = some d → s.opt.dmRunning = true → s.is F.OP_DM_CFG_EN = true → d ≤ t →
    ∃ u, exec (.deadmanExpired t) s = .next u ∧ u.get F.OP_DM_STATUS_EXPIRED = 1 ∧ u.get F.OP_STATE_DEADMAN = 1 ∧
    (s.opt.off = false → s.darkCause = false → u.get F.OP_STATE_STATE = 2) ∧
    OnlyChanges [F.OP_DM_STATUS_EXPIRED, F.OP_STATE_DEADMAN] [.opt] s u)

/-- The safe-optical fuse blows only through its sequence (R73, R77). The model's choices: log entry 101. -/
def Obligations.FuseNeedsItsSequence : Prop := ∀ (s : State) (t : Nat), s.domainOn 5 = true →
  (∃ u, exec (.fuseArm t) s = .next u ∧ u.opt.fuseOpen = some (max s.now t) ∧ OnlyChanges [] [.opt] s u) ∧
  (∀ t0, s.opt.fuseOpen = some t0 → max s.now t ≤ t0 + ms → (s.otp.life = 1 ∨ s.otp.life = 2) → s.opticalState ≤ 1 →
    (∀ tt, s.activeTimetable = some tt → tt.inlineAmp = false ∧ s.get F.TT_FIBRE_END_L_F ≤ 100000000) → s.is F.OP_AMP_USE = false →
    ∃ u, exec (.fuseBlow t) s = .next u ∧ u.otp = { s.otp with safeOpt := true } ∧ u.get F.OP_FUSE_STATUS_FUSED = 1 ∧
      u.get F.OP_FUSE_STATUS_RESULT = 1 ∧ u.get F.OP_CEIL_AVG_EFFECTIVE ≤ 350 ∧ u.get F.OP_CEIL_PULSE_EFFECTIVE ≤ 5000 ∧
      u.opt.fuseOpen = none) ∧
  ((s.opt.fuseOpen = none ∨ ∃ t0, s.opt.fuseOpen = some t0 ∧ t0 + ms < max s.now t) →
    ∃ u, exec (.fuseBlow t) s = .next u ∧ u.get F.OP_FUSE_STATUS_RESULT = 5 ∧ OnlyChanges [F.OP_FUSE_STATUS_RESULT] [.opt] s u) ∧
  (∀ v t0, v ≠ 0x5AFE → v ≠ 0xF05E → s.opt.fuseOpen = some t0 →
    ∃ u, exec (.fuseOtherValue t v) s = .next u ∧ u.opt.fuseOpen = none ∧ u.get F.OP_FUSE_STATUS_RESULT = 5 ∧
      OnlyChanges [F.OP_FUSE_STATUS_RESULT] [.opt] s u)

/-- Kicks and settings of the dead-man timer (R79, R81). The model's choices: log entry 113. -/
def Obligations.DeadmanTimerAct : Prop := ∀ (s : State) (t : Nat), s.domainOn 5 = true → s.opt.dmRunning = true →
  (∀ v, (v = 0xA5 ∨ v = 0x5A) → s.opt.lastKick ≠ some v → ∃ u, exec (.kick t v) s = .next u ∧ u.opt.lastKick = some v ∧
    u.opt.kickSince = true ∧ u.get F.OP_DM_STATUS_EXPIRED = 0 ∧
    u.opt.dmDeadline = some (max s.now t + s.get F.OP_DM_CFG_TIMEOUT * ms) ∧ OnlyChanges [F.OP_DM_STATUS_EXPIRED] [.opt] s u) ∧
  (∀ v, ¬ ((v = 0xA5 ∨ v = 0x5A) ∧ s.opt.lastKick ≠ some v) → ∃ u, exec (.kick t v) s = .next u ∧ u.get F.OP_DM_STATUS_BADKICK = 1 ∧
    u.get F.OP_BADKICKS_COUNT = min (s.get F.OP_BADKICKS_COUNT + 1) (2 ^ F.OP_BADKICKS_COUNT.width - 1) ∧
    OnlyChanges [F.OP_DM_STATUS_BADKICK, F.OP_BADKICKS_COUNT, F.OP_CNT_SAT_KICK_SAT] [] s u) ∧
  (∀ src v, ∃ u, exec (.dmCfgWrite src t v) s = .next u ∧
    u.get F.OP_DM_CFG_TIMEOUT =
      max 10 (if s.is F.OP_DM_CFG_LOCKED then min (v % 2 ^ 20) s.opt.dmLimit else v % 2 ^ 20) % 2 ^ F.OP_DM_CFG_TIMEOUT.width ∧
    u.get F.OP_DM_CFG_EN = (if s.is F.OP_DM_CFG_LOCKED ∧ v / 2 ^ 31 % 2 = 0 then s.get F.OP_DM_CFG_EN else v / 2 ^ 31 % 2) ∧
    u.opt.dmDeadline = some (max s.now t + u.get F.OP_DM_CFG_TIMEOUT * ms) ∧
    OnlyChanges [F.OP_DM_CFG_TIMEOUT, F.OP_DM_CFG_EN] [.opt] s u)

/-- A diagnostic pulse and a re-test pulse are measured and judged (R72, R76, R82, R83). The model's choices: log entries 5, 7, 17, 97, 101. -/
def Obligations.PulsesAreJudged : Prop := ∀ (s : State) (t tx se : Nat), s.opt.off = false →
  ((s.advance t).diagAllowed = true → ∃ u, exec (.diagnosticPulse t tx se) s = .next u ∧
    u.get F.OP_MON_LAST_TX_ENERGY = min tx (2 ^ F.OP_MON_LAST_TX_ENERGY.width - 1) ∧
    u.get F.OP_MON_LAST_SENSE_ENERGY = min se (2 ^ F.OP_MON_LAST_SENSE_ENERGY.width - 1) ∧
    u.opt.diagSweep = some s.sched.sweeps ∧ u.is F.OP_DIAG_MISS_TX = decide (tx < 50) ∧ u.is F.OP_DIAG_MISS_SENSE = decide (se < 50) ∧
    (50 ≤ tx → 50 ≤ se → u.get F.OP_DIAG_MISSED = 0) ∧ u.otp = s.otp ∧ u.mem = s.mem ∧ u.sw = s.sw) ∧
  ((s.advance t).diagAllowed = false → ∃ u, exec (.diagnosticPulse t tx se) s = .next u ∧ OnlyChanges [] [] s u) ∧
  (∀ k rest, s.opt.owed = k :: rest → (s.advance t).retestAllowed = true → ∃ u, exec (.retestPulse t tx se) s = .next u ∧
    u.get F.OP_MON_LAST_TX_ENERGY = min tx (2 ^ F.OP_MON_LAST_TX_ENERGY.width - 1) ∧
    u.get F.OP_MON_LAST_SENSE_ENERGY = min se (2 ^ F.OP_MON_LAST_SENSE_ENERGY.width - 1) ∧
    u.opt.owed = rest ∧ u.opt.diagSweep = some s.sched.sweeps ∧ u.is F.OP_DIAG_MISS_TX = decide (tx < 50) ∧
    u.is F.OP_DIAG_MISS_SENSE = decide (se < 50) ∧ (50 ≤ tx → 50 ≤ se → u.get F.OP_DIAG_MISSED = 0) ∧
    u.otp = s.otp ∧ u.mem = s.mem ∧ u.sw = s.sw)

/-- A launch instant advances the sequence numbers, and a launch that is made is stamped and measured (R51, R53, R55, R69, R72, R365). The model's choices: log entries 17, 18, 21, 116. -/
def Obligations.LaunchInstants : Prop := ∀ (s : State) (t tx se : Nat), s.opt.off = false →
  (∀ g ret, g < 16 → (s.advance t).groupDue g = true → (s.advance t).heldBack = false → s.permitted g = true → s.sched.withheld.contains g = false →
    ∃ w : State, exec (.groupLaunch t g tx se ret) s = .next ((w.frontLaunch g ret).answer s.pending) ∧
      (∀ k, k < 16 → s.inGroup g k = true → w.get (F.TT_PULSE_SEQ_SEQ k) = (s.get (F.TT_PULSE_SEQ_SEQ k) + 1) % 2 ^ 32) ∧
      w.sched.launchStamp = stampOf (s.count (max s.now t)) ∧ kvGet (0, 0) w.sched.energy g = (tx, se) ∧
      w.get F.OP_MON_LAST_TX_ENERGY = min tx (2 ^ F.OP_MON_LAST_TX_ENERGY.width - 1) ∧
      w.get F.OP_MON_LAST_SENSE_ENERGY = min se (2 ^ F.OP_MON_LAST_SENSE_ENERGY.width - 1)) ∧
  (∀ g ret, g < 16 → (s.advance t).groupDue g = true → s.opticalState = 1 →
    ∃ u, exec (.groupLaunch t g tx se ret) s = .next u ∧ u.sched.taken = g :: s.sched.taken ∧
      (∀ k, k < 16 → s.inGroup g k = true → u.get (F.TT_PULSE_SEQ_SEQ k) = (s.get (F.TT_PULSE_SEQ_SEQ k) + 1) % 2 ^ 32) ∧
      u.sched.launchStamp = stampOf (s.count (max s.now t)) ∧ OnlyChanges ((List.range 16).map F.TT_PULSE_SEQ_SEQ) [.sched] s u) ∧
  (∀ g ret, (s.advance t).groupDue g = false → ∃ u, exec (.groupLaunch t g tx se ret) s = .next u ∧ OnlyChanges [] [] s u) ∧
  (∀ g ret, g < 16 → (s.advance t).groupDue g = true → (s.advance t).heldBack = false → s.permitted g = true → s.sched.withheld.contains g = true →
    ∃ u, exec (.groupLaunch t g tx se ret) s = .next u ∧
      u.get F.TT_WITHHELD_COUNT = min (s.get F.TT_WITHHELD_COUNT + 1) (2 ^ F.TT_WITHHELD_COUNT.width - 1)) ∧
  (∀ k samples, s.brilSlot = some k → (s.advance t).brilDue = true → s.brilSweep = false → s.br.basing = none →
    max s.now t < s.br.tB + (s.br.k + 1) * s.brUpd →
    ∃ u, exec (.brillouinLaunch t tx se samples) s = .next u ∧
      u.get (F.TT_PULSE_SEQ_SEQ k) = (s.get (F.TT_PULSE_SEQ_SEQ k) + 1) % 2 ^ 32 ∧ u.sched.taken = 16 :: s.sched.taken ∧
      OnlyChanges [F.TT_PULSE_SEQ_SEQ k] [.sched] s u) ∧
  (s.domainOn 2 = true → (s.advance t).trigAllowed = true →
    ∃ u, exec (.triggeredLaunch t tx se) s = .next u ∧ u.sched.trigStamp = stampOf (s.count (max s.now t)) ∧
      u.sched.trigCount = s.sched.trigCount + 1 ∧ u.sched.trigWindows = (s.advance t).trigWindow :: s.sched.trigWindows ∧
      u.get F.TB_TL_COUNT_COUNT = min (s.get F.TB_TL_COUNT_COUNT + 1) (2 ^ F.TB_TL_COUNT_COUNT.width - 1) ∧
      u.get F.OP_MON_LAST_TX_ENERGY = min tx (2 ^ F.OP_MON_LAST_TX_ENERGY.width - 1)) ∧
  (s.domainOn 2 = true → (s.advance t).trigAllowed = false → ∃ u, exec (.triggeredLaunch t tx se) s = .next u ∧
      u.get F.TB_TL_REFUSED_COUNT = min (s.get F.TB_TL_REFUSED_COUNT + 1) (2 ^ F.TB_TL_REFUSED_COUNT.width - 1) ∧
      OnlyChanges [F.TB_TL_REFUSED_COUNT, F.TB_CNT_SAT_REF_SAT] [] s u)

/-- Sweep boundaries, tail light and the switch of timetables step by step (R35, R45, R47, R58, R59, R61, R65). The model's choices: log entries 17, 114, 116. -/
def Obligations.SweepsAndSwitchSteps : Prop := ∀ (s : State) (t : Nat),
  (∀ lanes, s.opt.off = false → (s.advance t).originAhead = false → (s.advance t).boundaryDue = true → ∃ u, exec (.sweepBoundary t lanes) s = .next u ∧
    u.sched.sweeps = s.sched.sweeps + 1 ∧ u.sched.sweepStart = max s.now t ∧
    u.get F.TT_SWEEP_COUNT_COUNT = (s.get F.TT_SWEEP_COUNT_COUNT + 1) % 2 ^ 32) ∧
  (∀ slot level, s.opt.off = false → 100 ≤ level → kvGet (0, 0) s.sched.tailRun slot = (s.sched.sweeps - 1, 1) → 0 < s.sched.sweeps →
    ∃ u, exec (.receiveGuardEnd t slot level) s = .next u ∧ u.get F.TT_STATUS_TAIL_LIGHT = 1 ∧
    OnlyChanges [F.TT_STATUS_TAIL_LIGHT] [.sched] s u) ∧
  (∀ src v, s.domainOn 2 = true → s.is F.SB_STATUS_COMMITTED = true → s.is F.PM_STATE_SHUTTING = false → s.opt.off = false →
    s.get F.FL_STATUS_ID = 0 → v.testBit 31 = true → s.sw.lead = none → v % 4 ≠ s.activeIndex →
    ∃ u, exec (.ttSwitchRequest src t v) s = .next u ∧ u.get F.SB_TT_STATUS_STATE = 1 ∧ u.get F.SB_TT_STATUS_PENDING_INDEX = v % 4 ∧
    u.sw.lead = some ⟨v % 4, v / 256 % 4, s.get F.SB_TT_AT_HI_SEC_HI * 4294967296 + s.get F.SB_TT_AT_LO_SEC_LO, none⟩ ∧
    u.sw.phase = 1 ∧ OnlyChanges [F.SB_TT_STATUS_STATE, F.SB_TT_STATUS_PENDING_INDEX, F.SB_TT_REQUEST_MODE, F.SB_TT_REQUEST_INDEX] [.sw, .fl] s u) ∧
  (∀ src v, s.domainOn 2 = true → s.is F.SB_STATUS_COMMITTED = true → s.is F.PM_STATE_SHUTTING = false → s.opt.off = false →
    s.get F.FL_STATUS_ID ≠ 0 → v.testBit 31 = true → ∃ u, exec (.ttSwitchRequest src t v) s = .next u ∧ u.get F.SB_TT_STATUS_STATE = 5 ∧
    u.get F.SB_TT_STATUS_REJ_CAUSE = 4 ∧ OnlyChanges [F.SB_TT_STATUS_STATE, F.SB_TT_STATUS_REJ_CAUSE] [] s u) ∧
  (∀ r, s.sw.lead = some r → s.sw.phase = 1 → s.sw.queued = none → s.sw.timetables.find? (fun tt => tt.index == r.index) = none →
    ∃ u, exec (.ttSwitchCheck t) s = .next u ∧ u.get F.SB_TT_STATUS_STATE = 5 ∧ u.get F.SB_TT_STATUS_REJ_CAUSE = 1 ∧ u.sw.lead = none ∧
    OnlyChanges [F.SB_TT_STATUS_STATE, F.SB_TT_STATUS_REJ_CAUSE, F.SB_TT_STATUS_REJ_MODULE] [.sw, .fl] s u) ∧
  (∀ r tt, s.sw.lead = some r → s.sw.phase = 1 → s.sw.queued = none → r.mode < 2 → s.sw.timetables.find? (fun tt => tt.index == r.index) = some tt →
    s.sw.selectable.contains r.index = false ∨ (r.otherGrid tt = false ∧ ((s.advance t).assignYards tt).isSome = false) →
    ∃ u, exec (.ttSwitchCheck t) s = .next u ∧ u.get F.SB_TT_STATUS_STATE = 5 ∧ u.get F.SB_TT_STATUS_REJ_CAUSE = 2 ∧ u.sw.lead = none) ∧
  (∀ r tt, s.sw.lead = some r → s.sw.phase = 1 → s.sw.queued = none → r.mode < 2 → s.sw.timetables.find? (fun tt => tt.index == r.index) = some tt →
    s.sw.selectable.contains r.index = true → r.otherGrid tt = true →
    ∃ u, exec (.ttSwitchCheck t) s = .next u ∧ u.get F.SB_TT_STATUS_STATE = 5 ∧ u.get F.SB_TT_STATUS_REJ_CAUSE = 3 ∧ u.sw.lead = none) ∧
  (∀ r tt, s.sw.lead = some r → s.sw.phase = 1 → r.mode < 2 → s.sw.timetables.find? (fun tt => tt.index == r.index) = some tt →
    s.sw.selectable.contains r.index = true → r.otherGrid tt = false → ((s.advance t).assignYards tt).isSome = true →
    ∃ u, exec (.ttSwitchCheck t) s = .next u ∧ u.get F.SB_TT_STATUS_STATE = 2 ∧ u.sw = { s.sw with phase := 2 }) ∧
  (∀ r, s.sw.lead = some r → s.sw.phase = 2 → ∃ u, exec (.ttShadowReady t) s = .next u ∧
    u.get F.SB_TT_STATUS_STATE = 3 ∧ u.sw.phase = 3 ∧ u.sw.readyAt = max s.now t ∧ u.sw.lead = some r ∧
    OnlyChanges [F.SB_TT_STATUS_STATE, F.SB_TT_STATUS_LATE] [.sw, .sched, .fl] s u) ∧
  (∀ new old, s.sw.done = some (new, old) → s.sw.lead = none → ∃ u, exec (.ttSwitchDone t) s = .next u ∧ u.sw.done = none ∧
    u.get F.SB_TT_STATUS_STATE = 4 ∧ u.get F.SB_TT_STATUS_ACTIVE = new % 2 ^ F.SB_TT_STATUS_ACTIVE.width ∧
    u.get F.TT_ID_ACTIVE = new % 2 ^ F.TT_ID_ACTIVE.width ∧
    OnlyChanges [F.SB_TT_STATUS_STATE, F.SB_TT_STATUS_ACTIVE, F.TT_ID_ACTIVE] [.sw] s u) ∧
  (∀ r : ReadAt, s.domainOn 5 = true → ∃ u, exec (.ttWaveDataRead r) s = .next u ∧ u.resp = [pickBytes r.be s.waveWord] ∧
    u.get F.TT_WAVE_SEL_ADDR = (s.get F.TT_WAVE_SEL_ADDR + 1) % 2 ^ F.TT_WAVE_SEL_ADDR.width ∧ OnlyChanges [F.TT_WAVE_SEL_ADDR] [.resp] s u)

/-- The epoch makes the requested timetable active (R34, R59, R61). The model's choices: log entries 102, 103, 109. -/
def Obligations.EpochSwitches : Prop := ∀ (s : State) (t : Nat) (lanes : List LaneMeasure) (r : SwitchReq) (tt : Timetable),
  s.opt.off = false → s.sw.lead = some r → s.sw.timetables.find? (fun tt => tt.index == r.index) = some tt → (s.advance t).epochDue r = true →
  ∃ u, exec (.epoch t lanes) s = .next u ∧ u.sw.done = some (tt.index, s.activeIndex) ∧ u.sw.lead = s.sw.queued ∧ u.sw.queued = none ∧ u.sw.phase = (if s.sw.queued.isSome then 1 else 0) ∧
    u.sw.epochs = s.sw.epochs + 1 ∧ u.sw.epochAt = max s.now t ∧ u.sched.sweeps = s.sched.sweeps + 1 ∧ u.sched.sweepStart = max s.now t ∧
    u.sched.brilCount = 1

/-- The sample clock, the slice rotation and the slices' corrections (R98, R99, R105, R107, R111). The model's choices: log entries 11, 117, 118. -/
def Obligations.SamplingCommands : Prop := ∀ (s : State) (t : Nat),
  (∀ ferr : Int, s.domainOn 2 = true → s.clkRef ≠ 0 → s.get F.SL_STATUS_CLK_STATE ≠ 1 → -(2 ^ (F.SL_CLK_FERR_FERR.width - 1)) ≤ ferr →
    ferr < 2 ^ (F.SL_CLK_FERR_FERR.width - 1) → ∃ u, exec (.clkLocked t ferr) s = .next u ∧ u.get F.SL_STATUS_CLK_STATE = 1 ∧
    u.get F.SL_STATUS_REF_SRC = s.clkRef ∧ u.getS F.SL_CLK_FERR_FERR = ferr ∧
    OnlyChanges [F.SL_STATUS_CLK_STATE, F.SL_STATUS_REF_SRC, F.SL_CLK_FERR_FERR] [] s u) ∧
  (s.domainOn 2 = true → s.get F.SL_STATUS_CLK_STATE = 1 → ∃ u, exec (.unlockSeen t) s = .next u ∧ u.get F.SL_STATUS_UNLOCK_SEEN = 1 ∧
    u.get F.SL_STATUS_REF_SRC = s.clkRef ∧ u.get F.SL_STATUS_CLK_STATE = 2 ∧
    OnlyChanges [F.SL_STATUS_UNLOCK_SEEN, F.SL_STATUS_REF_SRC, F.SL_STATUS_CLK_STATE, F.SL_CLK_FERR_FERR] [.freeCtr] s u) ∧
  (∃ u, exec (.sliceRotation t) s = .next u ∧ (∀ n, n < 6 → (u.lane n).offline =
      (if s.background n ∧ s.laneState n ≠ 3 then (s.lane n).offline.map (fun k => (k + 1) % 65) else (s.lane n).offline)) ∧
    OnlyChanges [] [.lanes] s u) ∧
  (∀ n k (ofs gain time : Int), n < 6 → s.measures n k true = true →
    (s.is F.SL_CTRL_BG_FREEZE = false → ofs.natAbs ≤ 4096 → gain.natAbs ≤ 30000 → ∃ u, exec (.sliceCalibration t n k true true ofs gain time) s = .next u ∧
      (u.lane n).slice k = { (s.lane n).slice k with ofs := ofs, gain := gain, fails := 0, done := true } ∧
      OnlyChanges [F.SL_LANE_LIMITS_HITS n, F.SL_LANE_STATUS_LIM_SAT n, F.SL_LANE_STATUS_STATE n, F.SL_STATUS_LANE_OK] [.lanes] s u) ∧
    (((s.lane n).slice k).fails = 2 → ∃ u, exec (.sliceCalibration t n k true false ofs gain time) s = .next u ∧
      ((u.lane n).slice k).retired = true ∧ (u.lane n).offline = none ∧ u.get (F.SL_LANE_STATUS_STATE n) = 3 ∧ u.get (F.SL_LANE_STATUS_RETIRED n) = k)) ∧
  (∀ n k (ofs gain time : Int), n < 6 → s.measures n k false = true → s.is F.SL_CTRL_BG_FREEZE = false →
    (time.natAbs ≤ 400 → ∃ u, exec (.sliceCalibration t n k false true ofs gain time) s = .next u ∧
      (u.lane n).slice k = { (s.lane n).slice k with time := time } ∧
      OnlyChanges [F.SL_LANE_LIMITS_HITS n, F.SL_LANE_STATUS_LIM_SAT n, F.SL_LANE_STATUS_STATE n, F.SL_STATUS_LANE_OK] [.lanes] s u) ∧
    (s.laneState n = 3 → 400 < time.natAbs → ∃ u, exec (.sliceCalibration t n k false true ofs gain time) s = .next u ∧
      u.get (F.SL_LANE_STATUS_STATE n) = 4)) ∧
  (∀ v, s.domainOn 6 = true → ∃ u, exec (.slSliceSelWrite t v) s = .next u ∧ u.get F.SL_SLICE_SEL_LANE = v / 65536 % 8 ∧
    u.get F.SL_SLICE_SEL_SLICE = v % 128 ∧
    (v / 65536 % 8 ≤ 5 → v % 128 ≤ 64 → s.laneState (v / 65536 % 8) ≠ 0 →
      ∀ c, c = (s.lane (v / 65536 % 8)).slice (v % 128) → u.is F.SL_SLICE_OFS_RETIRED = c.retired ∧
      u.is F.SL_SLICE_OFS_OFFLINE = ((s.lane (v / 65536 % 8)).offline == some (v % 128)) ∧
      (c.ofs.natAbs ≤ 4096 → u.getS F.SL_SLICE_OFS_OFS = c.ofs) ∧ (c.gain.natAbs ≤ 30000 → u.getS F.SL_SLICE_GAIN_GAIN = c.gain) ∧
      (c.time.natAbs ≤ 400 → u.getS F.SL_SLICE_TIME_TIME = c.time)) ∧
    OnlyChanges [F.SL_SLICE_SEL_LANE, F.SL_SLICE_SEL_SLICE, F.SL_SLICE_OFS_RETIRED, F.SL_SLICE_OFS_OFFLINE, F.SL_SLICE_OFS_OFS,
      F.SL_SLICE_GAIN_GAIN, F.SL_SLICE_TIME_TIME] [] s u)

/-- The reference interferometer, segments and profile readback (R121, R133, R134, R136, R140, R183). The model's choices: log entries 119, 122. -/
def Obligations.PipelineReadback : Prop := ∀ (s : State) (t : Nat),
  (∀ mean : Int, s.domainOn 8 = true → s.is F.FP_STATUS_RI_OK = true → ∃ u, exec (.riLost t mean) s = .next u ∧ u.is F.FP_STATUS_RI_OK = false ∧
    u.fp = { s.fp with riMean := mean } ∧ OnlyChanges [F.FP_STATUS_RI_OK] [.fp] s u) ∧
  (s.domainOn 8 = true → ∃ u, exec (.riOk t) s = .next u ∧ u.is F.FP_STATUS_RI_OK = true ∧ OnlyChanges [F.FP_STATUS_RI_OK] [] s u) ∧
  (∀ g sect i full x ep rest, takeSegment g s.fp.queue = some ((x, ep), rest) →
    (x.section_ = sect → x.first = 1024 * i → ∃ u, exec (.segmentEmit t g sect i full) s = .next u ∧ u.fab.store.getLast? = some (x, ep) ∧
      u.fp = { s.fp with queue := rest, chans := s.fp.chans + x.codes.length, segs := s.fp.segs + 1 } ∧ u.otp = s.otp ∧
      u.sw = s.sw ∧ u.opt.off = s.opt.off) ∧
    (x.section_ ≠ sect ∨ x.first ≠ 1024 * i → ∃ u, exec (.segmentEmit t g sect i full) s = .next u ∧ OnlyChanges [] [] s u)) ∧
  (∀ v, s.domainOn 8 = true → ∃ u, exec (.profileFreeze t v) s = .next u ∧ u.get F.FP_PROF_SEL_GROUP = v / 2 ^ 28 % 16 ∧
    u.get F.FP_PROF_SEL_FREEZE = v / 2 ^ 27 % 2 ∧ u.get F.FP_PROF_SEL_BIN = v % 2 ^ F.FP_PROF_SEL_BIN.width ∧
    (v / 2 ^ 27 % 2 = 0 ∨ s.is F.FP_PROF_SEL_FREEZE = false ∨ v / 2 ^ 28 % 16 ≠ s.get F.FP_PROF_SEL_GROUP → u.get F.FP_PROF_SEL_FROZEN = 0 ∧
      u.get F.FP_PROF_TAG_SEQ = 0 ∧ u.get F.FP_PROF_SWEEP_COUNT = 0) ∧
    OnlyChanges [F.FP_PROF_SEL_GROUP, F.FP_PROF_SEL_FREEZE, F.FP_PROF_SEL_BIN, F.FP_PROF_SEL_FROZEN, F.FP_PROF_TAG_SEQ, F.FP_PROF_SWEEP_COUNT]
      [.fp] s u) ∧
  (∀ seq sweep, s.is F.FP_PROF_SEL_FREEZE = true → s.is F.FP_PROF_SEL_FROZEN = false → s.fp.copyOf = some (seq, sweep) →
    ∃ u, exec (.profileFrozen t) s = .next u ∧ u.is F.FP_PROF_SEL_FROZEN = true ∧
    u.get F.FP_PROF_TAG_SEQ = seq % 2 ^ F.FP_PROF_TAG_SEQ.width ∧ u.get F.FP_PROF_SWEEP_COUNT = sweep % 2 ^ F.FP_PROF_SWEEP_COUNT.width ∧
    u.fp = { s.fp with copy := [], copyLen := s.fp.copy.length } ∧
    OnlyChanges ([F.FP_PROF_SEL_FROZEN, F.FP_PROF_TAG_SEQ, F.FP_PROF_SWEEP_COUNT] ++ dramFields) [.fp, .mem, .dram, .freeCtr] s u) ∧
  (∀ r : ReadAt, s.domainOn 8 = true → ∃ u, exec (.fpProfDataRead r) s = .next u ∧ u.resp = [pickBytes r.be (s.advance r.at_).profWord.1] ∧
    u.get F.FP_PROF_SEL_BIN = (s.get F.FP_PROF_SEL_BIN + 1) % 2 ^ F.FP_PROF_SEL_BIN.width ∧
    OnlyChanges (F.FP_PROF_SEL_BIN :: dramFields) [.resp, .freeCtr, .mem, .dram] s u ∧
    (s.is F.FP_PROF_SEL_FREEZE = false → OnlyChanges [F.FP_PROF_SEL_BIN] [.resp, .freeCtr] s u) ∧
    (s.is F.FP_PROF_SEL_FREEZE = true → s.is F.FP_PROF_SEL_FROZEN = false → u.resp = [0] ∧ OnlyChanges [F.FP_PROF_SEL_BIN] [.resp] s u))

/-- A break is confirmed by the second short sweep (R84, R85, R87, R88). The model's choices: log entry 114. -/
def Obligations.BreaksAreConfirmed : Prop := ∀ (s : State) (t : Nat) (p : GroupPipe) (e : Nat), p = s.grp (s.get F.TT_SCHED_PROBE_GROUP) →
  e = endBin (p.noise * 65536) p.profile →
  (p.launched = true → s.opt.examined ≠ some p.at_ → 2 ≤ s.opticalState → (s.is F.FP_STATUS_POL_X = true ∨ s.is F.FP_STATUS_POL_Y = true) → s.opt.refValid = true → s.opt.collecting = false →
    (s.is F.OP_BREAK_POS_VALID = false → 1 ≤ s.opt.breakRun → binPos e + 1000 * s.get F.OP_APR_MARGIN < 10 * s.get F.OP_REF_END_POS →
      ∃ u, exec (.breakDetection t) s = .next u ∧ u.is F.OP_BREAK_POS_VALID = true ∧
      u.get F.OP_BREAK_POS_POS = min (locate p.profile e).1 (2 ^ F.OP_BREAK_POS_POS.width - 1) ∧
      u.is F.OP_BREAK_POS_FRESNEL = (locate p.profile e).2 ∧
      u.get F.OP_BREAKS_COUNT = min (s.get F.OP_BREAKS_COUNT + 1) (2 ^ F.OP_BREAKS_COUNT.width - 1) ∧
      (s.is F.OP_APR_EN = true → u.is F.OP_STATE_BREAK = true) ∧
      OnlyChanges [F.OP_BREAK_POS_VALID, F.OP_BREAK_POS_POS, F.OP_BREAK_POS_FRESNEL, F.OP_BREAKS_COUNT, F.OP_CNT_SAT_BREAK_SAT, F.OP_STATE_BREAK]
        [.opt] s u) ∧
    (s.is F.OP_BREAK_POS_VALID = true → binPos e + 1000 * s.get F.OP_APR_MARGIN < 10 * s.get F.OP_REF_END_POS →
      0 < s.get F.TT_PROBE_RESTORE_SWEEPS → ∃ u, exec (.breakDetection t) s = .next u ∧ u.opt.cleanRun = 0 ∧ OnlyChanges [] [.opt] s u) ∧
    (s.is F.OP_BREAK_POS_VALID = true → 10 * s.get F.OP_REF_END_POS ≤ binPos e + 1000 * s.get F.OP_APR_MARGIN →
      s.get F.TT_PROBE_RESTORE_SWEEPS ≠ 0 → s.get F.TT_PROBE_RESTORE_SWEEPS ≤ s.opt.cleanRun + 1 →
      ∃ u, exec (.breakDetection t) s = .next u ∧ u.is F.OP_BREAK_POS_VALID = false ∧ u.is F.OP_STATE_BREAK = false)) ∧
  (s.opticalState < 2 ∨ (s.is F.FP_STATUS_POL_X = false ∧ s.is F.FP_STATUS_POL_Y = false) ∨ p.launched = false ∨ s.opt.examined = some p.at_ →
    ∃ u, exec (.breakDetection t) s = .next u ∧ OnlyChanges [] [] s u)

/-- The laser regains its lock (R68, R280, R384). -/
def Obligations.LaserRegainsLock : Prop := ∀ (s : State) (t : Nat), s.domainOn 4 = true → s.is F.OP_LASER_LOCKED = false →
  ∃ u, exec (.laserLocked t) s = .next u ∧ u.is F.OP_LASER_LOCKED = true ∧ u.is F.OP_STATE_LASER = false ∧ u.is F.HK_TEC_STAT_FAULT = false ∧
    (s.starting = false → OnlyChanges [F.OP_LASER_LOCKED, F.OP_STATE_LASER, F.HK_TEC_STAT_FAULT] [.pw] s u)

/-- Segments become jobs, shares and results (R176, R177, R178, R179, R181, R184, R193, R298). The model's choices: log entries 28, 32, 109. -/
def Obligations.FabricMovesJobs : Prop := ∀ (s : State) (t : Nat),
  (∀ x ep rest, s.fab.store = (x, ep) :: rest → s.fab.jobs.length < 512 →
    (∃ u j, exec (.dispatch t false) s = .next u ∧ u.fab.store = rest ∧ u.fab.jobs = s.fab.jobs ++ [j] ∧ j.seg = x ∧ j.epoch = ep ∧ j.taken = 0 ∧
      j.ended = 0 ∧ j.queued = max s.now t ∧ j.yard = s.homeYard x ep ∧ j.levels = s.levelsFor x.section_ ep ∧
      j.tag < 512 ∧ (∀ i, i ∈ s.fab.jobs → i.tag ≠ j.tag) ∧ u.mem = s.mem ∧ u.otp = s.otp) ∧
    (∃ u, exec (.dispatch t true) s = .next u ∧ u.fab.store = rest ∧ u.fab.jobs = s.fab.jobs ∧
      u.get F.EC_UE_COUNT = min (s.get F.EC_UE_COUNT + 1) (2 ^ F.EC_UE_COUNT.width - 1))) ∧
  (∀ e layout j, s.engAvail e = true → (s.eng e).run = none → s.nextJob (e / 8) = some j →
    ∃ u r, exec (.shareStart t e layout) s = .next u ∧ (u.eng e).run = some r ∧ r.tag = j.tag ∧ r.idx = j.taken ∧
      r.first = j.taken * shareSize j.seg.codes.length ∧ r.count = min (shareSize j.seg.codes.length) (j.seg.codes.length - r.first) ∧
      r.start = max s.now t ∧ (u.job j.tag).map (·.taken) = some (j.taken + 1) ∧ u.get (F.YD_ENG_STATE (e / 8) (e % 8)) = 1) ∧
  (∃ u, exec (.jobPromoted t) s = .next u ∧ u.fab.jobs = s.fab.jobs.map (fun j => { j with promoted := j.promoted ||
      (decide (j.taken = 0) && decide (s.get F.FB_DISPATCH_AGE_LIMIT * us < max s.now t - j.queued)) }) ∧
    OnlyChanges [F.FB_PROMOTED_COUNT, F.FB_CNT_SAT_PROM_SAT] [.fab] s u) ∧
  (∀ e r, e < 96 → (s.eng e).run = some r → (s.eng e).wait = none → (s.eng e).rep = none → r.start + s.get F.FB_DISPATCH_JOB_TMO * us < max s.now t →
    ∃ u, exec (.shareTimeout t e) s = .next u ∧ (u.eng e).run = none ∧ u.get (F.YD_ENG_LAST_FAULT (e / 8) (e % 8)) = 3 ∧
      u.get F.FB_FAULTS_COUNT = min (s.get F.FB_FAULTS_COUNT + 1) (2 ^ F.FB_FAULTS_COUNT.width - 1) ∧
      (∀ j, u.job r.tag = some j → j.faulted = true) ∧
      (2 ≤ ((s.advance t).recentFaults e).length → u.get (F.YD_ENG_STATE (e / 8) (e % 8)) = 3)) ∧
  (∀ k j, s.headJob k = some j → j.done = true → s.earlierWaits j.seg = false → s.is F.CX_STATUS_BLOCKED = false → ∀ ue, ∃ u, exec (.jobRetire t k ue) s = .next u ∧
      u.fab.jobs = s.fab.jobs.filter (fun i => i.tag != j.tag) ∧
      u.get F.FB_DONE_COUNT = min (s.get F.FB_DONE_COUNT + 1) (2 ^ F.FB_DONE_COUNT.width - 1)) ∧
  (s.is F.FB_STATUS_OVERRUN = true → (s.advance t).storeCalm = true → ∃ u, exec (.storeOverrunEnd t) s = .next u ∧
      u.is F.FB_STATUS_OVERRUN = false ∧ OnlyChanges [F.FB_STATUS_OVERRUN] [] s u) ∧
  (∀ y, s.yardClear y = true → ∃ u, exec (.yardCodeLoad t y) s = .next u ∧
      kvGet 0 u.fab.code y = s.sw.epochs ∧ OnlyChanges [F.FB_QUAD_POWERED, F.PM_DOMAINS_ON] [.fab] s u)

/-- The throughput monitor, the voltage read-back and a re-homed yard (R180, R186, R188, R195). The model's choices: log entries 30, 31, 39. -/
def Obligations.FabricMonitors : Prop := ∀ (s : State) (t : Nat),
  (∀ speeds ack status, s.domainOn 8 = true → ∃ u, exec (.throughputWindow t speeds ack status) s = .next u ∧
    u.get F.FB_UTIL_LAST = min ((s.advance t).util (List.range 96)) (2 ^ F.FB_UTIL_LAST.width - 1) ∧
    u.get F.FB_AGE_A = (s.advance t).backlog % 2 ^ F.FB_AGE_A.width ∧ u.fab.winFrom = max s.now t ∧ u.fab.busy = [] ∧
    u.fab.quadUtil = (List.range 4).map (fun q => (s.advance t).util ((List.range 24).map (24 * q + ·))) ∧
    u.fab.jobs = s.fab.jobs ∧ u.fab.store = s.fab.store ∧ u.mem = s.mem) ∧
  (∀ vout status, s.domainOn 8 = true → s.is F.FB_STATUS_AV_FAULT = false →
    (vout ≤ s.get F.FB_AV_VOUT_COMMAND + 15 → s.get F.FB_AV_VOUT_COMMAND ≤ vout + 15 → ∃ u, exec (.readVout t true vout status) s = .next u ∧
      u.get F.FB_AV_VOUT_READBACK = vout % 2 ^ F.FB_AV_VOUT_READBACK.width ∧ u.get F.FB_PMBUS_FAILS = 0 ∧
      OnlyChanges [F.FB_AV_VOUT_READBACK, F.FB_PMBUS_FAILS] [] s u) ∧
    (∃ u, exec (.readVout t false vout status) s = .next u ∧ u.get F.FB_PMBUS_FAILS = min 3 (s.get F.FB_PMBUS_FAILS + 1) ∧
      u.get F.FB_PMBUS_STATUS = status % 2 ^ F.FB_PMBUS_STATUS.width ∧ (s.get F.FB_PMBUS_FAILS = 2 → u.is F.FB_STATUS_AV_FAULT = true) ∧
      OnlyChanges [F.FB_PMBUS_FAILS, F.FB_PMBUS_STATUS, F.FB_STATUS_AV_FAULT] [] s u)) ∧
  (∀ r : ReadAt, s.domainOn 8 = true → ∃ u, exec (.fbUtilRead r) s = .next u ∧ u.resp = [pickBytes r.be (s.get F.FB_UTIL_PEAK * 65536 + s.get F.FB_UTIL_LAST)] ∧
    u.get F.FB_UTIL_PEAK = 0 ∧ OnlyChanges [F.FB_UTIL_PEAK] [.resp] s u) ∧
  (∀ y z tr tt, y < 12 → s.yardEngines y = 0 → s.activeTimetable = some tt → s.fab.tracks.filter (fun x => x.yard == y) = [tr] →
    chooseYard tt.sections s.yardsOut (timetableTl tt) s.yardAvail (s.fab.tracks.filter (fun x => x.yard != y)) tr = some z →
    ∃ u, exec (.yardRehome t y) s = .next u ∧
      u.fab.tracks = s.fab.tracks.map (fun x => if x.sect = tr.sect ∧ x.run = tr.run then { x with yard := z } else x) ∧ u.mem = s.mem)

/-- Triggers, arming and consumption at the event recorder (R226, R227, R230, R235, R236, R239, R241, R242). The model's choices: log entries 111, 121. -/
def Obligations.RecorderCommands : Prop := ∀ (s : State) (t : Nat),
  (∀ lines, s.domainOn 13 = true → ∃ u, exec (.hostTrigger t lines) s = .next u ∧ ∀ n, n < 16 →
    (lines.testBit n = true → (s.line n).armed = true → (s.line n).trigs.countP (fun x => x.ready.isNone) < 8 →
      ∃ r, ⟨3, (s.count (max s.now t) : Int) + s.getS (F.EV_OFFSET_OFFSET n) * ns, r⟩ ∈ (u.line n).trigs) ∧
    (lines.testBit n = false ∨ (s.line n).armed = false → u.line n = s.line n)) ∧
  (∀ n src (at_ i a b : Int) tm, n < 16 → (s.line n).trigs = [⟨src, at_, some (tm, i)⟩] →
    ((s.line n).blocked = false → (s.line n).caps = [] → (s.line n).fill ≤ i - s.get (F.EV_PRE_INPUTS n) → s.headerFree n = true →
      (s.line n).last = some (a, b) → a < i + max 1 (s.get (F.EV_POST_INPUTS n) : Nat) - 1 → ∃ u c, exec (.triggerProcess t n) s = .next u ∧
      (u.line n).caps = [c] ∧ c.trig = i ∧ c.start = i - s.get (F.EV_PRE_INPUTS n) ∧ c.stop = i + max 1 (s.get (F.EV_POST_INPUTS n) : Nat) - 1 ∧
      c.sources = 2 ^ src ∧ c.at_ = at_) ∧
    ((s.line n).blocked = true → ∃ u, exec (.triggerProcess t n) s = .next u ∧ (u.line n).trigs = [] ∧ (u.line n).caps = (s.line n).caps ∧
      u.get (F.EV_IGNORED_COUNT n) = min (s.get (F.EV_IGNORED_COUNT n) + 1) (2 ^ (F.EV_IGNORED_COUNT n).width - 1))) ∧
  (s.recd.trigOutEnd ≤ max s.now t → ∃ u, exec (.trigOutPulseEnd t) s = .next u ∧ u.recd.trigOut = false ∧ OnlyChanges [] [.recd] s u) ∧
  (∀ n, s.domainOn 13 = true → n < 16 →
    ((s.line n).armed = false → s.fits (s.rowSum (some n)) 7 = true → ∃ u, exec (.arm t n) s = .next u ∧ (u.line n).armed = true ∧
      (u.line n).disarm = false ∧ u.get (F.EV_CTRL_ARM n) = 1) ∧
    ((s.line n).armed = false → s.fits (s.rowSum (some n)) 7 = false → ∃ u, exec (.arm t n) s = .next u ∧ u.get (F.EV_CTRL_ARM n) = 0 ∧
      u.get (F.EV_CTRL_ARM_REJ n) = 1 ∧ OnlyChanges [F.EV_CTRL_ARM n, F.EV_CTRL_ARM_REJ n] [] s u) ∧
    (∃ u, exec (.disarm t n) s = .next u ∧ u.get (F.EV_CTRL_ARM n) = 0 ∧ u.line n = { s.line n with disarm := (s.line n).armed } ∧
      OnlyChanges [F.EV_CTRL_ARM n] [.recd] s u)) ∧
  (s.domainOn 13 = true → ∃ u, exec (.bwShort t) s = .next u ∧ u.get F.EV_RATE_BW_SHORT = 1 ∧
    u.recd.target = min 7 (max s.recd.target (s.get F.EV_RATE_H) + 1) ∧ OnlyChanges [F.EV_RATE_BW_SHORT] [.recd] s u) ∧
  (∀ h, s.domainOn 13 = true → max s.recd.target (s.get F.EV_RATE_H) = h + 1 → s.fits (s.rowSum none) h = true →
    (∀ a, s.recd.loweredAt = some a → a + 100 * ms ≤ max s.now t) → ∃ u, exec (.rateLower t) s = .next u ∧
    u.recd = { s.recd with target := h, loweredAt := some (max s.now t) } ∧ OnlyChanges [] [.recd] s u) ∧
  (∀ n v, s.domainOn 13 = true → n < 16 →
    (indexOk (s.get (F.EV_REC_WR_COUNT n)) (s.get (F.EV_REC_RD_COUNT n)) (v % 2 ^ 32) = true → ∃ u, exec (.evRecRdWrite t n v) s = .next u ∧
      u.get (F.EV_REC_RD_COUNT n) = v % 2 ^ 32 ∧ u.get (F.EV_REC_WR_COUNT n) = s.get (F.EV_REC_WR_COUNT n)) ∧
    (indexOk (s.get (F.EV_REC_WR_COUNT n)) (s.get (F.EV_REC_RD_COUNT n)) (v % 2 ^ 32) = false → ∃ u, exec (.evRecRdWrite t n v) s = .next u ∧
      u.get (F.EV_LSAT_RD_ERR n) = 1 ∧ OnlyChanges [F.EV_LSAT_RD_ERR n] [] s u))

/-- The detection FIFO's consumption index and the alarm readback (R166, R169). -/
def Obligations.SectionReadback : Prop := ∀ (s : State) (t v : Nat), s.domainOn 8 = true →
  (indexOk (s.get F.BS_DFIFO_WR_COUNT) (s.get F.BS_DFIFO_RD_COUNT) (v % 2 ^ 32) = true → ∃ u, exec (.bsDfifoRdWrite t v) s = .next u ∧
    u.get F.BS_DFIFO_RD_COUNT = v % 2 ^ 32 ∧ (s.is F.BS_DFIFO_STAT_STORM = false → u.get F.BS_DFIFO_WR_COUNT = s.get F.BS_DFIFO_WR_COUNT ∧ u.mem = s.mem)) ∧
  (indexOk (s.get F.BS_DFIFO_WR_COUNT) (s.get F.BS_DFIFO_RD_COUNT) (v % 2 ^ 32) = false → ∃ u, exec (.bsDfifoRdWrite t v) s = .next u ∧
    u.get F.BS_DFIFO_STAT_RD_ERR = 1 ∧ OnlyChanges [F.BS_DFIFO_STAT_RD_ERR] [] s u) ∧
  (∀ r : ReadAt, ∃ u, exec (.bsAlarmDataRead r) s = .next u ∧ u.resp = [pickBytes r.be s.alarmWord] ∧
    (s.get F.BS_COUNT_SECTIONS ≤ s.get F.BS_ALARM_SEL_SECTION → u.resp = [0]) ∧
    u.get F.BS_ALARM_SEL_WORD = (s.get F.BS_ALARM_SEL_WORD + 1) % 2 ^ F.BS_ALARM_SEL_WORD.width ∧
    OnlyChanges [F.BS_ALARM_SEL_WORD] [.resp] s u)

/-- The sixteen-bit instructions compute their result and flags on a ready engine (R200, R209, R220). -/
def Obligations.EngineArithmetic : Prop := ∀ (s : State) (e : Nat), s.engineReady e → ∀ (d x y : RegNo) (i : BitVec 16) (n : BitVec 4) (a b f : Nat),
  a = (s.eng e).dv x → b = (s.eng e).dv y → f = (s.eng e).flg →
  (∃ u, exec (.add e d x y) s = .next u ∧ WritesD e [] d ((a + b) % 65536) (({ zn ((a + b) % 65536) with c := some (decide (65536 ≤ a + b)), v := some (decide (signed16 a + signed16 b < -32768 ∨ 32767 < signed16 a + signed16 b)) } : FlagSet).apply f) s u) ∧
  (∃ u, exec (.sub e d x y) s = .next u ∧ WritesD e [] d ((a + 65536 - b) % 65536) (({ zn ((a + 65536 - b) % 65536) with c := some (decide (a < b) == Config.subCarryIsBorrow), v := some (decide (signed16 a - signed16 b < -32768 ∨ 32767 < signed16 a - signed16 b)) } : FlagSet).apply f) s u) ∧
  (∃ u, exec (.adds e d x y) s = .next u ∧ WritesD e [] d (pat16 (sat16 (signed16 a + signed16 b))) ((alu16Sat (signed16 a + signed16 b)).2.apply f) s u) ∧
  (∃ u, exec (.subs e d x y) s = .next u ∧ WritesD e [] d (pat16 (sat16 (signed16 a - signed16 b))) ((alu16Sat (signed16 a - signed16 b)).2.apply f) s u) ∧
  (∃ u, exec (.and e d x y) s = .next u ∧ WritesD e [] d ((a &&& b) % 65536) (({ zn (a &&& b) with c := some false, v := some false } : FlagSet).apply f) s u) ∧
  (∃ u, exec (.or e d x y) s = .next u ∧ WritesD e [] d ((a ||| b) % 65536) (({ zn (a ||| b) with c := some false, v := some false } : FlagSet).apply f) s u) ∧
  (∃ u, exec (.xor e d x y) s = .next u ∧ WritesD e [] d ((a ^^^ b) % 65536) (({ zn (a ^^^ b) with c := some false, v := some false } : FlagSet).apply f) s u) ∧
  (∀ m, m = (if signed16 a ≤ signed16 b then a else b) → ∃ u, exec (.min e d x y) s = .next u ∧ WritesD e [] d (m % 65536) ((zn m).apply f) s u) ∧
  (∀ m, m = (if signed16 a ≤ signed16 b then b else a) → ∃ u, exec (.max e d x y) s = .next u ∧ WritesD e [] d (m % 65536) ((zn m).apply f) s u) ∧
  (∃ u, exec (.cmp e x y) s = .next u ∧ u.eng e = { (s.eng e).passes with flg := (alu16Sub a b).2.apply f } ∧ OnlyEngine e [] s u) ∧
  (∃ u, exec (.mov e d x) s = .next u ∧ WritesD e [] d (a % 65536) f s u) ∧
  (∃ u, exec (.abs e d x) s = .next u ∧ WritesD e [] d (pat16 (min 32767 (signed16 a).natAbs)) ((alu16Sat ((signed16 a).natAbs : Nat)).2.apply f) s u) ∧
  (∃ u, exec (.neg e d x) s = .next u ∧ WritesD e [] d (pat16 (min 32767 (-signed16 a))) ((alu16Sat (-signed16 a)).2.apply f) s u) ∧
  (∃ u, exec (.ldi e d i) s = .next u ∧ WritesD e [] d i.toNat f s u) ∧
  (∃ u, exec (.addi e d i) s = .next u ∧ WritesD e [] d (((s.eng e).dv d + i.toNat) % 65536) ((alu16Add ((s.eng e).dv d) i.toNat).2.apply f) s u) ∧
  (∃ u, exec (.cmpi e d i) s = .next u ∧ u.eng e = { (s.eng e).passes with flg := (alu16Sub ((s.eng e).dv d) i.toNat).2.apply f } ∧ OnlyEngine e [] s u) ∧
  (∃ u o, exec (.shl e d x n) s = .next u ∧ WritesD e [.freeCtr] d (a * 2 ^ n.toNat % 65536) ((alu16Shift 0 a n.toNat o).2.apply f) s u) ∧
  (∃ u o, exec (.shr e d x n) s = .next u ∧ WritesD e [.freeCtr] d (a / 2 ^ n.toNat % 65536) ((alu16Shift 1 a n.toNat o).2.apply f) s u) ∧
  (∃ u o, exec (.asr e d x n) s = .next u ∧ WritesD e [.freeCtr] d (pat16 (signed16 a / 2 ^ n.toNat)) ((alu16Shift 2 a n.toNat o).2.apply f) s u) ∧
  (∃ u, exec (.shls e d x n) s = .next u ∧ WritesD e [] d (pat16 (sat16 (signed16 a * 2 ^ n.toNat))) ((alu16Sat (signed16 a * 2 ^ n.toNat)).2.apply f) s u)

/-- The accumulator, address and status instructions on a ready engine (R200, R207, R208, R209, R220). The model's choices: log entry 26. -/
def Obligations.EngineAccumulators : Prop := ∀ (s : State) (e : Nat), s.engineReady e → ∀ (d x r : RegNo) (b : Bool) (sh : BitVec 6) (k : BitVec 2) (a f : Nat) (v : Int),
  a = (s.eng e).dv x → f = (s.eng e).flg → v = (s.eng e).acc b true →
  (sh.toNat ≤ 24 → ∃ u, exec (.acld e b x sh) s = .next u ∧ WritesAcc e b (signed16 a * 2 ^ sh.toNat) f s u) ∧
  (∀ w, w = (if 0 ≤ sh.toInt then v * 2 ^ sh.toInt.toNat else v / 2 ^ (-sh.toInt).toNat) → ∃ u, exec (.acsh e b sh) s = .next u ∧
    WritesAcc e b (satBits 40 w) (({ as_ := decide (satBits 40 w ≠ w) } : FlagSet).apply f) s u) ∧
  (∀ w, w = (s.eng e).acc false true + (s.eng e).acc true true → ∃ u, exec (.acadd e b) s = .next u ∧
    WritesAcc e b (satBits 40 w) (({ as_ := decide (satBits 40 w ≠ w) } : FlagSet).apply f) s u) ∧
  (sh.toNat ≤ 31 → ∃ u, exec (.rnd e d b sh) s = .next u ∧ WritesD e [] d (pat16 (sat16 (rndShift v sh.toNat))) ((aluRnd v sh.toNat).2.apply f) s u) ∧
  (sh.toNat ≤ 2 → ∃ u, exec (.acx e d b sh) s = .next u ∧ WritesD e [] d (pat16 (v / 2 ^ (16 * sh.toNat))) f s u) ∧
  (∃ u, exec (.rmsq e d b x) s = .next u ∧ WritesD e [] d (aluRmsq v a).1 ((aluRmsq v a).2.apply f) s u) ∧
  (∃ u, exec (.log2 e d b) s = .next u ∧ WritesD e [] d ((aluLog2 v).1 % 65536) ((aluLog2 v).2.apply f) s u) ∧
  (∀ i : BitVec 18, ∃ u, exec (.mova e r i) s = .next u ∧ WritesA e r i.toNat s u) ∧
  (∃ u, exec (.adda e r x) s = .next u ∧ WritesA e r (advance ((s.eng e).aval r) 0 (signed16 a) % 2 ^ 18) s u) ∧
  (∃ u, exec (.movda e d r) s = .next u ∧ WritesD e [] d ((s.eng e).aval r % 65536) f s u) ∧
  (∀ i : BitVec 16, ∃ u, exec (.movmo e k i) s = .next u ∧ (u.eng e).passes.mv k.toNat = ((s.eng e).mlast k.toNat / 65536 * 65536 + i.toNat) % 2 ^ 29 ∧
    u.eng e = { (s.eng e).passes with m := (u.eng e).m } ∧ OnlyEngine e [] s u) ∧
  (∀ i : BitVec 13, i.toNat ≠ 1 → i.toNat ≤ 4096 → ∃ u, exec (.movmm e k i) s = .next u ∧
    (u.eng e).passes.mv k.toNat = (i.toNat * 65536 + (s.eng e).mlast k.toNat % 65536) % 2 ^ 29 ∧ u.eng e = { (s.eng e).passes with m := (u.eng e).m } ∧
    OnlyEngine e [] s u) ∧
  (∃ u, exec (.movs e d true) s = .next u ∧ WritesD e [] d ((s.eng e).lc % 65536) f s u) ∧
  (∃ u, exec (.movs e d false) s = .next u ∧
    WritesD e [] d (setFlag (setFlag f 12 (s.eng e).fb) 13 (s.eng e).xfer.isSome % 65536) f s u) ∧
  (∃ u, exec (.movtf e x) s = .next u ∧ u.eng e = { (s.eng e).passes with flg := a &&& 0x073F } ∧ OnlyEngine e [] s u) ∧
  (∀ q : BitVec 3, ∃ u, exec (.setq e q) s = .next u ∧ (∀ j, j < 3 → (u.eng e).flg.testBit (8 + j) = q.getLsbD j) ∧
    (∀ j, j < 8 ∨ 11 ≤ j → (u.eng e).flg.testBit j = f.testBit j) ∧ u.eng e = { (s.eng e).passes with flg := (u.eng e).flg } ∧ OnlyEngine e [] s u)

/-- Control flow of the engines and its faults (R179, R203, R206, R210, R211, R221). The model's choices: log entries 10, 25, 107, 110. -/
def Obligations.EngineControlFlow : Prop := ∀ (s : State) (e : Nat), s.engineReady e → ∀ (d x : RegNo) (c : BitVec 4) (tg : BitVec 12) (n : BitVec 13),
  (∃ u, exec (.nop e) s = .next u ∧ u.eng e = (s.eng e).passes ∧ OnlyEngine e [] s u) ∧
  ((s.eng e).slot = none →
    (∀ h, condHolds (s.eng e).flg c.toNat = some h → ∃ u, exec (.br e c tg) s = .next u ∧
      u.eng e = { (s.eng e).passes with slot := some (if h then some tg.toNat else none) } ∧ OnlyEngine e [] s u) ∧
    ((s.eng e).stack.length < 8 → ∃ u, exec (.call e tg) s = .next u ∧
      u.eng e = { (s.eng e).passes with slot := some (some tg.toNat), stack := ((s.eng e).pc + 2) % 4096 :: (s.eng e).stack } ∧ OnlyEngine e [] s u) ∧
    (∀ a rest, (s.eng e).stack = a :: rest → ∃ u, exec (.ret e) s = .next u ∧
      u.eng e = { (s.eng e).passes with slot := some (some a), stack := rest } ∧ OnlyEngine e [] s u) ∧
    (∃ u, exec (.dbnz e d tg) s = .next u ∧ (u.eng e).dv d = ((s.eng e).dv d + 65535) % 65536 ∧
      (u.eng e).slot = some (if ((s.eng e).dv d + 65535) % 65536 ≠ 0 then some tg.toNat else none) ∧
      u.eng e = { (s.eng e).passes with d := (u.eng e).d, slot := (u.eng e).slot } ∧ OnlyEngine e [] s u) ∧
    (n.toNat ≠ 0 → n.toNat ≤ 4096 → s.followerBarred e = false → ∃ u, exec (.rpt e n) s = .next u ∧
      u.eng e = { (s.eng e) with rep := some n.toNat, lc := n.toNat, pc := ((s.eng e).pc + 1) % 4096 } ∧ OnlyEngine e [] s u) ∧
    ((s.eng e).dv x ≤ 4096 → s.followerBarred e = false → ∃ u, exec (.rptd e x) s = .next u ∧
      u.eng e = { (s.eng e) with rep := some ((s.eng e).dv x), lc := (s.eng e).dv x, pc := ((s.eng e).pc + 1) % 4096 } ∧ OnlyEngine e [] s u) ∧
    (∀ t, (s.eng e).fb = false → (s.eng e).xfer = none → ∃ u, exec (.exit t e) s = .next u ∧ (u.eng e).run = none ∧
      u.get F.FB_FAULTS_COUNT = s.get F.FB_FAULTS_COUNT ∧
      u.get (F.YD_ENG_STATE (e / 8) (e % 8)) = (if s.get (F.YD_ENG_STATE (e / 8) (e % 8)) = 1 then 0 else s.get (F.YD_ENG_STATE (e / 8) (e % 8)))) ∧
    (c = 15 → ∃ u, exec (.br e c tg) s = .next u ∧ (u.eng e).run = none ∧ u.get (F.YD_ENG_LAST_FAULT (e / 8) (e % 8)) = 2) ∧
    ((s.eng e).stack.length = 8 → ∃ u, exec (.call e tg) s = .next u ∧ (u.eng e).run = none ∧ u.get (F.YD_ENG_LAST_FAULT (e / 8) (e % 8)) = 2) ∧
    ((s.eng e).stack = [] → ∃ u, exec (.ret e) s = .next u ∧ (u.eng e).run = none ∧ u.get (F.YD_ENG_LAST_FAULT (e / 8) (e % 8)) = 2) ∧
    (n.toNat = 0 ∨ 4096 < n.toNat ∨ s.followerBarred e = true → ∃ u, exec (.rpt e n) s = .next u ∧ (u.eng e).run = none ∧ u.get (F.YD_ENG_LAST_FAULT (e / 8) (e % 8)) = 2)) ∧
  ((s.eng e).slot ≠ none → ∃ u, exec (.br e c tg) s = .next u ∧ (u.eng e).run = none ∧ u.get (F.YD_ENG_LAST_FAULT (e / 8) (e % 8)) = 2 ∧
    u.get F.FB_FAULTS_COUNT = min (s.get F.FB_FAULTS_COUNT + 1) (2 ^ F.FB_FAULTS_COUNT.width - 1)) ∧
  (∀ (mode : BitVec 3) (off : BitVec 12), 5 ≤ mode.toNat ∨ (mode.toNat ≤ 3 ∧ off ≠ 0) → ∃ u, exec (.ld e d x mode off false) s = .next u ∧ (u.eng e).run = none ∧
    u.get (F.YD_ENG_LAST_FAULT (e / 8) (e % 8)) = 2) ∧
  (∀ (z : State) r l h c, (z.eng e).run = some r → r.layout = some l → r.hdr = some h → z.fetchFault e = some c → (z.eng e).wait = none →
    (inWords (z.eng e).pc l.code h.codeWords = false → c = 1) ∧ (inWords (z.eng e).pc l.code h.codeWords = true → c % 8 = 4 ∨ c = 2) ∧
    ∃ u : State, exec (.nop e) z = .next u ∧ (u.eng e).run = none ∧ u.get (F.YD_ENG_LAST_FAULT (e / 8) (e % 8)) = c % 8)

/-- Loads and stores of an engine (R205, R206, R207, R209, R220). The model's choices: log entry 25. -/
def Obligations.EngineMemory : Prop := ∀ (s : State) (e : Nat), s.engineReady e → ∀ (d x r : RegNo) (mode : BitVec 3) (off : BitVec 12) (ea : Nat),
  (s.eng e).ea r mode.toNat off.toNat = some ea →
  (∀ v, s.dataRead e r ea false = some (.ok v) → ∃ u, exec (.ld e d r mode off false) s = .next u ∧ (u.eng e).passes.dv d = v % 65536 ∧
    (∀ z, z ≠ d → (u.eng e).dv z = (s.eng e).passes.dv z) ∧ (u.eng e).addr r = (s.eng e).stepped r (if mode.toNat ≤ 3 then mode.toNat else 0) ∧
    (∀ z, z ≠ r → (u.eng e).addr z = (s.eng e).passes.addr z) ∧
    u.eng e = { (s.eng e).passes with d := (u.eng e).d, a := (u.eng e).a } ∧ OnlyEngine e [] s u) ∧
  (∀ p, placeOf r ea = some p → (s.eng e).permits (s.segWords (s.eng e)) true p = true → (s.eng e).inTransfer p = false →
    ∃ u, exec (.st e x r mode off) s = .next u ∧ u.isBad (p.byte e) = false ∧ (∀ a, u.rdByte a = if a = p.byte e then BitVec.ofNat 8 ((s.eng e).dv x) else
      if a = p.byte e + 1 then BitVec.ofNat 8 ((s.eng e).dv x / 256) else s.rdByte a) ∧
    (u.eng e).addr r = (s.eng e).stepped r (if mode.toNat ≤ 3 then mode.toNat else 0) ∧
    u.eng e = { (s.eng e).passes with a := (u.eng e).a, written := (u.eng e).written } ∧ OnlyChanges [] [.fab, .mem] s u ∧
    (s.isBad (p.byte e) = false → OnlyEngine e [.mem] s u)) ∧
  (∀ lo hi, (mode.toNat = 0 ∨ mode.toNat = 4) → s.dataRead e r ea false = some (.ok lo) → s.dataRead e r (nextWord ea) false = some (.ok hi) →
    ∃ u, exec (.lda e x r mode off false) s = .next u ∧ WritesA e x ((lo + hi % 4 * 65536) % 2 ^ 18) s u) ∧
  (∀ p q v, (mode.toNat = 0 ∨ mode.toNat = 4) → placeOf r ea = some p → placeOf r (nextWord ea) = some q → v = (s.eng e).aval x →
    (s.eng e).permits (s.segWords (s.eng e)) true p = true → (s.eng e).permits (s.segWords (s.eng e)) true q = true →
    (s.eng e).inTransfer p = false → (s.eng e).inTransfer q = false → q.byte e ≠ p.byte e →
    s.isBad (p.byte e) = false → s.isBad (q.byte e) = false → ∃ u, exec (.sta e x r mode off) s = .next u ∧
    u.rdLE (p.byte e) 2 = v % 65536 ∧ u.rdLE (q.byte e) 2 = v / 65536 % 65536 ∧
    (∀ a, a ≠ p.byte e → a ≠ p.byte e + 1 → a ≠ q.byte e → a ≠ q.byte e + 1 → u.rdByte a = s.rdByte a) ∧ OnlyEngine e [.mem] s u) ∧
  (s.dataRead e r ea true = some (.error 4) → ∃ u, exec (.ld e d r mode off true) s = .next u ∧ (u.eng e).run = none ∧
    u.get (F.YD_ENG_LAST_FAULT (e / 8) (e % 8)) = 4) ∧
  (s.dataRead e r ea false = some (.error 12) → ∃ u, exec (.ld e d r mode off false) s = .next u ∧ (u.eng e).run = none ∧
    u.get (F.YD_ENG_LAST_FAULT (e / 8) (e % 8)) = 4) ∧
  (s.dataRead e r ea false = some (.error 1) → ∃ u, exec (.ld e d r mode off false) s = .next u ∧ (u.eng e).run = none ∧
    u.get (F.YD_ENG_LAST_FAULT (e / 8) (e % 8)) = 1)

/-- The multiply instructions with their parallel moves (R209, R219, R220). -/
def Obligations.EngineMultiplies : Prop := ∀ (s : State) (e : Nat), s.engineReady e → ∀ (b ue : Bool) (x y rx ry : RegNo) (m : Moves) (vx vy f : Nat) (p acc : Int),
  rx = BitVec.ofNat 3 m.ax.toNat → ry = BitVec.ofNat 3 (4 + m.ay.toNat) → f = (s.eng e).flg →
  (m.ex = true → s.dataRead e rx ((s.eng e).addr rx) ue = some (.ok vx)) → (m.ey = true → s.dataRead e ry ((s.eng e).addr ry) ue = some (.ok vy)) →
  p = signed16 ((s.eng e).dv x) * signed16 ((s.eng e).dv y) → acc = (s.eng e).acc b false →
  ∀ (i : Instr) (v : Int) (g : Nat),
    ((i = .clr e b m ue ∧ v = 0 ∧ g = f) ∨ (i = .mpy e b x y m ue ∧ v = p ∧ g = f) ∨
     (i = .mac e b x y m ue ∧ v = satBits 40 (acc + p) ∧ g = ({ as_ := decide (v ≠ acc + p) } : FlagSet).apply f) ∨
     (i = .msu e b x y m ue ∧ v = satBits 40 (acc - p) ∧ g = ({ as_ := decide (v ≠ acc - p) } : FlagSet).apply f) ∨ i = .movp e m ue) →
    ∃ u, exec i s = .next u ∧
      (if i = .movp e m ue then (u.eng e).aca = (s.eng e).passes.aca ∧ (u.eng e).acb = (s.eng e).passes.acb ∧ (u.eng e).flg = f
       else (u.eng e).acc b false = v ∧ (u.eng e).passes.acc b true = v ∧ (u.eng e).acc (!b) false = (s.eng e).passes.acc (!b) false ∧
         (u.eng e).flg = g) ∧
      (m.ex = true → (m.ey = false ∨ m.dy ≠ m.dx) → (u.eng e).passes.dv m.dx = vx % 65536) ∧ (m.ey = true → (u.eng e).passes.dv m.dy = vy % 65536) ∧
      (m.ex = true → (u.eng e).addr rx = (s.eng e).stepped rx m.mx.toNat) ∧ (m.ey = true → (u.eng e).addr ry = (s.eng e).stepped ry m.my.toNat) ∧
      (∀ z, (m.ex = false ∨ z ≠ m.dx) → (m.ey = false ∨ z ≠ m.dy) → (u.eng e).dv z = (s.eng e).passes.dv z) ∧
      u.eng e = { (s.eng e).passes with d := (u.eng e).d, a := (u.eng e).a, aca := (u.eng e).aca, acb := (u.eng e).acb, flg := (u.eng e).flg } ∧
      OnlyEngine e [] s u

/-- Results, transforms and transfers of an engine (R212, R213, R214, R216, R217, R218). The model's choices: log entries 25, 26, 27. -/
def Obligations.EngineUnits : Prop := ∀ (s : State) (e : Nat), (s.engineReady e → ∀ (d x l a m n : RegNo) (pr : BitVec 3) (pv : BitVec 4) (k tx : BitVec 2) (pal inv hann : Bool),
    (∀ r, (s.eng e).run = some r → (s.eng e).dv x < r.count → ∃ u, exec (.setch e x) s = .next u ∧
      u.eng e = { (s.eng e).passes with cursor := (s.eng e).dv x } ∧ OnlyEngine e [] s u) ∧
    (1 ≤ pr.toNat → pr.toNat ≤ 5 → ∃ u q, exec (.put e pr pv x) s = .next u ∧ u.eng e = { (s.eng e).passes with out := { (s.eng e).out with puts := (s.eng e).out.puts ++ [q] } } ∧
      q.ch = (s.eng e).cursor ∧ q.p = pr.toNat ∧ q.v = pv.toNat ∧ q.val = signed16 ((s.eng e).dv x) ∧ q.qf = (s.eng e).flg.testBit 8 ∧
      q.qb = (s.eng e).flg.testBit 9 ∧ q.qs = (s.eng e).flg.testBit 10 ∧ OnlyEngine e [] s u) ∧
    (k.toNat ≠ 3 → ∃ u q, exec (.trn e x l k tx) s = .next u ∧ u.eng e = { (s.eng e).passes with out := { (s.eng e).out with trns := (s.eng e).out.trns ++ [q] } } ∧
      q.ch = (s.eng e).cursor ∧ q.k = k.toNat ∧ q.x = tx.toNat ∧ q.val = (s.eng e).dv x ∧ q.level = (s.eng e).dv l ∧ OnlyEngine e [] s u) ∧
    (∃ u, exec (.palr e pal) s = .next u ∧ u.eng e = { (s.eng e).passes with out := { (s.eng e).out with palr := some (if pal then 1 else 0) } } ∧ OnlyEngine e [] s u) ∧
    (∃ u, exec (.fout e) s = .next u ∧ u.eng e = { (s.eng e).passes with out := { (s.eng e).out with fout := true } } ∧ OnlyEngine e [] s u) ∧
    (∀ r ly h w ad, (s.eng e).run = some r → r.layout = some ly → r.hdr = some h → (s.eng e).fb = false → w = (s.eng e).dv x → 2 ≤ w → w ≤ 12 →
      ad = (s.eng e).addr a → ad / 2 ^ 17 % 2 = 1 → ly.fft ≤ ad % 2 ^ 17 → ad % 2 ^ 17 + 2 * 2 ^ w ≤ ly.fft + h.fftWindow →
      ∃ u, exec (.ffts e a x inv hann) s = .next u ∧ u.eng e = { (s.eng e).passes with fb := true } ∧
        (u.fftUnit (e / 8)).queue = (s.fftUnit (e / 8)).queue ++ [⟨e % 8, ad % 2 ^ 17, w, inv, hann, 0, []⟩] ∧ (u.fftUnit (e / 8)).busy = (s.fftUnit (e / 8)).busy) ∧
    ((s.eng e).fb = false → ∃ u, exec (.fftw e d) s = .next u ∧ WritesD e [] d ((s.eng e).scal % 65536) (s.eng e).flg s u) ∧
    ((s.eng e).fb = true → ∃ u, exec (.fftw e d) s = .next u ∧ u.eng e = { s.eng e with wait := some (.fftw d, false) } ∧ OnlyEngine e [] s u) ∧
    (∀ r ly h, (s.eng e).run = some r → r.layout = some ly → r.hdr = some h → (s.eng e).xfer = none → 1 ≤ (s.eng e).dv n → (s.eng e).dv n ≤ 4096 →
      16 * (s.eng e).dv m + (s.eng e).dv n ≤ r.count * h.ext →
      (s.rangeOk e a ((s.eng e).addr a) ((s.eng e).dv n) true = true → ∃ u t, exec (.fill e a m n) s = .next u ∧ (u.eng e).xfer = some t ∧ t.spill = false ∧
        t.n = (s.eng e).dv n ∧ t.dram = ly.dram + 2 * (r.first * h.ext + 16 * (s.eng e).dv m) ∧ t.word = (s.eng e).addr a % 2 ^ 17 ∧
        u.eng e = { (s.eng e).passes with xfer := some t, written := (u.eng e).written } ∧ OnlyEngine e [] s u) ∧
      (s.rangeOk e a ((s.eng e).addr a) ((s.eng e).dv n) false = true →
        (∀ i p, i < (s.eng e).dv n → placeOf a ((s.eng e).addr a + i) = some p → s.isBad (p.byte e) = false) → ∃ u t, exec (.spill e a m n false) s = .next u ∧ (u.eng e).xfer = some t ∧ t.spill = true ∧
        t.n = (s.eng e).dv n ∧ t.dram = ly.dram + 2 * (r.first * h.ext + 16 * (s.eng e).dv m) ∧ t.word = (s.eng e).addr a % 2 ^ 17 ∧
        u.eng e = { (s.eng e).passes with xfer := some t, written := (u.eng e).written } ∧ OnlyEngine e [] s u)) ∧
    ((s.eng e).xfer ≠ none → ∃ u, exec (.dmaw e) s = .next u ∧ u.eng e = { s.eng e with wait := some (.dmaw, false) } ∧ OnlyEngine e [] s u) ∧
    ((s.eng e).xfer = none → ∃ u, exec (.dmaw e) s = .next u ∧ u.eng e = (s.eng e).passes ∧ OnlyEngine e [] s u)) ∧
  (∀ y r rest, (s.fftUnit y).busy = none → (s.fftUnit y).queue = r :: rest → ∃ u, exec (.fftTransformStart y) s = .next u ∧
    (u.fftUnit y).busy = some r ∧ (u.fftUnit y).queue = rest ∧ OnlyChanges [] [.fab] s u) ∧
  (∀ t y r, (s.fftUnit y).busy = some r → r.eng < 8 → (s.eng (8 * y + r.eng)).wait = none → ∃ u, exec (.fftTransformDone t y) s = .next u ∧
    (u.fftUnit y).busy = none ∧ (u.fftUnit y).queue = (s.fftUnit y).queue ∧ (u.eng (8 * y + r.eng)).fb = false ∧
    (u.eng (8 * y + r.eng)).scal = (fftOf r.log2n r.inv r.hann (s.rdCpx y r.word (2 ^ r.log2n))).2.1 ∧ OnlyChanges [] [.fab, .mem, .freeCtr] s u) ∧
  (∀ t y r j, (s.fftUnit y).busy = some r → 8 ≤ r.eng → r.seq ≠ [] → s.br.job = some j → j.left.contains r.bin = true →
    ∃ u i, exec (.fftTransformDone t y) s = .next u ∧ (u.fftUnit y).busy = none ∧ (u.fftUnit y).queue = (s.fftUnit y).queue ∧
    u.br.job = some i ∧ i.left = j.left.filter (· ≠ r.bin) ∧ (kvGet (0, []) i.points r.bin).1 = (fftOf r.log2n r.inv r.hann r.seq).2.1 ∧
    OnlyChanges [] [.fab, .br, .freeCtr] s u) ∧
  (∀ t x, (s.eng e).xfer = some x → (s.eng e).wait = none → ∃ u, exec (.transferDone t e) s = .next u ∧ (u.eng e).xfer = none ∧
    (∀ i, i ≠ e → u.eng i = s.eng i) ∧ u.mem = ((s.advance t).copyTransfer e x).mem ∧ OnlyChanges dramFields [.fab, .mem, .dram] s u)

/-- Baselines, blocks, profiles and the synthesiser of the Brillouin channel (R248, R249, R257, R258, R261, R263, R264). The model's choices: log entry 34. -/
def Obligations.BrillouinCommands : Prop := ∀ (s : State) (t : Nat),
  (∀ start b, s.br.basing = some (start, b) → start + s.get F.BR_BASE_BASE_S * (1000 * ms) ≤ max s.now t → ∃ u, exec (.baselineComplete t) s = .next u ∧
    u.get F.BR_STATUS_REBASING = 0 ∧ u.get F.BR_STATUS_BASE_VALID = 1 ∧ u.br.base.map (fun c => (c.n, c.sig, c.key)) = some (b.n, b.sig, b.key) ∧
    u.br.base.map (fun c => (c.sum.dieN, c.sum.die)) = some (0, if b.sum.dieN = 0 then b.sum.die else []) ∧ u.br.basing = none ∧ u.br.baseAt = max s.now t ∧
    u.get F.BR_STATUS_STATE = (if s.get F.BR_STATUS_STATE = 1 then 2 else s.get F.BR_STATUS_STATE) ∧
    OnlyChanges ([F.BR_STATUS_REBASING, F.BR_STATUS_BASE_VALID, F.BR_STATUS_STATE] ++ dramFields) [.br, .mem, .dram] s u) ∧
  (s.get F.BR_BASE_PERIOD ≠ 0 → (s.get F.BR_STATUS_STATE = 2 ∨ s.get F.BR_STATUS_STATE = 3) → s.br.basing = none →
    s.br.baseAt + s.get F.BR_BASE_PERIOD * 60 * (1000 * ms) ≤ max s.now t → ∃ u, exec (.baselinePeriodic t) s = .next u ∧
    u.get F.BR_STATUS_REBASING = 1 ∧ (∃ b, u.br = { s.br with basing := some (max s.now t, b), skipFrom := none } ∧ b.n = 0 ∧ b.sig = none ∧
      b.key = s.brKey s.sweepIndex ∧ b.sum.dieN = 0 ∧ b.sum.flushes = 0 ∧ ∀ c, s.br.base = some c → c.sum.slot ≤ 1 → b.sum.slot ≠ c.sum.slot) ∧
    OnlyChanges [F.BR_STATUS_REBASING] [.br] s u) ∧
  (∀ t0, s.br.skipFrom = some t0 → s.br.basing = none → t0 + 60 * (1000 * ms) ≤ max s.now t → ∃ u, exec (.baselineSignature t) s = .next u ∧
    u.get F.BR_STATUS_REBASING = 1 ∧ u.get F.BR_STATUS_SKIPPING = 0 ∧ u.br.skipFrom = none ∧ u.br.basing.isSome = true ∧
    OnlyChanges [F.BR_STATUS_REBASING, F.BR_STATUS_SKIPPING] [.br] s u) ∧
  ((s.get F.BR_STATUS_STATE = 2 ∨ s.get F.BR_STATUS_STATE = 3) → s.br.tB + (s.br.k + 1) * s.brUpd ≤ max s.now t → ∃ u, exec (.blockClose t) s = .next u ∧
    u.br.k = s.br.k + 1 ∧ u.br.block = { sum := { slot := 2 + (s.br.k + 1) % (s.brFull + 1) } } ∧
    u.br.blocks.length = min (s.br.blocks.length + 1) s.brFull ∧ (u.br.blocks.getLast?).map (·.n) = some s.br.block.n ∧
    (s.br.base.isSome = true → 20 * (1000 * ms) ≤ u.br.blocks.length * s.brUpd →
      20 * (1000 * ms) ≤ u.br.blocks.foldl (fun a b => a + b.n) 0 * s.every * s.period → 0 < u.br.blocks.foldl (fun a b => a + b.n) 0 →
      ∃ j, u.br.job = some j ∧ j.blocks = u.br.blocks ∧ j.left = List.range (s.get F.BR_BINS_NB) ∧ j.points = []) ∧
    OnlyChanges dramFields [.br, .fab, .mem, .dram, .freeCtr] s u) ∧
  (∀ j, s.br.job = some j → j.left = [] → ∃ u, exec (.profileIssue t) s = .next u ∧ u.br.job = none ∧ u.br.blocks = s.br.blocks ∧
    u.get F.BR_STATUS_STATE = (if s.get F.BR_STATUS_STATE = 2 then 3 else s.get F.BR_STATUS_STATE) ∧
    u.get F.BR_STATUS_BLOCKS = j.blocks.length % 2 ^ F.BR_STATUS_BLOCKS.width ∧
    u.get F.BR_PROFILE_LAUNCHES = j.blocks.foldl (fun a x => a + x.n) 0 % 2 ^ F.BR_PROFILE_LAUNCHES.width ∧
    (s.is F.CX_AUX_BR_EN = false → u.built = s.built) ∧
    (∃ fs, u.built = s.built ++ fs ∧ ∀ f, f ∈ fs → f.stream = 256 ∧ f.product = 16 ∧ f.samples = 1)) ∧
  (s.domainOn 7 = true → s.is F.BR_STATUS_SYN_LOCK = true → ∃ u, exec (.brSynUnlock t) s = .next u ∧ u.get F.BR_STATUS_SYN_LOCK = 0 ∧
    u.br = { s.br with unlockFrom := some (max s.now t) } ∧ OnlyChanges [F.BR_STATUS_SYN_LOCK] [.br] s u) ∧
  (∀ t0, s.domainOn 7 = true → s.is F.BR_STATUS_SYN_LOCK = false → s.br.unlockFrom = some t0 → ∃ u, exec (.brSynLocked t) s = .next u ∧
    u.get F.BR_STATUS_SYN_LOCK = 1 ∧ u.br.unlockFrom = none ∧
    (t0 + 1000 * ms ≤ max s.now t → s.get F.BR_STATUS_STATE ≠ 0 → s.get F.BR_STATUS_STATE ≠ 4 → u.br.base = none ∧ u.br.blocks = [] ∧
      u.get F.BR_STATUS_BASE_VALID = 0) ∧
    (max s.now t < t0 + 1000 * ms → OnlyChanges [F.BR_STATUS_SYN_LOCK] [.br] s u)) ∧
  (∀ r : ReadAt, s.domainOn 7 = true → ∃ u, exec (.brSpecDataRead r) s = .next u ∧ u.resp = [pickBytes r.be s.specWord] ∧
    u.get F.BR_SPEC_SEL_POINT = (if s.get F.BR_SPEC_SEL_POINT = 64 then 0 else (s.get F.BR_SPEC_SEL_POINT + 1) % 2 ^ F.BR_SPEC_SEL_POINT.width) ∧
    OnlyChanges [F.BR_SPEC_SEL_POINT] [.resp] s u)

/-- RTD periods and the housekeeping converters (R267, R268, R269, R274, R275, R277, R278). The model's choices: log entries 35, 36, 42. -/
def Obligations.SensorConversions : Prop := ∀ (s : State) (t : Nat), s.domainOn 3 = true →
  (∀ c vT vP low force sense, c = s.get F.SF_STATUS_CUR → s.scanned.contains c = true → ∃ u, exec (.excitationPeriodEnd t vT vP true low force sense) s = .next u ∧
    u.get (F.SF_STAT_STATE c) = 3 ∧ u.get (F.SF_STAT_STALE c) = 1 ∧
    u.get (F.SF_FAULTS_COUNT c) = min (s.get (F.SF_FAULTS_COUNT c) + 1) (2 ^ (F.SF_FAULTS_COUNT c).width - 1)) ∧
  (∀ c vT vP force sense q w ex, c = s.get F.SF_STATUS_CUR → s.scanned.contains c = true → ex = s.precR * excitation (s.ampOf c) * 100 →
    ex ≤ vT * 500 → 8 * ex ≤ 10 * vP → 10 * vP ≤ 12 * ex → 0 < vP → s.is F.SF_STATUS_PREC_FAULT = false → q = (2 * 4194304 * vT + vP) / (2 * vP) →
    q ≤ 16777215 → s.rtdTemp c q = some w → s.sens.n = 0 → (s.rtd c).fault = false → (s.rtd c).kept = false → 1 < s.navg c →
    ∃ u, exec (.excitationPeriodEnd t vT vP false false force sense) s = .next u ∧ u.get (F.SF_TEMP_T c) = w % 2 ^ 32 ∧ u.get (F.SF_RATIO_Q c) = q ∧
    u.get (F.SF_STAT_STATE c) = 2 ∧ u.get (F.SF_STAT_STALE c) = 0) ∧
  (∀ x, x ≤ 1 → s.hkOwner x = x → s.get (F.HK_CFG_RTRIG x) ≠ 0 → s.get (F.HK_CFG_RTRIG x) ≠ 3 →
    ((s.hk x).reg.isSome = true → ∃ u, exec (.hkRegularTrigger t x) s = .next u ∧
      u.get (F.HK_MISS_COUNT x) = min (s.get (F.HK_MISS_COUNT x) + 1) (2 ^ (F.HK_MISS_COUNT x).width - 1) ∧
      OnlyChanges [F.HK_MISS_COUNT x, F.HK_STAT_MISS_SAT x] [] s u) ∧
    (s.is (F.HK_CFG_PAIR 0) = false → s.is (F.HK_STAT_CAL x) = false → (s.hk x).conv = none → (s.hk x).inj = none → (s.hk x).pend = none →
      (s.hk x).calReq = false → (s.hk x).reg = none → ∃ u, exec (.hkRegularTrigger t x) s = .next u ∧ (u.hk x).conv = some (false, 0, false))) ∧
  (∀ x, x ≤ 1 → (x = 0 ∨ (s.get (F.HK_CFG_ITRIG x) ≠ 0 ∧ s.get (F.HK_CFG_ITRIG x) ≠ 3)) →
    ((s.hk x).inj.isSome = true → ∃ u, exec (.hkInjectedTrigger t x) s = .next u ∧
      u.get (F.HK_MISS_COUNT x) = min (s.get (F.HK_MISS_COUNT x) + 1) (2 ^ (F.HK_MISS_COUNT x).width - 1) ∧
      OnlyChanges [F.HK_MISS_COUNT x, F.HK_STAT_MISS_SAT x] [] s u) ∧
    (s.is (F.HK_CFG_PAIR 0) = false → s.is (F.HK_STAT_CAL x) = false → (s.hk x).conv = none → (s.hk x).inj = none → (s.hk x).pend = none →
      (s.hk x).reg = none → ∃ u, exec (.hkInjectedTrigger t x) s = .next u ∧ (u.hk x).conv = some (true, 0, false))) ∧
  (∀ x code injected e flag, x ≤ 1 → (s.hk x).conv = some (injected, e, flag) → ∃ u, exec (.hkConversionDone t x code) s = .next u ∧
    u.get (F.HK_DATA_VALID x) = 1 ∧ u.get (F.HK_DATA_CODE x) = code % 4096 ∧ u.is (F.HK_DATA_INJ x) = injected ∧
    u.get (F.HK_DATA_ENTRY x) = e % 2 ^ (F.HK_DATA_ENTRY x).width ∧ u.get (F.HK_DATA_INPUT x) = s.hkInput x injected e % 2 ^ (F.HK_DATA_INPUT x).width ∧
    (e < 16 → u.get (F.HK_LAST_CODE x (if injected then 16 + e else e)) = code % 4096)) ∧
  (∀ x, x ≤ 1 → (s.hk x).reg.isSome = true → (s.hk x).promoted = false →
    (s.hk x).regAt + max 2 (min 1000 (s.get (F.HK_DELAY_AGE_LIMIT x))) * us < max s.now t → ∃ u, exec (.hkEntryPromoted t x) s = .next u ∧
    u.get (F.HK_PROM_COUNT x) = min (s.get (F.HK_PROM_COUNT x) + 1) (2 ^ (F.HK_PROM_COUNT x).width - 1)) ∧
  (∀ (r : ReadAt) x, x ≤ 1 → ∃ u, exec (.hkDataRead r x) s = .next u ∧ u.resp = [pickBytes r.be (s.get (F.HK_DATA_VALID x) * 2147483648 + s.get (F.HK_DATA_INJ x) * 1073741824 +
      s.get (F.HK_DATA_CAL_DELAYED x) * 536870912 + s.get (F.HK_DATA_UNPAIRED x) * 268435456 + s.get (F.HK_DATA_ENTRY x) * 16777216 +
      s.get (F.HK_DATA_INPUT x) * 65536 + s.get (F.HK_DATA_CODE x))] ∧
    u.get (F.HK_DATA_VALID x) = 0 ∧ OnlyChanges [F.HK_DATA_VALID x] [.resp] s u) ∧
  (∀ x, x ≤ 1 → s.is (F.HK_STAT_CAL x) = false →
    ((s.hk x).conv = none → (s.hk x).inj = none → (s.hk x).pend = none → ∃ u, exec (.hkCalibration t x) s = .next u ∧ u.get (F.HK_STAT_CAL x) = 1) ∧
    ((s.hk x).conv.isSome = true → ∃ u, exec (.hkCalibration t x) s = .next u ∧ (u.hk x).calReq = true ∧ u.is (F.HK_STAT_CAL x) = false)) ∧
  (∀ x (gain ofs : Int), x ≤ 1 → s.is (F.HK_STAT_CAL x) = true → (s.hk x).calReq = false → ∃ u, exec (.hkCalibrationDone t x gain ofs) s = .next u ∧
    u.get (F.HK_STAT_CAL x) = 0 ∧ (-(2 ^ ((F.HK_CAL_GAIN x).width - 1)) ≤ gain → gain < 2 ^ ((F.HK_CAL_GAIN x).width - 1) → u.getS (F.HK_CAL_GAIN x) = gain) ∧
    (-(2 ^ ((F.HK_CAL_OFS x).width - 1)) ≤ ofs → ofs < 2 ^ ((F.HK_CAL_OFS x).width - 1) → u.getS (F.HK_CAL_OFS x) = ofs))

/-- The TEC loop and the calibration passes (R279, R280, R281, R282, R283). The model's choices: log entries 37, 38, 123. -/
def Obligations.TecAndCalibration : Prop := ∀ (s : State) (t : Nat),
  (∀ (temp err : Int) uMax st, s.sens.tec.startAt = some st →
    err = s.getS F.HK_TEC_CFG_T_SET - (if s.is (F.HK_LAST_SEEN 0 16) then Config.thermistor (s.get (F.HK_LAST_CODE 0 16)) else temp) →
    (s.is (F.HK_LAST_SEEN 0 16) = true → s.get (F.HK_LAST_CODE 0 16) ≠ 0 ∧ s.get (F.HK_LAST_CODE 0 16) ≠ 4095) → err.natAbs ≤ 500 →
    ∃ u, exec (.tecUpdate t temp uMax) s = .next u ∧ u.getS F.HK_TEC_STAT_ERR = err ∧
    u.is F.HK_TEC_STAT_SETTLED = decide (err.natAbs ≤ 50) ∧ u.sens.tec.startAt = some st ∧
    (s.sens.tec.atMax = false → u.sens.tec.i = clampI (-65536000) 65536000 (s.sens.tec.i + s.get F.HK_TEC_GAIN_KI * err)) ∧
    u.sens.tec.u = clampI (-(s.driveLimit uMax : Int)) (s.driveLimit uMax : Int) (s.get F.HK_TEC_GAIN_KP * err + u.sens.tec.i) ∧
    OnlyChanges [F.HK_TEC_STAT_ERR, F.HK_TEC_STAT_SETTLED, F.HK_TEC_STAT_LIMIT] [.sens] s u) ∧
  (∀ (temp : Int) uMax st, s.sens.tec.startAt = some st → s.is (F.HK_LAST_SEEN 0 16) = true →
    (s.get (F.HK_LAST_CODE 0 16) = 0 ∨ s.get (F.HK_LAST_CODE 0 16) = 4095) → ∃ u, exec (.tecUpdate t temp uMax) s = .next u ∧
    u.get F.HK_TEC_STAT_FAULT = 1 ∧ u.get F.OP_LASER_WARM = 0 ∧ u.is F.OP_LASER_LOCKED = false ∧ u.sens.tec.startAt = none ∧ u.sens.tec.u = 0) ∧
  (s.is F.HK_TEC_STAT_FAULT = true → s.sens.tec.startAt = none → s.sens.tec.faultAt + 10000 * ms ≤ max s.now t → ∃ u, exec (.tecRestart t) s = .next u ∧
    u.sens.tec.startAt = some (max s.now t) ∧ OnlyChanges [F.HK_TEC_CFG_T_SET] [.sens] s u) ∧
  (∀ temp : Int, max 10 (min 2000 (s.get F.CL_DELTA_T_DT)) < (s.moduleTemp temp - s.getS F.CL_TEMP_T_REF).natAbs →
    (s.is F.CL_STATUS_RUNNING = true → ∃ u, exec (.moduleTempCheck t temp) s = .next u ∧ u.get F.CL_STATUS_HELD = 1 ∧
      u.sens = { s.sens with temps := [] } ∧ OnlyChanges [F.CL_TEMP_T_NOW, F.CL_STATUS_HELD] [.sens] s u) ∧
    (s.is F.CL_STATUS_RUNNING = false → (s.advance t).calGap = true → ∃ u, exec (.moduleTempCheck t temp) s = .next u ∧ u.sens.cal.due = true ∧
      OnlyChanges [F.CL_TEMP_T_NOW] [.sens] s u)) ∧
  (s.is F.CL_STATUS_RUNNING = false → s.sens.cal.due = true → ∃ u, exec (.calStart t) s = .next u ∧ u.get F.CL_STATUS_RUNNING = 1 ∧
    u.get F.CL_STATUS_HELD = 0 ∧ u.sens.cal.due = false ∧ u.sens.cal.startTemp = s.getS F.CL_TEMP_T_NOW ∧
    OnlyChanges [F.CL_STATUS_RUNNING, F.CL_STATUS_HELD] [.sens] s u) ∧
  (∀ r, s.is F.CL_STATUS_RUNNING = true → s.is F.SB_STATUS_COMMITTED = true → ∃ u, exec (.calPassDone t r) s = .next u ∧
    u.get F.CL_STATUS_RUNNING = 0 ∧ u.get F.CL_PASSES_COUNT = min (s.get F.CL_PASSES_COUNT + 1) (2 ^ F.CL_PASSES_COUNT.width - 1) ∧
    u.sens.cal.lastEnd = some (max s.now t) ∧ u.sens.cal.shadow.isSome = true ∧
    OnlyChanges [F.CL_STATUS_RUNNING, F.CL_TEMP_T_REF, F.CL_PASSES_COUNT, F.CL_SAT_PASS_SAT] [.sens] s u)

/-- Requests, service, promotion and refresh at the memory controller (R292, R296, R298, R300, R303, R304, R307, R308). The model's choices: log entries 48, 49, 50. -/
def Obligations.MemoryRequests : Prop := ∀ (s : State) (t : Nat),
  (∀ port w addr n data fill bin, s.dramBytes < addr + n → exec (.dramRequest t port w addr n data fill bin) s = .fault (.noSuchAddress addr)) ∧
  (∀ port w addr n data fill bin, addr + n ≤ s.dramBytes → s.domainOn 13 = true → s.dram.held = [] → ∃ u r, exec (.dramRequest t port w addr n data fill bin) s = .next u ∧
    r.port = port % 7 ∧ r.write = w ∧ r.addr = addr ∧ r.n = n ∧ r.data = data ∧ r.at_ = max s.now t ∧ r.promoted = false ∧
    u.dram.wait = (if s.dram.slotFree (port % 7) then s.dram.wait ++ [r] else s.dram.wait) ∧
    u.dram.held = (if s.dram.slotFree (port % 7) then [] else [r]) ∧ u.mem = s.mem) ∧
  (∀ r fill c w, s.dram.wait = [r] → s.dram.held = [] → s.dram.forced = [] → r.port < 7 → r.n = 8 → r.addr = 8 * w → 8 * w < s.dramBytes → c = (s.chanOf (8 * w)).1 →
    (r.write = true → ∀ bs, r.data = bs → bs.length = 8 → ∃ u, exec (.dramServe t fill []) s = .next u ∧ u.dram.wait = [] ∧
      u.rdBytes (spaceDram + 8 * w) 8 = bs ∧ u.checkDiff w = 0 ∧
      (∀ a, (a < spaceDram + 8 * w ∨ spaceDram + 8 * w + 8 ≤ a) → a ≠ spaceCheck + w → u.rdByte a = s.rdByte a)) ∧
    (r.write = false → s.checkDiff w = 0 → ∃ u, exec (.dramServe t fill []) s = .next u ∧ u.resp = [0, s.dataWord w] ∧ u.dram.wait = [] ∧ u.mem = s.mem) ∧
    (∀ p y d, r.write = false → s.eccRead w = (.single p, y, d) → ∃ u, exec (.dramServe t fill []) s = .next u ∧ u.resp = [0, d] ∧ u.dataWord w = d % 2 ^ 64 ∧
      u.checkDiff w = 0 ∧ u.get (F.EC_CORR_COUNT c) = min (s.get (F.EC_CORR_COUNT c) + 1) 65535) ∧
    (∀ y d, r.write = false → s.eccRead w = (.bad, y, d) → ∃ u, exec (.dramServe t fill []) s = .next u ∧ u.resp = [1, d] ∧ u.mem = s.mem ∧
      u.get F.EC_UE_COUNT = min (s.get F.EC_UE_COUNT + 1) (2 ^ F.EC_UE_COUNT.width - 1))) ∧
  (∀ r, s.dram.wait = [r] → r.promoted = false → (s.is F.DC_PANIC_PANIC = false ∨ r.port ≠ 0) → s.dram.capDue = false →
    r.at_ + max 1 (min 1000 (s.get F.DC_AGING_AGE_LIMIT)) * us < max s.now t → ∃ u, exec (.requestPromoted t) s = .next u ∧
    u.dram = { s.dram with wait := [{ r with promoted := true }] } ∧
    u.get F.DC_PROMOTED_COUNT = min (s.get F.DC_PROMOTED_COUNT + 1) (2 ^ F.DC_PROMOTED_COUNT.width - 1) ∧
    OnlyChanges [F.DC_PROMOTED_COUNT, F.DC_CNT_SAT_PROM_SAT] [.dram] s u) ∧
  (∀ p, s.dram.panicFrom = some p → p + max 5 (min 1000 (s.get F.DC_AGING_PANIC_MAX)) * us ≤ max s.now t →
    ((∀ r, r ∈ s.dram.wait → r.promoted = false) → ∃ u, exec (.panicCap t) s = .next u ∧ u.dram = { s.dram with capDue := true } ∧ OnlyChanges [] [.dram] s u) ∧
    (∀ r, s.dram.wait.find? (fun r => r.promoted) = some r → ∃ u, exec (.panicCap t) s = .next u ∧
      u.get F.DC_PANIC_CAPS_COUNT = min (s.get F.DC_PANIC_CAPS_COUNT + 1) (2 ^ F.DC_PANIC_CAPS_COUNT.width - 1) ∧ u.dram.capDue = false)) ∧
  (∀ bank mult b, s.domainOn 13 = true → b = bank % (16 * s.channels) →
    (s.dram.wait = [] → ∃ u, exec (.refreshDue t bank mult) s = .next u ∧ kvGet 0 u.dram.open_ b = 0 ∧ u.get F.DC_REFRESH_MULT = min 2 mult ∧
      OnlyChanges [F.DC_REFRESH_MULT] [.dram] s u) ∧
    (s.dram.wait ≠ [] → kvGet 0 s.dram.refs b < 8 → ∃ u, exec (.refreshDue t bank mult) s = .next u ∧
      kvGet 0 u.dram.refs b = kvGet 0 s.dram.refs b + 1 ∧ u.dram.wait = s.dram.wait) ∧
    (s.dram.wait ≠ [] → 8 ≤ kvGet 0 s.dram.refs b → ∃ u, exec (.refreshDue t bank mult) s = .next u ∧ u.dram.forced = s.dram.forced ++ [b] ∧
      u.get F.DC_FORCED_REF_COUNT = min (s.get F.DC_FORCED_REF_COUNT + 1) (2 ^ F.DC_FORCED_REF_COUNT.width - 1))) ∧
  (∃ u, exec (.activationTableClear t) s = .next u ∧ u.dram = { s.dram with acts := [] } ∧ OnlyChanges [] [.dram] s u)

/-- One flipped bit of a memory word is corrected, and two are reported (R295, R296). The model's choices: log entry 49. -/
def Obligations.OneFlipCorrectedTwoReported : Prop := ∀ (s : State) (w b : Nat), 8 * w < s.dramBytes → s.checkDiff w = 0 → b < 72 →
  (∃ p y, (s.flip (w, b)).eccRead w = (.single p, y, s.dataWord w)) ∧
  ∀ c, c < 72 → c ≠ b → (((s.flip (w, b)).flip (w, c)).eccRead w).1 = .bad

/-- The patrols, the event log, the suspect list and the test region (R299, R309, R310, R316, R317, R319, R322). The model's choices: log entries 44, 51, 52, 53. -/
def Obligations.MemoryCare : Prop := ∀ (s : State) (t : Nat), s.domainOn 13 = true →
  (∀ a, a = s.patrolAddr 8192 s.dram.patrol → a < s.dramBytes → s.checkDiff (a / 8) = 0 →
    (s.patrolAddr 8192 (a + 8) < s.dramBytes → ∃ u, exec (.patrolRead t []) s = .next u ∧ u.dram.patrol = s.patrolAddr 8192 (a + 8) ∧
      u.get F.EC_SCRUB_PASS_PASS = s.get F.EC_SCRUB_PASS_PASS ∧ u.mem = s.mem) ∧
    (s.dramBytes ≤ s.patrolAddr 8192 (a + 8) → ∃ u, exec (.patrolRead t []) s = .next u ∧ u.dram.patrol = 0 ∧
      u.get F.EC_SCRUB_PASS_PASS = (s.get F.EC_SCRUB_PASS_PASS + 1) % 2 ^ F.EC_SCRUB_PASS_PASS.width ∧ u.mem = s.mem)) ∧
  (∀ loc code sect, s.dram.sramLoc < loc → ∃ u, exec (.sramPatrol t loc [] code sect) s = .next u ∧ u.dram = { s.dram with sramLoc := loc } ∧ OnlyChanges [] [.dram] s u) ∧
  (∀ loc code sect b, b < 39 → ∃ u, exec (.sramPatrol t loc [b] code sect) s = .next u ∧ u.dram.sramLoc = loc ∧
    u.get F.EC_SRAM_CORR_COUNT = min (s.get F.EC_SRAM_CORR_COUNT + 1) (2 ^ F.EC_SRAM_CORR_COUNT.width - 1) ∧ u.mem = s.mem) ∧
  (∀ y, (∀ i, i < 8 → (s.eng (8 * y + i)).run = none) → ∃ u, exec (.yardCodeReload t y) s = .next u ∧ y ∉ u.dram.reload ∧
    (∀ z, z ≠ y → (z ∈ u.dram.reload ↔ z ∈ s.dram.reload)) ∧ u.fab = { s.fab with bad := s.fab.bad.filter (fun b => !(b.2 && inYard y b.1)) } ∧
    OnlyChanges [] [.dram, .fab] s u) ∧
  (∀ x rest, s.dram.logDue = x :: rest → ∃ u, exec (.eventLogWrite t) s = .next u ∧ u.dram.logDue = rest ∧ u.bt.evlog = s.bt.evlog ++ [(s.logSeq, x)] ∧
    (∀ a, (a < spaceNvm + (s.nvmMib - 1) * 2 ^ 20 + 64 * (s.bt.evlog.length % 16384) ∨
      spaceNvm + (s.nvmMib - 1) * 2 ^ 20 + 64 * (s.bt.evlog.length % 16384) + 64 ≤ a) → u.rdByte a = s.rdByte a) ∧
    OnlyChanges [] [.dram, .bt, .mem, .freeCtr] s u) ∧
  (∀ v c w a d, s.is F.EC_TEST_CTRL_BUSY = false → c = v / 65536 % 2 ^ F.EC_TEST_CTRL_CHANNEL.width → w = v / 8 % 2 ^ F.EC_TEST_CTRL_WORD.width → c < s.channels →
    a = spaceTest + 8192 * c + 16 * w → d = s.get F.EC_TEST_DATA_LO_DATA + 2 ^ 32 * s.get F.EC_TEST_DATA_HI_DATA →
    (∃ u, exec (.ecTestWriteCoded t v) s = .next u ∧ u.rdLE a 8 = d % 2 ^ 64 ∧ u.rdByte (a + 8) = BitVec.ofNat 8 (checkByte d) ∧
      (∀ b, (b < a ∨ a + 9 ≤ b) → u.rdByte b = s.rdByte b) ∧
      OnlyChanges [F.EC_TEST_CTRL_CHANNEL, F.EC_TEST_CTRL_WORD, F.DC_RH_REFRESHES_COUNT, F.DC_CNT_SAT_RH_SAT] [.mem, .dram] s u) ∧
    (∃ u, exec (.ecTestWriteData t v) s = .next u ∧ u.rdLE a 8 = d % 2 ^ 64 ∧ (∀ b, (b < a ∨ a + 8 ≤ b) → u.rdByte b = s.rdByte b) ∧
      OnlyChanges [F.EC_TEST_CTRL_CHANNEL, F.EC_TEST_CTRL_WORD, F.DC_RH_REFRESHES_COUNT, F.DC_CNT_SAT_RH_SAT] [.mem, .dram] s u) ∧
    (∃ u, exec (.ecTestWriteCheck t v) s = .next u ∧ u.rdByte (a + 8) = BitVec.ofNat 8 (s.get F.EC_TEST_CHECK_CHECK) ∧
      (∀ b, b ≠ a + 8 → u.rdByte b = s.rdByte b) ∧
      OnlyChanges [F.EC_TEST_CTRL_CHANNEL, F.EC_TEST_CTRL_WORD, F.DC_RH_REFRESHES_COUNT, F.DC_CNT_SAT_RH_SAT] [.mem, .dram] s u) ∧
    (∀ e, e = eccOf 128 71 (syndromeOf ((s.rdByte (a + 8)).toNat ^^^ checkByte (s.rdLE a 8))) → ∃ u, exec (.ecTestRead t v) s = .next u ∧
      u.get F.EC_TEST_RESULT_RESULT = (match e with | .clean => 0 | .single _ => 1 | .bad => 2) ∧ u.get F.EC_TEST_CHECK_CHECK = (s.rdByte (a + 8)).toNat ∧
      (e = .clean → u.get F.EC_TEST_DATA_LO_DATA + 2 ^ 32 * u.get F.EC_TEST_DATA_HI_DATA = s.rdLE a 8) ∧
      (∀ b, b < 64 → e = .single ((dataPositions 71).getD b 0) →
        u.get F.EC_TEST_DATA_LO_DATA + 2 ^ 32 * u.get F.EC_TEST_DATA_HI_DATA = s.rdLE a 8 ^^^ 2 ^ b) ∧
      OnlyChanges [F.EC_TEST_CTRL_CHANNEL, F.EC_TEST_CTRL_WORD, F.EC_TEST_DATA_LO_DATA, F.EC_TEST_DATA_HI_DATA, F.EC_TEST_CHECK_CHECK,
        F.EC_TEST_RESULT_RESULT, F.EC_TEST_RESULT_SYNDROME, F.EC_TEST_RESULT_POSITION, F.DC_RH_REFRESHES_COUNT, F.DC_CNT_SAT_RH_SAT] [.dram] s u)) ∧
  (∀ v i, i = v % 2 ^ F.EC_SUSPECT_SEL_INDEX.width → ∃ u, exec (.ecSuspectSelWrite t v) s = .next u ∧ u.get F.EC_SUSPECT_SEL_INDEX = i ∧
    u.is F.EC_SUSPECT_A_VALID = decide (i < s.dram.suspects.length) ∧
    (∀ x, s.dram.suspects[i]? = some x → u.is F.EC_SUSPECT_A_SRAM = x.sram ∧ u.is F.EC_SUSPECT_A_UE = x.ue ∧
      u.get F.EC_SUSPECT_B_LOC = x.addr % 2 ^ F.EC_SUSPECT_B_LOC.width) ∧ u.dram = s.dram ∧ u.mem = s.mem)

/-- Frames are placed, posted and returned (R26, R335, R336, R337, R338, R339). The model's choices: log entries 43, 54. -/
def Obligations.FramesFlow : Prop := ∀ (s : State) (t : Nat),
  (∀ f rest, s.built = f :: rest →
    (s.out.disc.contains f.stream = true → ∃ u, exec (.framePlace t) s = .next u ∧ u.built = rest ∧
      u.get F.CX_DISCARDED_COUNT = min (s.get F.CX_DISCARDED_COUNT + 1) (2 ^ F.CX_DISCARDED_COUNT.width - 1) ∧ u.mem = s.mem) ∧
    (∀ coded p, s.out.disc.contains f.stream = false → coded = codeArray (s.modeOf f).1 (s.modeOf f).2 f → s.slotReady = true → (f.aux = true ∨ s.sided = false) →
      s.room 0 ((frameLen coded f + 63) / 64 * 64) = some p → ∃ u bytes flags, exec (.framePlace t) s = .next u ∧ u.built = rest ∧
      bytes = frameBytes (s.get F.FL_STATUS_ID) (kvGet 0 s.out.alive f.stream) (s.out.cur.seq % 2 ^ 32) flags coded f ∧
      u.rdBytes (spaceBar2 + s.windowOffset 0 p) bytes.length = bytes ∧
      (∀ a, (a < spaceBar2 + s.windowOffset 0 p ∨ spaceBar2 + s.windowOffset 0 p + bytes.length ≤ a) → u.rdByte a = s.rdByte a) ∧
      (∃ q, u.out.placed = s.out.placed ++ [q] ∧ q.area = 0 ∧ q.offset = p ∧ q.len = bytes.length ∧ q.stream = f.stream ∧ q.slot = none)) ∧
    (∀ coded, s.out.disc.contains f.stream = false → coded = codeArray (s.modeOf f).1 (s.modeOf f).2 f → s.slotReady = false → f.aux = false →
      s.room 1 ((frameLen coded f + 63) / 64 * 64) = none → rest = [] → ∃ u, exec (.framePlace t) s = .next u ∧ u.built = s.built ∧
      u.is F.CX_STATUS_BLOCKED = true ∧ u.out.placed = s.out.placed ∧ u.mem = s.mem)) ∧
  (∀ p slot, s.nextPost = some p → slot = s.get F.HW_RING_NEXT_SLOT →
    (s.owns slot = true → ∃ u d, exec (.framePost t false) s = .next u ∧ u.desc slot = d ∧ d.length = p.len ∧ d.offset = s.windowOffset p.area p.offset ∧
      d.control = s.get F.HW_RING_NEXT_LAP ∧ (∀ k, k ≠ slot → u.desc k = s.desc k) ∧
      u.get F.HW_RING_POSTED_COUNT = (s.get F.HW_RING_POSTED_COUNT + 1) % 2 ^ F.HW_RING_POSTED_COUNT.width ∧ u.mem = s.mem) ∧
    (∃ u, exec (.framePost t true) s = .next u ∧ u.out = s.out ∧ u.mem = s.mem ∧
      u.get F.HW_SKIPPED_COUNT = min (s.get F.HW_SKIPPED_COUNT + 1) (2 ^ F.HW_SKIPPED_COUNT.width - 1))) ∧
  (∀ slot, s.domainOn 13 = true → slot < s.get F.HW_RING_SIZE_SIZE → s.owns slot = false → ∃ u, exec (.ringReturn t slot) s = .next u ∧ u.owns slot = true ∧
    (∀ k, k ≠ slot → u.desc k = s.desc k) ∧ (∀ p, p ∈ u.out.placed → p.slot = some slot → p.back = true) ∧ u.mem = s.mem) ∧
  (s.domainOn 14 = true → ∃ u, exec (.bar2WriteRejected t) s = .next u ∧
    u.get F.HW_BAD_WRITES_COUNT = min (s.get F.HW_BAD_WRITES_COUNT + 1) (2 ^ F.HW_BAD_WRITES_COUNT.width - 1) ∧
    OnlyChanges [F.HW_BAD_WRITES_COUNT, F.HW_CNT_SAT_BADW_SAT] [] s u)

/-- The discard set, the seals and the check-value units (R339, R340, R342, R344, R345). The model's choices: log entries 2, 45, 54, 55, 56. -/
def Obligations.DiscardsSealsAndScans : Prop := ∀ (s : State) (t : Nat),
  (∀ k, (s.advance t).joinDue = true → s.sectionOrder.find? (fun k => !s.out.disc.contains k) = some k → ∃ u, exec (.discardJoin t) s = .next u ∧
    u.out.disc = k :: s.out.disc ∧ u.out.discAt = max s.now t ∧ u.built = s.built.filter (fun f => f.stream != k) ∧ u.mem = s.mem) ∧
  (∀ k ks u0, s.out.disc = k :: ks → s.out.freeAt = some u0 → s.is F.CX_STATUS_BLOCKED = false →
    max u0 s.out.discAt + max 1 (s.get F.FB_SHED_CFG_HOLD) * ms ≤ max s.now t → ∃ u, exec (.discardLeave t) s = .next u ∧ u.out.disc = ks ∧
    u.out.discAt = max s.now t ∧ u.is F.CX_STATUS_DISCARDING = !ks.isEmpty ∧ u.built = s.built ∧ u.mem = s.mem) ∧
  (∀ x rest, s.out.due = x :: rest → (s.unposted.filter (fun p => p.area == 5)).length < 64 → ∃ u q, exec (.sealPost t) s = .next u ∧ u.out.due = rest ∧
    u.out.placed = s.out.placed ++ [q] ∧ q.area = 5 ∧ q.stream = 258 ∧ q.offset = s.sealPlace * 2 ^ 15 ∧ u.out.prevHash = sha256 (s.signSeal (s.sealRecord x)) ∧
    u.out.chainStart = false ∧ u.out.sealSeq = (s.out.sealSeq + 1) % 2 ^ 32 ∧ u.out.sealLost = 0) ∧
  (∀ n, s.domainOn 14 = true → n < 4 → s.get (F.CK_CTRL_MODE n) ≠ 1 → s.is (F.CK_CTRL_BUSY n) = false →
    (s.scanRefusal n = 0 → ∃ u, exec (.scanStart t n) s = .next u ∧ u.get (F.CK_CTRL_BUSY n) = 1 ∧ u.get (F.CK_CTRL_REFUSED n) = 0 ∧
      OnlyChanges [F.CK_CTRL_BUSY n, F.CK_CTRL_REFUSED n] [.out] s u) ∧
    (s.scanRefusal n ≠ 0 → ∃ u, exec (.scanStart t n) s = .next u ∧ u.get (F.CK_CTRL_REFUSED n) = s.scanRefusal n ∧ u.get (F.CK_CTRL_DONE n) = 1 ∧
      OnlyChanges [F.CK_CTRL_DONE n, F.CK_CTRL_REFUSED n] [] s u)) ∧
  (∀ n w, n < 4 → s.is (F.CK_CTRL_BUSY n) = true → w = s.get (F.CK_FMT_WIDTH n) → ∃ u r, exec (.scanDone t n) s = .next u ∧
    r = crcEnd w (s.is (F.CK_FMT_REFOUT n)) ((s.get (F.CK_XOR_LO_VALUE n) + 2 ^ 32 * s.get (F.CK_XOR_HI_VALUE n)) % 2 ^ w)
      (s.scanGo w ((s.get (F.CK_POLY_LO_VALUE n) + 2 ^ 32 * s.get (F.CK_POLY_HI_VALUE n)) % 2 ^ w) (s.is (F.CK_FMT_REFIN n)) (s.get (F.CK_SRC_SPACE n))
        (s.get (F.CK_SRC_ADDR_HI n)) (s.get (F.CK_LEN_VALUE n)) (s.get (F.CK_ADDR_VALUE n))
        ((s.get (F.CK_INIT_LO_VALUE n) + 2 ^ 32 * s.get (F.CK_INIT_HI_VALUE n)) % 2 ^ w)) ∧
    u.get (F.CK_RES_LO_VALUE n) = r % 2 ^ 32 ∧ u.get (F.CK_RES_HI_VALUE n) = r / 2 ^ 32 % 2 ^ 32 ∧ u.get (F.CK_CTRL_BUSY n) = 0 ∧ u.get (F.CK_CTRL_DONE n) = 1 ∧
    OnlyChanges [F.CK_RES_LO_VALUE n, F.CK_RES_HI_VALUE n, F.CK_CTRL_BUSY n, F.CK_CTRL_DONE n] [.out] s u)

/-- The notice board's index, the vectors and the function (R346, R348, R350, R355). The model's choices: log entries 13, 57. -/
def Obligations.HostLink : Prop := ∀ (s : State) (t : Nat), s.domainOn 14 = true →
  (∀ v, indexOk (s.get F.HW_NB_WR_COUNT) (s.get F.HW_NB_RD_COUNT) (v % 2 ^ 32) = true → ∃ u, exec (.hwNbRdWrite t v) s = .next u ∧ u.get F.HW_NB_RD_COUNT = v % 2 ^ 32) ∧
  (∀ v, indexOk (s.get F.HW_NB_WR_COUNT) (s.get F.HW_NB_RD_COUNT) (v % 2 ^ 32) = false → ∃ u, exec (.hwNbRdWrite t v) s = .next u ∧
    u.get F.HW_NB_STAT_RD_ERR = 1 ∧ OnlyChanges [F.HW_NB_STAT_RD_ERR] [] s u) ∧
  (∀ v, s.Settled → ∃ u, exec (.irqPendClear t v) s = .next u ∧
    (∀ b, b < 32 → (u.get F.HW_IRQ_PEND_PEND).testBit b = ((s.get F.HW_IRQ_PEND_PEND).testBit b && !v.testBit b)) ∧ OnlyChanges [] [] s u) ∧
  (∀ t0, s.Settled → s.ev.oldest = some t0 → s.get F.HW_IRQ_CFG_USEC ≠ 0 → t0 + s.get F.HW_IRQ_CFG_USEC * us ≤ max s.now t →
    s.ev.masked.testBit 0 = false → (s.get F.HW_IRQ_PEND_PEND).testBit 0 = false → ∃ u, exec (.frameVectorTimeout t) s = .next u ∧
    kvGet 0 u.ev.messages 0 = kvGet 0 s.ev.messages 0 + 1 ∧ u.ev.unannounced = 0 ∧ u.ev.oldest = none ∧ (u.get F.HW_IRQ_PEND_PEND).testBit 0 = true) ∧
  (∀ v, s.Settled → v < 32 → ∃ u, exec (.msixUnmask t v) s = .next u ∧ u.ev.masked.testBit v = false ∧ u.ev.pba.testBit v = false ∧
    kvGet 0 u.ev.messages v = kvGet 0 s.ev.messages v + (if s.ev.pba.testBit v then 1 else 0) ∧
    (∀ b, b < 32 → b ≠ v → u.ev.masked.testBit b = s.ev.masked.testBit b)) ∧
  (s.Settled → ∃ u, exec (.functionReset t) s = .next u ∧ u.ev.masked = 0xFFFFFFFF ∧ u.ev.pba = 0 ∧ u.get F.HW_IRQ_PEND_PEND = 0 ∧ u.get F.HW_BAD_WRITES_COUNT = 0 ∧
    u.get F.HW_SKIPPED_COUNT = 0 ∧ u.get F.HW_NB_LOST_COUNT = 0 ∧ u.out.d3 = false ∧ u.out.placed = s.out.placed ∧ u.mem = s.mem) ∧
  (s.is F.HW_LINK_UP = true → ∃ u, exec (.linkDown t) s = .next u ∧ u.get F.HW_LINK_UP = 0 ∧ u.get F.HW_LINK_SPEED = 0 ∧ u.get F.HW_LINK_WIDTH = 0 ∧
    u.ev.masked = 0xFFFFFFFF ∧ u.get F.HW_BAD_WRITES_COUNT = 0 ∧ u.out.d3 = false ∧ u.mem = s.mem) ∧
  (∀ speed width, s.is F.HW_LINK_UP = false → ∃ u, exec (.linkUp t speed width) s = .next u ∧ u.get F.HW_LINK_UP = 1 ∧
    u.get F.HW_LINK_SPEED = max 1 (min 4 speed) ∧ (u.get F.HW_LINK_WIDTH = 1 ∨ u.get F.HW_LINK_WIDTH = 2 ∨ u.get F.HW_LINK_WIDTH = 4) ∧
    OnlyChanges [F.HW_LINK_UP, F.HW_LINK_SPEED, F.HW_LINK_WIDTH] [] s u) ∧
  (∀ on, ∃ u, exec (.d3hot t on) s = .next u ∧ u.out = { s.out with d3 := on } ∧ OnlyChanges [] [.out] s u)

/-- REF10M and PPS qualify, are lost and move the time state (R105, R357, R358, R359, R360). The model's choices: log entries 6, 58, 59, 124. -/
def Obligations.TimeReferences : Prop := ∀ (s : State) (t : Nat), s.ownRef = true →
  (s.is F.TB_STATUS_REF_QUAL = false → ∃ u, exec (.refQualified t) s = .next u ∧ u.get F.TB_STATUS_REF_PRESENT = 1 ∧
    u.get F.TB_STATUS_REF_QUAL = 1 ∧ u.get F.SL_STATUS_REF_SRC = (if s.get F.SL_STATUS_CLK_STATE = 1 then s.get F.SL_STATUS_REF_SRC else 1) ∧
    OnlyChanges [F.TB_STATUS_REF_PRESENT, F.TB_STATUS_REF_QUAL, F.SL_STATUS_REF_SRC] [] s u) ∧
  (∀ edges, s.is F.TB_STATUS_REF_QUAL = true → ∃ u, exec (.refLost t edges) s = .next u ∧ u.get F.TB_STATUS_REF_QUAL = 0 ∧
    u.is F.TB_STATUS_REF_PRESENT = edges ∧ u.get F.SL_STATUS_REF_SRC = 0 ∧
    u.get F.SL_STATUS_CLK_STATE = (if s.get F.SL_STATUS_CLK_STATE = 1 then 2
      else if s.get F.SL_STATUS_CLK_STATE = 0 ∧ s.domainOn 6 = true then 3 else s.get F.SL_STATUS_CLK_STATE) ∧
    OnlyChanges [F.TB_STATUS_REF_PRESENT, F.TB_STATUS_REF_QUAL, F.SL_STATUS_REF_SRC, F.SL_STATUS_CLK_STATE, F.SL_CLK_FERR_FERR] [.freeCtr] s u) ∧
  (∀ e, e = phaseError (divRound ((s.count (max s.now t) : Int) * 10 - s.getS F.TB_PPS_CFG_IN_COMP * 65536) 10) →
    ∃ u, exec (.ppsEdge t) s = .next u ∧ u.get F.TB_STATUS_PPS_PRESENT = 1 ∧ u.tref.lastE = e ∧ u.tref.edgeAt = some (max s.now t) ∧
    u.get F.TB_PPS_ERR_E = ((clampI (-2147483647) 2147483647 (divRound (e * 10) 65536)) % 4294967296).toNat ∧
    (s.get F.TB_STATUS_TIME_STATE = 1 → us < e.natAbs → s.tref.glitches < 2 → u.tref.glitches = s.tref.glitches + 1 ∧ u.tb = s.tb ∧
      u.get F.TB_STATUS_TIME_STATE = 1 ∧ u.get F.TB_STATUS_PPS_QUAL = s.get F.TB_STATUS_PPS_QUAL) ∧
    (s.is F.TB_STATUS_PPS_QUAL = true → s.get F.TB_STATUS_TIME_STATE = 1 → e.natAbs ≤ 10 * ns → u.get F.TB_STATUS_TIME_STATE = 1 ∧
      u.tref.glitches = 0 ∧ u.tb = ⟨s.tb.off + s.slewed (max s.now t), -e, max s.now t⟩) ∧
    (s.is F.TB_STATUS_PPS_QUAL = true → s.get F.TB_STATUS_TIME_STATE = 1 → 10 * ns < e.natAbs → e.natAbs ≤ us →
      u.get F.TB_STATUS_TIME_STATE = 3 ∧ u.tref.leftAt = some (max s.now t) ∧ u.tb = ⟨s.tb.off + s.slewed (max s.now t), -e, max s.now t⟩) ∧
    (s.is F.TB_STATUS_PPS_QUAL = true → s.get F.TB_STATUS_TIME_STATE = 3 → s.tref.small = 2 → e.natAbs ≤ 10 * ns →
      u.get F.TB_STATUS_TIME_STATE = 1 ∧ u.tref.leftAt = none) ∧
    (∀ p q r, s.is F.TB_STATUS_PPS_QUAL = false → s.get F.TB_STATUS_TIME_STATE = 0 → s.tref.run = [p, q, r] →
      ((max s.now t : Nat) - (p : Int) - (1000 * ms : Nat)).natAbs ≤ us →
      u.get F.TB_STATUS_PPS_QUAL = 1 ∧ u.tref.step = some (-e) ∧ u.tb = s.tb ∧ u.get F.TB_STATUS_TIME_STATE = 0) ∧
    OnlyChanges [F.TB_STATUS_PPS_PRESENT, F.TB_STATUS_PPS_QUAL, F.TB_STATUS_TIME_STATE, F.TB_PPS_ERR_E] [.tref, .tb, .fl] s u) ∧
  (∀ g, s.is F.TB_STATUS_PPS_QUAL = true → s.tref.goodAt = some g → g + 1100 * ms ≤ t → s.tref.run.length < 4 →
    ∃ u, exec (.ppsLost t) s = .next u ∧ u.get F.TB_STATUS_PPS_QUAL = 0 ∧
    u.get F.TB_STATUS_TIME_STATE = (if s.get F.TB_STATUS_TIME_STATE = 1 ∨ s.get F.TB_STATUS_TIME_STATE = 3 then 2 else s.get F.TB_STATUS_TIME_STATE) ∧
    OnlyChanges [F.TB_STATUS_PPS_PRESENT, F.TB_STATUS_PPS_QUAL, F.TB_STATUS_TIME_STATE] [.tref, .tb, .fl] s u)

/-- Second boundaries apply steps and epochs, and the stamp registers latch whole stamps (R13, R356, R360, R361, R362, R380). The model's choices: log entries 6, 58. -/
def Obligations.SecondsAndEpochs : Prop := ∀ (s : State) (t : Nat), s.domainOn 2 = true →
  (∃ u, exec (.secondBoundary t) s = .next u ∧ u.tref.step = none ∧
    (s.tref.epoch = none → s.tref.step = none → u.tb = s.tb ∧ u.get F.TB_STATUS_TIME_STATE = s.get F.TB_STATUS_TIME_STATE) ∧
    (∀ e, s.tref.epoch = none → s.tref.step = some e → u.tb = { s.tb with off := s.tb.off + e } ∧
      u.get F.TB_STATUS_TIME_STATE = (if s.get F.TB_STATUS_TIME_STATE = 0 then 1 else s.get F.TB_STATUS_TIME_STATE)) ∧
    (∀ v, s.tref.epoch = some (v, false) → s.tref.epochAt = none → s.tref.step = none → u.tref.epoch = none ∧ u.get F.TB_STATUS_EPOCH_PENDING = 0 ∧
      u.tb = { s.tb with off := s.tb.off + ((v : Int) - ((s.count (max s.now t) + 500 * ms) / (1000 * ms) : Nat)) * (1000 * ms : Nat) } ∧
      u.get F.TB_STATUS_TIME_STATE = s.get F.TB_STATUS_TIME_STATE) ∧
    (s.is F.TB_PPS_CFG_OUT_EN = true → s.tref.ppsRise = none → u.tref.ppsOut = true ∧ u.tref.ppsRise = some (max s.now t)) ∧
    (s.is F.TB_PPS_CFG_OUT_EN = false → u.tref.ppsOut = s.tref.ppsOut ∧ u.tref.ppsRise = s.tref.ppsRise) ∧
    (s.domainOn 8 = true → u.get F.FP_LOAD_BINS_RATE = min (s.fp.bins / 1000) (2 ^ F.FP_LOAD_BINS_RATE.width - 1) ∧
      u.get F.FP_LOAD_CHAN_RATE = min (s.fp.chans / 1000) (2 ^ F.FP_LOAD_CHAN_RATE.width - 1) ∧
      u.get F.FP_LOAD_SEG_RATE = min s.fp.segs (2 ^ F.FP_LOAD_SEG_RATE.width - 1) ∧ u.fp = { s.fp with bins := 0, chans := 0, segs := 0 }) ∧
    OnlyChanges [F.TB_STATUS_EPOCH_PENDING, F.TB_STATUS_TIME_STATE, F.CX_SEAL_SEQ_SEQ, F.FP_LOAD_BINS_RATE, F.FP_LOAD_CHAN_RATE, F.FP_LOAD_SEG_RATE]
      [.tref, .tb, .out, .fp] s u) ∧
  (∀ r, s.tref.ppsRise = some r → r + max 1 (min 500 (s.get F.TB_PPS_CFG_OUT_WIDTH)) * ms ≤ t →
    ∃ u, exec (.ppsOutPulseEnd t) s = .next u ∧ u.tref = { s.tref with ppsOut := false } ∧ OnlyChanges [] [.tref] s u) ∧
  (∀ (r : ReadAt) c, c = stampOf (s.count (max s.now r.at_)) → ∃ u, exec (.tbNowRead r) s = .next u ∧ u.resp = [pickBytes r.be (c % 2 ^ 32)] ∧
    u.get F.TB_NOW1_VALUE = c / 2 ^ 32 % 2 ^ 32 ∧ u.get F.TB_NOW2_VALUE = c / 2 ^ 64 % 2 ^ 32 ∧
    OnlyChanges [F.TB_NOW0_VALUE, F.TB_NOW1_VALUE, F.TB_NOW2_VALUE] [.resp] s u) ∧
  (∀ r : ReadAt, ∃ u, exec (.stampWord0Read r 0) s = .next u ∧ u.resp = [pickBytes r.be (s.tref.trigStamp % 2 ^ 32)] ∧
    u.get F.TB_TRIG_LAST1_VALUE = s.tref.trigStamp / 2 ^ 32 % 2 ^ 32 ∧ u.get F.TB_TRIG_LAST2_VALUE = s.tref.trigStamp / 2 ^ 64 % 2 ^ 32 ∧
    OnlyChanges [F.TB_TRIG_LAST0_VALUE, F.TB_TRIG_LAST1_VALUE, F.TB_TRIG_LAST2_VALUE] [.resp] s u) ∧
  (∀ r : ReadAt, ∃ u, exec (.stampWord0Read r 1) s = .next u ∧ u.resp = [pickBytes r.be (s.sched.trigStamp % 2 ^ 32)] ∧
    u.get F.TB_TL_LAST1_VALUE = s.sched.trigStamp / 2 ^ 32 % 2 ^ 32 ∧ u.get F.TB_TL_LAST2_VALUE = s.sched.trigStamp / 2 ^ 64 % 2 ^ 32 ∧
    OnlyChanges [F.TB_TL_LAST0_VALUE, F.TB_TL_LAST1_VALUE, F.TB_TL_LAST2_VALUE] [.resp] s u) ∧
  (∀ r : ReadAt, ∃ u, exec (.stampWord0Read r 2) s = .next u ∧ u.resp = [pickBytes r.be (s.sched.launchStamp % 2 ^ 32)] ∧
    u.get F.TB_LAUNCH_LAST1_VALUE = s.sched.launchStamp / 2 ^ 32 % 2 ^ 32 ∧ u.get F.TB_LAUNCH_LAST2_VALUE = s.sched.launchStamp / 2 ^ 64 % 2 ^ 32 ∧
    OnlyChanges [F.TB_LAUNCH_LAST0_VALUE, F.TB_LAUNCH_LAST1_VALUE, F.TB_LAUNCH_LAST2_VALUE] [.resp] s u) ∧
  (∀ v, v.testBit 31 = true → s.get F.FL_STATUS_ID ≠ 0 → ∃ u, exec (.epochWrite t v) s = .next u ∧ u.get F.TB_EPOCH_HI_IGNORED = 1 ∧
    OnlyChanges [F.TB_EPOCH_HI_IGNORED] [] s u) ∧
  (∀ v, v.testBit 31 = true → s.get F.FL_STATUS_ID = 0 → ∃ u, exec (.epochWrite t v) s = .next u ∧
    u.get F.TB_EPOCH_HI_SEC_HI = v % 65536 ∧ u.get F.TB_STATUS_EPOCH_PENDING = 1 ∧
    u.tref = { s.tref with epoch := some (v % 65536 * 4294967296 + s.get F.TB_EPOCH_LO_SEC_LO,
      decide (s.get F.TB_STATUS_TIME_STATE = 1 ∨ s.get F.TB_STATUS_TIME_STATE = 3)), epochAt := none } ∧
    OnlyChanges [F.TB_EPOCH_HI_IGNORED, F.TB_EPOCH_HI_SEC_HI, F.TB_STATUS_EPOCH_PENDING] [.tref, .fl] s u) ∧
  (∀ v, v.testBit 31 = false → ∃ u, exec (.epochWrite t v) s = .next u ∧ u.get F.TB_EPOCH_HI_SEC_HI = v % 65536 ∧
    u.get F.TB_EPOCH_HI_IGNORED = (if v.testBit 30 then 0 else s.get F.TB_EPOCH_HI_IGNORED) ∧
    OnlyChanges [F.TB_EPOCH_HI_IGNORED, F.TB_EPOCH_HI_SEC_HI] [] s u)

/-- TRIG_IN and the event inputs stamp their edges (R364, R366, R367, R368). The model's choices: log entry 60. -/
def Obligations.EventInputs : Prop := ∀ (s : State) (t : Nat), s.domainOn 2 = true →
  ((∀ x, s.tref.trigAt = some x → x + max 10 (s.get F.TB_TRIG_CFG_HOLDOFF) * (10 * ns) ≤ max s.now t) →
    ∃ u, exec (.trigInEdge t) s = .next u ∧
    u.tref = { s.tref with trigAt := some (max s.now t), trigStamp := stampOf (s.count (max s.now t)) } ∧
    u.get F.TB_TRIG_COUNT_COUNT = min (s.get F.TB_TRIG_COUNT_COUNT + 1) (2 ^ F.TB_TRIG_COUNT_COUNT.width - 1) ∧
    u.tb = s.tb ∧ u.evt = s.evt ∧ u.opt.off = s.opt.off ∧ u.mem = s.mem) ∧
  (∀ x, s.tref.trigAt = some x → max s.now t < x + max 10 (s.get F.TB_TRIG_CFG_HOLDOFF) * (10 * ns) →
    ∃ u, exec (.trigInEdge t) s = .next u ∧ OnlyChanges [] [] s u) ∧
  (∀ n fall, n < 8 →
    (s.edgeWanted n fall = false → ∃ u, exec (.evtEdge t n fall) s = .next u ∧ OnlyChanges [] [] s u) ∧
    (s.edgeWanted n fall = true → ∃ u, exec (.evtEdge t n fall) s = .next u ∧ (u.evIn n).edges = (s.evIn n).edges + 1 ∧
      (u.evIn n).last = some (max s.now t) ∧ (∀ m, m ≠ n → u.evIn m = s.evIn m) ∧
      (∀ x, (s.evIn n).last = some x → max s.now t < x + (if n < 2 then 4 * ns else 10 * ns) →
        (u.evIn n).queue = (s.evIn n).queue ∧ (u.evIn n).loss = true ∧ u.get (F.TB_EVT_STAT_DROPPED n) = s.get (F.TB_EVT_STAT_DROPPED n)) ∧
      ((∀ x, (s.evIn n).last = some x → x + (if n < 2 then 4 * ns else 10 * ns) ≤ max s.now t) → (s.evIn n).queue.length < 1024 →
        (u.evIn n).queue = (s.evIn n).queue ++ [⟨stampOf (s.count (max s.now t)), fall, decide (s.get F.TB_STATUS_TIME_STATE ≠ 1), (s.evIn n).loss,
          ((s.evIn n).edges + 1) % 65536⟩] ∧ (u.evIn n).loss = false ∧ u.get (F.TB_EVT_STAT_LEVEL n) = (s.evIn n).queue.length + 1 ∧
        u.get (F.TB_EVT_STAT_DROPPED n) = s.get (F.TB_EVT_STAT_DROPPED n)) ∧
      ((∀ x, (s.evIn n).last = some x → x + (if n < 2 then 4 * ns else 10 * ns) ≤ max s.now t) → 1024 ≤ (s.evIn n).queue.length →
        (u.evIn n).queue = (s.evIn n).queue ∧ (u.evIn n).loss = true ∧
        u.get (F.TB_EVT_STAT_DROPPED n) = min (s.get (F.TB_EVT_STAT_DROPPED n) + 1) (2 ^ (F.TB_EVT_STAT_DROPPED n).width - 1)) ∧
      OnlyChanges [F.TB_EVT_STAT_LEVEL n, F.TB_EVT_STAT_DROPPED n, F.TB_EVT_STAT_DSAT n] [.evt] s u) ∧
    (s.is (F.TB_EVT_CFG_EN n) = true → s.get (F.TB_EVT_CFG_TMO n) ≠ 0 → (s.evIn n).silent = false →
      (s.evIn n).from_ + s.get (F.TB_EVT_CFG_TMO n) * ms ≤ t →
      ∃ u, exec (.evtTimeout t n) s = .next u ∧ u.evIn n = { s.evIn n with silent := true } ∧ u.get (F.TB_EVT_STAT_TIMEOUT n) = 1 ∧
      OnlyChanges [F.TB_EVT_STAT_LEVEL n, F.TB_EVT_STAT_TIMEOUT n] [.evt] s u) ∧
    (∀ r : ReadAt, (s.evIn n).queue = [] → ∃ u, exec (.evtQueueRead r n) s = .next u ∧ u.resp = [0] ∧ (u.get (F.TB_EVT_Q3_WORD n)).testBit 31 = false ∧
      OnlyChanges [F.TB_EVT_Q3_WORD n] [.resp] s u) ∧
    (∀ (r : ReadAt) e rest, (s.evIn n).queue = e :: rest → e.count < 65536 → ∃ u, exec (.evtQueueRead r n) s = .next u ∧
      u.resp = [pickBytes r.be (e.stamp % 2 ^ 32)] ∧
      u.get (F.TB_EVT_Q1_WORD n) = e.stamp / 2 ^ 32 % 2 ^ 32 ∧ u.get (F.TB_EVT_Q2_WORD n) = e.stamp / 2 ^ 64 % 2 ^ 32 ∧
      u.get (F.TB_EVT_Q3_WORD n) =
        2 ^ 31 + (if e.falling then 2 ^ 30 else 0) + (if e.hold then 2 ^ 29 else 0) + (if e.loss then 2 ^ 28 else 0) + e.count ∧
      u.evIn n = { s.evIn n with queue := rest } ∧
      OnlyChanges [F.TB_EVT_STAT_LEVEL n, F.TB_EVT_Q0_WORD n, F.TB_EVT_Q1_WORD n, F.TB_EVT_Q2_WORD n, F.TB_EVT_Q3_WORD n] [.evt, .resp] s u))

/-- Statistics of an event input start, complete and are read together (R370, R371). The model's choices: log entries 62, 124. -/
def Obligations.InputStatistics : Prop := ∀ (s : State) (t n : Nat), s.domainOn 2 = true → n < 8 →
  (∀ v, v.testBit 31 = true → ∃ u, exec (.statGo t n v) s = .next u ∧ u.evIn n = { s.evIn n with meas := some {}, latched := false } ∧
    u.get (F.TB_STAT_STAT_BUSY n) = 1 ∧ u.get (F.TB_STAT_CFG_PARAM n) = v % 2 ^ 24 ∧ u.get (F.TB_STAT_CFG_MODE n) = v / 2 ^ 28 % 2 ∧
    u.get (F.TB_STAT_CFG_EVT n) = v / 2 ^ 29 % 2 ∧ u.get (F.TB_STAT_CFG_CONT n) = v / 2 ^ 30 % 2 ∧
    OnlyChanges [F.TB_STAT_STAT_BUSY n, F.TB_STAT_CFG_PARAM n, F.TB_STAT_CFG_MODE n, F.TB_STAT_CFG_EVT n, F.TB_STAT_CFG_CONT n,
      F.TB_EVT_STAT_LEVEL n] [.evt] s u) ∧
  (∀ m, (s.evIn n).meas = some m → s.get (F.TB_STAT_CFG_MODE n) = 1 → m.deltas.length = max 1 (s.get (F.TB_STAT_CFG_PARAM n)) →
    ∃ u, exec (.statDone t n) s = .next u ∧ u.get (F.TB_STAT_STAT_DONE n) = 1 ∧
    u.is (F.TB_STAT_STAT_BUSY n) = s.is (F.TB_STAT_CFG_CONT n) ∧
    (u.evIn n).meas = (if s.is (F.TB_STAT_CFG_CONT n) then some {} else none) ∧
    (u.evIn n).res.a = divRound (m.deltas.foldl (· + ·) 0) m.deltas.length ∧ (u.evIn n).res.count = m.deltas.length ∧
    (∀ d ∈ m.deltas, (u.evIn n).res.c ≤ d ∧ d ≤ (u.evIn n).res.d) ∧ (u.evIn n).res.c ∈ m.deltas ∧ (u.evIn n).res.d ∈ m.deltas ∧
    ((s.evIn n).latched = false → u.get (F.TB_STAT_A_LO_VALUE n) = ((u.evIn n).res.a % 4294967296).toNat) ∧
    ((s.evIn n).latched = true → u.get (F.TB_STAT_A_LO_VALUE n) = s.get (F.TB_STAT_A_LO_VALUE n))) ∧
  (∀ r : ReadAt, ∃ u, exec (.statResultRead r n) s = .next u ∧ u.evIn n = { s.evIn n with latched := true } ∧
    u.resp = [pickBytes r.be ((s.evIn n).res.a % 4294967296).toNat] ∧ u.get (F.TB_STAT_A_LO_VALUE n) = ((s.evIn n).res.a % 4294967296).toNat ∧
    (∀ i, i ≠ n → u.evIn i = s.evIn i))

/-- Ports come up and go down, and the array is numbered (R105, R357, R372, R375). The model's choices: log entry 64. -/
def Obligations.ArrayPorts : Prop := ∀ (s : State) (t : Nat),
  (∀ port, s.domainOn 15 = true → port < 2 → s.portUp port = false → ∃ u, exec (.flLinkUp t port) s = .next u ∧ u.portUp port = true ∧
    (s.get F.FL_STATUS_ID = 0 → u.get F.SL_STATUS_REF_SRC = s.get F.SL_STATUS_REF_SRC) ∧
    (s.get F.FL_STATUS_ID ≠ 0 → s.get F.FL_STATUS_SRC_PORT = port → u.get F.SL_STATUS_REF_SRC = 2) ∧
    OnlyChanges [if port = 0 then F.FL_STATUS_UP_LINK else F.FL_STATUS_DOWN_LINK, F.SL_STATUS_REF_SRC] [] s u) ∧
  (∀ port, s.domainOn 15 = true → port < 2 → s.portUp port = true → ∃ u, exec (.flLinkDown t port) s = .next u ∧ u.portUp port = false ∧
    u.get (if port = 0 then F.FL_DELAY_UP_VALID else F.FL_DELAY_DOWN_VALID) = 0 ∧ u.portUp (1 - port) = s.portUp (1 - port) ∧
    (s.get F.FL_STATUS_ID ≠ 0 → s.get F.FL_STATUS_SRC_PORT = port → u.get F.SL_STATUS_REF_SRC = 0 ∧
      u.get F.TB_STATUS_TIME_STATE = (if s.get F.TB_STATUS_TIME_STATE = 1 ∨ s.get F.TB_STATUS_TIME_STATE = 3 then 2 else s.get F.TB_STATUS_TIME_STATE) ∧
      u.get F.SL_STATUS_CLK_STATE = (if s.get F.SL_STATUS_CLK_STATE = 1 then 2
        else if s.get F.SL_STATUS_CLK_STATE = 0 ∧ s.domainOn 6 = true then 3 else s.get F.SL_STATUS_CLK_STATE)) ∧
    ((s.get F.FL_STATUS_ID = 0 ∨ s.get F.FL_STATUS_SRC_PORT ≠ port) →
      OnlyChanges [if port = 0 then F.FL_STATUS_UP_LINK else F.FL_STATUS_DOWN_LINK,
        if port = 0 then F.FL_DELAY_UP_VALID else F.FL_DELAY_DOWN_VALID] [] s u)) ∧
  (∀ path src, s.get F.FL_STATUS_ID ≠ 0 → s.get F.FL_STATUS_TOPOLOGY = 2 → s.get F.FL_STATUS_SRC_PORT = src → src < 2 → s.portUp src = false →
    s.portUp (1 - src) = true → ∃ u, exec (.arrayRetimed t path) s = .next u ∧ u.get F.FL_STATUS_SRC_PORT = 1 - src ∧
    u.get F.FL_PATH_D = path % 2 ^ 32 ∧ u.get F.SL_STATUS_REF_SRC = 2 ∧
    OnlyChanges [F.FL_STATUS_SRC_PORT, F.FL_PATH_D, F.SL_STATUS_REF_SRC] [] s u) ∧
  (∀ t0, s.domainOn 15 = true → s.pw.startAt = some t0 → t0 + 500 * ms ≤ t → s.portUp 0 = false → s.portUp 1 = false →
    ∃ u, exec (.flotisPowerDown t) s = .next u ∧ u.get F.FL_STATUS_TOPOLOGY = 0 ∧ u.get F.FL_STATUS_COUNT = 0 ∧ u.get F.FL_STATUS_ID = 0 ∧
    u.domainOn 15 = false ∧ (∀ d, d < 15 → u.domainOn d = s.domainOn d) ∧
    OnlyChanges [F.FL_STATUS_TOPOLOGY, F.FL_STATUS_COUNT, F.FL_STATUS_ID, F.PM_DOMAINS_ON] [] s u) ∧
  (∀ id count ring, s.domainOn 15 = true → s.fl.numbered = false → ∃ u, exec (.arrayNumbering t id count ring) s = .next u ∧ u.fl.numbered = true ∧
    (id < 8 → u.get F.FL_STATUS_ID = id ∧ u.get F.FL_STATUS_COUNT = max 1 (min 8 count) - 1 ∧
      u.get F.FL_STATUS_TOPOLOGY = (if ring then 2 else 1)) ∧
    (8 ≤ id → u.get F.FL_STATUS_ID = 0 ∧ u.get F.FL_STATUS_TOPOLOGY = 3) ∧
    OnlyChanges [F.FL_STATUS_ID, F.FL_STATUS_COUNT, F.FL_STATUS_TOPOLOGY, F.SL_STATUS_REF_SRC] [.fl] s u)

/-- An exchange of time measures the delay, and the source port's exchange moves array time (R357, R373, R374, R381). The model's choices: log entries 63, 64, 95. -/
def Obligations.ArrayTime : Prop := ∀ (s : State) (t : Nat),
  (∀ port t1 t2 t3 t4 path lead bad d, s.domainOn 15 = true → port < 2 → s.portUp port = true →
    d = divRound (((t4 - t1) - (t3 - t2)) * 1000) 131072 →
    ∃ u, exec (.timeExchange t port t1 t2 t3 t4 path lead bad) s = .next u ∧
    u.get (if port = 0 then F.FL_DELAY_UP_VALID else F.FL_DELAY_DOWN_VALID) = 1 ∧
    u.get (if port = 0 then F.FL_DELAY_UP_D else F.FL_DELAY_DOWN_D) = min (max 0 d).toNat (2 ^ 31 - 1) ∧
    u.get (if port = 0 then F.FL_ERR_UP_COUNT else F.FL_ERR_DOWN_COUNT) =
      min (s.get (if port = 0 then F.FL_ERR_UP_COUNT else F.FL_ERR_DOWN_COUNT) + bad) (2 ^ 32 - 1) ∧
    ((s.get F.FL_STATUS_ID = 0 ∨ s.get F.FL_STATUS_SRC_PORT ≠ port) →
      OnlyChanges [F.FL_DELAY_UP_VALID, F.FL_DELAY_UP_D, F.FL_DELAY_DOWN_VALID, F.FL_DELAY_DOWN_D, F.FL_ERR_UP_COUNT, F.FL_ERR_DOWN_COUNT,
        F.FL_CNT_SAT_ERRU_SAT, F.FL_CNT_SAT_ERRD_SAT] [] s u) ∧
    (∀ theta, theta = divRound ((t2 - t1) * 2000 - ((t4 - t1) - (t3 - t2)) * 1000 +
        (if port = 0 then s.getS F.FL_ASYM_UP_A else s.getS F.FL_ASYM_DOWN_A) * 65536) 131072 →
      s.get F.FL_STATUS_ID ≠ 0 → s.get F.FL_STATUS_SRC_PORT = port →
      (s.get F.TB_STATUS_TIME_STATE = 0 → s.fl.thetas = [] →
        u.tb = { s.tb with off := s.tb.off - ofPs theta } ∧ u.get F.FL_OFFSET_THETA = 0 ∧
        u.get F.TB_STATUS_TIME_STATE = (if lead = 1 then (if s.get F.SL_STATUS_CLK_STATE = 1 then 1 else 3) else min 3 lead)) ∧
      (s.get F.TB_STATUS_TIME_STATE ≠ 0 → u.fl.thetas = (theta :: s.fl.thetas).take 100 ∧
        ∃ mean, mean = divRound (((theta :: s.fl.thetas).take 100).foldl (· + ·) 0) (min 100 (s.fl.thetas.length + 1)) ∧
        (mean.natAbs < 2 ^ 31 → u.getS F.FL_OFFSET_THETA = mean) ∧ u.tb = ⟨s.tb.off + s.slewed (max s.now t), -(ofPs mean), max s.now t⟩ ∧
        u.get F.TB_STATUS_TIME_STATE =
          (if lead = 1 then (if s.get F.SL_STATUS_CLK_STATE = 1 ∧ mean.natAbs ≤ 10000 then 1 else 3) else min 3 lead)) ∧
      OnlyChanges [F.FL_DELAY_UP_VALID, F.FL_DELAY_UP_D, F.FL_DELAY_DOWN_VALID, F.FL_DELAY_DOWN_D, F.FL_ERR_UP_COUNT, F.FL_ERR_DOWN_COUNT,
        F.FL_CNT_SAT_ERRU_SAT, F.FL_CNT_SAT_ERRD_SAT, F.FL_PATH_D, F.FL_OFFSET_THETA, F.TB_STATUS_TIME_STATE] [.fl, .tb, .tref] s u)) ∧
  (∀ t0, s.fl.beyondFrom = some t0 → t0 + 100 * ms ≤ t → s.ev.conds.any (fun c => c.1 == 0x0C06) = false →
    ∃ u, exec (.alignFault t) s = .next u ∧ (0x0C06, 0xFFFF) ∈ u.ev.conds ∧ (u.get F.PM_FAULT_LATCH).testBit 11 = true ∧ OnlyChanges [] [] s u)

/-- Messages of an array act once, and module 0 gathers the reports (R59, R63, R361, R376, R377). The model's choices: log entries 46, 65, 66. -/
def Obligations.ArrayMessages : Prop := ∀ (s : State) (t seq : Nat),
  (∀ sender line at_, s.domainOn 15 = true → s.firstCopy sender seq = true → ∃ u, exec (.crossTriggerReceive t sender seq line at_) s = .next u ∧
    u.get F.FL_XT_RECV_COUNT = min (s.get F.FL_XT_RECV_COUNT + 1) (2 ^ F.FL_XT_RECV_COUNT.width - 1) ∧
    u.fl.seen = kvIns sender (seq % 65536) (kvDel sender s.fl.seen) ∧
    u.fl.forwarded = s.fl.forwarded + (if s.portUp 0 ∧ s.portUp 1 then 1 else 0)) ∧
  (∀ sender line at_, s.firstCopy sender seq = false → ∃ u, exec (.crossTriggerReceive t sender seq line at_) s = .next u ∧ OnlyChanges [] [] s u) ∧
  (s.domainOn 15 = true → s.firstCopy 0 seq = true →
    (∀ index mode second tl g, s.sw.lead = none → index % 4 ≠ s.activeIndex →
      ∃ u, exec (.switchMessageReceive t seq 0 index mode second tl g) s = .next u ∧ u.sw.lead = some ⟨index % 4, mode % 4, second, some (tl, g)⟩ ∧
      u.sw.phase = 1 ∧ u.get F.SB_TT_STATUS_STATE = 1 ∧ u.fl.seen = kvIns 0 (seq % 65536) (kvDel 0 s.fl.seen)) ∧
    (∀ index mode second tl g, ∃ u, exec (.switchMessageReceive t seq 1 index mode second tl g) s = .next u ∧ u.sw.arrayEpoch = some second ∧
      OnlyChanges [] [.sw, .fl] s u) ∧
    (∀ r index mode second tl g, s.sw.lead = some r → s.sw.queued = none → ∃ u, exec (.switchMessageReceive t seq 2 index mode second tl g) s = .next u ∧
      u.sw.lead = none ∧ u.get F.SB_TT_STATUS_STATE = 5 ∧ u.get F.SB_TT_STATUS_REJ_CAUSE = 3 ∧
      u.get F.SB_TT_STATUS_REJ_MODULE = mode % 2 ^ F.SB_TT_STATUS_REJ_MODULE.width ∧
      OnlyChanges [F.SB_TT_STATUS_STATE, F.SB_TT_STATUS_REJ_CAUSE, F.SB_TT_STATUS_REJ_MODULE, F.FB_QUAD_POWERED, F.PM_DOMAINS_ON]
        [.sw, .fl, .fab, .sched] s u) ∧
    (∀ r q index mode second tl g, s.sw.lead = some r → s.sw.queued = some q → ∃ u, exec (.switchMessageReceive t seq 2 index mode second tl g) s = .next u ∧
      u.sw.lead = some q ∧ u.sw.queued = none ∧ u.sw.phase = 1 ∧ u.get F.SB_TT_STATUS_STATE = 1 ∧ u.get F.SB_TT_STATUS_REJ_CAUSE = 3) ∧
    (∀ value second, ∃ u, exec (.epochMessageReceive t seq value second) s = .next u ∧ u.get F.TB_STATUS_EPOCH_PENDING = 1 ∧
      u.tref = { s.tref with epoch := some (value, false), epochAt := some second } ∧
      OnlyChanges [F.TB_STATUS_EPOCH_PENDING] [.tref, .fl] s u)) ∧
  (∀ m, s.get F.FL_STATUS_ID = 0 → 0 < m → m ≤ s.get F.FL_STATUS_COUNT →
    (s.fl.origin = none → ∃ u, exec (.readyReport t m) s = .next u ∧ u.fl.ready = kvIns m (max s.now t) (kvDel m s.fl.ready) ∧
      (u.fl.ready.length < s.get F.FL_STATUS_COUNT → u.fl.origin = none) ∧
      (s.get F.FL_STATUS_COUNT ≤ u.fl.ready.length → s.is F.SB_STATUS_COMMITTED = true →
        ∃ o, u.fl.origin = some o ∧ max s.now t + 10 * ms ≤ o ∧ o < max s.now t + 11 * ms) ∧
      OnlyChanges [] [.fl] s u) ∧
    (∀ r, s.sw.lead = some r → ∃ u, exec (.switchReadyReport t m true) s = .next u ∧
      u.sw = { s.sw with reports := kvIns m (max s.now t) (kvDel m s.sw.reports), arrayEpoch := u.sw.arrayEpoch } ∧
      (s.sw.phase = 3 → s.sw.arrayEpoch = none → s.sw.readyAt ≤ max s.now t → s.sched.sweepStart ≤ max s.now t → 0 < s.period →
        (∀ i, i < s.get F.FL_STATUS_COUNT → i + 1 = m ∨ s.sw.reports.any (fun x => x.1 == i + 1) = true) →
        ∃ b, u.sw.arrayEpoch = some b ∧ max s.now t + max ms s.period ≤ b ∧ (b - s.sched.sweepStart) % s.period = 0) ∧
      OnlyChanges [] [.sw, .fl] s u) ∧
    (∀ r, s.sw.lead = some r → s.sw.queued = none → ∃ u, exec (.switchReadyReport t m false) s = .next u ∧ u.sw.lead = none ∧ u.get F.SB_TT_STATUS_STATE = 5 ∧
      u.get F.SB_TT_STATUS_REJ_CAUSE = 3 ∧ u.get F.SB_TT_STATUS_REJ_MODULE = m % 2 ^ F.SB_TT_STATUS_REJ_MODULE.width ∧
      OnlyChanges [F.SB_TT_STATUS_STATE, F.SB_TT_STATUS_REJ_CAUSE, F.SB_TT_STATUS_REJ_MODULE, F.FB_QUAD_POWERED, F.PM_DOMAINS_ON]
        [.sw, .fl, .fab, .sched] s u))

/-- An event input that falls silent says so once (R368). -/
def Obligations.InputsFallSilent : Prop := ∀ (s : State) (t n : Nat), s.domainOn 2 = true → n < 8 →
  (s.is (F.TB_EVT_CFG_EN n) = true → s.get (F.TB_EVT_CFG_TMO n) ≠ 0 → (s.evIn n).silent = false →
    (s.evIn n).from_ + s.get (F.TB_EVT_CFG_TMO n) * ms ≤ max s.now t →
    ∃ u, exec (.evtTimeout t n) s = .next u ∧ u.get (F.TB_EVT_STAT_TIMEOUT n) = 1 ∧ (u.evIn n).silent = true ∧
    (s.Settled → s.ev.placed = true → s.ev.lostDue = 0 → s.nbOccupancy < s.get F.HW_NB_SIZE_SIZE →
      u.get F.HW_NB_WR_COUNT = (s.get F.HW_NB_WR_COUNT + 1) % 2 ^ 32 ∧
      ∃ arg, u.ev.nb.find? (fun x => x.1 == s.get F.HW_NB_WR_COUNT % s.get F.HW_NB_SIZE_SIZE) =
        some (s.get F.HW_NB_WR_COUNT % s.get F.HW_NB_SIZE_SIZE,
          ⟨stampOf (s.count (max s.now t)), 0x0B08, s.get F.FL_STATUS_ID, arg, s.get F.HW_NB_WR_COUNT⟩))) ∧
  (((s.evIn n).silent = true ∨ s.get (F.TB_EVT_CFG_TMO n) = 0 ∨ s.is (F.TB_EVT_CFG_EN n) = false ∨
      max s.now t < (s.evIn n).from_ + s.get (F.TB_EVT_CFG_TMO n) * ms) →
    ∃ u, exec (.evtTimeout t n) s = .next u ∧ OnlyChanges [] [] s u) ∧
  (∀ fall, s.edgeWanted n fall = true → ∃ u, exec (.evtEdge t n fall) s = .next u ∧ (u.evIn n).silent = false ∧ (u.evIn n).from_ = max s.now t) ∧
  (∀ v al, s.is F.SB_STATUS_COMMITTED = false → s.is (F.TB_EVT_CFG_EN n) = false → v.testBit 31 = true →
    ∃ u, exec (.registerWrite .signalBox t (0x1F0100 + 128 * n) v 15 al) s = .next u ∧ u.is (F.TB_EVT_CFG_EN n) = true ∧
    (u.evIn n).silent = false ∧ (u.evIn n).from_ = max s.now t)

/-- The slices of a shutdown's self-test pass, fail or time out, and the journal ends the sequence (R403, R404, R425, R426, R429, R430, R431). The model's choices: log entries 73, 80, 82, 124. -/
def Obligations.ShutdownTests : Prop := ∀ (s : State) (t : Nat),
  (∀ lane u a t0, s.slice? lane = some (u, a) → s.bt.testFrom = some t0 → max s.now t ≤ a + 2 * unitBudget u * ms →
    max s.now t ≤ t0 + s.get F.SB_SHUTDOWN_BUDGET * 1000 * ms →
    (∃ v, exec (.selfTestSliceDone t lane none) s = .next v ∧ (v.unit u).result = (if s.rowsUsed u > 0 then 3 else 1) ∧
      (v.unit u).withdrawn = ((s.unit u).withdrawn && !(s.unit u).onePass) ∧ (∀ w, w ≠ u → v.unit w = s.unit w) ∧
      v.bt.plan = ((s.advance t).nextSlice lane).bt.plan ∧ OnlyChanges [] [.bt] s v) ∧
    (∀ f, f.addrs = [] → s.bt.work.fails.length < 256 → ∃ v, exec (.selfTestSliceDone t lane (some f)) s = .next v ∧
      (v.unit u).result = 4 ∧ (v.unit u).onePass = false ∧
      v.bt.work.fails = s.bt.work.fails ++ [⟨u, 1, f.bit, 0, (s.advance t).rtc, s.bt.work.seq + 1⟩] ∧
      v.bt.plan = ((s.advance t).nextSlice lane).bt.plan ∧ OnlyChanges [] [.bt] s v)) ∧
  (∀ lane u a, s.slice? lane = some (u, a) → a + 2 * unitBudget u * ms ≤ t → s.bt.work.fails.length < 256 →
    ∃ v, exec (.selfTestSliceTimeout t lane) s = .next v ∧ (v.unit u).result = 4 ∧
    v.bt.work.fails = s.bt.work.fails ++ [⟨u, 2, 0xFF, 0, (s.advance t).rtc, s.bt.work.seq + 1⟩] ∧
    v.bt.plan = ((s.advance t).nextSlice lane).bt.plan ∧ OnlyChanges [] [.bt] s v) ∧
  (∀ x, s.pw.shut = some x → (s.advance t).journalDue x = true → x.then_ = 0 → s.domainOn 0 = true → s.domainOn 2 = true →
    ∃ v, exec (.journalWritten t true) s = .next v ∧ v.bt.open_ = false ∧ v.bt.work.seq = (s.bt.work.seq + 1) % 2 ^ 32 ∧
    v.bt.work.emergency = x.emergency ∧ (∃ slot, slot < 2 ∧ v.bt.force = some slot ∧ v.bt.journals.find? (fun y => y.1 == slot) = some (slot, v.bt.work)) ∧
    v.pw.shut = none ∧ v.get F.PM_STATE_SHUTTING = 0 ∧
    (x.target = 3 → v.get F.PM_STATE_STATE = 0 ∧ v.poweredOnly [0, 14] ∧ v.get F.PM_DOMAINS_RETAINED = 0) ∧
    (x.target = 1 → v.get F.PM_STATE_STATE = 1 ∧ v.get F.SB_STATUS_PHASE = 6 ∧ v.poweredOnly ([0, 1, 2, 3, 4, 14] ++ s.ifOn 15) ∧
      v.get F.PM_DOMAINS_RETAINED = 0x3E00)) ∧
  (∀ x, s.pw.shut = some x → (s.advance t).journalDue x = true → x.target = 3 → ∃ v, exec (.journalWritten t false) s = .next v ∧
    v.bt.open_ = s.bt.open_ ∧ v.bt.force = s.bt.force)

/-- Host-run slices and raw access reach units that are out of service (R417, R425, R432, R433). The model's choices: log entries 83, 84, 88. -/
def Obligations.HostRunTests : Prop := ∀ (s : State) (t : Nat), s.domainOn 1 = true →
  (s.btOpen = false → ∀ i ∈ [Instr.btAccWriteCoded t, .btAccWriteData t, .btAccWriteCheck t, .btAccRead t],
    ∃ u, exec i s = .next u ∧ OnlyChanges [] [] s u) ∧
  (s.btOpen = false → ∀ v al, ∃ u, exec (.btRun t v al) s = .next u ∧ OnlyChanges [] [] s u) ∧
  (∀ v al, s.btOpen = true → v.testBit 31 = true → s.is F.BT_RUN_STATUS_BUSY = false → s.btRefusal (v % 65536) al = 0 →
    ∃ u, exec (.btRun t v al) s = .next u ∧ u.get F.BT_RUN_STATUS_BUSY = 1 ∧ u.get F.BT_RUN_UNIT = v % 65536 ∧
    u.bt.run = some (v % 65536, max s.now t) ∧ u.bt.lastRun = some (v % 65536) ∧ (u.unit (v % 65536)).result = 6 ∧
    (v % 65536 < 0x800 → u.mem = s.mem) ∧
    OnlyChanges [F.BT_RUN_ALGO, F.BT_RUN_UNIT, F.BT_RUN_STATUS_BUSY, F.BT_RUN_STATUS_RESULT, F.BT_RUN_STATUS_FAILS] [.bt, .mem] s u) ∧
  (∀ v al, s.btOpen = true → v.testBit 31 = true → s.is F.BT_RUN_STATUS_BUSY = false → s.btRefusal (v % 65536) al ≠ 0 →
    ∃ u, exec (.btRun t v al) s = .next u ∧ u.get F.BT_RUN_STATUS_RESULT = s.btRefusal (v % 65536) al ∧ u.get F.BT_RUN_STATUS_DONE = 1 ∧
    u.get F.BT_RUN_STATUS_BUSY = 0 ∧
    OnlyChanges [F.BT_RUN_ALGO, F.BT_RUN_UNIT, F.BT_RUN_STATUS_BUSY, F.BT_RUN_STATUS_DONE, F.BT_RUN_STATUS_RESULT, F.BT_RUN_STATUS_FAILS]
      [.freeCtr] s u) ∧
  (∀ bit addrs u t0, s.bt.run = some (u, t0) → ∃ v, exec (.btRunDone t bit addrs) s = .next v ∧ v.bt.run = none ∧
    v.get F.BT_RUN_STATUS_BUSY = 0 ∧ v.get F.BT_RUN_STATUS_DONE = 1 ∧
    (t0 + 2 * unitBudget u * ms ≤ t → v.get F.BT_RUN_STATUS_RESULT = 4) ∧
    (max s.now t < t0 + 2 * unitBudget u * ms → v.get F.BT_RUN_STATUS_RESULT = (if addrs = [] then 0 else 1) ∧
      v.get F.BT_RUN_STATUS_FAILS = min addrs.length (2 ^ 26 - 1) ∧
      v.bt.hostFails = s.bt.hostFails ++ addrs.map (fun a => ⟨u, 1, bit, a, (s.advance t).rtc, s.bt.work.seq⟩)) ∧
    OnlyChanges [F.BT_RUN_STATUS_BUSY, F.BT_RUN_STATUS_DONE, F.BT_RUN_STATUS_RESULT, F.BT_RUN_STATUS_FAILS] [.bt, .freeCtr] s v) ∧
  (s.btOpen = true → s.bt.lastRun = none → ∀ i ∈ [Instr.btAccWriteCoded t, .btAccWriteData t, .btAccWriteCheck t, .btAccRead t],
    ∃ u, exec i s = .next u ∧ u.get F.BT_RUN_STATUS_REFUSED = 1 ∧ OnlyChanges [F.BT_RUN_STATUS_REFUSED] [] s u) ∧
  (∀ u w d, s.btOpen = true → s.bt.lastRun = some u → s.get F.BT_RUN_UNIT = u → s.btRefusal u false = 0 → s.bt.run = none → 0x800 ≤ u →
    s.accPlace u (s.get F.BT_ACC_ADDR_VALUE) = w → d = s.get F.BT_ACC_DATA_LO_VALUE + 2 ^ 32 * s.get F.BT_ACC_DATA_HI_VALUE → d < 2 ^ 64 →
    (∃ v, exec (.btAccWriteCoded t) s = .next v ∧ v.dataWord w = d ∧ v.checkDiff w = 0 ∧
      (∀ x, x ≠ spaceCheck + w → x < spaceDram + 8 * w ∨ spaceDram + 8 * w + 8 ≤ x → v.rdByte x = s.rdByte x) ∧ OnlyChanges [] [.mem] s v) ∧
    (∃ v, exec (.btAccWriteData t) s = .next v ∧ v.dataWord w = d ∧
      checkByte d ^^^ v.checkDiff w = checkByte (s.dataWord w) ^^^ s.checkDiff w ∧
      (∀ x, x ≠ spaceCheck + w → x < spaceDram + 8 * w ∨ spaceDram + 8 * w + 8 ≤ x → v.rdByte x = s.rdByte x) ∧ OnlyChanges [] [.mem] s v) ∧
    (∃ v, exec (.btAccWriteCheck t) s = .next v ∧ checkByte (s.dataWord w) ^^^ v.checkDiff w = s.get F.BT_ACC_CHECK_VALUE % 256 ∧
      (∀ x, x ≠ spaceCheck + w → v.rdByte x = s.rdByte x) ∧ OnlyChanges [] [.mem] s v) ∧
    (∃ v, exec (.btAccRead t) s = .next v ∧ v.get F.BT_ACC_DATA_LO_VALUE = s.dataWord w % 2 ^ 32 ∧
      v.get F.BT_ACC_DATA_HI_VALUE = s.dataWord w / 2 ^ 32 ∧ v.get F.BT_ACC_CHECK_VALUE = checkByte (s.dataWord w) ^^^ s.checkDiff w ∧
      OnlyChanges [F.BT_ACC_DATA_LO_VALUE, F.BT_ACC_DATA_HI_VALUE, F.BT_ACC_CHECK_VALUE] [] s v)) ∧
  (∀ u a od oc, s.btOpen = true → s.bt.lastRun = some u → s.get F.BT_RUN_UNIT = u → s.btRefusal u false = 0 → s.bt.run = none →
    0x100 ≤ u → u < 0x500 → s.get F.BT_ACC_ADDR_VALUE = a → s.bt.acc.find? (fun x => x.1 == a) = some (a, (od, oc)) →
    (∃ v, exec (.btAccWriteCoded t) s = .next v ∧ v.bt.acc.find? (fun x => x.1 == a) = some (a,
      (s.get F.BT_ACC_DATA_LO_VALUE, sramCheck (s.get F.BT_ACC_DATA_LO_VALUE))) ∧ OnlyChanges [] [.bt] s v) ∧
    (∃ v, exec (.btAccRead t) s = .next v ∧ v.get F.BT_ACC_DATA_LO_VALUE = od % 2 ^ 32 ∧ v.get F.BT_ACC_CHECK_VALUE = oc % 2 ^ 32))

/-- The NVM commands change the inactive slot, the buffer and the rollback counter (R395, R398, R400, R401, R402). The model's choices: log entries 79, 85. -/
def Obligations.NvmCommands : Prop := ∀ (s : State) (src : Source) (t : Nat), s.domainOn 1 = true →
  (s.is F.NV_STATUS_BUSY = false → s.nvAvailable = true →
    (∀ b e, b = spaceNvm + s.slotBase s.inactiveSlot → e = b + s.get F.NV_STATUS_SLOT_MIB * 2 ^ 20 →
      ∃ u, exec (.nvErase src t) s = .next u ∧ u.get F.NV_STATUS_BUSY = 1 ∧ u.nv.op = some (1, 0) ∧
      (∀ a, b ≤ a → a < e → a < spaceYard → u.rdByte a = 0xFF) ∧ (∀ a, a < b ∨ e ≤ a → u.rdByte a = s.rdByte a) ∧
      u.get F.NV_WRITES_COUNT = min (s.get F.NV_WRITES_COUNT + 1) (2 ^ 32 - 1) ∧
      u.get (if s.inactiveSlot = 0 then F.NV_SLOTA_VALID else F.NV_SLOTB_VALID) = 0 ∧
      OnlyChanges [F.NV_CMD_CMD, F.NV_STATUS_BUSY, F.NV_WRITES_COUNT, if s.inactiveSlot = 0 then F.NV_SLOTA_VALID else F.NV_SLOTB_VALID]
        [.mem, .nv] s u) ∧
    (∀ a n b, s.get F.NV_ADDR_VALUE = a → s.get F.NV_LEN_VALUE = n → b = spaceNvm + (s.slotBase s.inactiveSlot + a) → 1 ≤ n → n ≤ 32768 →
      a % 256 = 0 → a + n ≤ s.get F.NV_STATUS_SLOT_MIB * 2 ^ 20 →
      ∃ u, exec (.nvProgram src t) s = .next u ∧ u.get F.NV_STATUS_BUSY = 1 ∧ u.nv.op = some (2, 0) ∧
      (∀ i, i < n → u.rdByte (b + i) = s.rdByte (b + i) &&& BitVec.ofNat 8 (s.get (F.NV_BUF_DATA (i / 4)) / 2 ^ (8 * (i % 4)))) ∧
      (∀ x, x < b ∨ b + n ≤ x → u.rdByte x = s.rdByte x) ∧ u.get F.NV_WRITES_COUNT = min (s.get F.NV_WRITES_COUNT + 1) (2 ^ 32 - 1) ∧
      OnlyChanges [F.NV_CMD_CMD, F.NV_STATUS_BUSY, F.NV_WRITES_COUNT] [.mem, .nv] s u) ∧
    (∀ a n, s.get F.NV_ADDR_VALUE = a → s.get F.NV_LEN_VALUE = n →
      (n = 0 ∨ 32768 < n ∨ a % 256 ≠ 0 ∨ s.get F.NV_STATUS_SLOT_MIB * 2 ^ 20 < a + n) →
      ∃ u, exec (.nvProgram src t) s = .next u ∧ u.get F.NV_STATUS_RESULT = 2 ∧ u.get F.NV_STATUS_DONE = 1 ∧ u.get F.NV_STATUS_BUSY = 0 ∧
      OnlyChanges [F.NV_CMD_CMD, F.NV_STATUS_BUSY, F.NV_STATUS_DONE, F.NV_STATUS_RESULT] [.nv, .freeCtr] s u) ∧
    (∀ a n, s.get F.NV_ADDR_VALUE = a → s.get F.NV_LEN_VALUE = n → s.nvReadable a n = true →
      ∃ u, exec (.nvRead src t) s = .next u ∧ u.get F.NV_STATUS_BUSY = 1 ∧ u.nv.op = some (4, 0) ∧ u.mem = s.mem ∧
      (∀ i, i < n → u.get (F.NV_BUF_DATA (i / 4)) / 2 ^ (8 * (i % 4)) % 256 = (s.rdByte (spaceNvm + a + i)).toNat) ∧
      OnlyChanges ([F.NV_CMD_CMD, F.NV_STATUS_BUSY] ++ (List.range 8192).map F.NV_BUF_DATA) [.nv] s u) ∧
    (∃ u, exec (.nvVerify src t) s = .next u ∧ u.get F.NV_STATUS_BUSY = 1 ∧ u.nv.op = some (3, 0) ∧
      OnlyChanges [F.NV_CMD_CMD, F.NV_STATUS_BUSY] [.nv] s u) ∧
    (∀ rl, s.activeRl = some rl → rl ≤ 64 → s.otp.rollback < 64 → ∃ u, exec (.nvRaise src t) s = .next u ∧ u.get F.NV_STATUS_BUSY = 1 ∧
      u.nv.op = some (5, 0) ∧ u.otp = { s.otp with rollback := max s.otp.rollback rl } ∧
      OnlyChanges [F.NV_CMD_CMD, F.NV_STATUS_BUSY] [.nv, .otp, .freeCtr] s u)) ∧
  (s.is F.NV_STATUS_BUSY = false → s.nvAvailable = false → ∃ u, exec (.nvErase src t) s = .next u ∧ u.get F.NV_STATUS_BUSY = 1 ∧
    u.nv.wait = some 1 ∧ OnlyChanges [F.NV_CMD_CMD, F.NV_STATUS_BUSY] [.nv] s u) ∧
  (s.is F.NV_STATUS_BUSY = true → ∀ i ∈ [Instr.nvErase src t, .nvProgram src t, .nvVerify src t, .nvRead src t, .nvRaise src t],
    ∃ u, exec i s = .next u ∧ OnlyChanges [] [] s u) ∧
  (∀ cmd result ok img, s.nv.op = some (cmd, result) → s.pw.held = none → s.nv.wait = none → result < 16 →
    ∃ u, exec (.nvDone t ok img) s = .next u ∧ u.get F.NV_STATUS_BUSY = 0 ∧ u.get F.NV_STATUS_DONE = 1 ∧ u.nv.op = none ∧
    u.get F.NV_STATUS_RESULT = (if !ok then 1 else if cmd = 3 then (if s.slotFail img = 0 then 0 else 4) else result) ∧
    (ok = true → cmd = 3 → u.is (if s.inactiveSlot = 0 then F.NV_SLOTA_VALID else F.NV_SLOTB_VALID) = decide (s.slotFail img = 0)) ∧
    OnlyChanges [F.NV_STATUS_BUSY, F.NV_STATUS_DONE, F.NV_STATUS_RESULT, F.NV_SLOTA_VALID, F.NV_SLOTA_FAIL, F.NV_SLOTA_RL, F.NV_SLOTA_BUILD,
      F.NV_SLOTB_VALID, F.NV_SLOTB_FAIL, F.NV_SLOTB_RL, F.NV_SLOTB_BUILD] [.nv, .freeCtr] s u)

/-- A calibration record goes to the slot that is not active, and the other slot of a pair is erased (R284, R285, R394). The model's choices: log entry 69. -/
def Obligations.RecordsInNvm : Prop := ∀ (s : State) (t : Nat), s.domainOn 1 = true →
  (∀ r stamp temp later slot ok, s.pw.shut = none → s.is F.CL_STATUS_NVM_PENDING = true → s.sens.cal.force = some (r, stamp, temp, later) →
    slot = (if s.get F.CL_STATUS_ACTIVE = 1 then 1 else 0) → ∃ u, exec (.calRecordWrite t ok) s = .next u ∧
    (∀ a, a < spaceNvm + 0x10000 * (slot + 1) ∨ spaceNvm + 0x10000 * (slot + 2) ≤ a → u.rdByte a = s.rdByte a) ∧
    (ok = true → u.rdBytes (spaceNvm + 0x10000 * (slot + 1)) 4 = [0x4C, 0x41, 0x43, 0x4C] ∧
      u.get (if slot = 0 then F.CL_STATUS_A_VALID else F.CL_STATUS_B_VALID) = 1 ∧
      u.get (if slot = 0 then F.CL_SEQ_A_SEQ else F.CL_SEQ_B_SEQ) = s.sens.cal.seq % 2 ^ 32 ∧ u.get F.CL_STATUS_ACTIVE = slot + 1 ∧
      u.get F.CL_STATUS_NVM_PENDING = 0) ∧
    (ok = false → u.get (if slot = 0 then F.CL_STATUS_A_VALID else F.CL_STATUS_B_VALID) = 0 ∧ u.get F.CL_STATUS_ACTIVE = s.get F.CL_STATUS_ACTIVE ∧
      u.get F.CL_STATUS_NVM_PENDING = s.get F.CL_STATUS_NVM_PENDING) ∧
    OnlyChanges [F.CL_STATUS_A_VALID, F.CL_STATUS_B_VALID, F.CL_SEQ_A_SEQ, F.CL_SEQ_B_SEQ, F.CL_STATUS_ACTIVE, F.CL_STATUS_NVM_PENDING]
      [.mem, .sens, .freeCtr] s u) ∧
  (∀ slot due, s.bt.eraseAt = some (slot, due) → slot < 2 → ∃ u, exec (.nvmSlotErase t true) s = .next u ∧
    (∀ a, spaceNvm + 0x30000 + 0x4000 * slot ≤ a → a < spaceNvm + 0x34000 + 0x4000 * slot → u.rdByte a = 0xFF) ∧
    (∀ a, a < spaceNvm + 0x30000 + 0x4000 * slot ∨ spaceNvm + 0x34000 + 0x4000 * slot ≤ a → u.rdByte a = s.rdByte a) ∧
    u.bt.eraseAt = none ∧ u.bt.journals = kvDel slot s.bt.journals ∧ OnlyChanges [] [.mem, .bt] s u) ∧
  (∀ due slot, s.sens.cal.eraseAt = some due → slot = (if s.get F.CL_STATUS_ACTIVE = 1 then 1 else 0) →
    ∃ u, exec (.nvmSlotErase t false) s = .next u ∧
    (∀ a, spaceNvm + 0x10000 * (slot + 1) ≤ a → a < spaceNvm + 0x10000 * (slot + 2) → u.rdByte a = 0xFF) ∧
    (∀ a, a < spaceNvm + 0x10000 * (slot + 1) ∨ spaceNvm + 0x10000 * (slot + 2) ≤ a → u.rdByte a = s.rdByte a) ∧
    u.get (if slot = 0 then F.CL_STATUS_A_VALID else F.CL_STATUS_B_VALID) = 0 ∧
    OnlyChanges [F.CL_STATUS_A_VALID, F.CL_STATUS_B_VALID, F.CL_SEQ_A_SEQ, F.CL_SEQ_B_SEQ] [.mem, .sens] s u)

/-- Supplies, the thermal wait and PFW# decide when the module starts and stops (R382, R383, R390, R403, R405, R442, R459). The model's choices: log entries 73, 74, 75, 76, 81. -/
def Obligations.SuppliesDecide : Prop := ∀ (s : State) (t : Nat),
  (s.pw.supplies = false → s.domainOn 0 = true → ∃ u, exec (.supplyGood t false) s = .next u ∧ u.pw.supplies = true ∧ u.pw.pfwLow = false ∧
    u.get F.PM_STATE_STATE = 0 ∧ u.get F.PM_STATE_THERM_WAIT = 1 ∧ u.pw.coldDue = false ∧ u.poweredOnly ([0, 3] ++ s.ifOn 14)) ∧
  (s.pw.supplies = false → ∃ u, exec (.supplyGood t true) s = .next u ∧ u.pw.supplies = true ∧ u.get F.PM_STATE_THERM_WAIT = 1 ∧
    u.poweredOnly [0, 3] ∧ u.pw.rtcOk = false ∧ u.pw.vbatAt = max s.now t ∧ u.bt.open_ = false ∧ u.lc.first = none) ∧
  (∀ a b c, s.is F.PM_STATE_THERM_WAIT = true → ∃ u, exec (.thermalWaitReading t a b c) s = .next u ∧
    (a < 2900 → b < 2900 → c < 2900 → u.get F.PM_STATE_THERM_WAIT = 0 ∧ u.pw = { s.pw with coldDue := true, failedAt := none }) ∧
    ((2900 ≤ a ∨ 2900 ≤ b ∨ 2900 ≤ c) → u.get F.PM_STATE_THERM_WAIT = 1 ∧ u.pw = s.pw) ∧
    OnlyChanges [F.PM_STATE_THERM_WAIT] [.pw, .sens, .freeCtr] s u) ∧
  (∀ rail, s.pw.supplies = true → ∃ u, exec (.supplyFault t rail) s = .next u ∧ u.pw.supplies = false ∧ u.pw.rail = some rail ∧
    u.get F.PM_STATE_STATE = 0 ∧ u.get F.PM_STATE_LAST_RESET = 0 ∧ u.opticalState = 0 ∧ u.poweredOnly [0] ∧ u.pw.shut = none ∧ u.pw.startAt = none) ∧
  (∀ rail, s.pw.supplies = false → s.pw.rail = some rail → ∃ u, exec (.supplyRecovered t) s = .next u ∧ u.pw.supplies = true ∧
    u.pw.rail = some rail ∧ u.get F.PM_STATE_THERM_WAIT = 1 ∧ u.get F.PM_STATE_STATE = 0) ∧
  (s.pw.supplies = true → ∃ u, exec (.supplyLoss t) s = .next u ∧ u.pw.supplies = false ∧ u.get F.PM_STATE_STATE = 0 ∧
    u.get F.PM_STATE_LAST_RESET = (if s.pw.pfwLow then 1 else 0) ∧ u.opticalState = 0 ∧ u.poweredOnly [0] ∧ u.pw.shut = none ∧ u.pw.startAt = none) ∧
  (∀ f, s.pw.failedAt = some f → f + 1000 * ms ≤ t → s.pw.supplies = true → ∃ u, exec (.retryDelayEnd t) s = .next u ∧
    u.pw = { s.pw with coldDue := true, failedAt := none } ∧ OnlyChanges [] [.pw] s u) ∧
  (s.pw.supplies = true → s.pw.pfwLow = false → s.pw.shut = none → s.domainOn 1 = true → s.working = true →
    ∃ u, exec (.powerFail t) s = .next u ∧ ShutdownBegun 3 4 true u ∧ u.pw.pfwLow = true ∧ u.get F.PM_STATE_LAST_RESET = 1) ∧
  (s.pw.supplies = true → s.pw.pfwLow = true → ∃ u, exec (.powerRestored t) s = .next u ∧ u.pw.pfwLow = false ∧
    (s.pw.shut = none → u.pw.coldDue = true) ∧ (∀ x, s.pw.shut = some x → u.pw.shut = some { x with then_ := 3 }) ∧ OnlyChanges [] [.pw] s u) ∧
  (∀ i a, s.sens.hot.find? (fun x => decide (max s.now t ≥ x.2 + 100 * ms)) = some (i, a) → s.pw.shut = none → s.domainOn 1 = true → s.working = true →
    ∃ u, exec (.thermalShutdown t) s = .next u ∧ ShutdownBegun 3 4 false u ∧ u.sens.hot = [])

/-- A cold start goes through its steps to RUN (R23, R384, R385, R387, R389, R399, R402, R428). The model's choices: log entries 68, 100, 118. -/
def Obligations.ColdStartRuns : Prop := ∀ (s : State) (t : Nat),
  (∀ mode cap bad tr, s.pw.coldDue = true → s.pw.supplies = true → s.pw.pfwLow = false → s.is F.PM_START_HOLD = false → s.domainOn 0 = true →
    mode ≠ 0 → ∃ u, exec (.coldStart t mode cap true bad tr) s = .next u ∧ u.get F.PM_STATE_STATE = 0 ∧ u.get F.SB_STATUS_PHASE = 1 ∧
    u.get F.SB_STATUS_COMMITTED = 0 ∧ u.get F.PM_START_ATTEMPTS = (s.get F.PM_START_ATTEMPTS + 1) % 2 ^ 16 ∧
    u.get F.NV_STATUS_SLOT_MIB = slotMib (64 * 2 ^ min 2 cap) ∧ u.get F.NV_STATUS_CAP = min 2 cap ∧
    u.is F.NV_STATUS_FALLBACK = decide (mode = 1) ∧ u.pw.startAt = some (max s.now t) ∧ u.pw.allCold = true ∧ u.pw.coldDue = false ∧
    u.poweredOnly [0, 1, 2, 3, 4, 13, 14, 15] ∧ u.opticalState = 0) ∧
  (∀ a b k img bad tr, s.starting = true → s.stepDone 0 = false → s.get F.SB_STATUS_PHASE ≠ 0 → s.is F.PM_START_HOLD = false →
    s.bestSlot a b = some (k, img) → ∃ u, exec (.slotVerified t a b bad tr) s = .next u ∧ u.get F.NV_STATUS_ACTIVE = k ∧ u.get F.SB_STATUS_PHASE = 2 ∧
    u.pw.image = some (k, img) ∧ u.stepDone 0 = true ∧ u.is F.NV_SLOTA_VALID = decide (s.slotFail a = 0) ∧
    u.is F.NV_SLOTB_VALID = decide (s.slotFail b = 0)) ∧
  (∀ temp bands tr, s.starting = true → s.domainOn 13 = true → s.stepDone 2 = false → ∃ u, exec (.dramTrained t true temp bands tr) s = .next u ∧
    u.pw.trained = some (temp, bands) ∧ u.stepDone 2 = true ∧ u.get F.SB_STATUS_STEPS = (s.get F.SB_STATUS_STEPS ||| 4) % 128 ∧
    OnlyChanges [F.SB_STATUS_STEPS] [.pw] s u) ∧
  (∀ bad fails, s.starting = true → s.coldForms = true → s.stepDone 2 = true → s.stepDone 3 = false →
    ∃ u, exec (.quickTestDone t bad fails) s = .next u ∧ u.stepDone 3 = true ∧
    u.is F.BT_STATUS_CLEAN = ((s.advance t).readJournals bad).cleanStart ∧ u.is F.BT_STATUS_QUICK = !((s.advance t).readJournals bad).cleanStart) ∧
  (∀ tr i, s.starting = true → s.pw.image.isSome = true → s.stepDone 1 = false → s.domainOn 13 = true → s.domainOn 2 = true → s.stepDone 3 = true →
    s.chooseTimetable.pw.tt = some i → ∃ u, exec (.engineCodeLoaded t tr) s = .next u ∧ u.pw.tt = some i ∧ u.stepDone 1 = true ∧
    u.sw.timetables = s.chooseTimetable.sw.timetables ∧ u.sw.selectable = s.chooseTimetable.sw.selectable) ∧
  (∀ a, s.sens.tec.startAt = some a → a + 4000 * ms ≤ t → s.domainOn 4 = true → s.is F.OP_LASER_WARM = false →
    ∃ u, exec (.laserWarm t) s = .next u ∧ u.get F.OP_LASER_WARM = 1 ∧ (s.starting = true → u.stepDone 4 = true)) ∧
  (∀ r, s.starting = true → s.is F.CL_STATUS_RUNNING = true → s.stepDone 5 = false → s.domainOn 6 = true → s.get F.SL_STATUS_CLK_STATE ≠ 0 →
    ∃ u, exec (.receiverCalDone t r) s = .next u ∧ u.stepDone 5 = true ∧ u.is F.CL_STATUS_RUNNING = false) ∧
  (∀ temp bands crc ack lin vout status lead slot img tt, s.canCommit temp bands crc = true → (s.advance t).arrayReady = true →
    s.pw.image = some (slot, img) → s.sw.timetables.find? (fun x => some x.index == s.pw.tt) = some tt →
    ∃ u, exec (.commit t temp bands crc ack lin vout status lead) s = .next u ∧ u.get F.PM_STATE_STATE = 2 ∧ u.get F.SB_STATUS_COMMITTED = 1 ∧
    u.get F.SB_STATUS_PHASE = 3 ∧ u.get F.SB_TT_STATUS_ACTIVE = tt.index % 2 ^ F.SB_TT_STATUS_ACTIVE.width ∧ u.opt.off = false ∧
    u.opt.dmRunning = true ∧ u.pw.startAt = none ∧ u.pw.commitAt = some (max s.now t) ∧ u.ev.placed = true) ∧
  (∀ c, s.pw.commitAt = some c → s.get F.PM_STATE_STATE = 2 → s.pw.settled = false → c + 60000 * ms ≤ t → s.pw.shut = none →
    ∃ u, exec (.runSettled t) s = .next u ∧ u.get F.PM_START_FAILS = 0 ∧ u.pw = { s.pw with settled := true } ∧
    (∀ k img, s.pw.image = some (k, img) → imageAutoRaise img = false → u.otp = s.otp) ∧
    (∀ k img, s.pw.image = some (k, img) → imageAutoRaise img = true → img.rl ≤ 64 → s.otp.rollback < 64 →
      u.otp = { s.otp with rollback := max s.otp.rollback img.rl }) ∧
    OnlyChanges [F.PM_START_FAILS] [.pw, .otp, .freeCtr] s u)

/-- A start that fails is counted and repeated, and the third failure enters SAFE_HOLD (R106, R384, R388, R389, R390, R391). The model's choices: log entries 70, 78. -/
def Obligations.StartsFail : Prop := ∀ (s : State) (t : Nat) (tr : Bool), s.domainOn 0 = true →
  (∀ mode cap bad, s.pw.coldDue = true → s.pw.supplies = true → s.pw.pfwLow = false →
    ∃ u, exec (.coldStart t mode cap false bad tr) s = .next u ∧ FailedStart 5 tr s u) ∧
  (∀ cap bad, s.pw.coldDue = true → s.pw.supplies = true → s.pw.pfwLow = false → s.is F.PM_START_HOLD = false →
    ∃ u, exec (.coldStart t 0 cap true bad tr) s = .next u ∧ FailedStart 1 tr s u) ∧
  (∀ a b bad, s.starting = true → s.stepDone 0 = false → s.get F.SB_STATUS_PHASE ≠ 0 → s.is F.PM_START_HOLD = false → s.bestSlot a b = none →
    ∃ u, exec (.slotVerified t a b bad tr) s = .next u ∧ FailedStart 2 tr s u) ∧
  (∀ temp bands, s.starting = true → s.domainOn 13 = true → s.stepDone 2 = false →
    ∃ u, exec (.dramTrained t false temp bands tr) s = .next u ∧ FailedStart 4 tr s u) ∧
  (s.starting = true → s.pw.image.isSome = true → s.stepDone 1 = false → s.domainOn 13 = true → s.stepDone 3 = true → s.chooseTimetable.pw.tt = none →
    ∃ u, exec (.engineCodeLoaded t tr) s = .next u ∧ FailedStart 3 tr s u) ∧
  (∀ a l, s.pw.startAt = some a → s.pw.laserAt = some l → l + 10000 * ms ≤ t → s.stepDone 7 = false →
    ∃ u, exec (.startTimeout t tr) s = .next u ∧ FailedStart 6 tr s u) ∧
  (∀ a, s.pw.startAt = some a → (s.stepDone 7 = true ∨ s.pw.laserAt = none) → a + 30000 * ms ≤ t →
    ∃ u, exec (.startTimeout t tr) s = .next u ∧ FailedStart 7 tr s u) ∧
  (s.domainOn 2 = true → s.pw.settled = false → ∃ u, exec (.watchdogExpiry t tr) s = .next u ∧ FailedStart 8 tr s u) ∧
  (s.domainOn 2 = true → s.pw.settled = true → ∃ u, exec (.watchdogExpiry t tr) s = .next u ∧ u.get F.PM_STATE_STATE = 0 ∧
    u.get F.PM_STATE_LAST_RESET = 4 ∧ u.pw.coldDue = true ∧ u.get F.PM_START_FAILS = s.get F.PM_START_FAILS ∧ u.opticalState = 0 ∧ u.poweredOnly [0]) ∧
  (s.domainOn 2 = true → s.starting = true → ∃ u, exec (.clkFail t tr) s = .next u ∧ FailedStart 5 tr s u) ∧
  (s.domainOn 2 = true → s.starting = false → s.pw.shut = none → s.domainOn 1 = true → s.working = true →
    ∃ u, exec (.clkFail t tr) s = .next u ∧ ShutdownBegun 3 4 false u ∧ u.get F.SL_STATUS_CLK_FAIL = 1)

/-- The power commands begin, deepen and follow the shutdown sequence (R383, R384, R392, R401, R403, R404, R407, R408). The model's choices: log entries 71, 72, 75, 108. -/
def Obligations.PowerCommands : Prop := ∀ (s : State) (src : Source) (t : Nat), s.domainOn 0 = true → s.domainOn 2 = true →
  (s.pw.shut = none → s.pw.held = none → s.nv.op = none → s.get F.PM_STATE_STATE = 2 →
    ∃ u, exec (.sbCmdIdle src t) s = .next u ∧ ShutdownBegun 1 0 false u ∧ u.get F.PM_STATE_STATE = 2) ∧
  (s.pw.shut = none → s.pw.held = none → s.nv.op = none → s.working = true →
    (∃ u, exec (.sbCmdOff src t) s = .next u ∧ ShutdownBegun 3 0 false u) ∧
    (∃ u, exec (.pmResetCold src t) s = .next u ∧ ShutdownBegun 3 1 false u ∧ u.get F.PM_STATE_LAST_RESET = 2) ∧
    (∃ u, exec (.pmResetWarm src t) s = .next u ∧ ShutdownBegun 1 2 false u ∧ u.get F.PM_STATE_LAST_RESET = 3)) ∧
  (∀ op, s.pw.shut = none → s.pw.held = none → s.nv.op = some op → s.working = true →
    ∃ u, exec (.sbCmdOff src t) s = .next u ∧ u.pw = { s.pw with held := some (3, 0) } ∧ OnlyChanges [] [.pw] s u) ∧
  (s.pw.shut = none → s.pw.held = none → s.get F.PM_STATE_STATE = 1 → ∃ u, exec (.sbCmdRun src t) s = .next u ∧ u.get F.PM_STATE_STATE = 0 ∧
    u.get F.PM_STATE_KIND = 1 ∧ u.get F.PM_START_ATTEMPTS = (s.get F.PM_START_ATTEMPTS + 1) % 2 ^ 16 ∧ u.pw.startAt = some (max s.now t) ∧
    u.pw.allCold = false ∧ ∀ d ∈ [5, 6, 8, 9, 10, 11, 12, 13], u.domainOn d = true) ∧
  (∀ x, s.pw.shut = some x → x.target = 1 →
    (∃ u, exec (.sbCmdRun src t) s = .next u ∧ u.pw.shut = some { x with then_ := 2 } ∧ OnlyChanges [] [.pw] s u) ∧
    (x.emergency = false → ∃ u, exec (.sbCmdOff src t) s = .next u ∧ u.pw.shut = some { x with target := 3, then_ := 0 } ∧
      u.get F.OP_LASER_LOCKED = 0)) ∧
  (s.get F.PM_STATE_STATE = 0 → s.pw.shut = none → s.pw.supplies = true → ∃ u, exec (.pmResetCold src t) s = .next u ∧
    u.get F.PM_STATE_THERM_WAIT = 1 ∧ u.get F.PM_STATE_LAST_RESET = 2 ∧ u.poweredOnly ([0, 3] ++ s.ifOn 14)) ∧
  (s.get F.PM_STATE_STATE = 3 → s.pw.shut = none → ∃ u, exec (.sbCmdRetry src t) s = .next u ∧ u.get F.PM_START_HOLD = 0 ∧
    u.get F.PM_START_FAILS = 0 ∧ u.get F.PM_STATE_LAST_RESET = 6 ∧ u.get F.PM_STATE_STATE = 0 ∧ u.pw.coldDue = true ∧
    OnlyChanges [F.PM_START_HOLD, F.PM_START_FAILS, F.PM_STATE_LAST_RESET, F.PM_STATE_STATE] [.pw] s u) ∧
  (∀ x, s.pw.shut = some x → x.emergency = false → x.step = 1 → ((s.fab.store = [] ∧ s.fab.jobs = []) ∨ x.at_ + 200 * ms ≤ t) →
    ∃ u, exec (.shutdownDrainDone t) s = .next u ∧
    (s.is F.CL_STATUS_NVM_PENDING = true → u.pw.shut = some { x with step := 2 } ∧ u.get F.SB_SHUTDOWN_STEP = 2) ∧
    (s.is F.CL_STATUS_NVM_PENDING = false → u.pw.shut = some { x with step := 3 } ∧ u.get F.SB_SHUTDOWN_STEP = 3 ∧
      u.bt.testFrom = some (max s.now t)))

/-- A lifecycle transition needs its two writes, and R411 decides it (R410, R411, R412, R413). The model's choices: log entry 92. -/
def Obligations.LifecycleTransitions : Prop := ∀ (s : State) (src : Source) (t code : Nat), s.domainOn 0 = true →
  (∃ u, exec (.lcTransitionFirst src t code) s = .next u ∧ u.lc = { s.lc with first := some (code % 256, max s.now t) } ∧ OnlyChanges [] [.lc] s u) ∧
  (∀ t0, s.lc.first = some (code % 256, t0) → max s.now t ≤ t0 + ms → ∃ u, exec (.lcTransitionSecond src t code) s = .next u ∧
    u.lc.first = none ∧
    (code % 256 = 2 → s.otp.life = 1 → s.otp.imageKey.isSome = true → s.otp.vkHash.isSome = true → s.otp.sealKey.isSome = true →
      s.get F.OP_STATE_STATE ≤ 1 → u.otp = { s.otp with life := 2 } ∧ u.get F.LC_TRANS_STATUS_RESULT = 1) ∧
    (code % 256 = 3 → (s.otp.life = 1 ∨ s.otp.life = 2) → s.get F.OP_STATE_STATE ≤ 1 → u.otp.life = 3 ∧ u.otp.zeroised = true ∧
      (s.otp.zeroised = false → u.otp.imageKey = none ∧ u.otp.sealKey = none) ∧ u.get F.LC_TRANS_STATUS_RESULT = 1) ∧
    (code % 256 = 4 → s.otp.life ≤ 3 → u.otp.life = 4 ∧ u.otp.zeroised = true ∧
      (s.otp.zeroised = false → u.otp.imageKey = none ∧ u.otp.sealKey = none) ∧ u.get F.LC_TRANS_STATUS_RESULT = 1) ∧
    (code % 256 = 2 → s.otp.life = 1 → (s.otp.imageKey = none ∨ s.otp.vkHash = none ∨ s.otp.sealKey = none) →
      u.otp = s.otp ∧ u.get F.LC_TRANS_STATUS_RESULT = 3) ∧
    (code % 256 = 2 → s.otp.life = 1 → s.otp.imageKey.isSome = true → s.otp.vkHash.isSome = true → s.otp.sealKey.isSome = true →
      2 ≤ s.get F.OP_STATE_STATE → u.otp = s.otp ∧ u.get F.LC_TRANS_STATUS_RESULT = 4) ∧
    (code % 256 = 3 → (s.otp.life = 1 ∨ s.otp.life = 2) → 2 ≤ s.get F.OP_STATE_STATE → u.otp = s.otp ∧ u.get F.LC_TRANS_STATUS_RESULT = 4) ∧
    ((¬ (code % 256 = 2 ∧ s.otp.life = 1) ∧ ¬ (code % 256 = 3 ∧ (s.otp.life = 1 ∨ s.otp.life = 2)) ∧ ¬ (code % 256 = 4 ∧ s.otp.life ≤ 3)) →
      u.otp = s.otp ∧ u.get F.LC_TRANS_STATUS_RESULT = 2)) ∧
  ((s.lc.first = none ∨ ∃ c t0, s.lc.first = some (c, t0) ∧ (c ≠ code % 256 ∨ t0 + ms < max s.now t)) →
    ∃ u, exec (.lcTransitionSecond src t code) s = .next u ∧ u.lc.first = none ∧ u.otp = s.otp ∧ u.get F.LC_TRANS_STATUS_RESULT = 5 ∧
    OnlyChanges [F.LC_TRANS_STATUS_RESULT] [.lc, .freeCtr] s u)

/-- Keys and tamper settings are fused once, in PROVISION, and a tamper input latches or zeroises (R414, R415, R419, R420, R421). The model's choices: log entries 2, 77, 91. -/
def Obligations.KeysAndTamper : Prop := ∀ (s : State) (src : Source) (t : Nat),
  (∀ cmd i, s.domainOn 1 = true → (cmd, i) ∈ [(1, Instr.progImageKey src t), (2, .progVkHash src t), (3, .genSeal src t), (4, .progTamper src t)] →
    s.seCause cmd ≠ 0 → ∃ u, exec i s = .next u ∧ u.get F.SE_STATUS_DONE = 1 ∧
    u.get F.SE_STATUS_RESULT = (if s.keyPresent cmd then 1 else if s.otp.life ≠ 1 then 2 else 3) ∧
    OnlyChanges [F.SE_CMD_CMD, F.SE_STATUS_RESULT, F.SE_STATUS_DONE] [] s u) ∧
  (s.domainOn 1 = true → s.otp.life = 1 → s.otp.zeroised = false →
    (s.otp.imageKey = none → ∃ u, exec (.progImageKey src t) s = .next u ∧ u.otp = { s.otp with imageKey := some s.keyData } ∧
      u.get F.SE_STATUS_RESULT = 0 ∧ u.get F.SE_STATUS_DONE = 1 ∧ (∀ i, i < 8 → u.get (F.SE_KEY_DATA_DATA i) = 0) ∧
      OnlyChanges ([F.SE_CMD_CMD, F.SE_STATUS_RESULT, F.SE_STATUS_DONE] ++ (List.range 8).map F.SE_KEY_DATA_DATA) [.otp, .freeCtr] s u) ∧
    (s.otp.vkHash = none → ∃ u, exec (.progVkHash src t) s = .next u ∧ u.otp = { s.otp with vkHash := some s.keyData } ∧
      u.get F.SE_STATUS_RESULT = 0 ∧ u.get F.SE_STATUS_DONE = 1 ∧ (∀ i, i < 8 → u.get (F.SE_KEY_DATA_DATA i) = 0) ∧
      OnlyChanges ([F.SE_CMD_CMD, F.SE_STATUS_RESULT, F.SE_STATUS_DONE] ++ (List.range 8).map F.SE_KEY_DATA_DATA) [.otp, .freeCtr] s u) ∧
    (s.otp.sealPub = none → ∃ u d, exec (.genSeal src t) s = .next u ∧ 1 ≤ d ∧ d < ecOrder ∧
      u.otp = { s.otp with sealKey := some (beBytes d 32), sealPub := some (ecdsaPublic d) } ∧
      u.get F.SE_STATUS_RESULT = 0 ∧ u.get F.SE_STATUS_DONE = 1 ∧
      OnlyChanges [F.SE_CMD_CMD, F.SE_STATUS_RESULT, F.SE_STATUS_DONE] [.otp, .freeCtr] s u) ∧
    (s.otp.tamper = none → ∃ u, exec (.progTamper src t) s = .next u ∧ u.otp = { s.otp with tamper := some s.tamperWord } ∧
      u.get F.SE_STATUS_RESULT = 0 ∧ u.get F.SE_STATUS_DONE = 1 ∧
      OnlyChanges [F.SE_CMD_CMD, F.SE_STATUS_RESULT, F.SE_STATUS_DONE] [.otp, .freeCtr] s u)) ∧
  (∀ pin level, pin < 2 → ∃ u, exec (.tamper t pin level) s = .next u ∧
    ((s.tamperMode pin = 0 ∨ level ≠ s.tamperLevel pin) → (u.get F.LC_TAMPER_LEVEL).testBit pin = level ∧
      OnlyChanges [F.LC_TAMPER_LEVEL] [] s u) ∧
    (s.tamperMode pin = 1 → level = s.tamperLevel pin → u.get (tamperLatch pin) = 1 ∧
      OnlyChanges [F.LC_TAMPER_LEVEL, tamperLatch pin] [.freeCtr] s u) ∧
    (s.tamperMode pin = 2 → level = s.tamperLevel pin → s.otp.zeroised = false → s.pw.supplies = true →
      u.otp = { s.otp with zeroised := true, imageKey := none, sealKey := none } ∧
      (s.pw.shut = none → s.domainOn 1 = true → s.working = true → ShutdownBegun 3 4 true u)) ∧
    (s.tamperMode pin = 2 → level = s.tamperLevel pin → s.otp.zeroised = false → s.pw.supplies = false →
      u.get F.LC_TAMPER_PENDING = 1 ∧ u.otp = s.otp) ∧
    (s.otp.zeroised = true → u.otp = s.otp))

/-- The JTAG instructions select, scan and leave (R422, R423, R454). The model's choices: log entries 93, 94. -/
def Obligations.JtagPort : Prop := ∀ (s : State) (t : Nat),
  (s.scanning = false →
    (∃ u, exec (.bypass t) s = .next u ∧ u.lc = { s.lc with jtag := 0 } ∧ OnlyChanges [] [.lc] s u) ∧
    (∃ u, exec (.samplePreload t) s = .next u ∧ u.lc = { s.lc with jtag := 2 } ∧ OnlyChanges [] [.lc] s u) ∧
    (∃ u, exec (.idcode t) s = .next u ∧ u.lc = { s.lc with jtag := 1 } ∧ u.resp = [s.otp.step / 16 % 16 * 2 ^ 28 + 0x9609CB] ∧
      OnlyChanges [] [.lc, .resp] s u) ∧
    (∃ u, exec (.bscanExit t) s = .next u ∧ OnlyChanges [] [] s u) ∧
    ((s.otp.life = 0 ∨ s.otp.life = 3) → ∃ u, exec (.intdbg t) s = .next u ∧ u.lc.jtag = 6 ∧ u.get F.LC_STATE_DEBUG_OPEN = 1 ∧
      OnlyChanges [F.LC_STATE_DEBUG_OPEN] [.lc, .freeCtr] s u) ∧
    (s.otp.life ≠ 0 → s.otp.life ≠ 3 → ∃ u, exec (.intdbg t) s = .next u ∧ u.lc.jtag = 0 ∧ OnlyChanges [] [.lc] s u) ∧
    (∀ k i, (k, i) ∈ [(3, Instr.extest t), (4, .clamp t), (5, .highz t)] → ∃ u, exec i s = .next u ∧ u.lc.jtag = k ∧
      (s.domainOn 0 = true → u.get F.LC_STATE_BSCAN = 1) ∧
      (s.pw.shut = none → s.domainOn 1 = true → s.working = true → ShutdownBegun 3 4 true u))) ∧
  (s.scanning = true → ∃ u, exec (.bscanExit t) s = .next u ∧ u.lc.jtag = 1 ∧ (s.domainOn 0 = true → u.get F.LC_STATE_BSCAN = 0) ∧
    (∀ x, s.pw.shut = some x → u.pw.shut = some { x with then_ := 1 } ∧ u.get F.PM_STATE_LAST_RESET = 2) ∧
    (s.pw.shut = none → s.get F.PM_STATE_STATE = 0 → s.pw.supplies = true → u.get F.PM_STATE_THERM_WAIT = 1 ∧ u.get F.PM_STATE_LAST_RESET = 2))

/-- Writes and reads of the control space follow the access types (R7, R8, R10, R29, R449). The model's choices: log entries 86, 87, 88, 89, 99, 113, 124. -/
def Obligations.ControlSpace : Prop := ∀ (s : State) (t : Nat),
  (∀ src addr v be al, addr % 4 ≠ 0 → exec (.registerWrite src t addr v be al) s = .refused (.misaligned addr)) ∧
  (∀ src addr v be al, addr % 4 = 0 → s.blockOn addr = true → be % 16 ≠ 15 → ∃ u, exec (.registerWrite src t addr v be al) s = .next u ∧
    OnlyChanges [] [] s u) ∧
  (∀ src addr v al r, addr % 4 = 0 → s.blockOn addr = true → s.hidden addr = false → s.frameParam addr = false → findReg addr = some r →
    writeFront addr v s = none → writeBack src addr v s = none → writeSystem addr v al s = none → satPairs addr = [] → addr ≠ 0x50000 →
    ∃ u, exec (.registerWrite src t addr v 15 al) s = .next u ∧
    (∀ f ∈ r.fields, f.accAt addr = .rw → u.get (f.at addr) = v % 2 ^ 32 / 2 ^ f.lo % 2 ^ (f.at addr).width) ∧
    (∀ f ∈ r.fields, f.accAt addr = .w1c → ∀ b, b < (f.at addr).width →
      (u.get (f.at addr)).testBit b = ((s.get (f.at addr)).testBit b && !v.testBit (f.lo + b))) ∧
    (∀ f ∈ r.fields, f.accAt addr = .ro → (f.at addr).key ∉ settleKeys → u.get (f.at addr) = s.get (f.at addr)) ∧
    OnlyChanges (r.fields.map (·.at addr)) [] s u) ∧
  (∀ src v al, s.domainOn 2 = true → ∃ u, exec (.registerWrite src t 0x20108 v 15 al) s = .next u ∧ u.get F.SB_TT_AT_LO_SEC_LO = v % 2 ^ 32 ∧
    OnlyChanges [F.SB_TT_AT_LO_SEC_LO] [] s u) ∧
  (∀ src v al, s.domainOn 0 = true → ∃ u, exec (.registerWrite src t 0x10010 v 15 al) s = .next u ∧
    (∀ b, b < 32 → (u.get F.PM_OFFACC_LO_BLOCK).testBit b = ((s.get F.PM_OFFACC_LO_BLOCK).testBit b && !v.testBit b)) ∧
    OnlyChanges [F.PM_OFFACC_LO_BLOCK] [] s u) ∧
  (∀ src v al, s.domainOn 2 = true → ∃ u, exec (.registerWrite src t 0x1F001C v 15 al) s = .next u ∧ OnlyChanges [] [] s u) ∧
  (∀ v al, s.domainOn 2 = true →
    (∃ u, exec (.registerWrite .host t 0x2000C v 15 al) s = .next u ∧ OnlyChanges [] [] s u) ∧
    (s.is F.SB_STATUS_COMMITTED = false → ∃ u, exec (.registerWrite .signalBox t 0x2000C v 15 al) s = .next u ∧
      u.get F.SB_SHUTDOWN_BUDGET = v / 2 ^ 24 % 256 ∧ OnlyChanges [F.SB_SHUTDOWN_BUDGET] [] s u)) ∧
  (∀ addr n, addr % 4 = 0 → n ≤ 64 →
    (∀ i, i < n → s.blockOn (addr % 2 ^ 24 + 4 * i) = true ∧ readEffect (addr % 2 ^ 24 + 4 * i) s = none) →
    ∃ u, exec (.mgmtRead t addr n) s = .next u ∧ u.resp = (List.range n).map (fun i => (s.advance t).plainWord (addr % 2 ^ 24 + 4 * i)) ∧
    OnlyChanges [] [.resp] s u) ∧
  (∀ addr v al, addr % 4 = 0 → exec (.mgmtWrite t addr [v] al) s = exec (.registerWrite .host t (addr % 2 ^ 24) v 15 al) s) ∧
  (∀ v w al, s.domainOn 2 = true → ∃ u, exec (.mgmtWrite t 0x20108 [v, w] al) s = .next u ∧ u.get F.SB_TT_AT_LO_SEC_LO = v % 2 ^ 32 ∧
    u.get F.SB_TT_AT_HI_SEC_HI = w % 2 ^ 16 ∧ OnlyChanges [F.SB_TT_AT_LO_SEC_LO, F.SB_TT_AT_HI_SEC_HI] [] s u) ∧
  (∃ u, exec (.mgmtInvalidCommand t) s = .next u ∧ u.resp = [0xFF] ∧ OnlyChanges [] [.resp] s u)

/-- SAT bits clear with their counters, and PM_FAULT keeps the latches of faults in force (R467, R470). The model's choices: log entries 14, 90. -/
def Obligations.CountersAndFaults : Prop := ∀ (s : State) (t : Nat), s.Settled →
  (∀ addr v, addr % 4 = 0 → s.blockOn addr = true → s.hidden addr = false → ∃ u, exec (.satClear t addr v) s = .next u ∧
    (∀ p ∈ satPairs addr, (v % 2 ^ 32).testBit (p.1.key % 32) = true → u.get p.1 = 0 ∧ u.get p.2 = 0) ∧
    (∀ f : Fld, f.key ∉ (satPairs addr).map (·.1.key) → f.key ∉ (satPairs addr).map (·.2.key) → f.key ≠ F.EC_CORR_SAT_CH_SAT.key →
      f.key ∉ (List.range 4).map (fun c => (F.EC_CORR_COUNT c).key) → u.get f = s.get f)) ∧
  (∀ v, s.domainOn 0 = true → ∃ u, exec (.faultLatchClear t v) s = .next u ∧
    (∀ b, b < 15 → (u.get F.PM_FAULT_LATCH).testBit b = ((s.get F.PM_FAULT_LATCH).testBit b &&
      ((s.get F.PM_FAULT_ACTIVE).testBit b || !(v % 2 ^ 32).testBit (b + 1)))) ∧
    OnlyChanges [] [] s u)
end

