-- ==== Sys2Proof/Laws/Maps.lean ====
section
/-!
SUPPORT. Laws/Maps.lean: the sparse maps. What a read after an update gives, and that every update keeps the keys strictly rising.
-/
namespace Sys2Proof.Machine

variable {α : Type}

/-- A deleted key reads as the default. -/
theorem kvGet_kvDel_same (d : α) (k : Nat) : ∀ m : List (Nat × α), kvGet d (kvDel k m) k = d
  | [] => rfl
  | (a, v) :: m => by
    by_cases h : a = k
    · simp [kvDel, h, kvGet_kvDel_same d k m]
    · simp [kvDel, kvGet, h, kvGet_kvDel_same d k m]

theorem kvGet_kvDel_ne (d : α) {k j : Nat} (hj : j ≠ k) : ∀ m : List (Nat × α), kvGet d (kvDel k m) j = kvGet d m j
  | [] => rfl
  | (a, v) :: m => by
    by_cases h : a = k
    · have : a ≠ j := fun e => hj (e ▸ h)
      simp [kvDel, kvGet, h, kvGet_kvDel_ne d hj m, Ne.symm hj]
    · by_cases h2 : a = j
      · simp [kvDel, kvGet, h2, hj]
      · simp [kvDel, kvGet, h, h2, kvGet_kvDel_ne d hj m]

theorem kvGet_kvIns_ne (d : α) {k j : Nat} (v : α) (hj : j ≠ k) : ∀ m : List (Nat × α), kvGet d (kvIns k v m) j = kvGet d m j
  | [] => by simp [kvIns, kvGet, Ne.symm hj]
  | (a, w) :: m => by
    by_cases h : k < a
    · simp [kvIns, h, kvGet, Ne.symm hj]
    · by_cases h2 : a = j
      · subst h2; simp [kvIns, h, kvGet]
      · simp [kvIns, h, kvGet, h2, kvGet_kvIns_ne d v hj m]

/-- Inserting at a key that the map does not list makes the value readable there. -/
theorem kvGet_kvIns_same (d : α) (k : Nat) (v : α) : ∀ m : List (Nat × α), (∀ x ∈ m, x.1 ≠ k) → kvGet d (kvIns k v m) k = v
  | [], _ => by simp [kvIns, kvGet]
  | (a, w) :: m, hm => by
    have ha : a ≠ k := hm (a, w) (by simp)
    by_cases h : k < a
    · simp [kvIns, h, kvGet]
    · simp [kvIns, h, kvGet, ha, kvGet_kvIns_same d k v m (fun x hx => hm x (by simp [hx]))]

theorem kvDel_free (k : Nat) : ∀ m : List (Nat × α), ∀ x ∈ kvDel k m, x.1 ≠ k
  | [] => by simp [kvDel]
  | (a, v) :: m => by
    intro x hx
    by_cases h : a = k
    · simp only [kvDel, h, if_true] at hx
      exact kvDel_free k m x hx
    · simp only [kvDel, h, if_false, List.mem_cons] at hx
      rcases hx with rfl | hx
      · exact h
      · exact kvDel_free k m x hx

/-- A read of the key just written. -/
@[simp] theorem kvGet_kvSet_same [DecidableEq α] (d : α) (m : List (Nat × α)) (k : Nat) (v : α) :
    kvGet d (kvSet d m k v) k = v := by
  unfold kvSet
  split
  · next h => rw [kvGet_kvDel_same, h]
  · exact kvGet_kvIns_same d k v _ (kvDel_free k m)

/-- A read of another key. -/
theorem kvGet_kvSet_ne [DecidableEq α] (d e : α) (m : List (Nat × α)) {k j : Nat} (v : α) (h : j ≠ k) :
    kvGet d (kvSet e m k v) j = kvGet d m j := by
  unfold kvSet
  split
  · exact kvGet_kvDel_ne d h m
  · rw [kvGet_kvIns_ne d v h, kvGet_kvDel_ne d h]

/-! ## Rising keys -/

theorem kvSorted_tail {x : Nat × α} {m : List (Nat × α)} (h : kvSorted (x :: m) = true) : kvSorted m = true := by
  cases m with
  | nil => rfl
  | cons y m => simp only [kvSorted, Bool.and_eq_true] at h; exact h.2

theorem kvSorted_lt {x : Nat × α} : ∀ {m : List (Nat × α)}, kvSorted (x :: m) = true → ∀ y ∈ m, x.1 < y.1
  | [], _ => by simp
  | z :: m, h => by
    simp only [kvSorted, Bool.and_eq_true, decide_eq_true_eq] at h
    intro y hy
    rcases List.mem_cons.mp hy with rfl | hy
    · exact h.1
    · exact Nat.lt_trans h.1 (kvSorted_lt h.2 y hy)

theorem kvSorted_cons {x : Nat × α} {m : List (Nat × α)} (hx : ∀ y ∈ m, x.1 < y.1) (hm : kvSorted m = true) :
    kvSorted (x :: m) = true := by
  cases m with
  | nil => rfl
  | cons y m => simp only [kvSorted, Bool.and_eq_true, decide_eq_true_eq]; exact ⟨hx y (by simp), hm⟩

theorem mem_kvDel {k : Nat} {y : Nat × α} : ∀ {m : List (Nat × α)}, y ∈ kvDel k m → y ∈ m
  | [], h => h
  | (a, v) :: m, h => by
    by_cases ha : a = k
    · simp only [kvDel, ha, if_true] at h
      exact List.mem_cons_of_mem _ (mem_kvDel h)
    · simp only [kvDel, ha, if_false, List.mem_cons] at h
      rcases h with rfl | h
      · simp
      · exact List.mem_cons_of_mem _ (mem_kvDel h)

theorem kvSorted_kvDel (k : Nat) : ∀ {m : List (Nat × α)}, kvSorted m = true → kvSorted (kvDel k m) = true
  | [], _ => rfl
  | (a, v) :: m, h => by
    by_cases ha : a = k
    · simpa [kvDel, ha] using kvSorted_kvDel k (kvSorted_tail h)
    · simp only [kvDel, ha, if_false]
      exact kvSorted_cons (fun y hy => kvSorted_lt h y (mem_kvDel hy)) (kvSorted_kvDel k (kvSorted_tail h))

theorem mem_kvIns {k : Nat} {v : α} {y : Nat × α} : ∀ {m : List (Nat × α)}, y ∈ kvIns k v m → y = (k, v) ∨ y ∈ m
  | [], h => by simpa [kvIns] using h
  | (a, w) :: m, h => by
    by_cases ha : k < a
    · simpa [kvIns, ha] using h
    · simp only [kvIns, ha, if_false, List.mem_cons] at h
      rcases h with rfl | h
      · simp
      · rcases mem_kvIns h with h | h
        · exact .inl h
        · exact .inr (List.mem_cons_of_mem _ h)

theorem kvSorted_kvIns (k : Nat) (v : α) : ∀ {m : List (Nat × α)}, kvSorted m = true → (∀ x ∈ m, x.1 ≠ k) →
    kvSorted (kvIns k v m) = true
  | [], _, _ => rfl
  | (a, w) :: m, h, hk => by
    by_cases ha : k < a
    · simp only [kvIns, ha, if_true]
      refine kvSorted_cons (fun y hy => ?_) h
      rcases List.mem_cons.mp hy with rfl | hy
      · exact ha
      · exact Nat.lt_trans ha (kvSorted_lt h y hy)
    · simp only [kvIns, ha, if_false]
      have hak : a < k := by have : a ≠ k := hk (a, w) (by simp); omega
      refine kvSorted_cons (fun y hy => ?_) (kvSorted_kvIns k v (kvSorted_tail h) (fun x hx => hk x (by simp [hx])))
      rcases mem_kvIns hy with rfl | hy
      · exact hak
      · exact kvSorted_lt h y hy

/-- An update keeps the keys strictly rising. -/
theorem kvSorted_kvSet [DecidableEq α] (d : α) {m : List (Nat × α)} (k : Nat) (v : α) (h : kvSorted m = true) :
    kvSorted (kvSet d m k v) = true := by
  unfold kvSet
  split
  · exact kvSorted_kvDel k h
  · exact kvSorted_kvIns k v (kvSorted_kvDel k h) (kvDel_free k m)

theorem kvSorted_filter (p : Nat × α → Bool) : ∀ {m : List (Nat × α)}, kvSorted m = true → kvSorted (m.filter p) = true
  | [], _ => rfl
  | x :: m, h => by
    by_cases hp : p x
    · rw [List.filter_cons_of_pos hp]
      exact kvSorted_cons (fun y hy => kvSorted_lt h y (List.mem_filter.mp hy).1) (kvSorted_filter p (kvSorted_tail h))
    · rw [List.filter_cons_of_neg hp]
      exact kvSorted_filter p (kvSorted_tail h)

theorem kvSorted_append : ∀ {m n : List (Nat × α)}, kvSorted m = true → kvSorted n = true → (∀ x ∈ m, ∀ y ∈ n, x.1 < y.1) →
    kvSorted (m ++ n) = true
  | [], _, _, hn, _ => hn
  | x :: m, n, hm, hn, hlt => by
    refine kvSorted_cons (fun y hy => ?_) (kvSorted_append (kvSorted_tail hm) hn (fun a ha b hb => hlt a (by simp [ha]) b hb))
    rcases List.mem_append.mp hy with hy | hy
    · exact kvSorted_lt hm y hy
    · exact hlt x (by simp) y hy

theorem kvGet_append_left (d : α) {j : Nat} : ∀ (m n : List (Nat × α)), (∀ y ∈ n, y.1 ≠ j) → kvGet d (m ++ n) j = kvGet d m j
  | [], [], _ => rfl
  | [], (a, w) :: n, h => by
    have : a ≠ j := h (a, w) (by simp)
    simpa [kvGet, this] using kvGet_append_left d [] n (fun y hy => h y (by simp [hy]))
  | (a, w) :: m, n, h => by
    by_cases ha : a = j
    · simp [kvGet, ha]
    · simpa [kvGet, ha] using kvGet_append_left d m n h

theorem kvGet_append_right (d : α) {j : Nat} : ∀ (m n : List (Nat × α)), (∀ y ∈ m, y.1 ≠ j) → kvGet d (m ++ n) j = kvGet d n j
  | [], _, _ => rfl
  | (a, w) :: m, n, h => by
    have : a ≠ j := h (a, w) (by simp)
    simpa [kvGet, this] using kvGet_append_right d m n (fun y hy => h y (by simp [hy]))

theorem kvGet_filter (d : α) {j : Nat} {p : Nat × α → Bool} (hp : ∀ x : Nat × α, x.1 = j → p x = true) :
    ∀ m : List (Nat × α), kvGet d (m.filter p) j = kvGet d m j
  | [] => rfl
  | x :: m => by
    by_cases hx : x.1 = j
    · rw [List.filter_cons_of_pos (hp x hx)]
      obtain ⟨a, w⟩ := x
      simp only at hx
      simp [kvGet, hx]
    · obtain ⟨a, w⟩ := x
      simp only at hx
      by_cases hq : p (a, w)
      · rw [List.filter_cons_of_pos hq]; simp [kvGet, hx, kvGet_filter d hp m]
      · rw [List.filter_cons_of_neg hq]; simp [kvGet, hx, kvGet_filter d hp m]

theorem kvGet_none (d : α) {j : Nat} : ∀ {m : List (Nat × α)}, (∀ y ∈ m, y.1 ≠ j) → kvGet d m j = d
  | [], _ => rfl
  | (a, w) :: m, h => by
    have : a ≠ j := h (a, w) (by simp)
    simpa [kvGet, this] using kvGet_none d (fun y hy => h y (by simp [hy]))

end Sys2Proof.Machine
end

