-- ==== Sys2Proof/Laws/State.lean ====
section
/-!
SUPPORT. Laws/State.lean: what each named update of the state leaves alone, field by field, and what a register field reads as after an
update of that field or of another. Later proofs cite these and never unfold a record update.
-/
namespace Sys2Proof.Machine

/-! ## Register fields -/

/-- A field reads the registers only. -/
theorem State.get_congr {s u : State} (h : u.regs = s.regs) (f : Fld) : u.get f = s.get f := by simp [State.get, h]

/-- A record update that leaves the registers alone leaves every field alone. -/
@[simp] theorem State.get_mk (s : State) (x0) (x1) (x2) (x3) (x4) (x5) (x6) (x7) (x8) (x9) (x10) (x11) (x12) (x13) (x14) (x15) (x16) (x17) (x18) (x19) (x20) (x21) (x22) (x23) (x24) (x25) (x26) (x27) (x28) (f : Fld) : (State.mk s.regs x0 x1 x2 x3 x4 x5 x6 x7 x8 x9 x10 x11 x12 x13 x14 x15 x16 x17 x18 x19 x20 x21 x22 x23 x24 x25 x26 x27 x28).get f = s.get f := rfl

@[simp] theorem State.is_mk (s : State) (x0) (x1) (x2) (x3) (x4) (x5) (x6) (x7) (x8) (x9) (x10) (x11) (x12) (x13) (x14) (x15) (x16) (x17) (x18) (x19) (x20) (x21) (x22) (x23) (x24) (x25) (x26) (x27) (x28) (f : Fld) : (State.mk s.regs x0 x1 x2 x3 x4 x5 x6 x7 x8 x9 x10 x11 x12 x13 x14 x15 x16 x17 x18 x19 x20 x21 x22 x23 x24 x25 x26 x27 x28).is f = s.is f := rfl

/-- A field just written reads as the low bits written. -/
@[simp] theorem State.get_put_same (s : State) (f : Fld) (v : Nat) : (s.put f v).get f = v % 2 ^ f.width := by
  simp [State.get, State.put]

/-- A field with another key is left alone. -/
theorem State.get_put_ne (s : State) {f g : Fld} (v : Nat) (h : g.key ≠ f.key) : (s.put f v).get g = s.get g := by
  simp only [State.get, State.put]
  exact kvGet_kvSet_ne _ _ _ _ h

theorem State.get_putB_same (s : State) {f : Fld} (b : Bool) (h : 1 ≤ f.width) : (s.putB f b).get f = if b then 1 else 0 := by
  have : 1 < 2 ^ f.width := Nat.one_lt_two_pow (by omega)
  cases b <;> simp [State.putB, Nat.mod_eq_of_lt this]

theorem State.get_putB_ne (s : State) {f g : Fld} (b : Bool) (h : g.key ≠ f.key) : (s.putB f b).get g = s.get g :=
  State.get_put_ne s _ h

theorem State.get_putSat_same (s : State) (f : Fld) (v : Nat) : (s.putSat f v).get f = min v (2 ^ f.width - 1) := by
  have : 0 < 2 ^ f.width := Nat.two_pow_pos _
  simp only [State.putSat, State.get_put_same]
  exact Nat.mod_eq_of_lt (by omega)

theorem State.get_putSat_ne (s : State) {f g : Fld} (v : Nat) (h : g.key ≠ f.key) : (s.putSat f v).get g = s.get g :=
  State.get_put_ne s _ h

theorem State.get_bumpWrap_same (s : State) (f : Fld) (n : Nat) : (s.bumpWrap f n).get f = (s.get f + n) % 2 ^ f.width :=
  State.get_put_same s f _

theorem State.get_bumpWrap_ne (s : State) {f g : Fld} (n : Nat) (h : g.key ≠ f.key) : (s.bumpWrap f n).get g = s.get g :=
  State.get_put_ne s _ h

/-- A saturating counter after it has advanced. -/
theorem State.get_bump_same (s : State) {c sat : Fld} (n : Nat) (h : c.key ≠ sat.key) :
    (s.bump c sat n).get c = min (s.get c + n) (2 ^ c.width - 1) := by
  have : 0 < 2 ^ c.width := Nat.two_pow_pos _
  simp only [State.bump]
  split
  · next hv => rw [State.get_put_ne _ _ h, State.get_put_same, Nat.mod_eq_of_lt (by omega), Nat.min_eq_right hv]
  · next hv => rw [State.get_put_same, Nat.mod_eq_of_lt (by omega), Nat.min_eq_left (by omega)]

theorem State.get_bump_ne (s : State) {c sat g : Fld} (n : Nat) (h : g.key ≠ c.key) (h2 : g.key ≠ sat.key) :
    (s.bump c sat n).get g = s.get g := by
  simp only [State.bump]
  split
  · rw [State.get_put_ne _ _ h2, State.get_put_ne _ _ h]
  · exact State.get_put_ne _ _ h

theorem State.is_put_ne (s : State) {f g : Fld} (v : Nat) (h : g.key ≠ f.key) : (s.put f v).is g = s.is g := by
  simp [State.is, s.get_put_ne v h]

theorem State.is_put_same (s : State) (f : Fld) (v : Nat) : (s.put f v).is f = (v % 2 ^ f.width == 1) := by simp [State.is]

theorem State.is_putB_ne (s : State) {f g : Fld} (b : Bool) (h : g.key ≠ f.key) : (s.putB f b).is g = s.is g := State.is_put_ne s _ h

theorem State.is_putB_same (s : State) {f : Fld} (b : Bool) (h : 1 ≤ f.width) : (s.putB f b).is f = b := by
  simp only [State.is, s.get_putB_same b h]; cases b <;> rfl

theorem State.is_putSat_ne (s : State) {f g : Fld} (v : Nat) (h : g.key ≠ f.key) : (s.putSat f v).is g = s.is g := State.is_put_ne s _ h

theorem State.is_bump_ne (s : State) {c sat g : Fld} (n : Nat) (h : g.key ≠ c.key) (h2 : g.key ≠ sat.key) :
    (s.bump c sat n).is g = s.is g := by simp [State.is, s.get_bump_ne n h h2]

/-- An update of a field keeps the register map's keys strictly rising. -/
theorem State.put_sorted (s : State) (f : Fld) (v : Nat) (h : kvSorted s.regs = true) : kvSorted (s.put f v).regs = true :=
  kvSorted_kvSet _ _ _ h

/-! ## What an update leaves alone -/

@[simp] theorem State.put_mem (s : State) (f : Fld) (v : Nat) : (s.put f v).mem = s.mem := rfl
@[simp] theorem State.put_now (s : State) (f : Fld) (v : Nat) : (s.put f v).now = s.now := rfl
@[simp] theorem State.put_freeCtr (s : State) (f : Fld) (v : Nat) : (s.put f v).freeCtr = s.freeCtr := rfl
@[simp] theorem State.put_resp (s : State) (f : Fld) (v : Nat) : (s.put f v).resp = s.resp := rfl
@[simp] theorem State.put_ev (s : State) (f : Fld) (v : Nat) : (s.put f v).ev = s.ev := rfl
@[simp] theorem State.put_sched (s : State) (f : Fld) (v : Nat) : (s.put f v).sched = s.sched := rfl
@[simp] theorem State.put_opt (s : State) (f : Fld) (v : Nat) : (s.put f v).opt = s.opt := rfl
@[simp] theorem State.put_sw (s : State) (f : Fld) (v : Nat) : (s.put f v).sw = s.sw := rfl
@[simp] theorem State.put_lanes (s : State) (f : Fld) (v : Nat) : (s.put f v).lanes = s.lanes := rfl
@[simp] theorem State.put_fp (s : State) (f : Fld) (v : Nat) : (s.put f v).fp = s.fp := rfl
@[simp] theorem State.put_secs (s : State) (f : Fld) (v : Nat) : (s.put f v).secs = s.secs := rfl
@[simp] theorem State.put_dfifo (s : State) (f : Fld) (v : Nat) : (s.put f v).dfifo = s.dfifo := rfl
@[simp] theorem State.put_built (s : State) (f : Fld) (v : Nat) : (s.put f v).built = s.built := rfl
@[simp] theorem State.put_fab (s : State) (f : Fld) (v : Nat) : (s.put f v).fab = s.fab := rfl
@[simp] theorem State.put_recd (s : State) (f : Fld) (v : Nat) : (s.put f v).recd = s.recd := rfl
@[simp] theorem State.put_br (s : State) (f : Fld) (v : Nat) : (s.put f v).br = s.br := rfl
@[simp] theorem State.put_sens (s : State) (f : Fld) (v : Nat) : (s.put f v).sens = s.sens := rfl
@[simp] theorem State.put_dram (s : State) (f : Fld) (v : Nat) : (s.put f v).dram = s.dram := rfl
@[simp] theorem State.put_out (s : State) (f : Fld) (v : Nat) : (s.put f v).out = s.out := rfl
@[simp] theorem State.put_evt (s : State) (f : Fld) (v : Nat) : (s.put f v).evt = s.evt := rfl
@[simp] theorem State.put_tref (s : State) (f : Fld) (v : Nat) : (s.put f v).tref = s.tref := rfl
@[simp] theorem State.put_fl (s : State) (f : Fld) (v : Nat) : (s.put f v).fl = s.fl := rfl
@[simp] theorem State.put_bt (s : State) (f : Fld) (v : Nat) : (s.put f v).bt = s.bt := rfl
@[simp] theorem State.put_pw (s : State) (f : Fld) (v : Nat) : (s.put f v).pw = s.pw := rfl
@[simp] theorem State.put_nv (s : State) (f : Fld) (v : Nat) : (s.put f v).nv = s.nv := rfl
@[simp] theorem State.put_lc (s : State) (f : Fld) (v : Nat) : (s.put f v).lc = s.lc := rfl
@[simp] theorem State.put_tb (s : State) (f : Fld) (v : Nat) : (s.put f v).tb = s.tb := rfl
@[simp] theorem State.put_otp (s : State) (f : Fld) (v : Nat) : (s.put f v).otp = s.otp := rfl
@[simp] theorem State.put_pending (s : State) (f : Fld) (v : Nat) : (s.put f v).pending = s.pending := rfl

@[simp] theorem State.putS_mem (s : State) (f : Fld) (v : Int) : (s.putS f v).mem = s.mem := rfl
@[simp] theorem State.putS_now (s : State) (f : Fld) (v : Int) : (s.putS f v).now = s.now := rfl
@[simp] theorem State.putS_freeCtr (s : State) (f : Fld) (v : Int) : (s.putS f v).freeCtr = s.freeCtr := rfl
@[simp] theorem State.putS_resp (s : State) (f : Fld) (v : Int) : (s.putS f v).resp = s.resp := rfl
@[simp] theorem State.putS_ev (s : State) (f : Fld) (v : Int) : (s.putS f v).ev = s.ev := rfl
@[simp] theorem State.putS_sched (s : State) (f : Fld) (v : Int) : (s.putS f v).sched = s.sched := rfl
@[simp] theorem State.putS_opt (s : State) (f : Fld) (v : Int) : (s.putS f v).opt = s.opt := rfl
@[simp] theorem State.putS_sw (s : State) (f : Fld) (v : Int) : (s.putS f v).sw = s.sw := rfl
@[simp] theorem State.putS_lanes (s : State) (f : Fld) (v : Int) : (s.putS f v).lanes = s.lanes := rfl
@[simp] theorem State.putS_fp (s : State) (f : Fld) (v : Int) : (s.putS f v).fp = s.fp := rfl
@[simp] theorem State.putS_secs (s : State) (f : Fld) (v : Int) : (s.putS f v).secs = s.secs := rfl
@[simp] theorem State.putS_dfifo (s : State) (f : Fld) (v : Int) : (s.putS f v).dfifo = s.dfifo := rfl
@[simp] theorem State.putS_built (s : State) (f : Fld) (v : Int) : (s.putS f v).built = s.built := rfl
@[simp] theorem State.putS_fab (s : State) (f : Fld) (v : Int) : (s.putS f v).fab = s.fab := rfl
@[simp] theorem State.putS_recd (s : State) (f : Fld) (v : Int) : (s.putS f v).recd = s.recd := rfl
@[simp] theorem State.putS_br (s : State) (f : Fld) (v : Int) : (s.putS f v).br = s.br := rfl
@[simp] theorem State.putS_sens (s : State) (f : Fld) (v : Int) : (s.putS f v).sens = s.sens := rfl
@[simp] theorem State.putS_dram (s : State) (f : Fld) (v : Int) : (s.putS f v).dram = s.dram := rfl
@[simp] theorem State.putS_out (s : State) (f : Fld) (v : Int) : (s.putS f v).out = s.out := rfl
@[simp] theorem State.putS_evt (s : State) (f : Fld) (v : Int) : (s.putS f v).evt = s.evt := rfl
@[simp] theorem State.putS_tref (s : State) (f : Fld) (v : Int) : (s.putS f v).tref = s.tref := rfl
@[simp] theorem State.putS_fl (s : State) (f : Fld) (v : Int) : (s.putS f v).fl = s.fl := rfl
@[simp] theorem State.putS_bt (s : State) (f : Fld) (v : Int) : (s.putS f v).bt = s.bt := rfl
@[simp] theorem State.putS_pw (s : State) (f : Fld) (v : Int) : (s.putS f v).pw = s.pw := rfl
@[simp] theorem State.putS_nv (s : State) (f : Fld) (v : Int) : (s.putS f v).nv = s.nv := rfl
@[simp] theorem State.putS_lc (s : State) (f : Fld) (v : Int) : (s.putS f v).lc = s.lc := rfl
@[simp] theorem State.putS_tb (s : State) (f : Fld) (v : Int) : (s.putS f v).tb = s.tb := rfl
@[simp] theorem State.putS_otp (s : State) (f : Fld) (v : Int) : (s.putS f v).otp = s.otp := rfl
@[simp] theorem State.putS_pending (s : State) (f : Fld) (v : Int) : (s.putS f v).pending = s.pending := rfl

@[simp] theorem State.putSat_mem (s : State) (f : Fld) (v : Nat) : (s.putSat f v).mem = s.mem := rfl
@[simp] theorem State.putSat_now (s : State) (f : Fld) (v : Nat) : (s.putSat f v).now = s.now := rfl
@[simp] theorem State.putSat_freeCtr (s : State) (f : Fld) (v : Nat) : (s.putSat f v).freeCtr = s.freeCtr := rfl
@[simp] theorem State.putSat_resp (s : State) (f : Fld) (v : Nat) : (s.putSat f v).resp = s.resp := rfl
@[simp] theorem State.putSat_ev (s : State) (f : Fld) (v : Nat) : (s.putSat f v).ev = s.ev := rfl
@[simp] theorem State.putSat_sched (s : State) (f : Fld) (v : Nat) : (s.putSat f v).sched = s.sched := rfl
@[simp] theorem State.putSat_opt (s : State) (f : Fld) (v : Nat) : (s.putSat f v).opt = s.opt := rfl
@[simp] theorem State.putSat_sw (s : State) (f : Fld) (v : Nat) : (s.putSat f v).sw = s.sw := rfl
@[simp] theorem State.putSat_lanes (s : State) (f : Fld) (v : Nat) : (s.putSat f v).lanes = s.lanes := rfl
@[simp] theorem State.putSat_fp (s : State) (f : Fld) (v : Nat) : (s.putSat f v).fp = s.fp := rfl
@[simp] theorem State.putSat_secs (s : State) (f : Fld) (v : Nat) : (s.putSat f v).secs = s.secs := rfl
@[simp] theorem State.putSat_dfifo (s : State) (f : Fld) (v : Nat) : (s.putSat f v).dfifo = s.dfifo := rfl
@[simp] theorem State.putSat_built (s : State) (f : Fld) (v : Nat) : (s.putSat f v).built = s.built := rfl
@[simp] theorem State.putSat_fab (s : State) (f : Fld) (v : Nat) : (s.putSat f v).fab = s.fab := rfl
@[simp] theorem State.putSat_recd (s : State) (f : Fld) (v : Nat) : (s.putSat f v).recd = s.recd := rfl
@[simp] theorem State.putSat_br (s : State) (f : Fld) (v : Nat) : (s.putSat f v).br = s.br := rfl
@[simp] theorem State.putSat_sens (s : State) (f : Fld) (v : Nat) : (s.putSat f v).sens = s.sens := rfl
@[simp] theorem State.putSat_dram (s : State) (f : Fld) (v : Nat) : (s.putSat f v).dram = s.dram := rfl
@[simp] theorem State.putSat_out (s : State) (f : Fld) (v : Nat) : (s.putSat f v).out = s.out := rfl
@[simp] theorem State.putSat_evt (s : State) (f : Fld) (v : Nat) : (s.putSat f v).evt = s.evt := rfl
@[simp] theorem State.putSat_tref (s : State) (f : Fld) (v : Nat) : (s.putSat f v).tref = s.tref := rfl
@[simp] theorem State.putSat_fl (s : State) (f : Fld) (v : Nat) : (s.putSat f v).fl = s.fl := rfl
@[simp] theorem State.putSat_bt (s : State) (f : Fld) (v : Nat) : (s.putSat f v).bt = s.bt := rfl
@[simp] theorem State.putSat_pw (s : State) (f : Fld) (v : Nat) : (s.putSat f v).pw = s.pw := rfl
@[simp] theorem State.putSat_nv (s : State) (f : Fld) (v : Nat) : (s.putSat f v).nv = s.nv := rfl
@[simp] theorem State.putSat_lc (s : State) (f : Fld) (v : Nat) : (s.putSat f v).lc = s.lc := rfl
@[simp] theorem State.putSat_tb (s : State) (f : Fld) (v : Nat) : (s.putSat f v).tb = s.tb := rfl
@[simp] theorem State.putSat_otp (s : State) (f : Fld) (v : Nat) : (s.putSat f v).otp = s.otp := rfl
@[simp] theorem State.putSat_pending (s : State) (f : Fld) (v : Nat) : (s.putSat f v).pending = s.pending := rfl

@[simp] theorem State.putB_mem (s : State) (f : Fld) (b : Bool) : (s.putB f b).mem = s.mem := rfl
@[simp] theorem State.putB_now (s : State) (f : Fld) (b : Bool) : (s.putB f b).now = s.now := rfl
@[simp] theorem State.putB_freeCtr (s : State) (f : Fld) (b : Bool) : (s.putB f b).freeCtr = s.freeCtr := rfl
@[simp] theorem State.putB_resp (s : State) (f : Fld) (b : Bool) : (s.putB f b).resp = s.resp := rfl
@[simp] theorem State.putB_ev (s : State) (f : Fld) (b : Bool) : (s.putB f b).ev = s.ev := rfl
@[simp] theorem State.putB_sched (s : State) (f : Fld) (b : Bool) : (s.putB f b).sched = s.sched := rfl
@[simp] theorem State.putB_opt (s : State) (f : Fld) (b : Bool) : (s.putB f b).opt = s.opt := rfl
@[simp] theorem State.putB_sw (s : State) (f : Fld) (b : Bool) : (s.putB f b).sw = s.sw := rfl
@[simp] theorem State.putB_lanes (s : State) (f : Fld) (b : Bool) : (s.putB f b).lanes = s.lanes := rfl
@[simp] theorem State.putB_fp (s : State) (f : Fld) (b : Bool) : (s.putB f b).fp = s.fp := rfl
@[simp] theorem State.putB_secs (s : State) (f : Fld) (b : Bool) : (s.putB f b).secs = s.secs := rfl
@[simp] theorem State.putB_dfifo (s : State) (f : Fld) (b : Bool) : (s.putB f b).dfifo = s.dfifo := rfl
@[simp] theorem State.putB_built (s : State) (f : Fld) (b : Bool) : (s.putB f b).built = s.built := rfl
@[simp] theorem State.putB_fab (s : State) (f : Fld) (b : Bool) : (s.putB f b).fab = s.fab := rfl
@[simp] theorem State.putB_recd (s : State) (f : Fld) (b : Bool) : (s.putB f b).recd = s.recd := rfl
@[simp] theorem State.putB_br (s : State) (f : Fld) (b : Bool) : (s.putB f b).br = s.br := rfl
@[simp] theorem State.putB_sens (s : State) (f : Fld) (b : Bool) : (s.putB f b).sens = s.sens := rfl
@[simp] theorem State.putB_dram (s : State) (f : Fld) (b : Bool) : (s.putB f b).dram = s.dram := rfl
@[simp] theorem State.putB_out (s : State) (f : Fld) (b : Bool) : (s.putB f b).out = s.out := rfl
@[simp] theorem State.putB_evt (s : State) (f : Fld) (b : Bool) : (s.putB f b).evt = s.evt := rfl
@[simp] theorem State.putB_tref (s : State) (f : Fld) (b : Bool) : (s.putB f b).tref = s.tref := rfl
@[simp] theorem State.putB_fl (s : State) (f : Fld) (b : Bool) : (s.putB f b).fl = s.fl := rfl
@[simp] theorem State.putB_bt (s : State) (f : Fld) (b : Bool) : (s.putB f b).bt = s.bt := rfl
@[simp] theorem State.putB_pw (s : State) (f : Fld) (b : Bool) : (s.putB f b).pw = s.pw := rfl
@[simp] theorem State.putB_nv (s : State) (f : Fld) (b : Bool) : (s.putB f b).nv = s.nv := rfl
@[simp] theorem State.putB_lc (s : State) (f : Fld) (b : Bool) : (s.putB f b).lc = s.lc := rfl
@[simp] theorem State.putB_tb (s : State) (f : Fld) (b : Bool) : (s.putB f b).tb = s.tb := rfl
@[simp] theorem State.putB_otp (s : State) (f : Fld) (b : Bool) : (s.putB f b).otp = s.otp := rfl
@[simp] theorem State.putB_pending (s : State) (f : Fld) (b : Bool) : (s.putB f b).pending = s.pending := rfl

@[simp] theorem State.bumpWrap_mem (s : State) (f : Fld) (n : Nat) : (s.bumpWrap f n).mem = s.mem := rfl
@[simp] theorem State.bumpWrap_now (s : State) (f : Fld) (n : Nat) : (s.bumpWrap f n).now = s.now := rfl
@[simp] theorem State.bumpWrap_freeCtr (s : State) (f : Fld) (n : Nat) : (s.bumpWrap f n).freeCtr = s.freeCtr := rfl
@[simp] theorem State.bumpWrap_resp (s : State) (f : Fld) (n : Nat) : (s.bumpWrap f n).resp = s.resp := rfl
@[simp] theorem State.bumpWrap_ev (s : State) (f : Fld) (n : Nat) : (s.bumpWrap f n).ev = s.ev := rfl
@[simp] theorem State.bumpWrap_sched (s : State) (f : Fld) (n : Nat) : (s.bumpWrap f n).sched = s.sched := rfl
@[simp] theorem State.bumpWrap_opt (s : State) (f : Fld) (n : Nat) : (s.bumpWrap f n).opt = s.opt := rfl
@[simp] theorem State.bumpWrap_sw (s : State) (f : Fld) (n : Nat) : (s.bumpWrap f n).sw = s.sw := rfl
@[simp] theorem State.bumpWrap_lanes (s : State) (f : Fld) (n : Nat) : (s.bumpWrap f n).lanes = s.lanes := rfl
@[simp] theorem State.bumpWrap_fp (s : State) (f : Fld) (n : Nat) : (s.bumpWrap f n).fp = s.fp := rfl
@[simp] theorem State.bumpWrap_secs (s : State) (f : Fld) (n : Nat) : (s.bumpWrap f n).secs = s.secs := rfl
@[simp] theorem State.bumpWrap_dfifo (s : State) (f : Fld) (n : Nat) : (s.bumpWrap f n).dfifo = s.dfifo := rfl
@[simp] theorem State.bumpWrap_built (s : State) (f : Fld) (n : Nat) : (s.bumpWrap f n).built = s.built := rfl
@[simp] theorem State.bumpWrap_fab (s : State) (f : Fld) (n : Nat) : (s.bumpWrap f n).fab = s.fab := rfl
@[simp] theorem State.bumpWrap_recd (s : State) (f : Fld) (n : Nat) : (s.bumpWrap f n).recd = s.recd := rfl
@[simp] theorem State.bumpWrap_br (s : State) (f : Fld) (n : Nat) : (s.bumpWrap f n).br = s.br := rfl
@[simp] theorem State.bumpWrap_sens (s : State) (f : Fld) (n : Nat) : (s.bumpWrap f n).sens = s.sens := rfl
@[simp] theorem State.bumpWrap_dram (s : State) (f : Fld) (n : Nat) : (s.bumpWrap f n).dram = s.dram := rfl
@[simp] theorem State.bumpWrap_out (s : State) (f : Fld) (n : Nat) : (s.bumpWrap f n).out = s.out := rfl
@[simp] theorem State.bumpWrap_evt (s : State) (f : Fld) (n : Nat) : (s.bumpWrap f n).evt = s.evt := rfl
@[simp] theorem State.bumpWrap_tref (s : State) (f : Fld) (n : Nat) : (s.bumpWrap f n).tref = s.tref := rfl
@[simp] theorem State.bumpWrap_fl (s : State) (f : Fld) (n : Nat) : (s.bumpWrap f n).fl = s.fl := rfl
@[simp] theorem State.bumpWrap_bt (s : State) (f : Fld) (n : Nat) : (s.bumpWrap f n).bt = s.bt := rfl
@[simp] theorem State.bumpWrap_pw (s : State) (f : Fld) (n : Nat) : (s.bumpWrap f n).pw = s.pw := rfl
@[simp] theorem State.bumpWrap_nv (s : State) (f : Fld) (n : Nat) : (s.bumpWrap f n).nv = s.nv := rfl
@[simp] theorem State.bumpWrap_lc (s : State) (f : Fld) (n : Nat) : (s.bumpWrap f n).lc = s.lc := rfl
@[simp] theorem State.bumpWrap_tb (s : State) (f : Fld) (n : Nat) : (s.bumpWrap f n).tb = s.tb := rfl
@[simp] theorem State.bumpWrap_otp (s : State) (f : Fld) (n : Nat) : (s.bumpWrap f n).otp = s.otp := rfl
@[simp] theorem State.bumpWrap_pending (s : State) (f : Fld) (n : Nat) : (s.bumpWrap f n).pending = s.pending := rfl

@[simp] theorem State.bumpNoFlag_mem (s : State) (f : Fld) (n : Nat) : (s.bumpNoFlag f n).mem = s.mem := rfl
@[simp] theorem State.bumpNoFlag_now (s : State) (f : Fld) (n : Nat) : (s.bumpNoFlag f n).now = s.now := rfl
@[simp] theorem State.bumpNoFlag_freeCtr (s : State) (f : Fld) (n : Nat) : (s.bumpNoFlag f n).freeCtr = s.freeCtr := rfl
@[simp] theorem State.bumpNoFlag_resp (s : State) (f : Fld) (n : Nat) : (s.bumpNoFlag f n).resp = s.resp := rfl
@[simp] theorem State.bumpNoFlag_ev (s : State) (f : Fld) (n : Nat) : (s.bumpNoFlag f n).ev = s.ev := rfl
@[simp] theorem State.bumpNoFlag_sched (s : State) (f : Fld) (n : Nat) : (s.bumpNoFlag f n).sched = s.sched := rfl
@[simp] theorem State.bumpNoFlag_opt (s : State) (f : Fld) (n : Nat) : (s.bumpNoFlag f n).opt = s.opt := rfl
@[simp] theorem State.bumpNoFlag_sw (s : State) (f : Fld) (n : Nat) : (s.bumpNoFlag f n).sw = s.sw := rfl
@[simp] theorem State.bumpNoFlag_lanes (s : State) (f : Fld) (n : Nat) : (s.bumpNoFlag f n).lanes = s.lanes := rfl
@[simp] theorem State.bumpNoFlag_fp (s : State) (f : Fld) (n : Nat) : (s.bumpNoFlag f n).fp = s.fp := rfl
@[simp] theorem State.bumpNoFlag_secs (s : State) (f : Fld) (n : Nat) : (s.bumpNoFlag f n).secs = s.secs := rfl
@[simp] theorem State.bumpNoFlag_dfifo (s : State) (f : Fld) (n : Nat) : (s.bumpNoFlag f n).dfifo = s.dfifo := rfl
@[simp] theorem State.bumpNoFlag_built (s : State) (f : Fld) (n : Nat) : (s.bumpNoFlag f n).built = s.built := rfl
@[simp] theorem State.bumpNoFlag_fab (s : State) (f : Fld) (n : Nat) : (s.bumpNoFlag f n).fab = s.fab := rfl
@[simp] theorem State.bumpNoFlag_recd (s : State) (f : Fld) (n : Nat) : (s.bumpNoFlag f n).recd = s.recd := rfl
@[simp] theorem State.bumpNoFlag_br (s : State) (f : Fld) (n : Nat) : (s.bumpNoFlag f n).br = s.br := rfl
@[simp] theorem State.bumpNoFlag_sens (s : State) (f : Fld) (n : Nat) : (s.bumpNoFlag f n).sens = s.sens := rfl
@[simp] theorem State.bumpNoFlag_dram (s : State) (f : Fld) (n : Nat) : (s.bumpNoFlag f n).dram = s.dram := rfl
@[simp] theorem State.bumpNoFlag_out (s : State) (f : Fld) (n : Nat) : (s.bumpNoFlag f n).out = s.out := rfl
@[simp] theorem State.bumpNoFlag_evt (s : State) (f : Fld) (n : Nat) : (s.bumpNoFlag f n).evt = s.evt := rfl
@[simp] theorem State.bumpNoFlag_tref (s : State) (f : Fld) (n : Nat) : (s.bumpNoFlag f n).tref = s.tref := rfl
@[simp] theorem State.bumpNoFlag_fl (s : State) (f : Fld) (n : Nat) : (s.bumpNoFlag f n).fl = s.fl := rfl
@[simp] theorem State.bumpNoFlag_bt (s : State) (f : Fld) (n : Nat) : (s.bumpNoFlag f n).bt = s.bt := rfl
@[simp] theorem State.bumpNoFlag_pw (s : State) (f : Fld) (n : Nat) : (s.bumpNoFlag f n).pw = s.pw := rfl
@[simp] theorem State.bumpNoFlag_nv (s : State) (f : Fld) (n : Nat) : (s.bumpNoFlag f n).nv = s.nv := rfl
@[simp] theorem State.bumpNoFlag_lc (s : State) (f : Fld) (n : Nat) : (s.bumpNoFlag f n).lc = s.lc := rfl
@[simp] theorem State.bumpNoFlag_tb (s : State) (f : Fld) (n : Nat) : (s.bumpNoFlag f n).tb = s.tb := rfl
@[simp] theorem State.bumpNoFlag_otp (s : State) (f : Fld) (n : Nat) : (s.bumpNoFlag f n).otp = s.otp := rfl
@[simp] theorem State.bumpNoFlag_pending (s : State) (f : Fld) (n : Nat) : (s.bumpNoFlag f n).pending = s.pending := rfl

@[simp] theorem State.bump_mem (s : State) (c k : Fld) (n : Nat) : (s.bump c k n).mem = s.mem := by simp only [State.bump]; split <;> rfl
@[simp] theorem State.bump_now (s : State) (c k : Fld) (n : Nat) : (s.bump c k n).now = s.now := by simp only [State.bump]; split <;> rfl
@[simp] theorem State.bump_freeCtr (s : State) (c k : Fld) (n : Nat) : (s.bump c k n).freeCtr = s.freeCtr := by simp only [State.bump]; split <;> rfl
@[simp] theorem State.bump_resp (s : State) (c k : Fld) (n : Nat) : (s.bump c k n).resp = s.resp := by simp only [State.bump]; split <;> rfl
@[simp] theorem State.bump_ev (s : State) (c k : Fld) (n : Nat) : (s.bump c k n).ev = s.ev := by simp only [State.bump]; split <;> rfl
@[simp] theorem State.bump_sched (s : State) (c k : Fld) (n : Nat) : (s.bump c k n).sched = s.sched := by simp only [State.bump]; split <;> rfl
@[simp] theorem State.bump_opt (s : State) (c k : Fld) (n : Nat) : (s.bump c k n).opt = s.opt := by simp only [State.bump]; split <;> rfl
@[simp] theorem State.bump_sw (s : State) (c k : Fld) (n : Nat) : (s.bump c k n).sw = s.sw := by simp only [State.bump]; split <;> rfl
@[simp] theorem State.bump_lanes (s : State) (c k : Fld) (n : Nat) : (s.bump c k n).lanes = s.lanes := by simp only [State.bump]; split <;> rfl
@[simp] theorem State.bump_fp (s : State) (c k : Fld) (n : Nat) : (s.bump c k n).fp = s.fp := by simp only [State.bump]; split <;> rfl
@[simp] theorem State.bump_secs (s : State) (c k : Fld) (n : Nat) : (s.bump c k n).secs = s.secs := by simp only [State.bump]; split <;> rfl
@[simp] theorem State.bump_dfifo (s : State) (c k : Fld) (n : Nat) : (s.bump c k n).dfifo = s.dfifo := by simp only [State.bump]; split <;> rfl
@[simp] theorem State.bump_built (s : State) (c k : Fld) (n : Nat) : (s.bump c k n).built = s.built := by simp only [State.bump]; split <;> rfl
@[simp] theorem State.bump_fab (s : State) (c k : Fld) (n : Nat) : (s.bump c k n).fab = s.fab := by simp only [State.bump]; split <;> rfl
@[simp] theorem State.bump_recd (s : State) (c k : Fld) (n : Nat) : (s.bump c k n).recd = s.recd := by simp only [State.bump]; split <;> rfl
@[simp] theorem State.bump_br (s : State) (c k : Fld) (n : Nat) : (s.bump c k n).br = s.br := by simp only [State.bump]; split <;> rfl
@[simp] theorem State.bump_sens (s : State) (c k : Fld) (n : Nat) : (s.bump c k n).sens = s.sens := by simp only [State.bump]; split <;> rfl
@[simp] theorem State.bump_dram (s : State) (c k : Fld) (n : Nat) : (s.bump c k n).dram = s.dram := by simp only [State.bump]; split <;> rfl
@[simp] theorem State.bump_out (s : State) (c k : Fld) (n : Nat) : (s.bump c k n).out = s.out := by simp only [State.bump]; split <;> rfl
@[simp] theorem State.bump_evt (s : State) (c k : Fld) (n : Nat) : (s.bump c k n).evt = s.evt := by simp only [State.bump]; split <;> rfl
@[simp] theorem State.bump_tref (s : State) (c k : Fld) (n : Nat) : (s.bump c k n).tref = s.tref := by simp only [State.bump]; split <;> rfl
@[simp] theorem State.bump_fl (s : State) (c k : Fld) (n : Nat) : (s.bump c k n).fl = s.fl := by simp only [State.bump]; split <;> rfl
@[simp] theorem State.bump_bt (s : State) (c k : Fld) (n : Nat) : (s.bump c k n).bt = s.bt := by simp only [State.bump]; split <;> rfl
@[simp] theorem State.bump_pw (s : State) (c k : Fld) (n : Nat) : (s.bump c k n).pw = s.pw := by simp only [State.bump]; split <;> rfl
@[simp] theorem State.bump_nv (s : State) (c k : Fld) (n : Nat) : (s.bump c k n).nv = s.nv := by simp only [State.bump]; split <;> rfl
@[simp] theorem State.bump_lc (s : State) (c k : Fld) (n : Nat) : (s.bump c k n).lc = s.lc := by simp only [State.bump]; split <;> rfl
@[simp] theorem State.bump_tb (s : State) (c k : Fld) (n : Nat) : (s.bump c k n).tb = s.tb := by simp only [State.bump]; split <;> rfl
@[simp] theorem State.bump_otp (s : State) (c k : Fld) (n : Nat) : (s.bump c k n).otp = s.otp := by simp only [State.bump]; split <;> rfl
@[simp] theorem State.bump_pending (s : State) (c k : Fld) (n : Nat) : (s.bump c k n).pending = s.pending := by simp only [State.bump]; split <;> rfl

@[simp] theorem State.wrBytes_regs (s : State) (a : Nat) (bs : List (BitVec 8)) : (s.wrBytes a bs).regs = s.regs := rfl
@[simp] theorem State.wrBytes_now (s : State) (a : Nat) (bs : List (BitVec 8)) : (s.wrBytes a bs).now = s.now := rfl
@[simp] theorem State.wrBytes_freeCtr (s : State) (a : Nat) (bs : List (BitVec 8)) : (s.wrBytes a bs).freeCtr = s.freeCtr := rfl
@[simp] theorem State.wrBytes_resp (s : State) (a : Nat) (bs : List (BitVec 8)) : (s.wrBytes a bs).resp = s.resp := rfl
@[simp] theorem State.wrBytes_ev (s : State) (a : Nat) (bs : List (BitVec 8)) : (s.wrBytes a bs).ev = s.ev := rfl
@[simp] theorem State.wrBytes_sched (s : State) (a : Nat) (bs : List (BitVec 8)) : (s.wrBytes a bs).sched = s.sched := rfl
@[simp] theorem State.wrBytes_opt (s : State) (a : Nat) (bs : List (BitVec 8)) : (s.wrBytes a bs).opt = s.opt := rfl
@[simp] theorem State.wrBytes_sw (s : State) (a : Nat) (bs : List (BitVec 8)) : (s.wrBytes a bs).sw = s.sw := rfl
@[simp] theorem State.wrBytes_lanes (s : State) (a : Nat) (bs : List (BitVec 8)) : (s.wrBytes a bs).lanes = s.lanes := rfl
@[simp] theorem State.wrBytes_fp (s : State) (a : Nat) (bs : List (BitVec 8)) : (s.wrBytes a bs).fp = s.fp := rfl
@[simp] theorem State.wrBytes_secs (s : State) (a : Nat) (bs : List (BitVec 8)) : (s.wrBytes a bs).secs = s.secs := rfl
@[simp] theorem State.wrBytes_dfifo (s : State) (a : Nat) (bs : List (BitVec 8)) : (s.wrBytes a bs).dfifo = s.dfifo := rfl
@[simp] theorem State.wrBytes_built (s : State) (a : Nat) (bs : List (BitVec 8)) : (s.wrBytes a bs).built = s.built := rfl
@[simp] theorem State.wrBytes_fab (s : State) (a : Nat) (bs : List (BitVec 8)) : (s.wrBytes a bs).fab = s.fab := rfl
@[simp] theorem State.wrBytes_recd (s : State) (a : Nat) (bs : List (BitVec 8)) : (s.wrBytes a bs).recd = s.recd := rfl
@[simp] theorem State.wrBytes_br (s : State) (a : Nat) (bs : List (BitVec 8)) : (s.wrBytes a bs).br = s.br := rfl
@[simp] theorem State.wrBytes_sens (s : State) (a : Nat) (bs : List (BitVec 8)) : (s.wrBytes a bs).sens = s.sens := rfl
@[simp] theorem State.wrBytes_dram (s : State) (a : Nat) (bs : List (BitVec 8)) : (s.wrBytes a bs).dram = s.dram := rfl
@[simp] theorem State.wrBytes_out (s : State) (a : Nat) (bs : List (BitVec 8)) : (s.wrBytes a bs).out = s.out := rfl
@[simp] theorem State.wrBytes_evt (s : State) (a : Nat) (bs : List (BitVec 8)) : (s.wrBytes a bs).evt = s.evt := rfl
@[simp] theorem State.wrBytes_tref (s : State) (a : Nat) (bs : List (BitVec 8)) : (s.wrBytes a bs).tref = s.tref := rfl
@[simp] theorem State.wrBytes_fl (s : State) (a : Nat) (bs : List (BitVec 8)) : (s.wrBytes a bs).fl = s.fl := rfl
@[simp] theorem State.wrBytes_bt (s : State) (a : Nat) (bs : List (BitVec 8)) : (s.wrBytes a bs).bt = s.bt := rfl
@[simp] theorem State.wrBytes_pw (s : State) (a : Nat) (bs : List (BitVec 8)) : (s.wrBytes a bs).pw = s.pw := rfl
@[simp] theorem State.wrBytes_nv (s : State) (a : Nat) (bs : List (BitVec 8)) : (s.wrBytes a bs).nv = s.nv := rfl
@[simp] theorem State.wrBytes_lc (s : State) (a : Nat) (bs : List (BitVec 8)) : (s.wrBytes a bs).lc = s.lc := rfl
@[simp] theorem State.wrBytes_tb (s : State) (a : Nat) (bs : List (BitVec 8)) : (s.wrBytes a bs).tb = s.tb := rfl
@[simp] theorem State.wrBytes_otp (s : State) (a : Nat) (bs : List (BitVec 8)) : (s.wrBytes a bs).otp = s.otp := rfl
@[simp] theorem State.wrBytes_pending (s : State) (a : Nat) (bs : List (BitVec 8)) : (s.wrBytes a bs).pending = s.pending := rfl

@[simp] theorem State.free_regs (s : State) (w : Nat) : (s.free w).2.regs = s.regs := rfl
@[simp] theorem State.free_mem (s : State) (w : Nat) : (s.free w).2.mem = s.mem := rfl
@[simp] theorem State.free_now (s : State) (w : Nat) : (s.free w).2.now = s.now := rfl
@[simp] theorem State.free_resp (s : State) (w : Nat) : (s.free w).2.resp = s.resp := rfl
@[simp] theorem State.free_ev (s : State) (w : Nat) : (s.free w).2.ev = s.ev := rfl
@[simp] theorem State.free_sched (s : State) (w : Nat) : (s.free w).2.sched = s.sched := rfl
@[simp] theorem State.free_opt (s : State) (w : Nat) : (s.free w).2.opt = s.opt := rfl
@[simp] theorem State.free_sw (s : State) (w : Nat) : (s.free w).2.sw = s.sw := rfl
@[simp] theorem State.free_lanes (s : State) (w : Nat) : (s.free w).2.lanes = s.lanes := rfl
@[simp] theorem State.free_fp (s : State) (w : Nat) : (s.free w).2.fp = s.fp := rfl
@[simp] theorem State.free_secs (s : State) (w : Nat) : (s.free w).2.secs = s.secs := rfl
@[simp] theorem State.free_dfifo (s : State) (w : Nat) : (s.free w).2.dfifo = s.dfifo := rfl
@[simp] theorem State.free_built (s : State) (w : Nat) : (s.free w).2.built = s.built := rfl
@[simp] theorem State.free_fab (s : State) (w : Nat) : (s.free w).2.fab = s.fab := rfl
@[simp] theorem State.free_recd (s : State) (w : Nat) : (s.free w).2.recd = s.recd := rfl
@[simp] theorem State.free_br (s : State) (w : Nat) : (s.free w).2.br = s.br := rfl
@[simp] theorem State.free_sens (s : State) (w : Nat) : (s.free w).2.sens = s.sens := rfl
@[simp] theorem State.free_dram (s : State) (w : Nat) : (s.free w).2.dram = s.dram := rfl
@[simp] theorem State.free_out (s : State) (w : Nat) : (s.free w).2.out = s.out := rfl
@[simp] theorem State.free_evt (s : State) (w : Nat) : (s.free w).2.evt = s.evt := rfl
@[simp] theorem State.free_tref (s : State) (w : Nat) : (s.free w).2.tref = s.tref := rfl
@[simp] theorem State.free_fl (s : State) (w : Nat) : (s.free w).2.fl = s.fl := rfl
@[simp] theorem State.free_bt (s : State) (w : Nat) : (s.free w).2.bt = s.bt := rfl
@[simp] theorem State.free_pw (s : State) (w : Nat) : (s.free w).2.pw = s.pw := rfl
@[simp] theorem State.free_nv (s : State) (w : Nat) : (s.free w).2.nv = s.nv := rfl
@[simp] theorem State.free_lc (s : State) (w : Nat) : (s.free w).2.lc = s.lc := rfl
@[simp] theorem State.free_tb (s : State) (w : Nat) : (s.free w).2.tb = s.tb := rfl
@[simp] theorem State.free_otp (s : State) (w : Nat) : (s.free w).2.otp = s.otp := rfl
@[simp] theorem State.free_pending (s : State) (w : Nat) : (s.free w).2.pending = s.pending := rfl

/-- Taking a free value moves the counter on, so that no two open values are one. -/
@[simp] theorem State.free_freeCtr (s : State) (w : Nat) : (s.free w).2.freeCtr = s.freeCtr + 1 := rfl

/-! ## Reads of fewer than four bytes, and fields held in a range -/

/-- A read of all four bytes is the sum of the word's bytes in their places. -/
theorem pickBytes_15 (w : Nat) : pickBytes 15 w =
    0 + w / 256 ^ 0 % 256 * 256 ^ 0 + w / 256 ^ 1 % 256 * 256 ^ 1 + w / 256 ^ 2 % 256 * 256 ^ 2 + w / 256 ^ 3 % 256 * 256 ^ 3 := by
  have h0 : Nat.testBit 15 0 = true := by decide
  have h1 : Nat.testBit 15 1 = true := by decide
  have h2 : Nat.testBit 15 2 = true := by decide
  have h3 : Nat.testBit 15 3 = true := by decide
  rw [pickBytes, show List.range 4 = [0, 1, 2, 3] from rfl, List.foldl, List.foldl, List.foldl, List.foldl, List.foldl, if_pos h0, if_pos h1,
    if_pos h2, if_pos h3]

theorem bytes_sum {w : Nat} (h : w < 4294967296) :
    0 + w / 256 ^ 0 % 256 * 256 ^ 0 + w / 256 ^ 1 % 256 * 256 ^ 1 + w / 256 ^ 2 % 256 * 256 ^ 2 + w / 256 ^ 3 % 256 * 256 ^ 3 = w := by omega

/-- A read of all four bytes answers the whole word (R7). -/
@[simp] theorem pickBytes_all {w : Nat} (h : w < 4294967296) : pickBytes 15 w = w := by rw [pickBytes_15, bytes_sum h]

/-- A read of no byte answers 0. -/
@[simp] theorem pickBytes_none (w : Nat) : pickBytes 0 w = 0 := by simp [pickBytes, List.range, List.range.loop]

/-- Byte enables change a read's answer and nothing else. -/
@[simp] theorem readBytes_regs (be : Nat) (f : State → State) (s : State) : (readBytes be f s).regs = (f s).regs := rfl
@[simp] theorem readBytes_mem (be : Nat) (f : State → State) (s : State) : (readBytes be f s).mem = (f s).mem := rfl
@[simp] theorem readBytes_resp (be : Nat) (f : State → State) (s : State) : (readBytes be f s).resp = (f s).resp.map (pickBytes be) := rfl

/-- A field without a range takes the value written. -/
@[simp] theorem State.heldIn_free {s : State} {f : Fld} (v : Nat) (h : s.rangeOf f = none) : s.heldIn f v = v := by simp [State.heldIn, h]

end Sys2Proof.Machine
end

