-- ==== Sys2Proof/Laws/Events.lean ====
section
/-!
SUPPORT. Laws/Events.lean: what raising, posting and settling an outcome can change. Everything that every meaning does after its own effect is
said once, in `settle_quiet`.
-/
namespace Sys2Proof.Machine

/-- `u` differs from `s` at most in the registers of `eventKeys` and in the event machinery. -/
structure Posting (s u : State) : Prop where
  get : ∀ f : Fld, f.key ∉ eventKeys → u.get f = s.get f
  opt : u.opt = s.opt
  sched : u.sched = s.sched
  mem : u.mem = s.mem
  now : u.now = s.now
  freeCtr : u.freeCtr = s.freeCtr
  resp : u.resp = s.resp
  sw : u.sw = s.sw
  lanes : u.lanes = s.lanes
  fp : u.fp = s.fp
  secs : u.secs = s.secs
  dfifo : u.dfifo = s.dfifo
  built : u.built = s.built
  fab : u.fab = s.fab
  recd : u.recd = s.recd
  br : u.br = s.br
  sens : u.sens = s.sens
  dram : u.dram = s.dram
  out : u.out = s.out
  evt : u.evt = s.evt
  tref : u.tref = s.tref
  fl : u.fl = s.fl
  bt : u.bt = s.bt
  pw : u.pw = s.pw
  nv : u.nv = s.nv
  lc : u.lc = s.lc
  tb : u.tb = s.tb
  otp : u.otp = s.otp
  pending : u.pending = s.pending


/-- `u` differs from `s` at most in the registers of `settleKeys`, in the event machinery, in when AMP_EN# last went low and in the light
under way. -/
structure Quiet (s u : State) : Prop where
  get : ∀ f : Fld, f.key ∉ settleKeys → u.get f = s.get f
  opt : u.opt = { s.opt with ampSince := u.opt.ampSince, ampSeen := u.opt.ampSeen }
  sched : u.sched = { s.sched with light := u.sched.light }
  mem : u.mem = s.mem
  now : u.now = s.now
  freeCtr : u.freeCtr = s.freeCtr
  resp : u.resp = s.resp
  sw : u.sw = s.sw
  lanes : u.lanes = s.lanes
  fp : u.fp = s.fp
  secs : u.secs = s.secs
  dfifo : u.dfifo = s.dfifo
  built : u.built = s.built
  fab : u.fab = s.fab
  recd : u.recd = s.recd
  br : u.br = s.br
  sens : u.sens = s.sens
  dram : u.dram = s.dram
  out : u.out = s.out
  evt : u.evt = s.evt
  tref : u.tref = s.tref
  fl : u.fl = s.fl
  bt : u.bt = s.bt
  pw : u.pw = s.pw
  nv : u.nv = s.nv
  lc : u.lc = s.lc
  tb : u.tb = s.tb
  otp : u.otp = s.otp
  pending : u.pending = s.pending

theorem Posting.refl (s : State) : Posting s s := { get := fun _ _ => rfl, opt := rfl, sched := rfl, mem := rfl, now := rfl, freeCtr := rfl, resp := rfl, sw := rfl, lanes := rfl, fp := rfl, secs := rfl, dfifo := rfl, built := rfl, fab := rfl, recd := rfl, br := rfl, sens := rfl, dram := rfl, out := rfl, evt := rfl, tref := rfl, fl := rfl, bt := rfl, pw := rfl, nv := rfl, lc := rfl, tb := rfl, otp := rfl, pending := rfl }

theorem Posting.trans {s u w : State} (a : Posting s u) (b : Posting u w) : Posting s w :=
  { get := fun f h => (b.get f h).trans (a.get f h)
    opt := b.opt.trans a.opt
    sched := b.sched.trans a.sched
    mem := b.mem.trans a.mem
    now := b.now.trans a.now
    freeCtr := b.freeCtr.trans a.freeCtr
    resp := b.resp.trans a.resp
    sw := b.sw.trans a.sw
    lanes := b.lanes.trans a.lanes
    fp := b.fp.trans a.fp
    secs := b.secs.trans a.secs
    dfifo := b.dfifo.trans a.dfifo
    built := b.built.trans a.built
    fab := b.fab.trans a.fab
    recd := b.recd.trans a.recd
    br := b.br.trans a.br
    sens := b.sens.trans a.sens
    dram := b.dram.trans a.dram
    out := b.out.trans a.out
    evt := b.evt.trans a.evt
    tref := b.tref.trans a.tref
    fl := b.fl.trans a.fl
    bt := b.bt.trans a.bt
    pw := b.pw.trans a.pw
    nv := b.nv.trans a.nv
    lc := b.lc.trans a.lc
    tb := b.tb.trans a.tb
    otp := b.otp.trans a.otp
    pending := b.pending.trans a.pending }

/-- Writing one of the registers of `eventKeys` is posting. -/
theorem Posting.put (s : State) (f : Fld) (v : Nat) (h : f.key ∈ eventKeys) : Posting s (s.put f v) :=
  { get := fun _ hg => State.get_put_ne s v (fun e => hg (e ▸ h)), opt := rfl, sched := rfl, mem := rfl, now := rfl, freeCtr := rfl, resp := rfl, sw := rfl, lanes := rfl, fp := rfl, secs := rfl, dfifo := rfl, built := rfl, fab := rfl, recd := rfl, br := rfl, sens := rfl, dram := rfl, out := rfl, evt := rfl, tref := rfl, fl := rfl, bt := rfl, pw := rfl, nv := rfl, lc := rfl, tb := rfl, otp := rfl, pending := rfl }

/-- A change of the event machinery alone is posting. -/
theorem Posting.ev (s : State) (e : Events) : Posting s { s with ev := e } :=
  { get := fun _ _ => rfl, opt := rfl, sched := rfl, mem := rfl, now := rfl, freeCtr := rfl, resp := rfl, sw := rfl, lanes := rfl, fp := rfl, secs := rfl, dfifo := rfl, built := rfl, fab := rfl, recd := rfl, br := rfl, sens := rfl, dram := rfl, out := rfl, evt := rfl, tref := rfl, fl := rfl, bt := rfl, pw := rfl, nv := rfl, lc := rfl, tb := rfl, otp := rfl, pending := rfl }

theorem Posting.syncActive (s : State) : Posting s s.syncActive := Posting.put _ _ _ (by decide)

theorem Posting.latchFault (s : State) (code inst : Nat) : Posting s (s.latchFault code inst) := by
  unfold State.latchFault
  split
  · have h1 : Posting s (if s.get F.PM_FAULT_LATCH = 0 then s.put F.PM_FAULT_CODE_FIRST code else s) := by
      split
      · exact Posting.put _ _ _ (by decide)
      · exact Posting.refl s
    have h2 : ∀ w : State, Posting w (if conditionCodes.contains code = true then
        { w with ev := { w.ev with conds := (code, inst) :: w.ev.conds.filter (· ≠ (code, inst)) } }.syncActive else w) := by
      intro w
      split
      · exact (Posting.ev _ _).trans (Posting.syncActive _)
      · exact Posting.refl _
    exact h1.trans (((Posting.put _ F.PM_FAULT_LATCH _ (by decide)).trans (Posting.put _ F.PM_FAULT_CODE_LAST code (by decide))).trans (h2 _))
  · exact Posting.refl s

/-- Raising an event is posting. -/
theorem Posting.raiseEv (s : State) (e : Ev) : Posting s (s.raiseEv e) := (Posting.latchFault s e.code e.inst).trans (Posting.ev _ _)

theorem Posting.raise (s : State) (code inst val : Nat) : Posting s (s.raise code inst val) := Posting.raiseEv _ _
theorem Posting.raiseAt (s : State) (t code inst val : Nat) : Posting s (s.raiseAt t code inst val) := Posting.raiseEv _ _
theorem Posting.raiseWhole (s : State) (code arg : Nat) : Posting s (s.raiseWhole code arg) := Posting.raiseEv _ _

theorem Posting.raiseLimited (s : State) (code inst val mark gap : Nat) : Posting s (s.raiseLimited code inst val mark gap) := by
  simp only [State.raiseLimited]
  split
  · exact Posting.ev _ _
  · exact (Posting.ev _ _).trans (Posting.raiseEv _ _)

theorem Posting.endCond (s : State) (code inst : Nat) : Posting s (s.endCond code inst) := (Posting.ev _ _).trans (Posting.syncActive _)
theorem Posting.endConds (s : State) (code : Nat) : Posting s (s.endConds code) := (Posting.ev _ _).trans (Posting.syncActive _)

theorem Posting.syncNb (s : State) : Posting s s.syncNb := Posting.put _ _ _ (by decide)

theorem Posting.vectorCause (s : State) (v : Nat) : Posting s (s.vectorCause v) := by
  simp only [State.vectorCause]
  have h := Posting.put s F.HW_IRQ_PEND_PEND (s.get F.HW_IRQ_PEND_PEND ||| 2 ^ v) (by decide)
  split
  · exact Posting.refl s
  · split
    · exact h.trans (Posting.ev _ _)
    · split
      · exact h.trans (Posting.ev _ _)
      · exact h

theorem Posting.nbWrite (s : State) (e : Ev) : Posting s (s.nbWrite e) :=
  (((Posting.ev s _).trans (Posting.put _ F.HW_NB_WR_COUNT _ (by decide))).trans (Posting.syncNb _)).trans (Posting.vectorCause _ _)

theorem Posting.nbReportLost (s : State) : Posting s s.nbReportLost := by
  unfold State.nbReportLost
  split
  · exact (Posting.ev _ _).trans (Posting.nbWrite _ _)
  · exact Posting.refl s

theorem Posting.logEvent (s : State) (e : Ev) : Posting s (s.logEvent e) := by
  unfold State.logEvent
  split <;> exact Posting.ev _ _

theorem Posting.bump (s : State) (c k : Fld) (n : Nat) (h : c.key ∈ eventKeys) (h2 : k.key ∈ eventKeys) : Posting s (s.bump c k n) := by
  simp only [State.bump]
  split
  · exact (Posting.put _ _ _ h).trans (Posting.put _ _ _ h2)
  · exact Posting.put _ _ _ h

theorem Posting.post (s : State) (e : Ev) : Posting s (s.post e) := by
  unfold State.post
  split
  · refine (Posting.nbReportLost s).trans ?_
    dsimp only
    split
    · exact (Posting.ev _ _).trans (Posting.bump _ _ _ _ (by decide) (by decide))
    · exact Posting.nbWrite _ _
  · exact Posting.logEvent _ _

theorem Posting.posts : ∀ (es : List Ev) (s : State), Posting s (es.foldl (fun s e => s.post e) s)
  | [], s => Posting.refl s
  | e :: es, s => (Posting.post s e).trans (Posting.posts es _)

/-- Posting everything raised is posting. -/
theorem Posting.postAll (s : State) : Posting s s.postAll := (Posting.ev s _).trans (Posting.posts _ _)


theorem Quiet.refl (s : State) : Quiet s s := { get := fun _ _ => rfl, opt := rfl, sched := rfl, mem := rfl, now := rfl, freeCtr := rfl, resp := rfl, sw := rfl, lanes := rfl, fp := rfl, secs := rfl, dfifo := rfl, built := rfl, fab := rfl, recd := rfl, br := rfl, sens := rfl, dram := rfl, out := rfl, evt := rfl, tref := rfl, fl := rfl, bt := rfl, pw := rfl, nv := rfl, lc := rfl, tb := rfl, otp := rfl, pending := rfl }

theorem Quiet.trans {s u w : State} (a : Quiet s u) (b : Quiet u w) : Quiet s w :=
  { get := fun f h => (b.get f h).trans (a.get f h)
    opt := by rw [b.opt, a.opt]
    sched := by rw [b.sched, a.sched]
    mem := b.mem.trans a.mem
    now := b.now.trans a.now
    freeCtr := b.freeCtr.trans a.freeCtr
    resp := b.resp.trans a.resp
    sw := b.sw.trans a.sw
    lanes := b.lanes.trans a.lanes
    fp := b.fp.trans a.fp
    secs := b.secs.trans a.secs
    dfifo := b.dfifo.trans a.dfifo
    built := b.built.trans a.built
    fab := b.fab.trans a.fab
    recd := b.recd.trans a.recd
    br := b.br.trans a.br
    sens := b.sens.trans a.sens
    dram := b.dram.trans a.dram
    out := b.out.trans a.out
    evt := b.evt.trans a.evt
    tref := b.tref.trans a.tref
    fl := b.fl.trans a.fl
    bt := b.bt.trans a.bt
    pw := b.pw.trans a.pw
    nv := b.nv.trans a.nv
    lc := b.lc.trans a.lc
    tb := b.tb.trans a.tb
    otp := b.otp.trans a.otp
    pending := b.pending.trans a.pending }

/-- Writing one of the registers of `settleKeys` is quiet. -/
theorem Quiet.put (s : State) (f : Fld) (v : Nat) (h : f.key ∈ settleKeys) : Quiet s (s.put f v) :=
  { get := fun _ hg => State.get_put_ne s v (fun e => hg (e ▸ h)), opt := rfl, sched := rfl, mem := rfl, now := rfl, freeCtr := rfl, resp := rfl, sw := rfl, lanes := rfl, fp := rfl, secs := rfl, dfifo := rfl, built := rfl, fab := rfl, recd := rfl, br := rfl, sens := rfl, dram := rfl, out := rfl, evt := rfl, tref := rfl, fl := rfl, bt := rfl, pw := rfl, nv := rfl, lc := rfl, tb := rfl, otp := rfl, pending := rfl }

/-- Posting is quiet. -/
theorem Posting.quiet {s u : State} (h : Posting s u) : Quiet s u :=
  { get := fun f hf => h.get f (fun e => hf (List.mem_of_mem_take e)), opt := by rw [h.opt], sched := by rw [h.sched], mem := h.mem, now := h.now, freeCtr := h.freeCtr, resp := h.resp, sw := h.sw, lanes := h.lanes, fp := h.fp, secs := h.secs, dfifo := h.dfifo, built := h.built, fab := h.fab, recd := h.recd, br := h.br, sens := h.sens, dram := h.dram, out := h.out, evt := h.evt, tref := h.tref, fl := h.fl, bt := h.bt, pw := h.pw, nv := h.nv, lc := h.lc, tb := h.tb, otp := h.otp, pending := h.pending }

/-! ## Reading a field over what raising does -/

theorem State.get_raise (s : State) (code inst val : Nat) {f : Fld} (h : f.key ∉ eventKeys) : (s.raise code inst val).get f = s.get f := (Posting.raise s code inst val).get f h
theorem State.is_raise (s : State) (code inst val : Nat) {f : Fld} (h : f.key ∉ eventKeys) : (s.raise code inst val).is f = s.is f := by simp [State.is, s.get_raise code inst val h]
@[simp] theorem State.raise_opt (s : State) (code inst val : Nat) : (s.raise code inst val).opt = s.opt := (Posting.raise s code inst val).opt
@[simp] theorem State.raise_sched (s : State) (code inst val : Nat) : (s.raise code inst val).sched = s.sched := (Posting.raise s code inst val).sched
@[simp] theorem State.raise_mem (s : State) (code inst val : Nat) : (s.raise code inst val).mem = s.mem := (Posting.raise s code inst val).mem
@[simp] theorem State.raise_now (s : State) (code inst val : Nat) : (s.raise code inst val).now = s.now := (Posting.raise s code inst val).now
@[simp] theorem State.raise_freeCtr (s : State) (code inst val : Nat) : (s.raise code inst val).freeCtr = s.freeCtr := (Posting.raise s code inst val).freeCtr
@[simp] theorem State.raise_resp (s : State) (code inst val : Nat) : (s.raise code inst val).resp = s.resp := (Posting.raise s code inst val).resp
@[simp] theorem State.raise_sw (s : State) (code inst val : Nat) : (s.raise code inst val).sw = s.sw := (Posting.raise s code inst val).sw
@[simp] theorem State.raise_lanes (s : State) (code inst val : Nat) : (s.raise code inst val).lanes = s.lanes := (Posting.raise s code inst val).lanes
@[simp] theorem State.raise_fp (s : State) (code inst val : Nat) : (s.raise code inst val).fp = s.fp := (Posting.raise s code inst val).fp
@[simp] theorem State.raise_secs (s : State) (code inst val : Nat) : (s.raise code inst val).secs = s.secs := (Posting.raise s code inst val).secs
@[simp] theorem State.raise_dfifo (s : State) (code inst val : Nat) : (s.raise code inst val).dfifo = s.dfifo := (Posting.raise s code inst val).dfifo
@[simp] theorem State.raise_built (s : State) (code inst val : Nat) : (s.raise code inst val).built = s.built := (Posting.raise s code inst val).built
@[simp] theorem State.raise_fab (s : State) (code inst val : Nat) : (s.raise code inst val).fab = s.fab := (Posting.raise s code inst val).fab
@[simp] theorem State.raise_recd (s : State) (code inst val : Nat) : (s.raise code inst val).recd = s.recd := (Posting.raise s code inst val).recd
@[simp] theorem State.raise_br (s : State) (code inst val : Nat) : (s.raise code inst val).br = s.br := (Posting.raise s code inst val).br
@[simp] theorem State.raise_sens (s : State) (code inst val : Nat) : (s.raise code inst val).sens = s.sens := (Posting.raise s code inst val).sens
@[simp] theorem State.raise_dram (s : State) (code inst val : Nat) : (s.raise code inst val).dram = s.dram := (Posting.raise s code inst val).dram
@[simp] theorem State.raise_out (s : State) (code inst val : Nat) : (s.raise code inst val).out = s.out := (Posting.raise s code inst val).out
@[simp] theorem State.raise_evt (s : State) (code inst val : Nat) : (s.raise code inst val).evt = s.evt := (Posting.raise s code inst val).evt
@[simp] theorem State.raise_tref (s : State) (code inst val : Nat) : (s.raise code inst val).tref = s.tref := (Posting.raise s code inst val).tref
@[simp] theorem State.raise_fl (s : State) (code inst val : Nat) : (s.raise code inst val).fl = s.fl := (Posting.raise s code inst val).fl
@[simp] theorem State.raise_bt (s : State) (code inst val : Nat) : (s.raise code inst val).bt = s.bt := (Posting.raise s code inst val).bt
@[simp] theorem State.raise_pw (s : State) (code inst val : Nat) : (s.raise code inst val).pw = s.pw := (Posting.raise s code inst val).pw
@[simp] theorem State.raise_nv (s : State) (code inst val : Nat) : (s.raise code inst val).nv = s.nv := (Posting.raise s code inst val).nv
@[simp] theorem State.raise_lc (s : State) (code inst val : Nat) : (s.raise code inst val).lc = s.lc := (Posting.raise s code inst val).lc
@[simp] theorem State.raise_tb (s : State) (code inst val : Nat) : (s.raise code inst val).tb = s.tb := (Posting.raise s code inst val).tb
@[simp] theorem State.raise_otp (s : State) (code inst val : Nat) : (s.raise code inst val).otp = s.otp := (Posting.raise s code inst val).otp
@[simp] theorem State.raise_pending (s : State) (code inst val : Nat) : (s.raise code inst val).pending = s.pending := (Posting.raise s code inst val).pending

theorem State.get_raiseAt (s : State) (t code inst val : Nat) {f : Fld} (h : f.key ∉ eventKeys) : (s.raiseAt t code inst val).get f = s.get f := (Posting.raiseAt s t code inst val).get f h
theorem State.is_raiseAt (s : State) (t code inst val : Nat) {f : Fld} (h : f.key ∉ eventKeys) : (s.raiseAt t code inst val).is f = s.is f := by simp [State.is, s.get_raiseAt t code inst val h]
@[simp] theorem State.raiseAt_opt (s : State) (t code inst val : Nat) : (s.raiseAt t code inst val).opt = s.opt := (Posting.raiseAt s t code inst val).opt
@[simp] theorem State.raiseAt_sched (s : State) (t code inst val : Nat) : (s.raiseAt t code inst val).sched = s.sched := (Posting.raiseAt s t code inst val).sched
@[simp] theorem State.raiseAt_mem (s : State) (t code inst val : Nat) : (s.raiseAt t code inst val).mem = s.mem := (Posting.raiseAt s t code inst val).mem
@[simp] theorem State.raiseAt_now (s : State) (t code inst val : Nat) : (s.raiseAt t code inst val).now = s.now := (Posting.raiseAt s t code inst val).now
@[simp] theorem State.raiseAt_freeCtr (s : State) (t code inst val : Nat) : (s.raiseAt t code inst val).freeCtr = s.freeCtr := (Posting.raiseAt s t code inst val).freeCtr
@[simp] theorem State.raiseAt_resp (s : State) (t code inst val : Nat) : (s.raiseAt t code inst val).resp = s.resp := (Posting.raiseAt s t code inst val).resp
@[simp] theorem State.raiseAt_sw (s : State) (t code inst val : Nat) : (s.raiseAt t code inst val).sw = s.sw := (Posting.raiseAt s t code inst val).sw
@[simp] theorem State.raiseAt_lanes (s : State) (t code inst val : Nat) : (s.raiseAt t code inst val).lanes = s.lanes := (Posting.raiseAt s t code inst val).lanes
@[simp] theorem State.raiseAt_fp (s : State) (t code inst val : Nat) : (s.raiseAt t code inst val).fp = s.fp := (Posting.raiseAt s t code inst val).fp
@[simp] theorem State.raiseAt_secs (s : State) (t code inst val : Nat) : (s.raiseAt t code inst val).secs = s.secs := (Posting.raiseAt s t code inst val).secs
@[simp] theorem State.raiseAt_dfifo (s : State) (t code inst val : Nat) : (s.raiseAt t code inst val).dfifo = s.dfifo := (Posting.raiseAt s t code inst val).dfifo
@[simp] theorem State.raiseAt_built (s : State) (t code inst val : Nat) : (s.raiseAt t code inst val).built = s.built := (Posting.raiseAt s t code inst val).built
@[simp] theorem State.raiseAt_fab (s : State) (t code inst val : Nat) : (s.raiseAt t code inst val).fab = s.fab := (Posting.raiseAt s t code inst val).fab
@[simp] theorem State.raiseAt_recd (s : State) (t code inst val : Nat) : (s.raiseAt t code inst val).recd = s.recd := (Posting.raiseAt s t code inst val).recd
@[simp] theorem State.raiseAt_br (s : State) (t code inst val : Nat) : (s.raiseAt t code inst val).br = s.br := (Posting.raiseAt s t code inst val).br
@[simp] theorem State.raiseAt_sens (s : State) (t code inst val : Nat) : (s.raiseAt t code inst val).sens = s.sens := (Posting.raiseAt s t code inst val).sens
@[simp] theorem State.raiseAt_dram (s : State) (t code inst val : Nat) : (s.raiseAt t code inst val).dram = s.dram := (Posting.raiseAt s t code inst val).dram
@[simp] theorem State.raiseAt_out (s : State) (t code inst val : Nat) : (s.raiseAt t code inst val).out = s.out := (Posting.raiseAt s t code inst val).out
@[simp] theorem State.raiseAt_evt (s : State) (t code inst val : Nat) : (s.raiseAt t code inst val).evt = s.evt := (Posting.raiseAt s t code inst val).evt
@[simp] theorem State.raiseAt_tref (s : State) (t code inst val : Nat) : (s.raiseAt t code inst val).tref = s.tref := (Posting.raiseAt s t code inst val).tref
@[simp] theorem State.raiseAt_fl (s : State) (t code inst val : Nat) : (s.raiseAt t code inst val).fl = s.fl := (Posting.raiseAt s t code inst val).fl
@[simp] theorem State.raiseAt_bt (s : State) (t code inst val : Nat) : (s.raiseAt t code inst val).bt = s.bt := (Posting.raiseAt s t code inst val).bt
@[simp] theorem State.raiseAt_pw (s : State) (t code inst val : Nat) : (s.raiseAt t code inst val).pw = s.pw := (Posting.raiseAt s t code inst val).pw
@[simp] theorem State.raiseAt_nv (s : State) (t code inst val : Nat) : (s.raiseAt t code inst val).nv = s.nv := (Posting.raiseAt s t code inst val).nv
@[simp] theorem State.raiseAt_lc (s : State) (t code inst val : Nat) : (s.raiseAt t code inst val).lc = s.lc := (Posting.raiseAt s t code inst val).lc
@[simp] theorem State.raiseAt_tb (s : State) (t code inst val : Nat) : (s.raiseAt t code inst val).tb = s.tb := (Posting.raiseAt s t code inst val).tb
@[simp] theorem State.raiseAt_otp (s : State) (t code inst val : Nat) : (s.raiseAt t code inst val).otp = s.otp := (Posting.raiseAt s t code inst val).otp
@[simp] theorem State.raiseAt_pending (s : State) (t code inst val : Nat) : (s.raiseAt t code inst val).pending = s.pending := (Posting.raiseAt s t code inst val).pending

theorem State.get_raiseWhole (s : State) (code arg : Nat) {f : Fld} (h : f.key ∉ eventKeys) : (s.raiseWhole code arg).get f = s.get f := (Posting.raiseWhole s code arg).get f h
theorem State.is_raiseWhole (s : State) (code arg : Nat) {f : Fld} (h : f.key ∉ eventKeys) : (s.raiseWhole code arg).is f = s.is f := by simp [State.is, s.get_raiseWhole code arg h]
@[simp] theorem State.raiseWhole_opt (s : State) (code arg : Nat) : (s.raiseWhole code arg).opt = s.opt := (Posting.raiseWhole s code arg).opt
@[simp] theorem State.raiseWhole_sched (s : State) (code arg : Nat) : (s.raiseWhole code arg).sched = s.sched := (Posting.raiseWhole s code arg).sched
@[simp] theorem State.raiseWhole_mem (s : State) (code arg : Nat) : (s.raiseWhole code arg).mem = s.mem := (Posting.raiseWhole s code arg).mem
@[simp] theorem State.raiseWhole_now (s : State) (code arg : Nat) : (s.raiseWhole code arg).now = s.now := (Posting.raiseWhole s code arg).now
@[simp] theorem State.raiseWhole_freeCtr (s : State) (code arg : Nat) : (s.raiseWhole code arg).freeCtr = s.freeCtr := (Posting.raiseWhole s code arg).freeCtr
@[simp] theorem State.raiseWhole_resp (s : State) (code arg : Nat) : (s.raiseWhole code arg).resp = s.resp := (Posting.raiseWhole s code arg).resp
@[simp] theorem State.raiseWhole_sw (s : State) (code arg : Nat) : (s.raiseWhole code arg).sw = s.sw := (Posting.raiseWhole s code arg).sw
@[simp] theorem State.raiseWhole_lanes (s : State) (code arg : Nat) : (s.raiseWhole code arg).lanes = s.lanes := (Posting.raiseWhole s code arg).lanes
@[simp] theorem State.raiseWhole_fp (s : State) (code arg : Nat) : (s.raiseWhole code arg).fp = s.fp := (Posting.raiseWhole s code arg).fp
@[simp] theorem State.raiseWhole_secs (s : State) (code arg : Nat) : (s.raiseWhole code arg).secs = s.secs := (Posting.raiseWhole s code arg).secs
@[simp] theorem State.raiseWhole_dfifo (s : State) (code arg : Nat) : (s.raiseWhole code arg).dfifo = s.dfifo := (Posting.raiseWhole s code arg).dfifo
@[simp] theorem State.raiseWhole_built (s : State) (code arg : Nat) : (s.raiseWhole code arg).built = s.built := (Posting.raiseWhole s code arg).built
@[simp] theorem State.raiseWhole_fab (s : State) (code arg : Nat) : (s.raiseWhole code arg).fab = s.fab := (Posting.raiseWhole s code arg).fab
@[simp] theorem State.raiseWhole_recd (s : State) (code arg : Nat) : (s.raiseWhole code arg).recd = s.recd := (Posting.raiseWhole s code arg).recd
@[simp] theorem State.raiseWhole_br (s : State) (code arg : Nat) : (s.raiseWhole code arg).br = s.br := (Posting.raiseWhole s code arg).br
@[simp] theorem State.raiseWhole_sens (s : State) (code arg : Nat) : (s.raiseWhole code arg).sens = s.sens := (Posting.raiseWhole s code arg).sens
@[simp] theorem State.raiseWhole_dram (s : State) (code arg : Nat) : (s.raiseWhole code arg).dram = s.dram := (Posting.raiseWhole s code arg).dram
@[simp] theorem State.raiseWhole_out (s : State) (code arg : Nat) : (s.raiseWhole code arg).out = s.out := (Posting.raiseWhole s code arg).out
@[simp] theorem State.raiseWhole_evt (s : State) (code arg : Nat) : (s.raiseWhole code arg).evt = s.evt := (Posting.raiseWhole s code arg).evt
@[simp] theorem State.raiseWhole_tref (s : State) (code arg : Nat) : (s.raiseWhole code arg).tref = s.tref := (Posting.raiseWhole s code arg).tref
@[simp] theorem State.raiseWhole_fl (s : State) (code arg : Nat) : (s.raiseWhole code arg).fl = s.fl := (Posting.raiseWhole s code arg).fl
@[simp] theorem State.raiseWhole_bt (s : State) (code arg : Nat) : (s.raiseWhole code arg).bt = s.bt := (Posting.raiseWhole s code arg).bt
@[simp] theorem State.raiseWhole_pw (s : State) (code arg : Nat) : (s.raiseWhole code arg).pw = s.pw := (Posting.raiseWhole s code arg).pw
@[simp] theorem State.raiseWhole_nv (s : State) (code arg : Nat) : (s.raiseWhole code arg).nv = s.nv := (Posting.raiseWhole s code arg).nv
@[simp] theorem State.raiseWhole_lc (s : State) (code arg : Nat) : (s.raiseWhole code arg).lc = s.lc := (Posting.raiseWhole s code arg).lc
@[simp] theorem State.raiseWhole_tb (s : State) (code arg : Nat) : (s.raiseWhole code arg).tb = s.tb := (Posting.raiseWhole s code arg).tb
@[simp] theorem State.raiseWhole_otp (s : State) (code arg : Nat) : (s.raiseWhole code arg).otp = s.otp := (Posting.raiseWhole s code arg).otp
@[simp] theorem State.raiseWhole_pending (s : State) (code arg : Nat) : (s.raiseWhole code arg).pending = s.pending := (Posting.raiseWhole s code arg).pending

theorem State.get_raiseLimited (s : State) (code inst val mark gap : Nat) {f : Fld} (h : f.key ∉ eventKeys) : (s.raiseLimited code inst val mark gap).get f = s.get f := (Posting.raiseLimited s code inst val mark gap).get f h
theorem State.is_raiseLimited (s : State) (code inst val mark gap : Nat) {f : Fld} (h : f.key ∉ eventKeys) : (s.raiseLimited code inst val mark gap).is f = s.is f := by simp [State.is, s.get_raiseLimited code inst val mark gap h]
@[simp] theorem State.raiseLimited_opt (s : State) (code inst val mark gap : Nat) : (s.raiseLimited code inst val mark gap).opt = s.opt := (Posting.raiseLimited s code inst val mark gap).opt
@[simp] theorem State.raiseLimited_sched (s : State) (code inst val mark gap : Nat) : (s.raiseLimited code inst val mark gap).sched = s.sched := (Posting.raiseLimited s code inst val mark gap).sched
@[simp] theorem State.raiseLimited_mem (s : State) (code inst val mark gap : Nat) : (s.raiseLimited code inst val mark gap).mem = s.mem := (Posting.raiseLimited s code inst val mark gap).mem
@[simp] theorem State.raiseLimited_now (s : State) (code inst val mark gap : Nat) : (s.raiseLimited code inst val mark gap).now = s.now := (Posting.raiseLimited s code inst val mark gap).now
@[simp] theorem State.raiseLimited_freeCtr (s : State) (code inst val mark gap : Nat) : (s.raiseLimited code inst val mark gap).freeCtr = s.freeCtr := (Posting.raiseLimited s code inst val mark gap).freeCtr
@[simp] theorem State.raiseLimited_resp (s : State) (code inst val mark gap : Nat) : (s.raiseLimited code inst val mark gap).resp = s.resp := (Posting.raiseLimited s code inst val mark gap).resp
@[simp] theorem State.raiseLimited_sw (s : State) (code inst val mark gap : Nat) : (s.raiseLimited code inst val mark gap).sw = s.sw := (Posting.raiseLimited s code inst val mark gap).sw
@[simp] theorem State.raiseLimited_lanes (s : State) (code inst val mark gap : Nat) : (s.raiseLimited code inst val mark gap).lanes = s.lanes := (Posting.raiseLimited s code inst val mark gap).lanes
@[simp] theorem State.raiseLimited_fp (s : State) (code inst val mark gap : Nat) : (s.raiseLimited code inst val mark gap).fp = s.fp := (Posting.raiseLimited s code inst val mark gap).fp
@[simp] theorem State.raiseLimited_secs (s : State) (code inst val mark gap : Nat) : (s.raiseLimited code inst val mark gap).secs = s.secs := (Posting.raiseLimited s code inst val mark gap).secs
@[simp] theorem State.raiseLimited_dfifo (s : State) (code inst val mark gap : Nat) : (s.raiseLimited code inst val mark gap).dfifo = s.dfifo := (Posting.raiseLimited s code inst val mark gap).dfifo
@[simp] theorem State.raiseLimited_built (s : State) (code inst val mark gap : Nat) : (s.raiseLimited code inst val mark gap).built = s.built := (Posting.raiseLimited s code inst val mark gap).built
@[simp] theorem State.raiseLimited_fab (s : State) (code inst val mark gap : Nat) : (s.raiseLimited code inst val mark gap).fab = s.fab := (Posting.raiseLimited s code inst val mark gap).fab
@[simp] theorem State.raiseLimited_recd (s : State) (code inst val mark gap : Nat) : (s.raiseLimited code inst val mark gap).recd = s.recd := (Posting.raiseLimited s code inst val mark gap).recd
@[simp] theorem State.raiseLimited_br (s : State) (code inst val mark gap : Nat) : (s.raiseLimited code inst val mark gap).br = s.br := (Posting.raiseLimited s code inst val mark gap).br
@[simp] theorem State.raiseLimited_sens (s : State) (code inst val mark gap : Nat) : (s.raiseLimited code inst val mark gap).sens = s.sens := (Posting.raiseLimited s code inst val mark gap).sens
@[simp] theorem State.raiseLimited_dram (s : State) (code inst val mark gap : Nat) : (s.raiseLimited code inst val mark gap).dram = s.dram := (Posting.raiseLimited s code inst val mark gap).dram
@[simp] theorem State.raiseLimited_out (s : State) (code inst val mark gap : Nat) : (s.raiseLimited code inst val mark gap).out = s.out := (Posting.raiseLimited s code inst val mark gap).out
@[simp] theorem State.raiseLimited_evt (s : State) (code inst val mark gap : Nat) : (s.raiseLimited code inst val mark gap).evt = s.evt := (Posting.raiseLimited s code inst val mark gap).evt
@[simp] theorem State.raiseLimited_tref (s : State) (code inst val mark gap : Nat) : (s.raiseLimited code inst val mark gap).tref = s.tref := (Posting.raiseLimited s code inst val mark gap).tref
@[simp] theorem State.raiseLimited_fl (s : State) (code inst val mark gap : Nat) : (s.raiseLimited code inst val mark gap).fl = s.fl := (Posting.raiseLimited s code inst val mark gap).fl
@[simp] theorem State.raiseLimited_bt (s : State) (code inst val mark gap : Nat) : (s.raiseLimited code inst val mark gap).bt = s.bt := (Posting.raiseLimited s code inst val mark gap).bt
@[simp] theorem State.raiseLimited_pw (s : State) (code inst val mark gap : Nat) : (s.raiseLimited code inst val mark gap).pw = s.pw := (Posting.raiseLimited s code inst val mark gap).pw
@[simp] theorem State.raiseLimited_nv (s : State) (code inst val mark gap : Nat) : (s.raiseLimited code inst val mark gap).nv = s.nv := (Posting.raiseLimited s code inst val mark gap).nv
@[simp] theorem State.raiseLimited_lc (s : State) (code inst val mark gap : Nat) : (s.raiseLimited code inst val mark gap).lc = s.lc := (Posting.raiseLimited s code inst val mark gap).lc
@[simp] theorem State.raiseLimited_tb (s : State) (code inst val mark gap : Nat) : (s.raiseLimited code inst val mark gap).tb = s.tb := (Posting.raiseLimited s code inst val mark gap).tb
@[simp] theorem State.raiseLimited_otp (s : State) (code inst val mark gap : Nat) : (s.raiseLimited code inst val mark gap).otp = s.otp := (Posting.raiseLimited s code inst val mark gap).otp
@[simp] theorem State.raiseLimited_pending (s : State) (code inst val mark gap : Nat) : (s.raiseLimited code inst val mark gap).pending = s.pending := (Posting.raiseLimited s code inst val mark gap).pending

theorem State.get_raisePerSecond (s : State) (code inst val : Nat) {f : Fld} (h : f.key ∉ eventKeys) : (s.raisePerSecond code inst val).get f = s.get f := (Posting.raiseLimited s code inst val _ _).get f h
theorem State.is_raisePerSecond (s : State) (code inst val : Nat) {f : Fld} (h : f.key ∉ eventKeys) : (s.raisePerSecond code inst val).is f = s.is f := by simp [State.is, s.get_raisePerSecond code inst val h]
@[simp] theorem State.raisePerSecond_opt (s : State) (code inst val : Nat) : (s.raisePerSecond code inst val).opt = s.opt := (Posting.raiseLimited s code inst val _ _).opt
@[simp] theorem State.raisePerSecond_sched (s : State) (code inst val : Nat) : (s.raisePerSecond code inst val).sched = s.sched := (Posting.raiseLimited s code inst val _ _).sched
@[simp] theorem State.raisePerSecond_mem (s : State) (code inst val : Nat) : (s.raisePerSecond code inst val).mem = s.mem := (Posting.raiseLimited s code inst val _ _).mem
@[simp] theorem State.raisePerSecond_now (s : State) (code inst val : Nat) : (s.raisePerSecond code inst val).now = s.now := (Posting.raiseLimited s code inst val _ _).now
@[simp] theorem State.raisePerSecond_freeCtr (s : State) (code inst val : Nat) : (s.raisePerSecond code inst val).freeCtr = s.freeCtr := (Posting.raiseLimited s code inst val _ _).freeCtr
@[simp] theorem State.raisePerSecond_resp (s : State) (code inst val : Nat) : (s.raisePerSecond code inst val).resp = s.resp := (Posting.raiseLimited s code inst val _ _).resp
@[simp] theorem State.raisePerSecond_sw (s : State) (code inst val : Nat) : (s.raisePerSecond code inst val).sw = s.sw := (Posting.raiseLimited s code inst val _ _).sw
@[simp] theorem State.raisePerSecond_lanes (s : State) (code inst val : Nat) : (s.raisePerSecond code inst val).lanes = s.lanes := (Posting.raiseLimited s code inst val _ _).lanes
@[simp] theorem State.raisePerSecond_fp (s : State) (code inst val : Nat) : (s.raisePerSecond code inst val).fp = s.fp := (Posting.raiseLimited s code inst val _ _).fp
@[simp] theorem State.raisePerSecond_secs (s : State) (code inst val : Nat) : (s.raisePerSecond code inst val).secs = s.secs := (Posting.raiseLimited s code inst val _ _).secs
@[simp] theorem State.raisePerSecond_dfifo (s : State) (code inst val : Nat) : (s.raisePerSecond code inst val).dfifo = s.dfifo := (Posting.raiseLimited s code inst val _ _).dfifo
@[simp] theorem State.raisePerSecond_built (s : State) (code inst val : Nat) : (s.raisePerSecond code inst val).built = s.built := (Posting.raiseLimited s code inst val _ _).built
@[simp] theorem State.raisePerSecond_fab (s : State) (code inst val : Nat) : (s.raisePerSecond code inst val).fab = s.fab := (Posting.raiseLimited s code inst val _ _).fab
@[simp] theorem State.raisePerSecond_recd (s : State) (code inst val : Nat) : (s.raisePerSecond code inst val).recd = s.recd := (Posting.raiseLimited s code inst val _ _).recd
@[simp] theorem State.raisePerSecond_br (s : State) (code inst val : Nat) : (s.raisePerSecond code inst val).br = s.br := (Posting.raiseLimited s code inst val _ _).br
@[simp] theorem State.raisePerSecond_sens (s : State) (code inst val : Nat) : (s.raisePerSecond code inst val).sens = s.sens := (Posting.raiseLimited s code inst val _ _).sens
@[simp] theorem State.raisePerSecond_dram (s : State) (code inst val : Nat) : (s.raisePerSecond code inst val).dram = s.dram := (Posting.raiseLimited s code inst val _ _).dram
@[simp] theorem State.raisePerSecond_out (s : State) (code inst val : Nat) : (s.raisePerSecond code inst val).out = s.out := (Posting.raiseLimited s code inst val _ _).out
@[simp] theorem State.raisePerSecond_evt (s : State) (code inst val : Nat) : (s.raisePerSecond code inst val).evt = s.evt := (Posting.raiseLimited s code inst val _ _).evt
@[simp] theorem State.raisePerSecond_tref (s : State) (code inst val : Nat) : (s.raisePerSecond code inst val).tref = s.tref := (Posting.raiseLimited s code inst val _ _).tref
@[simp] theorem State.raisePerSecond_fl (s : State) (code inst val : Nat) : (s.raisePerSecond code inst val).fl = s.fl := (Posting.raiseLimited s code inst val _ _).fl
@[simp] theorem State.raisePerSecond_bt (s : State) (code inst val : Nat) : (s.raisePerSecond code inst val).bt = s.bt := (Posting.raiseLimited s code inst val _ _).bt
@[simp] theorem State.raisePerSecond_pw (s : State) (code inst val : Nat) : (s.raisePerSecond code inst val).pw = s.pw := (Posting.raiseLimited s code inst val _ _).pw
@[simp] theorem State.raisePerSecond_nv (s : State) (code inst val : Nat) : (s.raisePerSecond code inst val).nv = s.nv := (Posting.raiseLimited s code inst val _ _).nv
@[simp] theorem State.raisePerSecond_lc (s : State) (code inst val : Nat) : (s.raisePerSecond code inst val).lc = s.lc := (Posting.raiseLimited s code inst val _ _).lc
@[simp] theorem State.raisePerSecond_tb (s : State) (code inst val : Nat) : (s.raisePerSecond code inst val).tb = s.tb := (Posting.raiseLimited s code inst val _ _).tb
@[simp] theorem State.raisePerSecond_otp (s : State) (code inst val : Nat) : (s.raisePerSecond code inst val).otp = s.otp := (Posting.raiseLimited s code inst val _ _).otp
@[simp] theorem State.raisePerSecond_pending (s : State) (code inst val : Nat) : (s.raisePerSecond code inst val).pending = s.pending := (Posting.raiseLimited s code inst val _ _).pending

theorem State.get_raisePerSweep (s : State) (code inst val : Nat) {f : Fld} (h : f.key ∉ eventKeys) : (s.raisePerSweep code inst val).get f = s.get f := (Posting.raiseLimited s code inst val _ _).get f h
theorem State.is_raisePerSweep (s : State) (code inst val : Nat) {f : Fld} (h : f.key ∉ eventKeys) : (s.raisePerSweep code inst val).is f = s.is f := by simp [State.is, s.get_raisePerSweep code inst val h]
@[simp] theorem State.raisePerSweep_opt (s : State) (code inst val : Nat) : (s.raisePerSweep code inst val).opt = s.opt := (Posting.raiseLimited s code inst val _ _).opt
@[simp] theorem State.raisePerSweep_sched (s : State) (code inst val : Nat) : (s.raisePerSweep code inst val).sched = s.sched := (Posting.raiseLimited s code inst val _ _).sched
@[simp] theorem State.raisePerSweep_mem (s : State) (code inst val : Nat) : (s.raisePerSweep code inst val).mem = s.mem := (Posting.raiseLimited s code inst val _ _).mem
@[simp] theorem State.raisePerSweep_now (s : State) (code inst val : Nat) : (s.raisePerSweep code inst val).now = s.now := (Posting.raiseLimited s code inst val _ _).now
@[simp] theorem State.raisePerSweep_freeCtr (s : State) (code inst val : Nat) : (s.raisePerSweep code inst val).freeCtr = s.freeCtr := (Posting.raiseLimited s code inst val _ _).freeCtr
@[simp] theorem State.raisePerSweep_resp (s : State) (code inst val : Nat) : (s.raisePerSweep code inst val).resp = s.resp := (Posting.raiseLimited s code inst val _ _).resp
@[simp] theorem State.raisePerSweep_sw (s : State) (code inst val : Nat) : (s.raisePerSweep code inst val).sw = s.sw := (Posting.raiseLimited s code inst val _ _).sw
@[simp] theorem State.raisePerSweep_lanes (s : State) (code inst val : Nat) : (s.raisePerSweep code inst val).lanes = s.lanes := (Posting.raiseLimited s code inst val _ _).lanes
@[simp] theorem State.raisePerSweep_fp (s : State) (code inst val : Nat) : (s.raisePerSweep code inst val).fp = s.fp := (Posting.raiseLimited s code inst val _ _).fp
@[simp] theorem State.raisePerSweep_secs (s : State) (code inst val : Nat) : (s.raisePerSweep code inst val).secs = s.secs := (Posting.raiseLimited s code inst val _ _).secs
@[simp] theorem State.raisePerSweep_dfifo (s : State) (code inst val : Nat) : (s.raisePerSweep code inst val).dfifo = s.dfifo := (Posting.raiseLimited s code inst val _ _).dfifo
@[simp] theorem State.raisePerSweep_built (s : State) (code inst val : Nat) : (s.raisePerSweep code inst val).built = s.built := (Posting.raiseLimited s code inst val _ _).built
@[simp] theorem State.raisePerSweep_fab (s : State) (code inst val : Nat) : (s.raisePerSweep code inst val).fab = s.fab := (Posting.raiseLimited s code inst val _ _).fab
@[simp] theorem State.raisePerSweep_recd (s : State) (code inst val : Nat) : (s.raisePerSweep code inst val).recd = s.recd := (Posting.raiseLimited s code inst val _ _).recd
@[simp] theorem State.raisePerSweep_br (s : State) (code inst val : Nat) : (s.raisePerSweep code inst val).br = s.br := (Posting.raiseLimited s code inst val _ _).br
@[simp] theorem State.raisePerSweep_sens (s : State) (code inst val : Nat) : (s.raisePerSweep code inst val).sens = s.sens := (Posting.raiseLimited s code inst val _ _).sens
@[simp] theorem State.raisePerSweep_dram (s : State) (code inst val : Nat) : (s.raisePerSweep code inst val).dram = s.dram := (Posting.raiseLimited s code inst val _ _).dram
@[simp] theorem State.raisePerSweep_out (s : State) (code inst val : Nat) : (s.raisePerSweep code inst val).out = s.out := (Posting.raiseLimited s code inst val _ _).out
@[simp] theorem State.raisePerSweep_evt (s : State) (code inst val : Nat) : (s.raisePerSweep code inst val).evt = s.evt := (Posting.raiseLimited s code inst val _ _).evt
@[simp] theorem State.raisePerSweep_tref (s : State) (code inst val : Nat) : (s.raisePerSweep code inst val).tref = s.tref := (Posting.raiseLimited s code inst val _ _).tref
@[simp] theorem State.raisePerSweep_fl (s : State) (code inst val : Nat) : (s.raisePerSweep code inst val).fl = s.fl := (Posting.raiseLimited s code inst val _ _).fl
@[simp] theorem State.raisePerSweep_bt (s : State) (code inst val : Nat) : (s.raisePerSweep code inst val).bt = s.bt := (Posting.raiseLimited s code inst val _ _).bt
@[simp] theorem State.raisePerSweep_pw (s : State) (code inst val : Nat) : (s.raisePerSweep code inst val).pw = s.pw := (Posting.raiseLimited s code inst val _ _).pw
@[simp] theorem State.raisePerSweep_nv (s : State) (code inst val : Nat) : (s.raisePerSweep code inst val).nv = s.nv := (Posting.raiseLimited s code inst val _ _).nv
@[simp] theorem State.raisePerSweep_lc (s : State) (code inst val : Nat) : (s.raisePerSweep code inst val).lc = s.lc := (Posting.raiseLimited s code inst val _ _).lc
@[simp] theorem State.raisePerSweep_tb (s : State) (code inst val : Nat) : (s.raisePerSweep code inst val).tb = s.tb := (Posting.raiseLimited s code inst val _ _).tb
@[simp] theorem State.raisePerSweep_otp (s : State) (code inst val : Nat) : (s.raisePerSweep code inst val).otp = s.otp := (Posting.raiseLimited s code inst val _ _).otp
@[simp] theorem State.raisePerSweep_pending (s : State) (code inst val : Nat) : (s.raisePerSweep code inst val).pending = s.pending := (Posting.raiseLimited s code inst val _ _).pending

theorem State.get_endCond (s : State) (code inst : Nat) {f : Fld} (h : f.key ∉ eventKeys) : (s.endCond code inst).get f = s.get f := (Posting.endCond s code inst).get f h
theorem State.is_endCond (s : State) (code inst : Nat) {f : Fld} (h : f.key ∉ eventKeys) : (s.endCond code inst).is f = s.is f := by simp [State.is, s.get_endCond code inst h]
@[simp] theorem State.endCond_opt (s : State) (code inst : Nat) : (s.endCond code inst).opt = s.opt := (Posting.endCond s code inst).opt
@[simp] theorem State.endCond_sched (s : State) (code inst : Nat) : (s.endCond code inst).sched = s.sched := (Posting.endCond s code inst).sched
@[simp] theorem State.endCond_mem (s : State) (code inst : Nat) : (s.endCond code inst).mem = s.mem := (Posting.endCond s code inst).mem
@[simp] theorem State.endCond_now (s : State) (code inst : Nat) : (s.endCond code inst).now = s.now := (Posting.endCond s code inst).now
@[simp] theorem State.endCond_freeCtr (s : State) (code inst : Nat) : (s.endCond code inst).freeCtr = s.freeCtr := (Posting.endCond s code inst).freeCtr
@[simp] theorem State.endCond_resp (s : State) (code inst : Nat) : (s.endCond code inst).resp = s.resp := (Posting.endCond s code inst).resp
@[simp] theorem State.endCond_sw (s : State) (code inst : Nat) : (s.endCond code inst).sw = s.sw := (Posting.endCond s code inst).sw
@[simp] theorem State.endCond_lanes (s : State) (code inst : Nat) : (s.endCond code inst).lanes = s.lanes := (Posting.endCond s code inst).lanes
@[simp] theorem State.endCond_fp (s : State) (code inst : Nat) : (s.endCond code inst).fp = s.fp := (Posting.endCond s code inst).fp
@[simp] theorem State.endCond_secs (s : State) (code inst : Nat) : (s.endCond code inst).secs = s.secs := (Posting.endCond s code inst).secs
@[simp] theorem State.endCond_dfifo (s : State) (code inst : Nat) : (s.endCond code inst).dfifo = s.dfifo := (Posting.endCond s code inst).dfifo
@[simp] theorem State.endCond_built (s : State) (code inst : Nat) : (s.endCond code inst).built = s.built := (Posting.endCond s code inst).built
@[simp] theorem State.endCond_fab (s : State) (code inst : Nat) : (s.endCond code inst).fab = s.fab := (Posting.endCond s code inst).fab
@[simp] theorem State.endCond_recd (s : State) (code inst : Nat) : (s.endCond code inst).recd = s.recd := (Posting.endCond s code inst).recd
@[simp] theorem State.endCond_br (s : State) (code inst : Nat) : (s.endCond code inst).br = s.br := (Posting.endCond s code inst).br
@[simp] theorem State.endCond_sens (s : State) (code inst : Nat) : (s.endCond code inst).sens = s.sens := (Posting.endCond s code inst).sens
@[simp] theorem State.endCond_dram (s : State) (code inst : Nat) : (s.endCond code inst).dram = s.dram := (Posting.endCond s code inst).dram
@[simp] theorem State.endCond_out (s : State) (code inst : Nat) : (s.endCond code inst).out = s.out := (Posting.endCond s code inst).out
@[simp] theorem State.endCond_evt (s : State) (code inst : Nat) : (s.endCond code inst).evt = s.evt := (Posting.endCond s code inst).evt
@[simp] theorem State.endCond_tref (s : State) (code inst : Nat) : (s.endCond code inst).tref = s.tref := (Posting.endCond s code inst).tref
@[simp] theorem State.endCond_fl (s : State) (code inst : Nat) : (s.endCond code inst).fl = s.fl := (Posting.endCond s code inst).fl
@[simp] theorem State.endCond_bt (s : State) (code inst : Nat) : (s.endCond code inst).bt = s.bt := (Posting.endCond s code inst).bt
@[simp] theorem State.endCond_pw (s : State) (code inst : Nat) : (s.endCond code inst).pw = s.pw := (Posting.endCond s code inst).pw
@[simp] theorem State.endCond_nv (s : State) (code inst : Nat) : (s.endCond code inst).nv = s.nv := (Posting.endCond s code inst).nv
@[simp] theorem State.endCond_lc (s : State) (code inst : Nat) : (s.endCond code inst).lc = s.lc := (Posting.endCond s code inst).lc
@[simp] theorem State.endCond_tb (s : State) (code inst : Nat) : (s.endCond code inst).tb = s.tb := (Posting.endCond s code inst).tb
@[simp] theorem State.endCond_otp (s : State) (code inst : Nat) : (s.endCond code inst).otp = s.otp := (Posting.endCond s code inst).otp
@[simp] theorem State.endCond_pending (s : State) (code inst : Nat) : (s.endCond code inst).pending = s.pending := (Posting.endCond s code inst).pending

theorem State.get_endConds (s : State) (code : Nat) {f : Fld} (h : f.key ∉ eventKeys) : (s.endConds code).get f = s.get f := (Posting.endConds s code).get f h
theorem State.is_endConds (s : State) (code : Nat) {f : Fld} (h : f.key ∉ eventKeys) : (s.endConds code).is f = s.is f := by simp [State.is, s.get_endConds code h]
@[simp] theorem State.endConds_opt (s : State) (code : Nat) : (s.endConds code).opt = s.opt := (Posting.endConds s code).opt
@[simp] theorem State.endConds_sched (s : State) (code : Nat) : (s.endConds code).sched = s.sched := (Posting.endConds s code).sched
@[simp] theorem State.endConds_mem (s : State) (code : Nat) : (s.endConds code).mem = s.mem := (Posting.endConds s code).mem
@[simp] theorem State.endConds_now (s : State) (code : Nat) : (s.endConds code).now = s.now := (Posting.endConds s code).now
@[simp] theorem State.endConds_freeCtr (s : State) (code : Nat) : (s.endConds code).freeCtr = s.freeCtr := (Posting.endConds s code).freeCtr
@[simp] theorem State.endConds_resp (s : State) (code : Nat) : (s.endConds code).resp = s.resp := (Posting.endConds s code).resp
@[simp] theorem State.endConds_sw (s : State) (code : Nat) : (s.endConds code).sw = s.sw := (Posting.endConds s code).sw
@[simp] theorem State.endConds_lanes (s : State) (code : Nat) : (s.endConds code).lanes = s.lanes := (Posting.endConds s code).lanes
@[simp] theorem State.endConds_fp (s : State) (code : Nat) : (s.endConds code).fp = s.fp := (Posting.endConds s code).fp
@[simp] theorem State.endConds_secs (s : State) (code : Nat) : (s.endConds code).secs = s.secs := (Posting.endConds s code).secs
@[simp] theorem State.endConds_dfifo (s : State) (code : Nat) : (s.endConds code).dfifo = s.dfifo := (Posting.endConds s code).dfifo
@[simp] theorem State.endConds_built (s : State) (code : Nat) : (s.endConds code).built = s.built := (Posting.endConds s code).built
@[simp] theorem State.endConds_fab (s : State) (code : Nat) : (s.endConds code).fab = s.fab := (Posting.endConds s code).fab
@[simp] theorem State.endConds_recd (s : State) (code : Nat) : (s.endConds code).recd = s.recd := (Posting.endConds s code).recd
@[simp] theorem State.endConds_br (s : State) (code : Nat) : (s.endConds code).br = s.br := (Posting.endConds s code).br
@[simp] theorem State.endConds_sens (s : State) (code : Nat) : (s.endConds code).sens = s.sens := (Posting.endConds s code).sens
@[simp] theorem State.endConds_dram (s : State) (code : Nat) : (s.endConds code).dram = s.dram := (Posting.endConds s code).dram
@[simp] theorem State.endConds_out (s : State) (code : Nat) : (s.endConds code).out = s.out := (Posting.endConds s code).out
@[simp] theorem State.endConds_evt (s : State) (code : Nat) : (s.endConds code).evt = s.evt := (Posting.endConds s code).evt
@[simp] theorem State.endConds_tref (s : State) (code : Nat) : (s.endConds code).tref = s.tref := (Posting.endConds s code).tref
@[simp] theorem State.endConds_fl (s : State) (code : Nat) : (s.endConds code).fl = s.fl := (Posting.endConds s code).fl
@[simp] theorem State.endConds_bt (s : State) (code : Nat) : (s.endConds code).bt = s.bt := (Posting.endConds s code).bt
@[simp] theorem State.endConds_pw (s : State) (code : Nat) : (s.endConds code).pw = s.pw := (Posting.endConds s code).pw
@[simp] theorem State.endConds_nv (s : State) (code : Nat) : (s.endConds code).nv = s.nv := (Posting.endConds s code).nv
@[simp] theorem State.endConds_lc (s : State) (code : Nat) : (s.endConds code).lc = s.lc := (Posting.endConds s code).lc
@[simp] theorem State.endConds_tb (s : State) (code : Nat) : (s.endConds code).tb = s.tb := (Posting.endConds s code).tb
@[simp] theorem State.endConds_otp (s : State) (code : Nat) : (s.endConds code).otp = s.otp := (Posting.endConds s code).otp
@[simp] theorem State.endConds_pending (s : State) (code : Nat) : (s.endConds code).pending = s.pending := (Posting.endConds s code).pending

theorem Quiet.amp (s : State) (n : Nat) (b : Bool) : Quiet s { s with opt := { s.opt with ampSince := n, ampSeen := b } } :=
  { get := fun _ _ => rfl, opt := rfl, sched := rfl, mem := rfl, now := rfl, freeCtr := rfl, resp := rfl, sw := rfl, lanes := rfl, fp := rfl, secs := rfl, dfifo := rfl, built := rfl, fab := rfl, recd := rfl, br := rfl, sens := rfl, dram := rfl, out := rfl, evt := rfl, tref := rfl, fl := rfl, bt := rfl, pw := rfl, nv := rfl, lc := rfl, tb := rfl, otp := rfl, pending := rfl }

theorem Quiet.dim (s : State) : Quiet s { s with sched := { s.sched with light := none } } :=
  { get := fun _ _ => rfl, opt := rfl, sched := rfl, mem := rfl, now := rfl, freeCtr := rfl, resp := rfl, sw := rfl, lanes := rfl, fp := rfl, secs := rfl, dfifo := rfl, built := rfl, fab := rfl, recd := rfl, br := rfl, sens := rfl, dram := rfl, out := rfl, evt := rfl, tref := rfl, fl := rfl, bt := rfl, pw := rfl, nv := rfl, lc := rfl, tb := rfl, otp := rfl, pending := rfl }

theorem Quiet.showOptics (s : State) : Quiet s s.showOptics :=
  ((Quiet.put s F.OP_STATE_STATE s.opticalState (by decide)).trans (Quiet.put _ F.TT_STATUS_PROBE _ (by decide))).trans
    (Quiet.put _ F.OP_AMP_EN_OUT _ (by decide))

theorem Quiet.noteAmp (s : State) (old : Nat) : Quiet s (s.noteAmp old) := by
  unfold State.noteAmp; split
  · exact Quiet.amp _ _ _
  · exact Quiet.refl _

theorem Quiet.noteChange (s : State) (old : Nat) : Quiet s (s.noteChange old) := by
  unfold State.noteChange; split
  · exact Quiet.refl _
  · split
    · exact (Quiet.dim _).trans (Posting.raise _ _ _ _).quiet
    · exact (Posting.raise _ _ _ _).quiet

/-- Bringing OP_STATE to its causes is quiet. -/
theorem Quiet.syncOptics (s : State) : Quiet s s.syncOptics :=
  ((Quiet.showOptics s).trans (Quiet.noteAmp _ _)).trans (Quiet.noteChange _ _)

/-- Everything that settling can do. -/
theorem settle_quiet (s : State) : Quiet s s.settle := (Quiet.syncOptics s).trans (Posting.postAll _).quiet

/-! ## Settling, field by field -/

/-- A register outside `settleKeys` is not touched by settling. -/
theorem State.get_settle (s : State) {f : Fld} (h : f.key ∉ settleKeys) : s.settle.get f = s.get f := (settle_quiet s).get f h

@[simp] theorem State.settle_mem (s : State) : s.settle.mem = s.mem := (settle_quiet s).mem
@[simp] theorem State.settle_now (s : State) : s.settle.now = s.now := (settle_quiet s).now
@[simp] theorem State.settle_freeCtr (s : State) : s.settle.freeCtr = s.freeCtr := (settle_quiet s).freeCtr
@[simp] theorem State.settle_resp (s : State) : s.settle.resp = s.resp := (settle_quiet s).resp
@[simp] theorem State.settle_sw (s : State) : s.settle.sw = s.sw := (settle_quiet s).sw
@[simp] theorem State.settle_lanes (s : State) : s.settle.lanes = s.lanes := (settle_quiet s).lanes
@[simp] theorem State.settle_fp (s : State) : s.settle.fp = s.fp := (settle_quiet s).fp
@[simp] theorem State.settle_secs (s : State) : s.settle.secs = s.secs := (settle_quiet s).secs
@[simp] theorem State.settle_dfifo (s : State) : s.settle.dfifo = s.dfifo := (settle_quiet s).dfifo
@[simp] theorem State.settle_built (s : State) : s.settle.built = s.built := (settle_quiet s).built
@[simp] theorem State.settle_fab (s : State) : s.settle.fab = s.fab := (settle_quiet s).fab
@[simp] theorem State.settle_recd (s : State) : s.settle.recd = s.recd := (settle_quiet s).recd
@[simp] theorem State.settle_br (s : State) : s.settle.br = s.br := (settle_quiet s).br
@[simp] theorem State.settle_sens (s : State) : s.settle.sens = s.sens := (settle_quiet s).sens
@[simp] theorem State.settle_dram (s : State) : s.settle.dram = s.dram := (settle_quiet s).dram
@[simp] theorem State.settle_out (s : State) : s.settle.out = s.out := (settle_quiet s).out
@[simp] theorem State.settle_evt (s : State) : s.settle.evt = s.evt := (settle_quiet s).evt
@[simp] theorem State.settle_tref (s : State) : s.settle.tref = s.tref := (settle_quiet s).tref
@[simp] theorem State.settle_fl (s : State) : s.settle.fl = s.fl := (settle_quiet s).fl
@[simp] theorem State.settle_bt (s : State) : s.settle.bt = s.bt := (settle_quiet s).bt
@[simp] theorem State.settle_pw (s : State) : s.settle.pw = s.pw := (settle_quiet s).pw
@[simp] theorem State.settle_nv (s : State) : s.settle.nv = s.nv := (settle_quiet s).nv
@[simp] theorem State.settle_lc (s : State) : s.settle.lc = s.lc := (settle_quiet s).lc
@[simp] theorem State.settle_tb (s : State) : s.settle.tb = s.tb := (settle_quiet s).tb
@[simp] theorem State.settle_otp (s : State) : s.settle.otp = s.otp := (settle_quiet s).otp
@[simp] theorem State.settle_pending (s : State) : s.settle.pending = s.pending := (settle_quiet s).pending


/-! ## The instant and the answer -/

@[simp] theorem State.get_advance (s : State) (t : Nat) (f : Fld) : (s.advance t).get f = s.get f := rfl
@[simp] theorem State.is_advance (s : State) (t : Nat) (f : Fld) : (s.advance t).is f = s.is f := rfl
@[simp] theorem State.advance_now (s : State) (t : Nat) : (s.advance t).now = max s.now t := rfl
@[simp] theorem State.advance_regs (s : State) (t : Nat) : (s.advance t).regs = s.regs := rfl
@[simp] theorem State.advance_ev (s : State) (t : Nat) : (s.advance t).ev = s.ev := rfl
@[simp] theorem State.advance_sched (s : State) (t : Nat) : (s.advance t).sched = s.sched := rfl
@[simp] theorem State.advance_opt (s : State) (t : Nat) : (s.advance t).opt = s.opt := rfl
@[simp] theorem State.advance_mem (s : State) (t : Nat) : (s.advance t).mem = s.mem := rfl
@[simp] theorem State.advance_freeCtr (s : State) (t : Nat) : (s.advance t).freeCtr = s.freeCtr := rfl
@[simp] theorem State.advance_resp (s : State) (t : Nat) : (s.advance t).resp = s.resp := rfl
@[simp] theorem State.advance_sw (s : State) (t : Nat) : (s.advance t).sw = s.sw := rfl
@[simp] theorem State.advance_lanes (s : State) (t : Nat) : (s.advance t).lanes = s.lanes := rfl
@[simp] theorem State.advance_fp (s : State) (t : Nat) : (s.advance t).fp = s.fp := rfl
@[simp] theorem State.advance_secs (s : State) (t : Nat) : (s.advance t).secs = s.secs := rfl
@[simp] theorem State.advance_dfifo (s : State) (t : Nat) : (s.advance t).dfifo = s.dfifo := rfl
@[simp] theorem State.advance_built (s : State) (t : Nat) : (s.advance t).built = s.built := rfl
@[simp] theorem State.advance_fab (s : State) (t : Nat) : (s.advance t).fab = s.fab := rfl
@[simp] theorem State.advance_recd (s : State) (t : Nat) : (s.advance t).recd = s.recd := rfl
@[simp] theorem State.advance_br (s : State) (t : Nat) : (s.advance t).br = s.br := rfl
@[simp] theorem State.advance_sens (s : State) (t : Nat) : (s.advance t).sens = s.sens := rfl
@[simp] theorem State.advance_dram (s : State) (t : Nat) : (s.advance t).dram = s.dram := rfl
@[simp] theorem State.advance_out (s : State) (t : Nat) : (s.advance t).out = s.out := rfl
@[simp] theorem State.advance_evt (s : State) (t : Nat) : (s.advance t).evt = s.evt := rfl
@[simp] theorem State.advance_tref (s : State) (t : Nat) : (s.advance t).tref = s.tref := rfl
@[simp] theorem State.advance_fl (s : State) (t : Nat) : (s.advance t).fl = s.fl := rfl
@[simp] theorem State.advance_bt (s : State) (t : Nat) : (s.advance t).bt = s.bt := rfl
@[simp] theorem State.advance_pw (s : State) (t : Nat) : (s.advance t).pw = s.pw := rfl
@[simp] theorem State.advance_nv (s : State) (t : Nat) : (s.advance t).nv = s.nv := rfl
@[simp] theorem State.advance_lc (s : State) (t : Nat) : (s.advance t).lc = s.lc := rfl
@[simp] theorem State.advance_tb (s : State) (t : Nat) : (s.advance t).tb = s.tb := rfl
@[simp] theorem State.advance_otp (s : State) (t : Nat) : (s.advance t).otp = s.otp := rfl
@[simp] theorem State.advance_pending (s : State) (t : Nat) : (s.advance t).pending = s.pending := rfl
@[simp] theorem State.domainOn_advance (s : State) (t d : Nat) : (s.advance t).domainOn d = s.domainOn d := rfl
@[simp] theorem State.blockOn_advance (s : State) (t a : Nat) : (s.advance t).blockOn a = s.blockOn a := rfl
@[simp] theorem State.domainOn_mk (s : State) (x0) (x1) (x2) (x3) (x4) (x5) (x6) (x7) (x8) (x9) (x10) (x11) (x12) (x13) (x14) (x15) (x16) (x17) (x18) (x19) (x20) (x21) (x22) (x23) (x24) (x25) (x26) (x27) (x28) (d : Nat) : (State.mk s.regs x0 x1 x2 x3 x4 x5 x6 x7 x8 x9 x10 x11 x12 x13 x14 x15 x16 x17 x18 x19 x20 x21 x22 x23 x24 x25 x26 x27 x28).domainOn d = s.domainOn d := rfl

theorem State.domainOn_put (s : State) {f : Fld} (v d : Nat) (h : F.PM_DOMAINS_ON.key ≠ f.key) : (s.put f v).domainOn d = s.domainOn d := by
  simp [State.domainOn, s.get_put_ne v h]

@[simp] theorem State.answer_pending (s : State) (q : List Instr) : (s.answer q).pending = q := rfl
@[simp] theorem State.answer_mem (s : State) (q : List Instr) : (s.answer q).mem = s.mem := s.settle_mem
@[simp] theorem State.answer_now (s : State) (q : List Instr) : (s.answer q).now = s.now := s.settle_now
@[simp] theorem State.answer_freeCtr (s : State) (q : List Instr) : (s.answer q).freeCtr = s.freeCtr := s.settle_freeCtr
@[simp] theorem State.answer_resp (s : State) (q : List Instr) : (s.answer q).resp = s.resp := s.settle_resp
@[simp] theorem State.answer_sw (s : State) (q : List Instr) : (s.answer q).sw = s.sw := s.settle_sw
@[simp] theorem State.answer_lanes (s : State) (q : List Instr) : (s.answer q).lanes = s.lanes := s.settle_lanes
@[simp] theorem State.answer_fp (s : State) (q : List Instr) : (s.answer q).fp = s.fp := s.settle_fp
@[simp] theorem State.answer_secs (s : State) (q : List Instr) : (s.answer q).secs = s.secs := s.settle_secs
@[simp] theorem State.answer_dfifo (s : State) (q : List Instr) : (s.answer q).dfifo = s.dfifo := s.settle_dfifo
@[simp] theorem State.answer_built (s : State) (q : List Instr) : (s.answer q).built = s.built := s.settle_built
@[simp] theorem State.answer_fab (s : State) (q : List Instr) : (s.answer q).fab = s.fab := s.settle_fab
@[simp] theorem State.answer_recd (s : State) (q : List Instr) : (s.answer q).recd = s.recd := s.settle_recd
@[simp] theorem State.answer_br (s : State) (q : List Instr) : (s.answer q).br = s.br := s.settle_br
@[simp] theorem State.answer_sens (s : State) (q : List Instr) : (s.answer q).sens = s.sens := s.settle_sens
@[simp] theorem State.answer_dram (s : State) (q : List Instr) : (s.answer q).dram = s.dram := s.settle_dram
@[simp] theorem State.answer_out (s : State) (q : List Instr) : (s.answer q).out = s.out := s.settle_out
@[simp] theorem State.answer_evt (s : State) (q : List Instr) : (s.answer q).evt = s.evt := s.settle_evt
@[simp] theorem State.answer_tref (s : State) (q : List Instr) : (s.answer q).tref = s.tref := s.settle_tref
@[simp] theorem State.answer_fl (s : State) (q : List Instr) : (s.answer q).fl = s.fl := s.settle_fl
@[simp] theorem State.answer_bt (s : State) (q : List Instr) : (s.answer q).bt = s.bt := s.settle_bt
@[simp] theorem State.answer_pw (s : State) (q : List Instr) : (s.answer q).pw = s.pw := s.settle_pw
@[simp] theorem State.answer_nv (s : State) (q : List Instr) : (s.answer q).nv = s.nv := s.settle_nv
@[simp] theorem State.answer_lc (s : State) (q : List Instr) : (s.answer q).lc = s.lc := s.settle_lc
@[simp] theorem State.answer_tb (s : State) (q : List Instr) : (s.answer q).tb = s.tb := s.settle_tb
@[simp] theorem State.answer_otp (s : State) (q : List Instr) : (s.answer q).otp = s.otp := s.settle_otp

theorem State.get_answer_settle (s : State) (q : List Instr) (f : Fld) : (s.answer q).get f = s.settle.get f := rfl

/-- A register outside `settleKeys` reads in the answer as the effect left it. -/
theorem State.get_answer (s : State) (q : List Instr) {f : Fld} (h : f.key ∉ settleKeys) : (s.answer q).get f = s.get f := s.get_settle h

theorem State.is_answer (s : State) (q : List Instr) {f : Fld} (h : f.key ∉ settleKeys) : (s.answer q).is f = s.is f := by
  simp [State.is, s.get_answer q h]

/-- A meaning answers the settled effect of its instant. -/
theorem runAt_eq (t : Nat) (s : State) (f : State → State) : runAt t s f = .next ((f (s.advance t)).answer s.pending) := rfl

/-- A meaning never answers anything but a next state. -/
theorem runAt_next {t : Nat} {s u : State} {f : State → State} (h : runAt t s f = .next u) : u = (f (s.advance t)).answer s.pending := by
  simpa [runAt, eq_comm] using h

/-- An access to a powered block. -/
theorem access_on {addr : Nat} {f : State → State} {s : State} (h : s.blockOn addr = true) : access addr f s = f s := by
  simp [access, h]

/-- An access to an unpowered block (R40). -/
theorem access_off {addr : Nat} {f : State → State} {s : State} (h : s.blockOn addr = false) : access addr f s = s.offAccess addr := by
  simp [access, h]

/-- What a powered block does on its own. -/
theorem inDomain_on {d : Nat} {f : State → State} {s : State} (h : s.domainOn d = true) : inDomain d f s = f s := by
  simp [inDomain, h]

/-- An unpowered block does nothing. -/
theorem inDomain_off {d : Nat} {f : State → State} {s : State} (h : s.domainOn d = false) : inDomain d f s = s := by
  simp [inDomain, h]

end Sys2Proof.Machine
end

