-- ==== Sys2Proof/Laws/Settled.lean ====
section
/-!
SUPPORT. Laws/Settled.lean: settling reaches a settled state, whatever it starts from.
-/
namespace Sys2Proof.Machine

/-- The optical state depends on OFF and on the cause bits alone, which settling and posting leave alone. -/
theorem Quiet.opticalState {s u : State} (h : Quiet s u) : u.opticalState = s.opticalState := by
  have ho : u.opt.off = s.opt.off := by rw [h.opt]
  have hg : ∀ f : Fld, f.key ∉ settleKeys → u.is f = s.is f := fun f hf => by simp [State.is, h.get f hf]
  unfold State.opticalState State.darkCause State.probeCause
  rw [ho, hg _ (by decide), hg _ (by decide), hg _ (by decide), hg _ (by decide), hg _ (by decide), hg _ (by decide), hg _ (by decide),
    hg _ (by decide), hg _ (by decide), hg _ (by decide)]

theorem State.opticalState_le (s : State) : s.opticalState ≤ 3 := by
  unfold State.opticalState; split <;> (try split) <;> (try split) <;> decide

@[simp] theorem State.settle_opticalState (s : State) : s.settle.opticalState = s.opticalState := (settle_quiet s).opticalState

theorem vectorCause_outbox (s : State) (v : Nat) : (s.vectorCause v).ev.outbox = s.ev.outbox := by
  unfold State.vectorCause
  split
  · rfl
  · dsimp only
    split
    · rfl
    · split <;> rfl

theorem syncNb_ev (s : State) : s.syncNb.ev = s.ev := State.putSat_ev s _ _

/-- Writing an entry raises nothing. -/
theorem nbWrite_outbox (s : State) (e : Ev) : (s.nbWrite e).ev.outbox = s.ev.outbox := by
  simp [State.nbWrite, vectorCause_outbox, syncNb_ev]

theorem nbReportLost_outbox (s : State) : s.nbReportLost.ev.outbox = s.ev.outbox := by
  unfold State.nbReportLost; split
  · exact nbWrite_outbox _ _
  · rfl

theorem post_outbox (s : State) (e : Ev) : (s.post e).ev.outbox = s.ev.outbox := by
  unfold State.post
  split
  · dsimp only
    split
    · simp [nbReportLost_outbox]
    · rw [nbWrite_outbox, nbReportLost_outbox]
  · unfold State.logEvent; split <;> rfl

theorem posts_outbox : ∀ (es : List Ev) (s : State), (es.foldl (fun s e => s.post e) s).ev.outbox = s.ev.outbox
  | [], _ => rfl
  | e :: es, s => by simp only [List.foldl_cons]; rw [posts_outbox es, post_outbox]

@[simp] theorem State.settle_outbox (s : State) : s.settle.ev.outbox = [] := posts_outbox _ _

/-- A field that neither posting nor the notes of a change write. -/
theorem noteAmp_get (s : State) (old : Nat) (f : Fld) : (s.noteAmp old).get f = s.get f := by
  unfold State.noteAmp; split <;> rfl

theorem noteChange_get (s : State) (old : Nat) {f : Fld} (h : f.key ∉ eventKeys) : (s.noteChange old).get f = s.get f := by
  unfold State.noteChange; split
  · rfl
  · rw [(Posting.raise _ _ _ _).get f h]; split <;> rfl

/-- A field that only `showOptics` writes reads after settling as `showOptics` left it. -/
theorem settle_get_shown (s : State) {f : Fld} (h : f.key ∉ eventKeys) : s.settle.get f = s.showOptics.get f := by
  show s.syncOptics.postAll.get f = _
  rw [(Posting.postAll _).get f h]
  show ((s.showOptics.noteAmp _).noteChange _).get f = _
  rw [noteChange_get _ _ h, noteAmp_get]

@[simp] theorem State.settle_state (s : State) : s.settle.get F.OP_STATE_STATE = s.opticalState := by
  rw [settle_get_shown s (by decide)]
  unfold State.showOptics
  rw [State.get_putB_ne _ _ (by decide), State.get_putB_ne _ _ (by decide), State.get_put_same]
  exact Nat.mod_eq_of_lt (Nat.lt_of_le_of_lt s.opticalState_le (by decide))

theorem State.settle_probe (s : State) : s.settle.get F.TT_STATUS_PROBE = if s.opticalState = 2 then 1 else 0 := by
  rw [settle_get_shown s (by decide)]
  unfold State.showOptics
  rw [State.get_putB_ne _ _ (by decide), State.get_putB_same _ _ (by decide)]
  simp

theorem State.settle_amp (s : State) : s.settle.get F.OP_AMP_EN_OUT =
    if s.is F.OP_AMP_USE ∧ 2 ≤ s.opticalState ∧ s.is F.OP_FUSE_STATUS_FUSED = false then 1 else 0 := by
  rw [settle_get_shown s (by decide)]
  unfold State.showOptics
  rw [State.get_putB_same _ _ (by decide)]
  simp [and_assoc]

theorem State.is_settle (s : State) {f : Fld} (h : f.key ∉ settleKeys) : s.settle.is f = s.is f := by
  simp [State.is, s.get_settle h]

/-- Whatever a meaning did before, settling leaves a settled state. -/
theorem State.settle_settled (s : State) : s.settle.Settled :=
  { state := by simp
    probe := by simp [State.settle_probe]
    amp := by
      rw [s.is_settle (by decide), s.is_settle (by decide)]
      simp [State.settle_amp]
    posted := by simp }

theorem State.answer_settled (s : State) (q : List Instr) : (s.answer q).Settled := by
  have h := s.settle_settled
  exact { state := h.state, probe := h.probe, amp := h.amp, posted := h.posted }

theorem State.answer_state (s : State) (q : List Instr) : (s.answer q).get F.OP_STATE_STATE = s.opticalState := s.settle_state

end Sys2Proof.Machine
end

