-- ==== Sys2Proof/Laws/Frame.lean ====
section
/-!
SUPPORT. Laws/Frame.lean: how the frame of a meaning is put together from the frames of its steps, and what it says of the command's answer.
-/
namespace Sys2Proof.Machine

variable {fs : List Fld} {ps : List Part} {s u w : State}

theorem Part.same_refl (p : Part) (s : State) : p.same s s := by cases p <;> rfl

theorem Part.same_trans {p : Part} (a : p.same s u) (b : p.same u w) : p.same s w := by
  cases p <;> simp only [Part.same] at a b ⊢ <;> rw [b, a]

theorem OnlyChanges.refl (s : State) : OnlyChanges fs ps s s := ⟨fun _ _ _ => rfl, fun p _ => p.same_refl s⟩

theorem OnlyChanges.trans (a : OnlyChanges fs ps s u) (b : OnlyChanges fs ps u w) : OnlyChanges fs ps s w :=
  ⟨fun f h1 h2 => (b.1 f h1 h2).trans (a.1 f h1 h2), fun p h => Part.same_trans (a.2 p h) (b.2 p h)⟩

theorem OnlyChanges.mono {gs : List Fld} {qs : List Part} (h : OnlyChanges fs ps s u) (hf : ∀ k ∈ fs.map (·.key), k ∈ gs.map (·.key)) (hp : ∀ p ∈ ps, p ∈ qs) :
    OnlyChanges gs qs s u :=
  ⟨fun f h1 h2 => h.1 f h1 (fun e => h2 (hf _ e)), fun p h1 => h.2 p (fun e => h1 (hp _ e))⟩

theorem Quiet.onlyChanges (h : Quiet s u) : OnlyChanges fs ps s u :=
  ⟨fun f h1 _ => h.get f h1, fun p _ => by
    cases p <;> first
      | exact h.mem | exact h.freeCtr | exact h.resp | exact h.sched | exact h.opt | exact h.sw | exact h.lanes | exact h.fp | exact h.secs
      | exact h.dfifo | exact h.built | exact h.fab | exact h.recd | exact h.br | exact h.sens | exact h.dram | exact h.out | exact h.evt
      | exact h.tref | exact h.fl | exact h.bt | exact h.pw | exact h.nv | exact h.lc | exact h.tb | exact h.otp | exact h.pending⟩

theorem Posting.onlyChanges (h : Posting s u) : OnlyChanges fs ps s u := h.quiet.onlyChanges

/-- A field named in the frame is written. -/
theorem OnlyChanges.put (s : State) (f : Fld) (v : Nat) (h : f.key ∈ fs.map (·.key)) : OnlyChanges fs ps s (s.put f v) :=
  ⟨fun g _ h2 => State.get_put_ne s v (fun e => h2 (e ▸ h)), fun p _ => by cases p <;> rfl⟩

theorem OnlyChanges.bump (s : State) (c k : Fld) (n : Nat) (h : c.key ∈ fs.map (·.key)) (h2 : k.key ∈ fs.map (·.key)) :
    OnlyChanges fs ps s (s.bump c k n) := by
  simp only [State.bump]
  split
  · exact (OnlyChanges.put _ _ _ h).trans (OnlyChanges.put _ _ _ h2)
  · exact OnlyChanges.put _ _ _ h

theorem OnlyChanges.advance (s : State) (t : Nat) : OnlyChanges fs ps s (s.advance t) := ⟨fun _ _ _ => rfl, fun p _ => by cases p <;> rfl⟩

/-- What a frame says of the command's answer, which settles and keeps the queue. -/
theorem OnlyChanges.answer {t : Nat} {v : State} (h : OnlyChanges fs ps (s.advance t) v) : OnlyChanges fs ps s (v.answer s.pending) := by
  have h1 : OnlyChanges fs ps s v.settle := ((OnlyChanges.advance s t).trans h).trans (settle_quiet v).onlyChanges
  refine ⟨fun f a b => h1.1 f a b, fun p hp => ?_⟩
  by_cases he : p = .pending
  · subst he; rfl
  · have := h1.2 p hp
    cases p <;> first
      | exact absurd rfl he
      | exact this

end Sys2Proof.Machine
end

