-- ==== Sys2Proof/Laws/Engine.lean ====
section
/-!
SUPPORT. Laws/Engine.lean: what an engine instruction can do, said once: reads and writes of engines and their registers, and the one lemma about
an instruction that ends normally on an engine that is ready for it.
-/
namespace Sys2Proof.Machine

/-! ## Engines in the state -/

@[simp] theorem State.eng_setEng_same (s : State) (e : Nat) (x : Eng) : (s.setEng e x).eng e = x := by
  simp [State.eng, State.setEng]

@[simp] theorem State.eng_setEng_ne (s : State) {e i : Nat} (x : Eng) (h : i ≠ e) : (s.setEng e x).eng i = s.eng i := by
  simp [State.eng, State.setEng, kvGet_kvSet_ne _ _ _ _ h]

@[simp] theorem State.eng_modEng_same (s : State) (e : Nat) (f : Eng → Eng) : (s.modEng e f).eng e = f (s.eng e) := by
  simp [State.modEng]

@[simp] theorem State.eng_modEng_ne (s : State) {e i : Nat} (f : Eng → Eng) (h : i ≠ e) : (s.modEng e f).eng i = s.eng i := by
  simp [State.modEng, h]

@[simp] theorem State.eng_advance (s : State) (t e : Nat) : (s.advance t).eng e = s.eng e := rfl

@[simp] theorem State.eng_answer (s : State) (q : List Instr) (e : Nat) : (s.answer q).eng e = s.eng e := by
  simp [State.eng]

theorem modEng_onlyChanges (s : State) (e : Nat) (f : Eng → Eng) (ps : List Part) : OnlyChanges [] (.fab :: ps) s (s.modEng e f) :=
  ⟨fun _ _ _ => rfl, fun p hp => by cases p <;> first | rfl | exact absurd rfl (fun (h : Part.fab = Part.fab) => hp (by simp))⟩

/-! ## How an instruction ends -/

/-- What a ready engine does with an instruction that its delay slot allows: the three ends of R179, R209 and R216. -/
theorem engineStep_ready {s s1 : State} {e : Nat} {op : EOp} {ue o : Bool} (h : s.engineReady e)
    (hb : (s.eng e).slot = none ∨ opBarred op = false) (ho : openBit op (s.modEng e (fun x => { x with slot := none })) = (o, s1)) :
    engineStep e op ue s = match opEffect s1 e ue o op with
      | .ok u => if (u.eng e).run.isNone then u
        else (u.modEng e (fun y => if opUncounted op then y else y.tick)).advancePc e (s.eng e).slot
      | .fault c u => u.endShare e (some c)
      | .wait => s1.modEng e (fun y => { y with slot := (s.eng e).slot, wait := some (op, ue) }) := by
  obtain ⟨-, hf, ⟨tag, idx, first, count, start, lay, hdr⟩, l, hd, h1, h2, h3, h4, h5, h6⟩ := h
  simp only at h2 h3
  subst h2 h3
  have hs : ¬ ((s.eng e).slot.isSome = true ∧ opBarred op = true) := by
    rintro ⟨a, b⟩
    rcases hb with hb | hb <;> simp [hb] at a b
  simp only [engineStep, h1, h5, hf, hs, h6, ho, Option.isSome_none, Bool.false_eq_true, if_false]
    <;> (cases opEffect s1 e ue o op <;> rfl)

/-- With the effect `s2` of the instruction, the instruction is counted and the program counter moves on. -/
theorem engineStep_ok {s s1 s2 : State} {e : Nat} {op : EOp} {ue o : Bool} (h : s.engineReady e)
    (hb : (s.eng e).slot = none ∨ opBarred op = false) (ho : openBit op (s.modEng e (fun x => { x with slot := none })) = (o, s1))
    (he : opEffect s1 e ue o op = .ok s2) (hr : (s2.eng e).run.isSome = true) :
    engineStep e op ue s = (s2.modEng e (fun y => if opUncounted op then y else y.tick)).advancePc e (s.eng e).slot := by
  have hr' : (s2.eng e).run.isNone = false := by cases h' : (s2.eng e).run <;> simp [h'] at hr ⊢
  simp [engineStep_ready h hb ho, he, hr']

theorem advance_self (s : State) : s.advance s.now = s := by cases s; simp [State.advance]

/-- Steps that change nothing but engine e, one after the other. -/
theorem OnlyEngine.trans {e : Nat} {ps : List Part} {s u w : State} (a : OnlyEngine e ps s u) (b : OnlyEngine e ps u w) : OnlyEngine e ps s w :=
  ⟨a.1.trans b.1, by rw [b.2.1, a.2.1], fun i hi => (b.2.2 i hi).trans (a.2.2 i hi)⟩

theorem modEng_onlyEngine (s : State) (e : Nat) (f : Eng → Eng) (ps : List Part) : OnlyEngine e ps s (s.modEng e f) :=
  ⟨modEng_onlyChanges s e f ps, rfl, fun _ hi => State.eng_modEng_ne s f hi⟩

/-- A change to nothing but engine e, answered, is one still. -/
theorem OnlyEngine.answer {e : Nat} {ps : List Part} {s u : State} (h : OnlyEngine e ps s u) : OnlyEngine e ps s (u.answer s.pending) :=
  ⟨OnlyChanges.answer (t := s.now) (by rw [advance_self]; exact h.1), by rw [State.answer_fab]; exact h.2.1,
   fun i hi => by rw [State.eng_answer]; exact h.2.2 i hi⟩

/-- An instruction that only changes registers of its engine: what the engine holds afterwards, and that nothing else changes. -/
theorem engineStep_regs {s : State} {e : Nat} {op : EOp} {ue : Bool} {f : Eng → Eng} (h : s.engineReady e) (hb : opBarred op = false)
    (ho : ∀ z, openBit op z = (false, z)) (he : opEffect (s.modEng e (fun x => { x with slot := none })) e ue false op =
      regs (s.modEng e (fun x => { x with slot := none })) e f) (hr : ∀ x, (f x).run = x.run) (hu : opUncounted op = false) :
    ((engineStep e op ue s).answer s.pending).eng e =
      { (f { s.eng e with slot := none }).tick with pc := pastSlot (s.eng e).slot (f { s.eng e with slot := none }).tick.pc } ∧
    OnlyEngine e [] s ((engineStep e op ue s).answer s.pending) := by
  have h2 := h
  obtain ⟨-, -, r, l, hd, h1, -⟩ := h2
  rw [engineStep_ok h (.inr hb) (ho _) (he.trans rfl) (by simp [hr, h1])]
  refine ⟨?_, OnlyEngine.answer ?_⟩
  · simp only [State.eng_answer, State.advancePc, State.eng_modEng_same, hu, Bool.false_eq_true, if_false]
  · exact (((modEng_onlyEngine s e _ []).trans (modEng_onlyEngine _ e _ [])).trans (modEng_onlyEngine _ e _ [])).trans (modEng_onlyEngine _ e _ [])

/-! ## Registers as readers see them (R209) -/

theorem Cell.settle_empty (ic : Nat) : ({} : Cell).settle ic = {} := rfl

theorem kvGet_map_settle (ic k : Nat) : ∀ m : List (Nat × Cell), kvGet {} (m.map (fun c => (c.1, c.2.settle ic))) k = (kvGet {} m k).settle ic
  | [] => rfl
  | (a, c) :: m => by
    simp only [List.map_cons, kvGet]
    split
    · rfl
    · exact kvGet_map_settle ic k m

/-- What a write just made shows to a reader of the next instruction, or of the one after, as its latency says. -/
theorem Cell.read_write (c : Cell) (ic d1 d2 n : Nat) (v : Int) (second : Bool) (h : (if second then d2 else d1) ≤ n) :
    (c.write ic d1 d2 v).read (ic + n) second = v := by
  simp [Cell.read, Cell.write, Nat.add_le_add_left h ic]

end Sys2Proof.Machine
end

