-- ==== Sys2Proof/Laws/Memory.lean ====
section
/-!
SUPPORT. Laws/Memory.lean: memory. A read after a write, and that each of the three ways in which memory changes (one byte, a run of bytes,
contents lost) keeps the canonical form.
-/
namespace Sys2Proof.Machine

theorem cellsProper_iff : ∀ {m : List Host.Cell}, cellsProper m = true ↔ ∀ c ∈ m, c.2 ≠ memDefault c.1
  | [] => by simp [cellsProper]
  | (a, v) :: m => by simp [cellsProper, cellsProper_iff (m := m)]

theorem memory_wf_iff {m : List Host.Cell} : Memory.wf m = true ↔ kvSorted m = true ∧ ∀ c ∈ m, c.2 ≠ memDefault c.1 := by
  simp [Memory.wf, cellsProper_iff]

/-- Contents that are lost leave the form of what stays. -/
theorem memory_wf_filter {m : List Host.Cell} (p : Host.Cell → Bool) (h : Memory.wf m = true) : Memory.wf (m.filter p) = true := by
  rw [memory_wf_iff] at h ⊢
  exact ⟨kvSorted_filter p h.1, fun c hc => h.2 c (List.mem_filter.mp hc).1⟩

/-- A byte written keeps the form. -/
theorem memory_wf_wrByte {s : State} (a : Nat) (v : BitVec 8) (h : Memory.wf s.mem = true) : Memory.wf (s.wrByte a v).mem = true := by
  rw [memory_wf_iff] at h ⊢
  refine ⟨kvSorted_kvSet _ _ _ h.1, fun c hc => ?_⟩
  simp only [State.wrByte, kvSet] at hc
  split at hc
  · exact h.2 c (mem_kvDel hc)
  · next hv =>
    rcases mem_kvIns hc with rfl | hc
    · exact hv
    · exact h.2 c (mem_kvDel hc)

theorem mem_cellsFrom {c : Host.Cell} : ∀ {bs : List (BitVec 8)} {a : Nat}, c ∈ cellsFrom a bs → a ≤ c.1 ∧ c.1 < a + bs.length ∧ c.2 ≠ memDefault c.1
  | [], _, h => by simp [cellsFrom] at h
  | b :: bs, a, h => by
    by_cases hb : b = memDefault a
    · simp only [cellsFrom, hb, if_true] at h
      have ⟨h1, h2, h3⟩ := mem_cellsFrom h
      simp only [List.length_cons]
      exact ⟨by omega, by omega, h3⟩
    · simp only [cellsFrom, hb, if_false, List.mem_cons] at h
      rcases h with rfl | h
      · simpa using hb
      · have ⟨h1, h2, h3⟩ := mem_cellsFrom h
        simp only [List.length_cons]
        exact ⟨by omega, by omega, h3⟩

theorem cellsFrom_sorted : ∀ (bs : List (BitVec 8)) (a : Nat), kvSorted (cellsFrom a bs) = true
  | [], _ => rfl
  | b :: bs, a => by
    by_cases hb : b = memDefault a
    · simpa [cellsFrom, hb] using cellsFrom_sorted bs (a + 1)
    · simp only [cellsFrom, hb, if_false]
      exact kvSorted_cons (fun y hy => (mem_cellsFrom hy).1) (cellsFrom_sorted bs (a + 1))

/-- A run of bytes written keeps the form. -/
theorem memory_wf_wrBytes {s : State} (a : Nat) (bs : List (BitVec 8)) (h : Memory.wf s.mem = true) :
    Memory.wf (s.wrBytes a bs).mem = true := by
  rw [memory_wf_iff] at h ⊢
  have hlo : ∀ x ∈ s.mem.filter (fun c => decide (c.1 < a)), x.1 < a := fun x hx => by simpa using (List.mem_filter.mp hx).2
  have hhi : ∀ x ∈ s.mem.filter (fun c => decide (a + bs.length ≤ c.1)), a + bs.length ≤ x.1 :=
    fun x hx => by simpa using (List.mem_filter.mp hx).2
  constructor
  · refine kvSorted_append (kvSorted_filter _ h.1) (kvSorted_append (cellsFrom_sorted bs a) (kvSorted_filter _ h.1) ?_) ?_
    · intro x hx y hy
      have := mem_cellsFrom hx; have := hhi y hy; omega
    · intro x hx y hy
      have h1 := hlo x hx
      rcases List.mem_append.mp hy with hy | hy
      · have := mem_cellsFrom hy; omega
      · have := hhi y hy; omega
  · intro c hc
    rcases List.mem_append.mp hc with hc | hc
    · exact h.2 c (List.mem_filter.mp hc).1
    · rcases List.mem_append.mp hc with hc | hc
      · exact (mem_cellsFrom hc).2.2
      · exact h.2 c (List.mem_filter.mp hc).1

/-! ## Reads after writes -/

/-- The byte just written. -/
@[simp] theorem State.rdByte_wrByte_same (s : State) (a : Nat) (v : BitVec 8) : (s.wrByte a v).rdByte a = v :=
  kvGet_kvSet_same _ _ _ _

/-- Another byte. -/
theorem State.rdByte_wrByte_ne (s : State) {a b : Nat} (v : BitVec 8) (h : b ≠ a) : (s.wrByte a v).rdByte b = s.rdByte b :=
  kvGet_kvSet_ne _ _ _ _ h

theorem kvGet_cellsFrom : ∀ (bs : List (BitVec 8)) (a j : Nat), (_ : a ≤ j) → (_ : j < a + bs.length) →
    kvGet (memDefault j) (cellsFrom a bs) j = bs[j - a]'(by omega)
  | [], a, j, h, hj => by simp at hj; omega
  | b :: bs, a, j, h, hj => by
    by_cases hja : j = a
    · subst hja
      by_cases hb : b = memDefault j
      · simp only [cellsFrom, hb, if_true]
        rw [kvGet_none _ (fun y hy => by have := (mem_cellsFrom hy).1; omega)]
        simp
      · simp [cellsFrom, hb, kvGet]
    · have ih := kvGet_cellsFrom bs (a + 1) j (by omega) (by simp only [List.length_cons] at hj; omega)
      have hi : (b :: bs)[j - a]'(by simp only [List.length_cons] at hj ⊢; omega) = bs[j - (a + 1)]'(by simp only [List.length_cons] at hj; omega) := by
        have he : j - a = (j - (a + 1)) + 1 := by omega
        simp only [he, List.getElem_cons_succ]
      rw [hi, ← ih]
      by_cases hb : b = memDefault a
      · simp [cellsFrom, hb]
      · have : a ≠ j := Ne.symm hja
        simp [cellsFrom, hb, kvGet, this]

/-- A byte inside the run just written. -/
theorem State.rdByte_wrBytes_in (s : State) (a : Nat) (bs : List (BitVec 8)) (j : Nat) (h : a ≤ j) (hj : j < a + bs.length) :
    (s.wrBytes a bs).rdByte j = bs[j - a]'(by omega) := by
  rw [← kvGet_cellsFrom bs a j h hj]
  unfold State.rdByte State.wrBytes
  rw [kvGet_append_right, kvGet_append_left]
  · intro y hy; have : a + bs.length ≤ y.1 := by simpa using (List.mem_filter.mp hy).2
    omega
  · intro y hy; have : y.1 < a := by simpa using (List.mem_filter.mp hy).2
    omega

/-- A byte outside the run just written. -/
theorem State.rdByte_wrBytes_out (s : State) (a : Nat) (bs : List (BitVec 8)) (j : Nat) (h : j < a ∨ a + bs.length ≤ j) :
    (s.wrBytes a bs).rdByte j = s.rdByte j := by
  unfold State.rdByte State.wrBytes
  have hc : ∀ y ∈ cellsFrom a bs, y.1 ≠ j := fun y hy => by have := mem_cellsFrom hy; omega
  rcases h with h | h
  · rw [kvGet_append_left, kvGet_filter]
    · intro x hx; simpa [hx] using h
    · intro y hy
      rcases List.mem_append.mp hy with hy | hy
      · exact hc y hy
      · have : a + bs.length ≤ y.1 := by simpa using (List.mem_filter.mp hy).2
        omega
  · rw [kvGet_append_right, kvGet_append_right _ _ _ hc, kvGet_filter]
    · intro x hx; simpa [hx] using h
    · intro y hy; have : y.1 < a := by simpa using (List.mem_filter.mp hy).2
      omega

/-- Reset memory has the form. -/
theorem reset_memory_wf : Memory.wf State.reset.mem = true := rfl

end Sys2Proof.Machine
end

