-- ==== Sys2Proof/Machine/Figures.lean ====
section
/-!
DEFINITION. Machine/Figures.lean: what the spec states of the channeliser's prototype filter, whose taps it does not give (R116, R137). A statement
that needs the figures takes them as its premise.
-/
namespace Sys2Proof.Machine

/-- The prototype's response meets its figures (R116, R137): about a passband power g it stays within ±0.02 dB up to ±40 MHz, and lies at least 60 dB
below g beyond ±45 MHz, where the skew reference tone at 46.875 MHz lies too. -/
def PrototypeFigures : Prop :=
  ∃ g : ℝ, 0 < g ∧ ∀ f : ℝ, |f| ≤ 800 →
    let re := ∑ i ∈ Finset.range 1024, (protoTap i : ℝ) * Real.cos (2 * Real.pi * f * i / 1600)
    let im := ∑ i ∈ Finset.range 1024, (protoTap i : ℝ) * Real.sin (2 * Real.pi * f * i / 1600)
    let power := re ^ 2 + im ^ 2
    (|f| ≤ 40 → g * (10 : ℝ) ^ (-(1 / 500) : ℝ) ≤ power ∧ power ≤ g * (10 : ℝ) ^ ((1 / 500) : ℝ)) ∧
    (45 ≤ |f| → power ≤ g * (10 : ℝ) ^ (-6 : ℝ))

end Sys2Proof.Machine
end

