-- ==== Sys2Proof/Tests/Slice0.lean ====
section
/-!
SUPPORT. Tests/Slice0.lean: tests of the model. For every statement with hypotheses, a state and operands that meet all of them together,
clause by clause; a command that each operand check refuses; engine words written out from the formats of R219; worked examples of the
spec; a few single commands.
-/
namespace Sys2Proof.Tests
open Sys2Proof Sys2Proof.Machine

/-- Every domain powered, else as at reset. -/
def on : State := State.reset.put F.PM_DOMAINS_ON 0xFFFF

/-- A state with the given register fields. -/
def with_ (s : State) (fs : List (Fld × Nat)) : State := fs.foldl (fun s f => s.put f.1 f.2) s

/-- Every domain powered, with the given register fields. -/
def at_ (fs : List (Fld × Nat)) : State := with_ on fs

/-- A timetable with no records and no block sections. -/
def demoTt : Timetable := ⟨0x4C425454, 1, 1, 0, 64, 0, 0, 64, [], true, 0, 0, [], [], [], [], []⟩

/-- An image that passes every check and holds `demoTt`. -/
def demoImage : Image :=
  ⟨0x4D495850, 1, 3, 0, 4096, 0, 1, 1, 6, 128, [1024], [], (List.range 6).map (fun k => (16 + k, 2048, 4)), true, [], [], false, [demoTt]⟩

/-- A block section of one channel with one stage and one coefficient: its descriptor and its chain block. -/
def runSect : List Nat :=
  [0, 0, 4, 1, 0, 0, 0, 0, 0xE8, 3, 0, 2, 1, 0, 0, 0] ++ List.replicate 8 0 ++ [1, 0, 0, 0] ++ List.replicate 24 0 ++ [1, 0, 4, 0] ++
    List.replicate 44 0 ++ [128, 0, 0, 0, 60, 0, 0, 0] ++ List.replicate 20 0 ++ [0, 0, 1, 16] ++ List.replicate 56 0

/-- A timetable with that section, which may be selected: one group every 100,000 ticks over 100 m of fibre. -/
def runTt : Timetable :=
  { demoTt with
    sectionCount := 1, regs := [(0x30004, 1), (0x30008, 100000), (0x30010, 100000), (0x30018, 1)], sectRec := runSect, code := List.replicate 64 0 }

/-- A segment of one channel. -/
def demoSeg : Segment := ⟨0, 0, 0, 0, 0, 0, 0, 0, [0], [false], [false], 0⟩

/-- The job of that segment. -/
def demoJob : Job := { tag := 0, seg := demoSeg, epoch := 0, yard := 0, levels := [], shed := 0, queued := 0 }

/-- A program header: 64 code words, 16 words of constants and of scratch in each memory, 8 words of state for each channel. -/
def demoHdr : ProgHeader := ⟨0, 64, 0, 16, 16, 16, 16, 8, 64, 64, 8, 0, 0, 0, 0, 0, 0⟩

/-- Where that program and its data stand. -/
def demoLayout : ShareLayout := ⟨0, 16, 16, 0, 0, 16, 16, 0, 64, 128, 256, 512, 0⟩

/-- A share of four channels run instruction by instruction. -/
def demoShare : ShareRun := ⟨0, 0, 0, 4, 0, some demoLayout, some demoHdr⟩

/-- Engine 0 runs that share with the given registers. -/
def engSt (x : Eng) : State := { on with fab := { engines := [(0, { x with run := some demoShare })] } }

/-- Engine 0 is ready for its next instruction where that share runs on it, the word of IMEM raises no fetch fault and nothing holds the engine. -/
theorem demoReady {s : State} (hf : s.fetchFault 0 = none := by decide) (hr : (s.eng 0).run = some demoShare := by rfl)
    (hi : inWords (s.eng 0).pc demoLayout.code demoHdr.codeWords = true := by decide) (hw : (s.eng 0).wait = none := by rfl)
    (hp : (s.eng 0).rep = none := by rfl) : s.engineReady 0 :=
  ⟨by decide, hf, demoShare, demoLayout, demoHdr, hr, rfl, rfl, hi, hw, hp⟩

/-- Engine 0 runs that share, and the word at byte `b` of engine or yard memory stands uncorrectable. -/
def badSt (b : Nat) : State := { on with fab := { engines := [(0, { run := some demoShare })], bad := [(b, true)] } }

/-- The first sweep has begun with the clock and the laser locked and no cause of R70 in force. -/
def lit (fs : List (Fld × Nat)) : State :=
  { at_ ([(F.OP_LASER_LOCKED, 1), (F.SL_STATUS_CLK_STATE, 1)] ++ fs) with opt := { off := false }, sched := { sweeps := 1 } }

/-- A periodic diagnostic pulse is due in that sweep. -/
def diagSt : State := { lit [(F.OP_DIAG_ACTIVE, 1)] with opt := { off := false, diagFrom := some 0 } }

/-- Slot 0 is the Brillouin slot, and this sweep is none of those on which it launches. -/
def brilSt : State :=
  { lit [(F.TT_SCHED_G, 1), (F.TT_SLOT_CFG_EN 0, 1), (F.TT_SLOT_CFG_BRIL 0, 1), (F.TT_BRIL_EVERY, 4)] with sched := { sweeps := 3, brilCount := 2 } }

/-- A frame of section 0 with one value. -/
def demoFrame : Frame := ⟨0, 1, 0, 0, 0, 1, 1, 0, [], 1, [0], []⟩


/-! ## Checks of command operands: for each one a command that it refuses -/

theorem test_refuses_engineNumber : (Instr.nop 96).reject = some .engineNumber := by decide
theorem test_refuses_yardNumber : (Instr.yardRehome 0 12).reject = some .yardNumber := by decide
theorem test_refuses_groupNumber : (Instr.segmentEmit 0 16 0 0 true).reject = some .groupNumber := by decide
theorem test_refuses_slotNumber : (Instr.receiveGuardEnd 0 16 0).reject = some .slotNumber := by decide
theorem test_refuses_sectionNumber : (Instr.jobRetire 0 256 false).reject = some .sectionNumber := by decide
theorem test_refuses_laneNumber : (Instr.sliceCalibration 0 6 0 true true 0 0 0).reject = some .laneNumber := by decide
theorem test_refuses_sliceNumber : (Instr.sliceCalibration 0 5 65 true true 0 0 0).reject = some .sliceNumber := by decide
theorem test_refuses_laneCount : (Instr.sweepBoundary 0 []).reject = some .laneCount := by decide
theorem test_refuses_converterNumber : (Instr.hkRegularTrigger 0 2).reject = some .converterNumber := by decide
theorem test_refuses_lineNumber : (Instr.arm 0 16).reject = some .lineNumber := by decide
theorem test_refuses_inputNumber : (Instr.evtTimeout 0 8).reject = some .inputNumber := by decide
theorem test_refuses_unitNumber : (Instr.scanStart 0 4).reject = some .unitNumber := by decide
theorem test_refuses_vectorNumber : (Instr.msixUnmask 0 32).reject = some .vectorNumber := by decide
theorem test_refuses_linkPort : (Instr.flLinkUp 0 2).reject = some .linkPort := by decide
theorem test_refuses_dramPort : (Instr.dramRequest 0 7 false 0 8 [] 0 none).reject = some .dramPort := by decide
theorem test_refuses_bankNumber : (Instr.refreshDue 0 64 0).reject = some .bankNumber := by decide
theorem test_refuses_refreshRate : (Instr.refreshDue 0 63 3).reject = some .refreshRate := by decide
theorem test_refuses_tamperPin : (Instr.tamper 0 2 true).reject = some .tamperPin := by decide
theorem test_refuses_railNumber : (Instr.supplyFault 0 10).reject = some .railNumber := by decide
theorem test_refuses_testLane : (Instr.selfTestSliceTimeout 0 16).reject = some .testLane := by decide
theorem test_refuses_registerAddress : (Instr.registerWrite .host 0 2 0 15 false).reject = some .registerAddress := by decide
theorem test_refuses_word : (Instr.kick 0 0x100000000).reject = some .word := by decide
theorem test_refuses_byteEnables : (Instr.registerWrite .host 0 0 0 16 false).reject = some .byteEnables := by decide
theorem test_refuses_burstLength : (Instr.dramRequest 0 0 true 0 2 [0] 0 none).reject = some .burstLength := by decide
theorem test_refuses_bitNumber : (Instr.patrolRead 0 [(0, 72)]).reject = some .bitNumber := by decide
theorem test_refuses_moduleNumber : (Instr.readyReport 0 8).reject = some .moduleNumber := by decide
theorem test_refuses_messageKind : (Instr.switchMessageReceive 0 0 3 0 0 0 0 0).reject = some .messageKind := by decide
theorem test_refuses_stampChoice : (Instr.stampWord0Read ⟨0, 15⟩ 3).reject = some .stampChoice := by decide
theorem test_refuses_adcCode : (Instr.hkConversionDone 0 1 4096).reject = some .adcCode := by decide
theorem test_refuses_nvmMode : (Instr.coldStart 0 3 0 false [] false).reject = some .nvmMode := by decide
theorem test_refuses_linkGeneration : (Instr.linkUp 0 5 0).reject = some .linkGeneration := by decide
theorem test_accepts : (Instr.nop 95).wf = true ∧ (Instr.kick 0 0xFFFFFFFF).wf = true ∧ (Instr.arm 0 15).wf = true := by decide

/-! ## Engine words (R219–R221), written out field by field from the formats of R219 -/

/-- Format R: ADD D1, D2, D3. -/
theorem test_word_add : decodeEngine 0b00010000_001_010_011_000000000000000 = some (.add 1 2 3) := by decide
/-- Format R with t left out: MOV D5, D0 of the listing of chapter 08. -/
theorem test_word_mov : decodeEngine 0b00011010_101_000_000000000000000000 = some (.mov 5 0) := by decide
/-- Format C: RPT #24 and BR 1, 0x123. -/
theorem test_word_rpt : decodeEngine 0b00000010_00000000000_0000000011000 = some (.rpt 24) := by decide
theorem test_word_br : decodeEngine 0b00000100_0001_00000000_000100100011 = some (.br 1 0x123) := by decide
/-- Format I: LDI D7, #64. -/
theorem test_word_ldi : decodeEngine 0b00100000_111_00000_0000000001000000 = some (.ldi 7 64) := by decide
/-- Format S: ASR D6, D7, #15. -/
theorem test_word_asr : decodeEngine 0b00100110_110_111_00000000000000_1111 = some (.asr 6 7 15) := by decide
/-- Format L: LD D4, A1 in mode 100 with off 0xABC. -/
theorem test_word_ld : decodeEngine 0b00110000_100_001_100_000_101010111100 = some (.ld 4 1 4 0xABC) := by decide
/-- Format A: MOVA A6, #0x2FFFF, ADDA A2, D7 and MOVMM 1, #24. -/
theorem test_word_mova : decodeEngine 0b00110100_110_000_101111111111111111 = some (.mova 6 0x2FFFF) := by decide
theorem test_word_adda : decodeEngine 0b00110101_010_111_000000000000000000 = some (.adda 2 7) := by decide
theorem test_word_movmm : decodeEngine 0b00111000_01_000000000_0000000011000 = some (.movmm 1 24) := by decide
/-- Format X: RND D3, ACA, #15 and RMSQ D5, ACB, D2. -/
theorem test_word_rnd : decodeEngine 0b01000011_0_011_000_00000000000_001111 = some (.rnd 3 false 15) := by decide
theorem test_word_rmsq : decodeEngine 0b01000101_1_101_010_00000000000000000 = some (.rmsq 5 true 2) := by decide
/-- Format P: PUT 5, #9, D2 and TRN D1, D2, #1, #3. -/
theorem test_word_put : decodeEngine 0b01010001_010_101_0_1001_00000000000000 = none := by decide
theorem test_word_put_index : decodeEngine 0b01010001_010_101_1001_00000000000000 = some (.put 5 9 2) := by decide
theorem test_word_trn : decodeEngine 0b01010010_001_010_01_11_00000000000000 = some (.trn 1 2 1 3) := by decide
/-- Format F: FFTS A5, D3 with INV and no window; FILL A1, D2, D3. -/
theorem test_word_ffts : decodeEngine 0b01011000_101_011_0000000000000000_10 = some (.ffts 5 3 true false) := by decide
theorem test_word_fill : decodeEngine 0b01011100_001_010_011_000000000000000 = some (.fill 1 2 3) := by decide
/-- Format M: MAC ACA, D0, D1 with D0 = X(A0)+1 and D1 = Y(A5)+1. -/
theorem test_word_mac : decodeEngine 0b111_011_0_000_001_1_000_00_01_1_001_01_01_000 =
    some (.mac false 0 1 ⟨true, 0, 0, 1, true, 1, 1, 1⟩) := by decide
/-- A reserved field that is not 0, an opcode outside R220, and aop 101 are fault 2 (R221). -/
theorem test_word_reserved : decodeEngine 0b00010000_001_010_011_000000000000001 = none := by decide
theorem test_word_opcode : decodeEngine 0x08000000 = none ∧ decodeEngine 0x5F000000 = none ∧ decodeEngine 0xF4000000 = none := by decide

/-! ## Worked examples of the spec -/

/-- R327: CRC-32C of the nine ASCII bytes "123456789". -/
theorem test_crc32c : crc32c [0x31, 0x32, 0x33, 0x34, 0x35, 0x36, 0x37, 0x38, 0x39] = 0xE3069283 := by decide +kernel
/-- The stamp of the example at R14 (chapter 00). -/
theorem test_stamp : stampOf (1700000000 * sec + 123456789 * ns + 16384) = 0x6553F100 * 2 ^ 48 + 0x075BCD15 * 2 ^ 16 + 0x4000 := by decide
/-- The coded block of the example at R331 (chapter 13). -/
theorem test_mode1 : mode1 2 1 [100, 104, 103, 101, 98, 99] = [0x48, 0x2F, 0xFF, 0xA1, 0x06, 0x2A, 0x46, 0x00] := by decide +kernel
/-- The linearisation of the example of chapter 11. -/
theorem test_linearise : linearise [(115540, 40000), (119400, 50000)] 117300 = some 44560 := by decide
/-- The address mapping of the example at R294 (chapter 12): channel 2, channel address 0x48D15780, bank group 2, bank 1, row 0x48D1. -/
theorem test_address_map :
    let s := at_ [(F.DC_CFG_GRAIN, 12), (F.DC_HASH_MASK 0, 0x11), (F.DC_HASH_MASK 1, 0x22), (F.DC_HASH_MASK 2, 0x44), (F.DC_HASH_MASK 3, 0x88)]
    s.chanOf 0x123456780 = (2, 0x48D15780) ∧ s.bankRow 2 0x48D15780 = (16 * 2 + 4 * 2 + 1, 0x48D1) := by decide
/-- The syndromes of the example at R320 (chapter 12): data bit 0 alone, then data bits 0 and 1. -/
theorem test_syndromes : syndromeOf (checkByte 1) = 0x83 ∧ syndromeOf (checkByte 3) = 0x06 ∧ eccOf 128 71 0x83 = .single 3 := by decide
/-- The plan of channel 0 in the example at R427 (chapter 16): 0x0805 first, then slices 10–13 and slice 0; the pointer moves to 1. -/
theorem test_plan : planLane ((List.range 14).map (0x800 + ·)) [0x805] 10 3000 = ([0x805, 0x80A, 0x80B, 0x80C, 0x80D, 0x800], 1) := by decide +kernel
/-- Yard 7 has its registers at 0x000F_0000 and lies in PD_Q2 (chapter 01). -/
theorem test_yard7 : blockDomain (0x000F0000 / 0x10000) = 11 := by decide
/-- A 1 Gbit NVM has slots of 63 MiB; slot B begins at 0x0400_0000 (chapter 15). -/
theorem test_slotB : (at_ [(F.NV_STATUS_SLOT_MIB, 63)]).slotBase 1 = 0x04000000 := by decide
/-- Two sequence numbers exactly 2³¹ apart: neither is newer (R15). -/
theorem test_half_range : newer 0x80000000 0 = false ∧ newer 0 0x80000000 = false ∧ newer 1 0xFFFFFFFF = true := by decide

/-! ## Single commands on small states -/

/-- R341: the published digest of "abc" begins so. -/
theorem test_sha256 : (sha256 [0x61, 0x62, 0x63]).take 4 = [0xba, 0x78, 0x16, 0xbf] := by decide +kernel

/-- ADD 0x7FFF + 1 wraps and sets N and V (R200, R220). -/
theorem test_add_wraps : (match exec (.add 0 2 0 1) (engSt { d := [(0, { base := 0x7FFF }), (1, { base := 1 })] }) with
    | .next u => some ((u.eng 0).dv 2)
    | _ => none) = some 0x8000 := by decide
/-- A write with a byte enable off is discarded (R7). -/
theorem test_partial_write : (match exec (.registerWrite .host 0 0x210108 7 3 false) on with
    | .next u => some (u.get F.BT_SEED_VALUE)
    | _ => none) = some 1 := by decide +kernel
theorem test_whole_write : (match exec (.registerWrite .host 0 0x210108 7 15 false) on with
    | .next u => some (u.get F.BT_SEED_VALUE)
    | _ => none) = some 7 := by decide +kernel
/-- The block idles on an empty queue and takes the front command of another (log entry 4). -/
theorem test_idles : step State.reset = .next State.reset := rfl
theorem test_takes_front : step { on with pending := [.dark 5, .idcode 6] } = exec (.dark 5) { on with pending := [.idcode 6] } := rfl
/-- The IDCODE of step B0 (R454) and how the PCIe function identifies itself (R452). -/
theorem test_identity : State.reset.idcode = 0x209609CB ∧ State.reset.pcieIdentity = [0x1F5E, 0x0960, 0x1F5E, 1, 0x20, 0] := by decide
/-- FAULT# is low in a start and while a LATCH bit is set (R467), MGMT_IRQ# while a vector is pending (R450). -/
theorem test_lands :
    ({ at_ [] with pw := { supplies := true, startAt := some 0 } }).faultLow = true ∧ (at_ [(F.PM_FAULT_LATCH, 4)]).faultLow = true ∧
    ({ at_ [] with pw := { supplies := true, commitAt := some 0 } }).faultLow = false ∧
    ({ at_ [] with pw := { supplies := true, failedAt := some 0 } }).faultLow = true ∧
    (at_ [(F.HW_IRQ_PEND_PEND, 1)]).mgmtIrqLow = true ∧ (at_ []).mgmtIrqLow = false := by decide


/-! ## The hypotheses of each statement hold together somewhere -/

theorem witness_StepRunsFront :
(∃ (s : State), s.pending = []) ∧
(∃ (c : Instr) (s : State), (∀ src t addr v be al, addr % 4 ≠ 0 → c ≠ .registerWrite src t addr v be al) ∧ (∀ t addr v, addr % 4 ≠ 0 → c ≠ .satClear
      t addr v) ∧ (∀ t addr n, addr % 4 ≠ 0 → c ≠ .mgmtRead t addr n) ∧ (∀ t addr ws al, addr % 4 ≠ 0 → c ≠ .mgmtWrite t addr ws al) ∧ (∀ t port w
      addr n data fill bin, s.dramBytes < addr + n → c ≠ .dramRequest t port w addr n data fill bin)) := by
  refine ⟨
⟨on, by decide⟩,
⟨.dark 0, on, nofun, nofun, nofun, nofun, nofun⟩⟩

theorem witness_OffDomainAccess : ∃ (s : State) (addr : Nat), addr % 4 = 0 ∧ s.blockOn (addr % 2 ^ 24) = false ∧ addr % 2 ^ 24 / 65536 < 64 ∧ addr <
      2 ^ 24 :=
⟨State.reset, 0x20000, by decide⟩

theorem witness_OffDomainCommands :
(∃ (s : State) (t : Nat) (v : Nat) (r : ReadAt) (i : _), s.domainOn 5 = false ∧ i ∈
      [Instr.dark t, .probe t, .resume t, .restore t, .rebase t, .kick t v, .fuseArm t, .fuseBlow t, .ttWaveDataRead r]) ∧
(∃ (s : State) (src : Source) (t : Nat) (v : Nat) (n : Nat) (r : ReadAt) (i : _), s.domainOn 2 = false ∧ i ∈
      [Instr.tbNowRead r, .epochWrite t v, .stampWord0Read r n, .sbCmdIdle src t, .sbCmdRun src t, .sbCmdOff src t, .sbCmdRetry src t]) ∧
(∃ (s : State) (src : Source) (t : Nat) (v : Nat) (al : Bool) (i : _), s.domainOn 1 = false ∧ i ∈
      [Instr.nvErase src t, .nvProgram src t, .nvVerify src t, .nvRead src t, .nvRaise src t, .progImageKey src t, .progVkHash src t, .genSeal src t, .progTamper src t, .btRun t v al, .btAccRead t]) := by
  refine ⟨
⟨at_ [(F.PM_DOMAINS_ON, 0)], 0, 0, ⟨0, 15⟩, .kick 0 0, by decide⟩,
⟨at_ [(F.PM_DOMAINS_ON, 0)], .host, 0, 0, 0, ⟨0, 15⟩, .epochWrite 0 0, by decide⟩,
⟨at_ [(F.PM_DOMAINS_ON, 0)], .host, 0, 0, false, .nvErase .host 0, by decide⟩⟩

theorem witness_StepsSettle : ∃ (s : State) (u : State), s.Settled ∧ step s = .next u :=
⟨on, _, ⟨by decide, by decide, by decide, by decide⟩, rfl⟩

theorem witness_MemoryStaysCanonical : ∃ (s : State) (u : State) (src : Source) (t : Nat) (v : Nat) (fill : Nat) (ups : List (Nat × Nat)) (b : Bool)
      (al : Bool) (i : _), Memory.wf s.mem = true ∧ i ∈
      [Instr.dramServe t fill ups, .ecTestWriteCoded t v, .ecTestWriteData t v, .ecTestWriteCheck t v, .nvErase src t, .nvProgram src t, .nvmSlotErase t b, .calRecordWrite t b, .btRun t v al] ∧ exec i s = .next u :=
⟨on, _, .host, 0, 0, 0, [], false, false, .calRecordWrite 0 false, by decide, by decide, rfl⟩

theorem witness_EngineWordsRoundTrip : ∃ (w : Nat) (op : EOp), decodeEngine w = some op :=
⟨0, _, rfl⟩

theorem witness_HalfRangeRule :
(∃ (a : Nat) (b : Nat), a < 4294967296 ∧ b < 4294967296 ∧ (a + 4294967296 - b) % 4294967296 = 2147483648) ∧
(∃ (a : Nat) (b : Nat), a < 4294967296 ∧ b < 4294967296 ∧ newer a b = false ∧ a ≠ b) := by
  refine ⟨
⟨0x80000000, 0, by decide⟩,
⟨0, 1, by decide⟩⟩

theorem witness_OpticalCommandsAct : ∃ (s : State), s.domainOn 5 = true ∧ s.opt.off = false ∧ s.darkCause = false :=
⟨{ on with opt := { off := false } }, by decide⟩

theorem witness_CausesFollowTheirSources :
(∃ (s : State), s.domainOn 4 = true ∧ s.is F.OP_LASER_LOCKED = true ∧ s.opt.off = false) ∧
(∃ (s : State), s.domainOn 5 = true ∧ s.opt.off = false) ∧
(∃ (s : State), s.is F.OP_AMP_USE = true ∧ 2 ≤ s.opticalState ∧ s.opt.ampSeen = true) ∧
(∃ (s : State) (t : Nat), s.is F.OP_AMP_USE = true ∧ 2 ≤ s.opticalState ∧ s.opt.ampSeen = false ∧ s.opt.ampSince + s.get F.OP_AMP_READY_TMO * ms ≤ t)
      ∧
(∃ (s : State) (t : Nat) (d : _), s.opt.dmDeadline = some d ∧ s.opt.dmRunning = true ∧ s.is F.OP_DM_CFG_EN = true ∧ d ≤ t ∧ s.opt.off = false ∧
      s.darkCause = false) := by
  refine ⟨
⟨{ at_ [(F.OP_LASER_LOCKED, 1)] with opt := { off := false } }, by decide⟩,
⟨{ on with opt := { off := false } }, by decide⟩,
⟨{ at_ [(F.OP_AMP_USE, 1)] with opt := { ampSeen := true, off := false } }, by decide⟩,
⟨{ at_ [(F.OP_AMP_USE, 1)] with opt := { ampSeen := false, off := false } }, 1000000000000000000, by decide⟩,
⟨{ at_ [(F.OP_DM_CFG_EN, 1)] with opt := { dmDeadline := some 0, dmRunning := true, off := false } }, 1000000000000000000, _, rfl, by decide⟩⟩

theorem witness_FuseNeedsItsSequence :
(∃ (s : State) (t : Nat) (t0 : _), s.domainOn 5 = true ∧ s.opt.fuseOpen = some t0 ∧ max s.now t ≤ t0 + ms ∧ (s.otp.life = 1 ∨ s.otp.life = 2) ∧
      s.opticalState ≤ 1 ∧ (∀ tt, s.activeTimetable = some tt → tt.inlineAmp = false ∧ s.get F.TT_FIBRE_END_L_F ≤ 100000000) ∧ s.is F.OP_AMP_USE =
      false) ∧
(∃ (s : State) (t : Nat), s.domainOn 5 = true ∧ (s.opt.fuseOpen = none ∨ ∃ t0, s.opt.fuseOpen = some t0 ∧ t0 + ms < max s.now t)) ∧
(∃ (s : State) (v : Nat) (t0 : _), s.domainOn 5 = true ∧ v ≠ 0x5AFE ∧ v ≠ 0xF05E ∧ s.opt.fuseOpen = some t0) := by
  refine ⟨
⟨{ at_ [(F.OP_AMP_USE, 0)] with opt := { fuseOpen := some 0 } }, 0, _, by decide, rfl, by decide⟩,
⟨on, 1000000000000000000, by decide⟩,
⟨{ on with opt := { fuseOpen := some 0 } }, 0, _, by decide, by decide, by decide, rfl⟩⟩

theorem witness_DeadmanTimerAct :
(∃ (s : State) (v : Nat), s.domainOn 5 = true ∧ s.opt.dmRunning = true ∧ (v = 0xA5 ∨ v = 0x5A) ∧ s.opt.lastKick ≠ some v) ∧
(∃ (s : State) (v : Nat), s.domainOn 5 = true ∧ s.opt.dmRunning = true ∧ (¬ ((v = 0xA5 ∨ v = 0x5A) ∧ s.opt.lastKick ≠ some v))) := by
  refine ⟨
⟨{ on with opt := { dmRunning := true } }, 0xA5, by decide⟩,
⟨{ on with opt := { dmRunning := true } }, 0, by decide⟩⟩

theorem witness_PulsesAreJudged :
(∃ (s : State) (t : Nat), s.opt.off = false ∧ (s.advance t).diagAllowed = true) ∧
(∃ (s : State) (t : Nat), s.opt.off = false ∧ (s.advance t).diagAllowed = false) ∧
(∃ (s : State) (t : Nat) (k : Retest) (rest : _), s.opt.off = false ∧ s.opt.owed = k :: rest ∧ (s.advance t).retestAllowed = true) := by
  refine ⟨
⟨diagSt, diagSt.diagStart, by decide⟩,
⟨{ on with opt := { off := false } }, 0, by decide⟩,
⟨{ lit [(F.TT_SCHED_G, 1)] with opt := { off := false, owed := [.loop] } }, 0, .loop, [], by decide⟩⟩

theorem witness_LaunchInstants :
(∃ (s : State) (t : Nat) (g : Nat), s.opt.off = false ∧ g < 16 ∧ (s.advance t).groupDue g = true ∧ (s.advance t).heldBack = false ∧ s.permitted g =
      true ∧ s.sched.withheld.contains g = false) ∧
(∃ (s : State) (t : Nat) (g : Nat), s.opt.off = false ∧ g < 16 ∧ (s.advance t).groupDue g = true ∧ s.opticalState = 1) ∧
(∃ (s : State) (t : Nat) (g : Nat), s.opt.off = false ∧ (s.advance t).groupDue g = false) ∧
(∃ (s : State) (t : Nat) (g : Nat), s.opt.off = false ∧ g < 16 ∧ (s.advance t).groupDue g = true ∧ (s.advance t).heldBack = false ∧ s.permitted g =
      true ∧ s.sched.withheld.contains g = true) ∧
(∃ (s : State) (t : Nat) (k : Nat), s.opt.off = false ∧ s.brilSlot = some k ∧ (s.advance t).brilDue = true ∧ s.brilSweep = false ∧ s.br.basing = none
      ∧ max s.now t < s.br.tB + (s.br.k + 1) * s.brUpd) ∧
(∃ (s : State) (t : Nat), s.opt.off = false ∧ s.domainOn 2 = true ∧ (s.advance t).trigAllowed = true) ∧
(∃ (s : State) (t : Nat), s.opt.off = false ∧ s.domainOn 2 = true ∧ (s.advance t).trigAllowed = false) := by
  refine ⟨
⟨lit [(F.TT_SCHED_G, 1), (F.TT_SLOT_CFG_EN 0, 1)], 0, 0, by decide⟩,
⟨lit [(F.TT_SCHED_G, 1), (F.TT_SLOT_CFG_EN 0, 1), (F.OP_STATE_HOST_DARK, 1)], 0, 0, by decide⟩,
⟨{ on with opt := { off := false } }, 0, 0, by decide⟩,
⟨{ lit [(F.TT_SCHED_G, 1), (F.TT_SLOT_CFG_EN 0, 1)] with sched := { sweeps := 1, withheld := [0] } }, 0, 0, by decide⟩,
⟨brilSt, (brilSt.brilWindow.getD (0, 0)).1, 0, by decide⟩,
⟨{ lit [(F.TT_SCHED_G, 0), ((F.TT_SLOT_CFG_EN 0), 1), (F.TB_TL_CFG_EN, 1), (F.TT_SWEEP_PERIOD_T, 100000)] with opt := { off := false } },
      32768000000, by decide⟩,
⟨{ at_ [(F.TT_SCHED_G, 1), ((F.TT_SLOT_CFG_EN 0), 1)] with opt := { off := false } }, 0, by decide⟩⟩

theorem witness_SweepsAndSwitchSteps :
(∃ (s : State) (t : Nat), s.opt.off = false ∧ (s.advance t).originAhead = false ∧ (s.advance t).boundaryDue = true) ∧
(∃ (s : State) (slot : Nat) (level : Int), s.opt.off = false ∧ 100 ≤ level ∧ kvGet (0, 0) s.sched.tailRun slot = (s.sched.sweeps - 1, 1) ∧ 0 <
      s.sched.sweeps) ∧
(∃ (s : State) (v : Nat), s.domainOn 2 = true ∧ s.is F.SB_STATUS_COMMITTED = true ∧ s.is F.PM_STATE_SHUTTING = false ∧ s.opt.off = false ∧ s.get
      F.FL_STATUS_ID = 0 ∧ v.testBit 31 = true ∧ s.sw.lead = none ∧ v % 4 ≠ s.activeIndex) ∧
(∃ (s : State) (v : Nat), s.domainOn 2 = true ∧ s.is F.SB_STATUS_COMMITTED = true ∧ s.is F.PM_STATE_SHUTTING = false ∧ s.opt.off = false ∧ s.get
      F.FL_STATUS_ID ≠ 0 ∧ v.testBit 31 = true) ∧
(∃ (s : State) (r : _), s.sw.lead = some r ∧ s.sw.phase = 1 ∧ s.sw.queued = none ∧ s.sw.timetables.find? (fun tt => tt.index == r.index) = none) ∧
(∃ (s : State) (t : Nat) (r : _) (tt : _), s.sw.lead = some r ∧ s.sw.phase = 1 ∧ s.sw.queued = none ∧ r.mode < 2 ∧ s.sw.timetables.find? (fun tt =>
      tt.index == r.index) = some tt ∧ (s.sw.selectable.contains r.index = false ∨ (r.otherGrid tt = false ∧ ((s.advance t).assignYards tt).isSome =
      false))) ∧
(∃ (s : State) (r : _) (tt : _), s.sw.lead = some r ∧ s.sw.phase = 1 ∧ s.sw.queued = none ∧ r.mode < 2 ∧ s.sw.timetables.find? (fun tt => tt.index ==
      r.index) = some tt ∧ s.sw.selectable.contains r.index = true ∧ r.otherGrid tt = true) ∧
(∃ (s : State) (t : Nat) (r : _) (tt : _), s.sw.lead = some r ∧ s.sw.phase = 1 ∧ r.mode < 2 ∧ s.sw.timetables.find? (fun tt => tt.index == r.index) =
      some tt ∧ s.sw.selectable.contains r.index = true ∧ r.otherGrid tt = false ∧ ((s.advance t).assignYards tt).isSome = true) ∧
(∃ (s : State) (r : _), s.sw.lead = some r ∧ s.sw.phase = 2) ∧
(∃ (s : State) (new : Nat) (old : Nat), s.sw.done = some (new, old) ∧ s.sw.lead = none) ∧
(∃ (s : State), s.domainOn 5 = true) := by
  refine ⟨
⟨{ on with opt := { off := false } }, 0, by decide⟩,
⟨{ on with opt := { off := false }, sched := { sweeps := 4, tailRun := [(0, (3, 1))] } }, 0, 100, by decide⟩,
⟨{ at_ [(F.SB_STATUS_COMMITTED, 1), (F.PM_STATE_SHUTTING, 0), (F.FL_STATUS_ID, 0)] with opt := { off := false }, sw := { lead := none } },
      0x80000001, by decide⟩,
⟨{ at_ [(F.SB_STATUS_COMMITTED, 1), (F.FL_STATUS_ID, 1)] with opt := { off := false } }, 0x80000000, by decide⟩,
⟨{ on with sw := { lead := some ⟨2, 0, 0, none⟩, phase := 1 } }, ⟨2, 0, 0, none⟩, by decide⟩,
⟨{ on with sw := { lead := some ⟨1, 0, 0, none⟩, phase := 1, timetables := [demoTt] } }, 0, ⟨1, 0, 0, none⟩, demoTt, by decide⟩,
⟨{ on with sw := { lead := some ⟨1, 0, 0, some (5, 5)⟩, phase := 1, timetables := [demoTt], selectable := [1] } }, ⟨1, 0, 0, some (5, 5)⟩, demoTt,
      by decide⟩,
⟨{ on with sw := { lead := some ⟨1, 0, 0, none⟩, phase := 1, timetables := [demoTt], selectable := [1] } }, 0, ⟨1, 0, 0, none⟩, demoTt, by decide⟩,
⟨{ on with sw := { lead := some ⟨1, 0, 0, none⟩, phase := 2 } }, ⟨1, 0, 0, none⟩, by decide⟩,
⟨{ on with sw := { done := some (0, 0), lead := none } }, 0, 0, by decide⟩,
⟨on, by decide⟩⟩

theorem witness_EpochSwitches : ∃ (s : State) (t : Nat) (r : SwitchReq) (tt : Timetable), s.opt.off = false ∧ s.sw.lead = some r ∧
      s.sw.timetables.find? (fun tt => tt.index == r.index) = some tt ∧ (s.advance t).epochDue r = true :=
⟨{ on with opt := { off := false }, sw := { phase := 3, lead := some ⟨1, 0, 0, none⟩, timetables := [demoTt] } }, 0, ⟨1, 0, 0, none⟩, demoTt,
      by decide⟩

theorem witness_SamplingCommands :
(∃ (s : State) (ferr : Int), s.domainOn 2 = true ∧ s.clkRef ≠ 0 ∧ s.get F.SL_STATUS_CLK_STATE ≠ 1 ∧ -(2 ^ (F.SL_CLK_FERR_FERR.width - 1)) ≤ ferr ∧
      ferr < 2 ^ (F.SL_CLK_FERR_FERR.width - 1)) ∧
(∃ (s : State), s.domainOn 2 = true ∧ s.get F.SL_STATUS_CLK_STATE = 1) ∧
(∃ (s : State) (n : Nat) (k : Nat) (ofs : Int) (gain : Int), n < 6 ∧ s.measures n k true = true ∧ s.is F.SL_CTRL_BG_FREEZE = false ∧ ofs.natAbs ≤
      4096 ∧ gain.natAbs ≤ 30000) ∧
(∃ (s : State) (n : Nat) (k : Nat), n < 6 ∧ s.measures n k true = true ∧ ((s.lane n).slice k).fails = 2) ∧
(∃ (s : State) (n : Nat) (k : Nat) (time : Int), n < 6 ∧ s.measures n k false = true ∧ s.is F.SL_CTRL_BG_FREEZE = false ∧ time.natAbs ≤ 400) ∧
(∃ (s : State) (n : Nat) (k : Nat) (time : Int), n < 6 ∧ s.measures n k false = true ∧ s.is F.SL_CTRL_BG_FREEZE = false ∧ s.laneState n = 3 ∧ 400 <
      time.natAbs) ∧
(∃ (s : State) (v : Nat) (c : Slice), s.domainOn 6 = true ∧ v / 65536 % 8 ≤ 5 ∧ v % 128 ≤ 64 ∧ s.laneState (v / 65536 % 8) ≠ 0 ∧ c = (s.lane (v /
      65536 % 8)).slice (v % 128) ∧ c.ofs.natAbs ≤ 4096) := by
  refine ⟨
⟨at_ [(F.TB_STATUS_REF_QUAL, 1)], 0, by decide⟩,
⟨at_ [(F.SL_STATUS_CLK_STATE, 1)], by decide⟩,
⟨at_ [(F.SL_LANE_STATUS_STATE 0, 2), (F.SL_CTRL_BG_EN, 1)], 0, 64, 0, 0, by decide⟩,
⟨{ at_ [(F.SL_LANE_STATUS_STATE 0, 2), (F.SL_CTRL_BG_EN, 1)] with lanes := [(0, { slices := [(64, { fails := 2 })] })] }, 0, 64, by decide⟩,
⟨at_ [(F.SL_LANE_STATUS_STATE 0, 2), (F.SL_CTRL_BG_EN, 1)], 0, 0, 0, by decide⟩,
⟨at_ [(F.SL_LANE_STATUS_STATE 0, 3), (F.SL_CTRL_BG_EN, 1)], 0, 0, 401, by decide⟩,
⟨at_ [((F.SL_LANE_STATUS_STATE 0), 2), (F.SL_CTRL_BG_EN, 1)], 0, _, by decide, by decide, by decide, by decide, rfl, by decide⟩⟩

theorem witness_PipelineReadback :
(∃ (s : State), s.domainOn 8 = true ∧ s.is F.FP_STATUS_RI_OK = true) ∧
(∃ (s : State) (g : Nat) (sect : Nat) (i : _) (x : _) (ep : _) (rest : _), takeSegment g s.fp.queue = some ((x, ep), rest) ∧ x.section_ = sect ∧
      x.first = 1024 * i) ∧
(∃ (s : State) (g : Nat) (sect : Nat) (i : _) (x : _) (ep : _) (rest : _), takeSegment g s.fp.queue = some ((x, ep), rest) ∧ (x.section_ ≠ sect ∨
      x.first ≠ 1024 * i)) ∧
(∃ (s : State) (seq : _) (sweep : _), s.is F.FP_PROF_SEL_FREEZE = true ∧ s.is F.FP_PROF_SEL_FROZEN = false ∧ s.fp.copyOf = some (seq, sweep)) := by
  refine ⟨
⟨at_ [(F.FP_STATUS_RI_OK, 1)], by decide⟩,
⟨{ on with fp := { queue := [(demoSeg, 0)] } }, 0, 0, 0, demoSeg, 0, [], by decide⟩,
⟨{ on with fp := { queue := [(demoSeg, 0)] } }, 0, 1, 0, demoSeg, 0, [], by decide⟩,
⟨{ at_ [(F.FP_PROF_SEL_FREEZE, 1), (F.FP_PROF_SEL_FROZEN, 0)] with fp := { copyOf := some (1, 2) } }, 1, 2, by decide⟩⟩

theorem witness_BreaksAreConfirmed :
(∃ (s : State) (p : GroupPipe) (e : Nat), p = s.grp (s.get F.TT_SCHED_PROBE_GROUP) ∧ e = endBin (p.noise * 65536) p.profile ∧ p.launched = true ∧
      s.opt.examined ≠ some p.at_ ∧ 2 ≤ s.opticalState ∧ (s.is F.FP_STATUS_POL_X = true ∨ s.is F.FP_STATUS_POL_Y = true) ∧ s.opt.refValid = true ∧
      s.opt.collecting = false ∧ s.is F.OP_BREAK_POS_VALID = false ∧ 1 ≤ s.opt.breakRun ∧ binPos e + 1000 * s.get F.OP_APR_MARGIN < 10 * s.get
      F.OP_REF_END_POS) ∧
(∃ (s : State) (p : GroupPipe) (e : Nat), p = s.grp (s.get F.TT_SCHED_PROBE_GROUP) ∧ e = endBin (p.noise * 65536) p.profile ∧ p.launched = true ∧
      s.opt.examined ≠ some p.at_ ∧ 2 ≤ s.opticalState ∧ (s.is F.FP_STATUS_POL_X = true ∨ s.is F.FP_STATUS_POL_Y = true) ∧ s.opt.refValid = true ∧
      s.opt.collecting = false ∧ s.is F.OP_BREAK_POS_VALID = true ∧ binPos e + 1000 * s.get F.OP_APR_MARGIN < 10 * s.get F.OP_REF_END_POS ∧ 0 < s.get
      F.TT_PROBE_RESTORE_SWEEPS) ∧
(∃ (s : State) (p : GroupPipe) (e : Nat), p = s.grp (s.get F.TT_SCHED_PROBE_GROUP) ∧ e = endBin (p.noise * 65536) p.profile ∧ p.launched = true ∧
      s.opt.examined ≠ some p.at_ ∧ 2 ≤ s.opticalState ∧ (s.is F.FP_STATUS_POL_X = true ∨ s.is F.FP_STATUS_POL_Y = true) ∧ s.opt.refValid = true ∧
      s.opt.collecting = false ∧ s.is F.OP_BREAK_POS_VALID = true ∧ 10 * s.get F.OP_REF_END_POS ≤ binPos e + 1000 * s.get F.OP_APR_MARGIN ∧ s.get
      F.TT_PROBE_RESTORE_SWEEPS ≠ 0 ∧ s.get F.TT_PROBE_RESTORE_SWEEPS ≤ s.opt.cleanRun + 1) ∧
(∃ (s : State) (p : GroupPipe) (e : Nat), p = s.grp (s.get F.TT_SCHED_PROBE_GROUP) ∧ e = endBin (p.noise * 65536) p.profile ∧ (s.opticalState < 2 ∨
      (s.is F.FP_STATUS_POL_X = false ∧ s.is F.FP_STATUS_POL_Y = false) ∨ p.launched = false ∨ s.opt.examined = some p.at_)) := by
  refine ⟨
⟨{ at_ [(F.OP_BREAK_POS_VALID, 0), (F.OP_APR_EN, 1), (F.FP_STATUS_POL_X, 1), (F.OP_REF_END_POS, 100000)] with opt := { refValid := true, collecting := false, off := false, breakRun := 1 }, fp := { groups := [(0, { noise := 1, launched := true })] } },
      { noise := 1, launched := true }, 0, by decide⟩,
⟨{ at_ [(F.OP_BREAK_POS_VALID, 1), (F.FP_STATUS_POL_X, 1), (F.OP_REF_END_POS, 100000), (F.TT_PROBE_RESTORE_SWEEPS, 4)] with opt := { refValid := true, collecting := false, off := false }, fp := { groups := [(0, { noise := 1, launched := true })] } },
      { noise := 1, launched := true }, 0, by decide⟩,
⟨{ at_ [(F.OP_BREAK_POS_VALID, 1), (F.FP_STATUS_POL_X, 1), (F.OP_REF_END_POS, 0), (F.TT_PROBE_RESTORE_SWEEPS, 4)] with opt := { refValid := true, collecting := false, off := false, cleanRun := 3 }, fp := { groups := [(0, { noise := 1, launched := true })] } },
      { noise := 1, launched := true }, 0, by decide⟩,
⟨{ at_ [(F.FP_STATUS_POL_X, 1), (F.OP_REF_END_POS, 100000)] with fp := { groups := [(0, { noise := 1, launched := true })] } },
      { noise := 1, launched := true }, 0, by decide⟩⟩

theorem witness_LaserRegainsLock : ∃ (s : State), s.domainOn 4 = true ∧ s.is F.OP_LASER_LOCKED = false ∧ s.starting = false :=
⟨at_ [(F.OP_LASER_LOCKED, 0)], by decide⟩

theorem witness_FabricMovesJobs :
(∃ (s : State) (x : Segment) (ep : Nat) (rest : List (Segment × Nat)) (i : Job), s.fab.store = (x, ep) :: rest ∧ s.fab.jobs.length < 512 ∧ i ∈
      s.fab.jobs) ∧
(∃ (s : State) (e : Nat) (j : Job), s.engAvail e = true ∧ (s.eng e).run = none ∧ s.nextJob (e / 8) = some j) ∧
(∃ (s : State) (t : Nat) (e : Nat) (r : _), e < 96 ∧ (s.eng e).run = some r ∧ (s.eng e).wait = none ∧ (s.eng e).rep = none ∧ r.start + s.get
      F.FB_DISPATCH_JOB_TMO * us < max s.now t) ∧
(∃ (s : State) (k : Nat) (j : _), s.headJob k = some j ∧ j.done = true ∧ s.earlierWaits j.seg = false ∧ s.is F.CX_STATUS_BLOCKED = false) ∧
(∃ (s : State) (t : Nat), s.is F.FB_STATUS_OVERRUN = true ∧ (s.advance t).storeCalm = true) ∧
(∃ (s : State) (y : Nat), s.yardClear y = true) := by
  refine ⟨
⟨{ on with fab := { store := [(demoSeg, 0)], jobs := [demoJob] } }, demoSeg, 0, [], demoJob, by decide⟩,
⟨{ at_ [(F.FB_QUAD_POWERED, 15)] with fab := { jobs := [demoJob] } }, 0, demoJob, by decide⟩,
⟨{ on with fab := { engines := [(0, { run := some demoShare })], faultAt := [(0, [999999999999999999, 999999999999999998])] } },
      1000000000000000000, 0, demoShare, by decide⟩,
⟨{ at_ [(F.CX_STATUS_BLOCKED, 0)] with fab := { jobs := [{ demoJob with ended := 1 }] } }, 0, { demoJob with ended := 1 }, by decide⟩,
⟨{ at_ [(F.FB_STATUS_OVERRUN, 1)] with fab := { halfFrom := some 0 } }, 1000000000000000000, by decide⟩,
⟨{ on with fab := { jobs := [demoJob] } }, 0, by decide⟩⟩

theorem witness_FabricMonitors :
(∃ (s : State) (vout : Nat), s.domainOn 8 = true ∧ s.is F.FB_STATUS_AV_FAULT = false ∧ vout ≤ s.get F.FB_AV_VOUT_COMMAND + 15 ∧ s.get
      F.FB_AV_VOUT_COMMAND ≤ vout + 15) ∧
(∃ (s : State) (y : Nat) (z : Nat) (tr : Track) (tt : Timetable), y < 12 ∧ s.yardEngines y = 0 ∧ s.activeTimetable = some tt ∧ s.fab.tracks.filter
      (fun x => x.yard == y) = [tr] ∧ chooseYard tt.sections s.yardsOut (timetableTl tt) s.yardAvail (s.fab.tracks.filter (fun x => x.yard != y)) tr
      = some z) := by
  refine ⟨
⟨at_ [(F.FB_STATUS_AV_FAULT, 0)], 0, by decide⟩,
⟨{ at_ [((F.YD_ENG_STATE 0 0), 2), ((F.YD_ENG_STATE 0 1), 2), ((F.YD_ENG_STATE 0 2), 2), ((F.YD_ENG_STATE 0 3), 2), ((F.YD_ENG_STATE 0 4), 2), ((F.YD_ENG_STATE 0 5), 2), ((F.YD_ENG_STATE 0 6), 2), ((F.YD_ENG_STATE 0 7), 2)] with sw := { timetables := [{ demoTt with index := 0 }] }, fab := { tracks := [⟨0, 0, 0, 0, none, (0, 0), 0, false, 12, none⟩] } },
      0, 1, ⟨0, 0, 0, 0, none, (0, 0), 0, false, 12, none⟩, { demoTt with index := 0 }, by decide⟩⟩

theorem witness_RecorderCommands :
(∃ (s : State) (at_ : Int) (i : Int) (a : Int) (b : Int) (n : Nat) (src : Nat) (tm : Nat), n < 16 ∧ (s.line n).trigs = [⟨src, at_, some (tm, i)⟩] ∧
      (s.line n).blocked = false ∧ (s.line n).caps = [] ∧ (s.line n).fill ≤ i - s.get (F.EV_PRE_INPUTS n) ∧ s.headerFree n = true ∧ (s.line n).last =
      some (a, b) ∧ a < i + max 1 (s.get (F.EV_POST_INPUTS n) : Nat) - 1) ∧
(∃ (s : State) (at_ : Int) (i : Int) (n : Nat) (src : Nat) (tm : Nat), n < 16 ∧ (s.line n).trigs = [⟨src, at_, some (tm, i)⟩] ∧ (s.line n).blocked =
      true) ∧
(∃ (s : State) (t : Nat), s.recd.trigOutEnd ≤ max s.now t) ∧
(∃ (s : State) (n : Nat), s.domainOn 13 = true ∧ n < 16 ∧ (s.line n).armed = false ∧ s.fits (s.rowSum (some n)) 7 = true) ∧
(∃ (s : State) (n : Nat), s.domainOn 13 = true ∧ n < 16 ∧ (s.line n).armed = false ∧ s.fits (s.rowSum (some n)) 7 = false) ∧
(∃ (s : State) (t : Nat) (h : Nat), s.domainOn 13 = true ∧ max s.recd.target (s.get F.EV_RATE_H) = h + 1 ∧ s.fits (s.rowSum none) h = true ∧ (∀ a,
      s.recd.loweredAt = some a → a + 100 * ms ≤ max s.now t)) ∧
(∃ (s : State) (n : Nat) (v : Nat), s.domainOn 13 = true ∧ n < 16 ∧ indexOk (s.get (F.EV_REC_WR_COUNT n)) (s.get (F.EV_REC_RD_COUNT n)) (v % 2 ^ 32)
      = true) ∧
(∃ (s : State) (n : Nat) (v : Nat), s.domainOn 13 = true ∧ n < 16 ∧ indexOk (s.get (F.EV_REC_WR_COUNT n)) (s.get (F.EV_REC_RD_COUNT n)) (v % 2 ^ 32)
      = false) := by
  refine ⟨
⟨{ at_ [((F.EV_POST_INPUTS 0), 10), ((F.EV_PRE_INPUTS 0), 5)] with recd := { lines := [(0, { armed := true, trigs := [⟨3, 0, some (0, 5)⟩], last := some (5, 0) })] } },
      0, 5, 5, 0, 0, 3, 0, by decide⟩,
⟨{ on with recd := { lines := [(0, { armed := true, blocked := true, trigs := [⟨3, 0, some (0, 0)⟩] })] } }, 0, 0, 0, 3, 0, by decide⟩,
⟨on, 1000000000000000000, by decide⟩,
⟨on, 0, by decide⟩,
⟨at_ [((F.EV_LCHAN_COUNT 0), 4096), (F.EV_BUDGET_BUDGET, 10)], 0, by decide⟩,
⟨at_ [(F.EV_RATE_H, 1)], 1000000000000000000, 0, by decide, by decide, by decide, nofun⟩,
⟨on, 0, 0, by decide⟩,
⟨on, 0, 1, by decide⟩⟩

theorem witness_SectionReadback :
(∃ (s : State) (v : Nat), s.domainOn 8 = true ∧ indexOk (s.get F.BS_DFIFO_WR_COUNT) (s.get F.BS_DFIFO_RD_COUNT) (v % 2 ^ 32) = true ∧ s.is
      F.BS_DFIFO_STAT_STORM = false) ∧
(∃ (s : State) (v : Nat), s.domainOn 8 = true ∧ indexOk (s.get F.BS_DFIFO_WR_COUNT) (s.get F.BS_DFIFO_RD_COUNT) (v % 2 ^ 32) = false) := by
  refine ⟨
⟨at_ [(F.BS_DFIFO_STAT_STORM, 0)], 0, by decide⟩,
⟨on, 1, by decide⟩⟩

theorem witness_EngineArithmetic :
(∃ (s : State) (e : Nat) (x : RegNo) (y : RegNo) (a : Nat) (b : Nat) (f : Nat) (m : _), s.engineReady e ∧ a = (s.eng e).dv x ∧ b = (s.eng e).dv y ∧ f
      = (s.eng e).flg ∧ m = (if signed16 a ≤ signed16 b then a else b)) ∧
(∃ (s : State) (e : Nat) (x : RegNo) (y : RegNo) (a : Nat) (b : Nat) (f : Nat) (m : _), s.engineReady e ∧ a = (s.eng e).dv x ∧ b = (s.eng e).dv y ∧ f
      = (s.eng e).flg ∧ m = (if signed16 a ≤ signed16 b then b else a)) := by
  refine ⟨
⟨engSt {}, 0, 0, 0, _, _, _, _, demoReady, rfl, rfl, rfl, rfl⟩,
⟨engSt {}, 0, 0, 0, _, _, _, _, demoReady, rfl, rfl, rfl, rfl⟩⟩

theorem witness_EngineAccumulators :
(∃ (s : State) (e : Nat) (x : RegNo) (b : Bool) (sh : BitVec 6) (a : Nat) (f : Nat) (v : Int), s.engineReady e ∧ a = (s.eng e).dv x ∧ f = (s.eng
      e).flg ∧ v = (s.eng e).acc b true ∧ sh.toNat ≤ 24) ∧
(∃ (s : State) (e : Nat) (x : RegNo) (b : Bool) (sh : BitVec 6) (a : Nat) (f : Nat) (v : Int) (w : Int), s.engineReady e ∧ a = (s.eng e).dv x ∧ f =
      (s.eng e).flg ∧ v = (s.eng e).acc b true ∧ w = (if 0 ≤ sh.toInt then v * 2 ^ sh.toInt.toNat else v / 2 ^ (-sh.toInt).toNat)) ∧
(∃ (s : State) (e : Nat) (x : RegNo) (b : Bool) (a : Nat) (f : Nat) (v : Int) (w : Int), s.engineReady e ∧ a = (s.eng e).dv x ∧ f = (s.eng e).flg ∧ v
      = (s.eng e).acc b true ∧ w = (s.eng e).acc false true + (s.eng e).acc true true) ∧
(∃ (s : State) (e : Nat) (x : RegNo) (b : Bool) (sh : BitVec 6) (a : Nat) (f : Nat) (v : Int), s.engineReady e ∧ a = (s.eng e).dv x ∧ f = (s.eng
      e).flg ∧ v = (s.eng e).acc b true ∧ sh.toNat ≤ 31) ∧
(∃ (s : State) (e : Nat) (x : RegNo) (b : Bool) (sh : BitVec 6) (a : Nat) (f : Nat) (v : Int), s.engineReady e ∧ a = (s.eng e).dv x ∧ f = (s.eng
      e).flg ∧ v = (s.eng e).acc b true ∧ sh.toNat ≤ 2) ∧
(∃ (s : State) (e : Nat) (x : RegNo) (b : Bool) (a : Nat) (f : Nat) (v : Int) (i : BitVec 13), s.engineReady e ∧ a = (s.eng e).dv x ∧ f = (s.eng
      e).flg ∧ v = (s.eng e).acc b true ∧ i.toNat ≠ 1 ∧ i.toNat ≤ 4096) := by
  refine ⟨
⟨engSt {}, 0, 0, false, 0, _, _, _, demoReady, rfl, rfl, rfl, by decide⟩,
⟨engSt {}, 0, 0, false, 0, _, _, _, _, demoReady, rfl, rfl, rfl, rfl⟩,
⟨engSt {}, 0, 0, false, _, _, _, _, demoReady, rfl, rfl, rfl, rfl⟩,
⟨engSt {}, 0, 0, false, 0, _, _, _, demoReady, rfl, rfl, rfl, by decide⟩,
⟨engSt {}, 0, 0, false, 0, _, _, _, demoReady, rfl, rfl, rfl, by decide⟩,
⟨engSt {}, 0, 0, false, _, _, _, 4096, demoReady, rfl, rfl, rfl, by decide⟩⟩

theorem witness_EngineControlFlow :
(∃ (s : State) (e : Nat) (c : BitVec 4) (h : Bool), s.engineReady e ∧ (s.eng e).slot = none ∧ condHolds (s.eng e).flg c.toNat = some h) ∧
(∃ (s : State) (e : Nat), s.engineReady e ∧ (s.eng e).slot = none ∧ (s.eng e).stack.length < 8) ∧
(∃ (s : State) (e : Nat) (a : Nat) (rest : List Nat), s.engineReady e ∧ (s.eng e).slot = none ∧ (s.eng e).stack = a :: rest) ∧
(∃ (s : State) (e : Nat) (n : BitVec 13), s.engineReady e ∧ (s.eng e).slot = none ∧ n.toNat ≠ 0 ∧ n.toNat ≤ 4096 ∧ s.followerBarred e = false) ∧
(∃ (s : State) (e : Nat) (x : RegNo), s.engineReady e ∧ (s.eng e).slot = none ∧ (s.eng e).dv x ≤ 4096 ∧ s.followerBarred e = false) ∧
(∃ (s : State) (e : Nat), s.engineReady e ∧ (s.eng e).slot = none ∧ (s.eng e).fb = false ∧ (s.eng e).xfer = none) ∧
(∃ (s : State) (e : Nat) (c : BitVec 4), s.engineReady e ∧ (s.eng e).slot = none ∧ c = 15) ∧
(∃ (s : State) (e : Nat), s.engineReady e ∧ (s.eng e).slot = none ∧ (s.eng e).stack.length = 8) ∧
(∃ (s : State) (e : Nat), s.engineReady e ∧ (s.eng e).slot = none ∧ (s.eng e).stack = []) ∧
(∃ (s : State) (e : Nat) (n : BitVec 13), s.engineReady e ∧ (s.eng e).slot = none ∧ (n.toNat = 0 ∨ 4096 < n.toNat ∨ s.followerBarred e = true)) ∧
(∃ (s : State) (e : Nat), s.engineReady e ∧ (s.eng e).slot ≠ none) ∧
(∃ (s : State) (e : Nat) (mode : BitVec 3) (off : BitVec 12), s.engineReady e ∧ (5 ≤ mode.toNat ∨ (mode.toNat ≤ 3 ∧ off ≠ 0))) ∧
(∃ (s : State) (e : Nat) (c : _) (z : State) (r : _) (l : _) (h : _), s.engineReady e ∧ (z.eng e).run = some r ∧ r.layout = some l ∧ r.hdr = some h ∧
      z.fetchFault e = some c ∧ (z.eng e).wait = none ∧ inWords (z.eng e).pc l.code h.codeWords = false) ∧
(∃ (s : State) (e : Nat) (c : _) (z : State) (r : _) (l : _) (h : _), s.engineReady e ∧ (z.eng e).run = some r ∧ r.layout = some l ∧ r.hdr = some h ∧
      z.fetchFault e = some c ∧ (z.eng e).wait = none ∧ inWords (z.eng e).pc l.code h.codeWords = true) := by
  refine ⟨
⟨engSt {}, 0, 0, true, demoReady, by decide⟩,
⟨engSt {}, 0, demoReady, by decide⟩,
⟨engSt { stack := [0] }, 0, 0, [], demoReady, by decide⟩,
⟨engSt {}, 0, 5, demoReady, by decide⟩,
⟨engSt {}, 0, 0, demoReady, by decide⟩,
⟨engSt {}, 0, demoReady, by decide⟩,
⟨engSt {}, 0, 15, demoReady, by decide⟩,
⟨engSt { stack := [0, 0, 0, 0, 0, 0, 0, 0] }, 0, demoReady, by decide⟩,
⟨engSt {}, 0, demoReady, by decide⟩,
⟨engSt {}, 0, 0, demoReady, by decide⟩,
⟨engSt { slot := some none }, 0, demoReady, by decide⟩,
⟨engSt {}, 0, 5, 0, demoReady, by decide⟩,
⟨engSt {}, 0, 1, engSt { pc := 64 }, demoShare, demoLayout, demoHdr, demoReady, by decide⟩,
⟨engSt {}, 0, 12, badSt (imemAddr 0 0), demoShare, demoLayout, demoHdr, demoReady, by decide⟩⟩

theorem witness_EngineMemory :
(∃ (s : State) (e : Nat) (d : RegNo) (r : RegNo) (mode : BitVec 3) (off : BitVec 12) (ea : Nat) (v : Nat) (z : RegNo), s.engineReady e ∧ (s.eng e).ea
      r mode.toNat off.toNat = some ea ∧ s.dataRead e r ea false = some (.ok v) ∧ z ≠ d) ∧
(∃ (s : State) (e : Nat) (r : RegNo) (mode : BitVec 3) (off : BitVec 12) (ea : Nat) (lo : Nat) (hi : Nat), s.engineReady e ∧ (s.eng e).ea r
      mode.toNat off.toNat = some ea ∧ (mode.toNat = 0 ∨ mode.toNat = 4) ∧ s.dataRead e r ea false = some (.ok lo) ∧ s.dataRead e r (nextWord ea) false = some (.ok hi)) ∧
(∃ (s : State) (e : Nat) (x : RegNo) (r : RegNo) (mode : BitVec 3) (off : BitVec 12) (ea : Nat) (p : _) (q : _) (v : Nat), s.engineReady e ∧ (s.eng
      e).ea r mode.toNat off.toNat = some ea ∧ (mode.toNat = 0 ∨ mode.toNat = 4) ∧ placeOf r ea = some p ∧ placeOf r (nextWord ea) = some q ∧ v = (s.eng e).aval x ∧ (s.eng e).permits (s.segWords (s.eng e)) true p = true ∧ (s.eng e).permits (s.segWords (s.eng e)) true q = true ∧ (s.eng e).inTransfer p = false ∧ (s.eng e).inTransfer q = false ∧ q.byte e ≠ p.byte e ∧ s.isBad (p.byte e) = false ∧ s.isBad (q.byte e) = false) ∧
(∃ (s : State) (e : Nat) (r : RegNo) (mode : BitVec 3) (off : BitVec 12) (ea : Nat), s.engineReady e ∧ (s.eng e).ea r mode.toNat off.toNat = some ea
      ∧ s.dataRead e r ea true = some (.error 4)) ∧
(∃ (s : State) (e : Nat) (r : RegNo) (mode : BitVec 3) (off : BitVec 12) (ea : Nat), s.engineReady e ∧ (s.eng e).ea r mode.toNat off.toNat = some ea
      ∧ s.dataRead e r ea false = some (.error 12)) ∧
(∃ (s : State) (e : Nat) (r : RegNo) (mode : BitVec 3) (off : BitVec 12) (ea : Nat), s.engineReady e ∧ (s.eng e).ea r mode.toNat off.toNat = some ea
      ∧ s.dataRead e r ea false = some (.error 1)) ∧
(∃ (s : State) (e : Nat) (r : RegNo) (mode : BitVec 3) (off : BitVec 12) (ea : Nat) (v : Nat) (z : RegNo), s.engineReady e ∧ (s.eng e).ea r
      mode.toNat off.toNat = some ea ∧ s.dataRead e r ea false = some (.ok v) ∧ z ≠ r) := by
  refine ⟨
⟨engSt {}, 0, 0, 0, 0, 0, _, _, 1, demoReady, rfl, rfl, by decide⟩,
⟨engSt {}, 0, 0, 0, 0, 0, 0, 0, demoReady, by decide, .inl rfl, rfl,
      by rw [show nextWord 0 = 1 by decide]; rfl⟩,
⟨engSt { a := [(0, { base := 16 })] }, 0, 0, 0, 0, 0, 16, .loc true 16, .loc true 17, _, demoReady, by decide, by decide, by decide, by decide, rfl,
      by decide⟩,
⟨engSt {}, 0, 0, 0, 0, _, demoReady, rfl, rfl⟩,
⟨badSt ((Place.loc true 0).byte 0), 0, 0, 0, 0, _, demoReady, rfl, rfl⟩,
⟨engSt { a := [(0, { base := 16 })] }, 0, 0, 0, 0, 16, demoReady, rfl, rfl⟩,
⟨engSt {}, 0, 0, 0, 0, _, _, 1, demoReady, rfl, rfl, by decide⟩⟩

theorem witness_EngineMultiplies :
(∃ (s : State) (e : Nat) (b : Bool) (ue : Bool) (x : RegNo) (y : RegNo) (rx : RegNo) (ry : RegNo) (m : Moves) (vx : Nat) (vy : Nat) (f : Nat) (p :
      Int) (acc : Int) (i : Instr) (v : Int) (g : Nat),
      s.engineReady e ∧ rx = BitVec.ofNat 3 m.ax.toNat ∧ ry = BitVec.ofNat 3 (4 + m.ay.toNat) ∧ f = (s.eng e).flg ∧ (m.ex = true → s.dataRead e rx
      ((s.eng e).addr rx) ue = some (.ok vx)) ∧ (m.ey = true → s.dataRead e ry ((s.eng e).addr ry) ue = some (.ok vy)) ∧ p = signed16 ((s.eng e).dv
      x) * signed16 ((s.eng e).dv y) ∧ acc = (s.eng e).acc b false ∧ ((i = .clr e b m ue ∧ v = 0 ∧ g = f) ∨ (i = .mpy e b x y m ue ∧ v = p ∧ g = f) ∨ (i = .mac e b x y m ue ∧ v = satBits 40 (acc + p) ∧ g = ({ as_ := decide (v ≠ acc + p) } : FlagSet).apply f) ∨ (i = .msu e b x y m ue ∧ v = satBits 40 (acc - p) ∧ g = ({ as_ := decide (v ≠ acc - p) } : FlagSet).apply f) ∨ i = .movp e m ue) ∧ m.ey = true) ∧
(∃ (s : State) (e : Nat) (b : Bool) (ue : Bool) (x : RegNo) (y : RegNo) (rx : RegNo) (ry : RegNo) (m : Moves) (vx : Nat) (vy : Nat) (f : Nat) (p :
      Int) (acc : Int) (i : Instr) (v : Int) (g : Nat),
      s.engineReady e ∧ rx = BitVec.ofNat 3 m.ax.toNat ∧ ry = BitVec.ofNat 3 (4 + m.ay.toNat) ∧ f = (s.eng e).flg ∧ (m.ex = true → s.dataRead e rx
      ((s.eng e).addr rx) ue = some (.ok vx)) ∧ (m.ey = true → s.dataRead e ry ((s.eng e).addr ry) ue = some (.ok vy)) ∧ p = signed16 ((s.eng e).dv
      x) * signed16 ((s.eng e).dv y) ∧ acc = (s.eng e).acc b false ∧ ((i = .clr e b m ue ∧ v = 0 ∧ g = f) ∨ (i = .mpy e b x y m ue ∧ v = p ∧ g = f) ∨ (i = .mac e b x y m ue ∧ v = satBits 40 (acc + p) ∧ g = ({ as_ := decide (v ≠ acc + p) } : FlagSet).apply f) ∨ (i = .msu e b x y m ue ∧ v = satBits 40 (acc - p) ∧ g = ({ as_ := decide (v ≠ acc - p) } : FlagSet).apply f) ∨ i = .movp e m ue) ∧ m.ex = true ∧ (m.ey = false ∨ m.dy ≠ m.dx)) ∧
(∃ (s : State) (e : Nat) (b : Bool) (ue : Bool) (x : RegNo) (y : RegNo) (rx : RegNo) (ry : RegNo) (m : Moves) (vx : Nat) (vy : Nat) (f : Nat) (p :
      Int) (acc : Int) (i : Instr) (v : Int) (g : Nat) (z : RegNo),
      s.engineReady e ∧ rx = BitVec.ofNat 3 m.ax.toNat ∧ ry = BitVec.ofNat 3 (4 + m.ay.toNat) ∧ f = (s.eng e).flg ∧ (m.ex = true → s.dataRead e rx
      ((s.eng e).addr rx) ue = some (.ok vx)) ∧ (m.ey = true → s.dataRead e ry ((s.eng e).addr ry) ue = some (.ok vy)) ∧ p = signed16 ((s.eng e).dv
      x) * signed16 ((s.eng e).dv y) ∧ acc = (s.eng e).acc b false ∧ ((i = .clr e b m ue ∧ v = 0 ∧ g = f) ∨ (i = .mpy e b x y m ue ∧ v = p ∧ g = f) ∨ (i = .mac e b x y m ue ∧ v = satBits 40 (acc + p) ∧ g = ({ as_ := decide (v ≠ acc + p) } : FlagSet).apply f) ∨ (i = .msu e b x y m ue ∧ v = satBits 40 (acc - p) ∧ g = ({ as_ := decide (v ≠ acc - p) } : FlagSet).apply f) ∨ i = .movp e m ue) ∧ (m.ex = false ∨ z ≠ m.dx) ∧ (m.ey = false ∨ z ≠ m.dy)) := by
  refine ⟨
⟨engSt {}, 0, false, false, 0, 0, _, _, ⟨false, 0, 0, 0, true, 0, 0, 0⟩, 0, 0, _, _, _, .clr 0 false ⟨false, 0, 0, 0, true, 0, 0, 0⟩ false, 0, 0,
      demoReady, rfl, rfl, rfl, nofun, fun _ => rfl, rfl, rfl, .inl ⟨rfl, rfl, rfl⟩,
      by decide⟩,
⟨engSt {}, 0, false, false, 0, 0, _, _, ⟨true, 0, 0, 0, false, 0, 0, 0⟩, 0, 0, _, _, _, .clr 0 false ⟨true, 0, 0, 0, false, 0, 0, 0⟩ false, 0, 0,
      demoReady, rfl, rfl, rfl, fun _ => rfl, nofun, rfl, rfl, .inl ⟨rfl, rfl, rfl⟩,
      by decide⟩,
⟨engSt {}, 0, false, false, 0, 0, _, _, ⟨true, 0, 0, 0, false, 0, 0, 0⟩, 0, 0, _, _, _, .clr 0 false ⟨true, 0, 0, 0, false, 0, 0, 0⟩ false, 0, 0, 1,
      demoReady, rfl, rfl, rfl, fun _ => rfl, nofun, rfl, rfl, .inl ⟨rfl, rfl, rfl⟩,
      by decide⟩⟩

theorem witness_EngineUnits :
(∃ (s : State) (e : Nat) (x : RegNo) (r : ShareRun), s.engineReady e ∧ (s.eng e).run = some r ∧ (s.eng e).dv x < r.count) ∧
(∃ (s : State) (e : Nat) (pr : BitVec 3), s.engineReady e ∧ 1 ≤ pr.toNat ∧ pr.toNat ≤ 5) ∧
(∃ (s : State) (e : Nat) (k : BitVec 2), s.engineReady e ∧ k.toNat ≠ 3) ∧
(∃ (s : State) (e : Nat) (x : RegNo) (a : RegNo) (r : ShareRun) (ly : ShareLayout) (h : ProgHeader) (w : Nat) (ad : Nat), s.engineReady e ∧ (s.eng
      e).run = some r ∧ r.layout = some ly ∧ r.hdr = some h ∧ (s.eng e).fb = false ∧ w = (s.eng e).dv x ∧ 2 ≤ w ∧ w ≤ 12 ∧ ad = (s.eng e).addr a ∧ ad / 2 ^ 17 % 2 = 1 ∧ ly.fft ≤ ad % 2 ^ 17 ∧ ad % 2 ^ 17 + 2 * 2 ^ w ≤ ly.fft + h.fftWindow) ∧
(∃ (s : State) (e : Nat), s.engineReady e ∧ (s.eng e).fb = true) ∧
(∃ (s : State) (e : Nat) (a : RegNo) (m : RegNo) (n : RegNo) (r : ShareRun) (ly : ShareLayout) (h : ProgHeader), s.engineReady e ∧ (s.eng e).run =
      some r ∧ r.layout = some ly ∧ r.hdr = some h ∧ (s.eng e).xfer = none ∧ 1 ≤ (s.eng e).dv n ∧ (s.eng e).dv n ≤ 4096 ∧ 16 * (s.eng e).dv m +
      (s.eng e).dv n ≤ r.count * h.ext ∧ s.rangeOk e a ((s.eng e).addr a) ((s.eng e).dv n) true = true) ∧
(∃ (s : State) (e : Nat) (a : RegNo) (m : RegNo) (n : RegNo) (r : _) (ly : _) (h : _), s.engineReady e ∧ (s.eng e).run = some r ∧ r.layout = some ly
      ∧ r.hdr = some h ∧ (s.eng e).xfer = none ∧ 1 ≤ (s.eng e).dv n ∧ (s.eng e).dv n ≤ 4096 ∧ 16 * (s.eng e).dv m + (s.eng e).dv n ≤ r.count * h.ext ∧ s.rangeOk e a ((s.eng e).addr a) ((s.eng e).dv n) false = true ∧ (∀ i p,
      i < (s.eng e).dv n → placeOf a ((s.eng e).addr a + i) = some p → s.isBad (p.byte e) = false)) ∧
(∃ (s : State) (e : Nat), s.engineReady e ∧ (s.eng e).xfer ≠ none) ∧
(∃ (s : State) (y : Nat) (r : FftReq) (rest : List FftReq), (s.fftUnit y).busy = none ∧ (s.fftUnit y).queue = r :: rest) ∧
(∃ (s : State) (y : Nat) (r : FftReq), (s.fftUnit y).busy = some r ∧ r.eng < 8 ∧ (s.eng (8 * y + r.eng)).wait = none) ∧
(∃ (s : State) (y : _) (r : _) (j : _), (s.fftUnit y).busy = some r ∧ 8 ≤ r.eng ∧ r.seq ≠ [] ∧ s.br.job = some j ∧ j.left.contains r.bin = true) ∧
(∃ (s : State) (e : Nat) (x : Transfer), (s.eng e).xfer = some x ∧ (s.eng e).wait = none) := by
  refine ⟨
⟨engSt {}, 0, 0, demoShare, demoReady, by decide⟩,
⟨engSt {}, 0, 5, demoReady, by decide⟩,
⟨engSt {}, 0, 0, demoReady, by decide⟩,
⟨engSt { d := [(0, { base := 5 })], a := [(0, { base := 131328 })] }, 0, 0, 0, demoShare, demoLayout, demoHdr, 5, 131328, demoReady, by decide⟩,
⟨engSt { fb := true }, 0, demoReady, by decide⟩,
⟨engSt { d := [(0, { base := 8 })], a := [(0, { base := 16 })] }, 0, 0, 1, 0, demoShare, demoLayout, demoHdr, demoReady, by decide⟩,
⟨engSt { d := [(0, { base := 8 })] }, 0, 0, 1, 0, demoShare, demoLayout, demoHdr, demoReady, by decide, by decide, by decide, by decide, by decide,
      by decide, by decide, by decide, fun _ _ _ _ => rfl⟩,
⟨engSt { xfer := some ⟨false, 0, false, 0, true, 1⟩ }, 0, demoReady, by decide⟩,
⟨{ on with fab := { fft := [(0, { queue := [⟨0, 0, 2, false, false, 0, []⟩] })] } }, 0, ⟨0, 0, 2, false, false, 0, []⟩, [], by decide⟩,
⟨{ on with fab := { fft := [(0, { busy := some ⟨0, 0, 2, false, false, 0, []⟩ })] } }, 0, ⟨0, 0, 2, false, false, 0, []⟩, by decide⟩,
⟨{ on with fab := { fft := [(0, { busy := some ⟨8, 0, 7, false, false, 5, [(0, 0)]⟩ })] }, br := { job := some { left := [5] } } }, 0,
      ⟨8, 0, 7, false, false, 5, [(0, 0)]⟩, { left := [5] }, by decide⟩,
⟨engSt { xfer := some ⟨false, 0, false, 0, true, 1⟩ }, 0, ⟨false, 0, false, 0, true, 1⟩, by decide⟩⟩

theorem witness_BrillouinCommands :
(∃ (s : State) (t : Nat) (start : Nat) (b : BrBase), s.br.basing = some (start, b) ∧ start + s.get F.BR_BASE_BASE_S * (1000 * ms) ≤ max s.now t) ∧
(∃ (s : State) (t : Nat), s.get F.BR_BASE_PERIOD ≠ 0 ∧ (s.get F.BR_STATUS_STATE = 2 ∨ s.get F.BR_STATUS_STATE = 3) ∧ s.br.basing = none ∧ s.br.baseAt
      + s.get F.BR_BASE_PERIOD * 60 * (1000 * ms) ≤ max s.now t) ∧
(∃ (s : State) (t : Nat) (t0 : Nat), s.br.skipFrom = some t0 ∧ s.br.basing = none ∧ t0 + 60 * (1000 * ms) ≤ max s.now t) ∧
(∃ (s : State) (t : Nat), (s.get F.BR_STATUS_STATE = 2 ∨ s.get F.BR_STATUS_STATE = 3) ∧ s.br.tB + (s.br.k + 1) * s.brUpd ≤ max s.now t) ∧
(∃ (s : State) (j : _), s.br.job = some j ∧ j.left = []) ∧
(∃ (s : State), s.domainOn 7 = true ∧ s.is F.BR_STATUS_SYN_LOCK = true) ∧
(∃ (s : State) (t : Nat) (t0 : Nat), s.domainOn 7 = true ∧ s.is F.BR_STATUS_SYN_LOCK = false ∧ s.br.unlockFrom = some t0 ∧ max s.now t < t0 + 1000 *
      ms) ∧
(∃ (s : State) (t : Nat) (t0 : Nat), s.domainOn 7 = true ∧ s.is F.BR_STATUS_SYN_LOCK = false ∧ s.br.unlockFrom = some t0 ∧ t0 + 1000 * ms ≤ max s.now
      t ∧ s.get F.BR_STATUS_STATE ≠ 0 ∧ s.get F.BR_STATUS_STATE ≠ 4) := by
  refine ⟨
⟨{ on with br := { basing := some (0, {}) } }, 1000000000000000000, 0, {}, by decide⟩,
⟨{ at_ [(F.BR_BASE_PERIOD, 60), (F.BR_STATUS_STATE, 2)] with br := { basing := none } }, 1000000000000000000, by decide⟩,
⟨{ on with br := { skipFrom := some 0, basing := none } }, 1000000000000000000, _, rfl, by decide⟩,
⟨at_ [(F.BR_STATUS_STATE, 3)], 1000000000000000000, by decide⟩,
⟨{ on with br := { job := some { left := [] } } }, { left := [] }, by decide⟩,
⟨at_ [(F.BR_STATUS_SYN_LOCK, 1)], by decide⟩,
⟨{ at_ [(F.BR_STATUS_SYN_LOCK, 0)] with br := { unlockFrom := some 0 } }, 0, _, by decide, by decide, rfl, by decide⟩,
⟨{ at_ [(F.BR_STATUS_SYN_LOCK, 0), (F.BR_STATUS_STATE, 1), (F.BR_STATUS_STATE, 5)] with br := { unlockFrom := some 0 } }, 1000000000000000000, _,
      by decide, by decide, rfl, by decide⟩⟩

theorem witness_SensorConversions :
(∃ (s : State) (c : _) (vT : _) (vP : _) (q : _) (w : _) (ex : _), s.domainOn 3 = true ∧ c = s.get F.SF_STATUS_CUR ∧ s.scanned.contains c = true ∧ ex
      = s.precR * excitation (s.ampOf c) * 100 ∧ ex ≤ vT * 500 ∧ 8 * ex ≤ 10 * vP ∧ 10 * vP ≤ 12 * ex ∧ 0 < vP ∧ s.is F.SF_STATUS_PREC_FAULT = false ∧ q = (2 * 4194304 * vT + vP) / (2 * vP) ∧ q ≤ 16777215 ∧ s.rtdTemp c q = some w ∧ s.sens.n = 0 ∧ (s.rtd c).fault = false ∧ (s.rtd c).kept = false ∧ 1 < s.navg c) ∧
(∃ (s : State) (x : Nat), s.domainOn 3 = true ∧ x ≤ 1 ∧ s.hkOwner x = x ∧ s.get (F.HK_CFG_RTRIG x) ≠ 0 ∧ s.get (F.HK_CFG_RTRIG x) ≠ 3 ∧ (s.hk
      x).reg.isSome = true) ∧
(∃ (s : State) (x : Nat), s.domainOn 3 = true ∧ x ≤ 1 ∧ s.hkOwner x = x ∧ s.get (F.HK_CFG_RTRIG x) ≠ 0 ∧ s.get (F.HK_CFG_RTRIG x) ≠ 3 ∧ s.is
      (F.HK_CFG_PAIR 0) = false ∧ s.is (F.HK_STAT_CAL x) = false ∧ (s.hk x).conv = none ∧ (s.hk x).inj = none ∧ (s.hk x).pend = none ∧ (s.hk
      x).calReq = false ∧ (s.hk x).reg = none) ∧
(∃ (s : State) (x : Nat), s.domainOn 3 = true ∧ x ≤ 1 ∧ (x = 0 ∨ (s.get (F.HK_CFG_ITRIG x) ≠ 0 ∧ s.get (F.HK_CFG_ITRIG x) ≠ 3)) ∧ (s.hk x).inj.isSome
      = true) ∧
(∃ (s : State) (x : Nat), s.domainOn 3 = true ∧ x ≤ 1 ∧ (x = 0 ∨ (s.get (F.HK_CFG_ITRIG x) ≠ 0 ∧ s.get (F.HK_CFG_ITRIG x) ≠ 3)) ∧ s.is (F.HK_CFG_PAIR
      0) = false ∧ s.is (F.HK_STAT_CAL x) = false ∧ (s.hk x).conv = none ∧ (s.hk x).inj = none ∧ (s.hk x).pend = none ∧ (s.hk x).reg = none) ∧
(∃ (s : State) (x : Nat) (injected : Bool) (e : Nat) (flag : Bool), s.domainOn 3 = true ∧ x ≤ 1 ∧ (s.hk x).conv = some (injected, e, flag) ∧ e < 16) ∧
(∃ (s : State) (t : Nat) (x : Nat), s.domainOn 3 = true ∧ x ≤ 1 ∧ (s.hk x).reg.isSome = true ∧ (s.hk x).promoted = false ∧ (s.hk x).regAt + max 2
      (min 1000 (s.get (F.HK_DELAY_AGE_LIMIT x))) * us < max s.now t) ∧
(∃ (s : State) (x : Nat), s.domainOn 3 = true ∧ x ≤ 1 ∧ s.is (F.HK_STAT_CAL x) = false ∧ (s.hk x).conv.isSome = true) ∧
(∃ (s : State) (gain : Int) (x : Nat), s.domainOn 3 = true ∧ x ≤ 1 ∧ s.is (F.HK_STAT_CAL x) = true ∧ (s.hk x).calReq = false ∧ -(2 ^ ((F.HK_CAL_GAIN
      x).width - 1)) ≤ gain ∧ gain < 2 ^ ((F.HK_CAL_GAIN x).width - 1)) := by
  refine ⟨
⟨{ at_ [(F.SF_STATUS_PREC_FAULT, 0), (F.SF_CTRL_SCAN_EN, 1)] with sens := { n := 0, tables := [(0, [(100000, 0), (300000, 1000)])] } }, _,
      20000000, 20000000, 4194304, _, _, by decide, rfl, rfl, rfl, by decide, by decide, by decide, by decide, by decide, by decide, by decide,
      rfl, by decide, rfl, rfl, by decide⟩,
⟨{ at_ [(F.HK_CFG_RTRIG 1, 1), (F.HK_CFG_RTRIG 1, 4), ((F.HK_CFG_RTRIG 1), 1)] with sens := { hk := [(1, { reg := some 0 })] } }, 1, by decide⟩,
⟨at_ [(F.HK_CFG_RTRIG 0, 1), (F.HK_CFG_RTRIG 0, 4), (F.HK_CFG_PAIR 0, 0), (F.HK_STAT_CAL 0, 0), ((F.HK_CFG_RTRIG 0), 1)], 0, by decide⟩,
⟨{ at_ [((F.HK_CFG_ITRIG 1), 1)] with sens := { hk := [(1, { inj := some (0, false) })] } }, 1, by decide⟩,
⟨at_ [(F.HK_CFG_PAIR 0, 0), (F.HK_STAT_CAL 0, 0)], 0, by decide⟩,
⟨{ on with sens := { hk := [(0, { conv := some (true, 15, false) })] } }, 0, true, 15, false, by decide⟩,
⟨{ on with sens := { hk := [(0, { reg := some 0 })] } }, 1000000000000000000, 0, by decide⟩,
⟨{ at_ [(F.HK_STAT_CAL 0, 0)] with sens := { hk := [(0, { conv := some (false, 0, false) })] } }, 0, by decide⟩,
⟨at_ [(F.HK_STAT_CAL 1, 1), ((F.HK_STAT_CAL 1), 1)], 0, 1, by decide⟩⟩

theorem witness_TecAndCalibration :
(∃ (s : State) (temp : Int) (err : Int) (st : _), s.sens.tec.startAt = some st ∧ err = s.getS F.HK_TEC_CFG_T_SET - (if s.is (F.HK_LAST_SEEN 0 16)
      then Config.thermistor (s.get (F.HK_LAST_CODE 0 16)) else temp) ∧ (s.is (F.HK_LAST_SEEN 0 16) = true → s.get (F.HK_LAST_CODE 0 16) ≠ 0 ∧ s.get
      (F.HK_LAST_CODE 0 16) ≠ 4095) ∧ err.natAbs ≤ 500) ∧
(∃ (s : State) (st : Nat), s.sens.tec.startAt = some st ∧ s.is (F.HK_LAST_SEEN 0 16) = true ∧ (s.get (F.HK_LAST_CODE 0 16) = 0 ∨ s.get
      (F.HK_LAST_CODE 0 16) = 4095)) ∧
(∃ (s : State) (t : Nat), s.is F.HK_TEC_STAT_FAULT = true ∧ s.sens.tec.startAt = none ∧ s.sens.tec.faultAt + 10000 * ms ≤ max s.now t) ∧
(∃ (s : State) (temp : Int), max 10 (min 2000 (s.get F.CL_DELTA_T_DT)) < (s.moduleTemp temp - s.getS F.CL_TEMP_T_REF).natAbs ∧ s.is
      F.CL_STATUS_RUNNING = true) ∧
(∃ (s : State) (t : Nat) (temp : Int), max 10 (min 2000 (s.get F.CL_DELTA_T_DT)) < (s.moduleTemp temp - s.getS F.CL_TEMP_T_REF).natAbs ∧ s.is
      F.CL_STATUS_RUNNING = false ∧ (s.advance t).calGap = true) ∧
(∃ (s : State), s.is F.CL_STATUS_RUNNING = false ∧ s.sens.cal.due = true) ∧
(∃ (s : State), s.is F.CL_STATUS_RUNNING = true ∧ s.is F.SB_STATUS_COMMITTED = true) := by
  refine ⟨
⟨{ on with sens := { tec := { startAt := some 0 } } }, 0, 0, 0, by decide, by decide, by decide, by decide⟩,
⟨{ at_ [(F.HK_LAST_SEEN 0 16, 1), ((F.HK_LAST_CODE 0 16), 4095)] with sens := { tec := { startAt := some 0 } } }, _, rfl, by decide⟩,
⟨{ at_ [(F.HK_TEC_STAT_FAULT, 1)] with sens := { tec := {} } }, 1000000000000000000, by decide⟩,
⟨at_ [(F.CL_STATUS_RUNNING, 1)], 1000000, by decide⟩,
⟨on, 0, 1000000, by decide⟩,
⟨{ at_ [(F.CL_STATUS_RUNNING, 0)] with sens := { tec := { startAt := some 0 }, cal := { due := true } } }, by decide⟩,
⟨{ at_ [(F.CL_STATUS_RUNNING, 1), (F.SB_STATUS_COMMITTED, 1)] with sens := { tec := { startAt := some 0 } } }, by decide⟩⟩

theorem witness_MemoryRequests :
(∃ (s : State) (addr : Nat) (n : Nat), s.dramBytes < addr + n) ∧
(∃ (s : State) (addr : Nat) (n : Nat), addr + n ≤ s.dramBytes ∧ s.domainOn 13 = true ∧ s.dram.held = []) ∧
(∃ (s : State) (r : MemReq) (c : Nat) (w : Nat) (bs : List (BitVec 8)) (a : Nat), s.dram.wait = [r] ∧ s.dram.held = [] ∧ s.dram.forced = [] ∧ r.port
      < 7 ∧ r.n = 8 ∧ r.addr = 8 * w ∧ 8 * w < s.dramBytes ∧ c = (s.chanOf (8 * w)).1 ∧ r.write = true ∧ r.data = bs ∧ bs.length = 8 ∧ (a < spaceDram + 8 * w ∨ spaceDram + 8 * w + 8 ≤ a) ∧ a ≠ spaceCheck + w) ∧
(∃ (s : State) (r : MemReq) (c : Nat) (w : Nat), s.dram.wait = [r] ∧ s.dram.held = [] ∧ s.dram.forced = [] ∧ r.port < 7 ∧ r.n = 8 ∧ r.addr = 8 * w ∧
      8 * w < s.dramBytes ∧ c = (s.chanOf (8 * w)).1 ∧ r.write = false ∧ s.checkDiff w = 0) ∧
(∃ (s : State) (r : MemReq) (c : Nat) (w : Nat) (p : Nat) (y : Nat) (d : Nat), s.dram.wait = [r] ∧ s.dram.held = [] ∧ s.dram.forced = [] ∧ r.port < 7
      ∧ r.n = 8 ∧ r.addr = 8 * w ∧ 8 * w < s.dramBytes ∧ c = (s.chanOf (8 * w)).1 ∧ r.write = false ∧ s.eccRead w = (.single p, y, d)) ∧
(∃ (s : State) (r : MemReq) (c : Nat) (w : Nat) (y : Nat) (d : Nat), s.dram.wait = [r] ∧ s.dram.held = [] ∧ s.dram.forced = [] ∧ r.port < 7 ∧ r.n = 8
      ∧ r.addr = 8 * w ∧ 8 * w < s.dramBytes ∧ c = (s.chanOf (8 * w)).1 ∧ r.write = false ∧ s.eccRead w = (.bad, y, d)) ∧
(∃ (s : State) (t : Nat) (r : MemReq), s.dram.wait = [r] ∧ r.promoted = false ∧ (s.is F.DC_PANIC_PANIC = false ∨ r.port ≠ 0) ∧ s.dram.capDue = false
      ∧ r.at_ + max 1 (min 1000 (s.get F.DC_AGING_AGE_LIMIT)) * us < max s.now t) ∧
(∃ (s : State) (t : Nat) (p : Nat), s.dram.panicFrom = some p ∧ p + max 5 (min 1000 (s.get F.DC_AGING_PANIC_MAX)) * us ≤ max s.now t ∧ (∀ r, r ∈
      s.dram.wait → r.promoted = false)) ∧
(∃ (s : State) (t : Nat) (p : Nat) (r : MemReq), s.dram.panicFrom = some p ∧ p + max 5 (min 1000 (s.get F.DC_AGING_PANIC_MAX)) * us ≤ max s.now t ∧
      s.dram.wait.find? (fun r => r.promoted) = some r) ∧
(∃ (s : State) (bank : Nat) (b : _), s.domainOn 13 = true ∧ b = bank % (16 * s.channels) ∧ s.dram.wait = []) ∧
(∃ (s : State) (bank : Nat) (b : _), s.domainOn 13 = true ∧ b = bank % (16 * s.channels) ∧ s.dram.wait ≠ [] ∧ kvGet 0 s.dram.refs b < 8) ∧
(∃ (s : State) (bank : Nat) (b : _), s.domainOn 13 = true ∧ b = bank % (16 * s.channels) ∧ s.dram.wait ≠ [] ∧ 8 ≤ kvGet 0 s.dram.refs b) := by
  refine ⟨
⟨on, 60129542144, 1, by decide⟩,
⟨{ on with dram := { held := [] } }, 0, 0, by decide⟩,
⟨{ on with dram := { wait := [⟨0, true, 0, 8, List.replicate 8 1, 0, false, none⟩], held := [], forced := [] } }, ⟨0, true, 0, 8, List.replicate 8 1,
      0, false, none⟩, _, 0, List.replicate 8 1, 0, by decide, by decide, by decide, by decide, by decide, by decide, by decide, rfl, by decide⟩,
⟨{ on with dram := { wait := [⟨6, false, 0, 8, [], 0, false, none⟩], held := [], forced := [] } }, ⟨6, false, 0, 8, [], 0, false, none⟩, _, 0,
      by decide, by decide, by decide, by decide, by decide, by decide, by decide, rfl, by decide⟩,
⟨{ on with dram := { wait := [⟨6, false, 0, 8, [], 0, false, none⟩], held := [], forced := [] }, mem := [⟨spaceCheck, 1⟩] }, ⟨6, false, 0, 8, [], 0,
      false, none⟩, _, 0, _, _, _, by decide, by decide, by decide, by decide, by decide, by decide, by decide, rfl, by decide, rfl⟩,
⟨{ on with dram := { wait := [⟨6, false, 0, 8, [], 0, false, none⟩], held := [], forced := [] }, mem := [⟨spaceCheck, 3⟩] }, ⟨6, false, 0, 8, [], 0,
      false, none⟩, _, 0, _, _, by decide, by decide, by decide, by decide, by decide, by decide, by decide, rfl, by decide, rfl⟩,
⟨{ on with dram := { wait := [⟨6, false, 0, 8, [], 0, false, none⟩], capDue := false } }, 1000000000000000000, ⟨6, false, 0, 8, [], 0, false, none⟩,
      by decide⟩,
⟨{ on with dram := { panicFrom := some 0 } }, 1000000000000000000, _, rfl, by decide⟩,
⟨{ on with dram := { panicFrom := some 0, wait := [⟨6, false, 0, 8, [], 0, true, none⟩] } }, 1000000000000000000, _, ⟨6, false, 0, 8, [], 0, true,
      none⟩, rfl, by decide⟩,
⟨{ on with dram := { wait := [] } }, 0, _, by decide, rfl, by decide⟩,
⟨{ on with dram := { wait := [⟨6, false, 0, 8, [], 0, true, none⟩], refs := [(0, 7)] } }, 0, _, by decide, rfl, by decide⟩,
⟨{ on with dram := { wait := [⟨6, false, 0, 8, [], 0, true, none⟩], refs := [(0, 8)] } }, 0, _, by decide, rfl, by decide⟩⟩

theorem witness_OneFlipCorrectedTwoReported : ∃ (s : State) (w : Nat) (b : Nat) (c : Nat), 8 * w < s.dramBytes ∧ s.checkDiff w = 0 ∧ b < 72 ∧ c < 72
      ∧ c ≠ b :=
⟨on, 0, 71, 0, by decide⟩

theorem witness_MemoryCare :
(∃ (s : State) (a : Nat), s.domainOn 13 = true ∧ a = s.patrolAddr 8192 s.dram.patrol ∧ a < s.dramBytes ∧ s.checkDiff (a / 8) = 0 ∧ s.patrolAddr 8192
      (a + 8) < s.dramBytes) ∧
(∃ (s : State) (a : Nat), s.domainOn 13 = true ∧ a = s.patrolAddr 8192 s.dram.patrol ∧ a < s.dramBytes ∧ s.checkDiff (a / 8) = 0 ∧ s.dramBytes ≤
      s.patrolAddr 8192 (a + 8)) ∧
(∃ (s : State) (loc : Nat), s.domainOn 13 = true ∧ s.dram.sramLoc < loc) ∧
(∃ (s : State) (b : Nat), s.domainOn 13 = true ∧ b < 39) ∧
(∃ (s : State) (y : Nat) (z : Nat), s.domainOn 13 = true ∧ (∀ i, i < 8 → (s.eng (8 * y + i)).run = none) ∧ z ≠ y) ∧
(∃ (s : State) (x : Bool × Nat × Nat) (rest : List (Bool × Nat × Nat)) (a : Nat), s.domainOn 13 = true ∧ s.dram.logDue = x :: rest ∧ (a < spaceNvm +
      (s.nvmMib - 1) * 2 ^ 20 + 64 * (s.bt.evlog.length % 16384) ∨ spaceNvm + (s.nvmMib - 1) * 2 ^ 20 + 64 * (s.bt.evlog.length % 16384) + 64 ≤ a)) ∧
(∃ (s : State) (v : Nat) (c : _) (w : _) (a : Nat) (d : _) (e : Ecc), s.domainOn 13 = true ∧ s.is F.EC_TEST_CTRL_BUSY = false ∧ c = v / 65536 % 2 ^
      F.EC_TEST_CTRL_CHANNEL.width ∧ w = v / 8 % 2 ^ F.EC_TEST_CTRL_WORD.width ∧ c < s.channels ∧ a = spaceTest + 8192 * c + 16 * w ∧ d = s.get F.EC_TEST_DATA_LO_DATA + 2 ^ 32 * s.get F.EC_TEST_DATA_HI_DATA ∧ e = eccOf 128 71 (syndromeOf ((s.rdByte (a + 8)).toNat ^^^ checkByte (s.rdLE a 8))) ∧ e = .clean) ∧
(∃ (s : State) (v : Nat) (i : _) (x : Suspect), s.domainOn 13 = true ∧ i = v % 2 ^ F.EC_SUSPECT_SEL_INDEX.width ∧ s.dram.suspects[i]? = some x) ∧
(∃ (s : State) (v : Nat) (c : _) (w : _) (a : Nat) (d : _) (e : Ecc) (b : Nat), s.domainOn 13 = true ∧ s.is F.EC_TEST_CTRL_BUSY = false ∧ c = v /
      65536 % 2 ^ F.EC_TEST_CTRL_CHANNEL.width ∧ w = v / 8 % 2 ^ F.EC_TEST_CTRL_WORD.width ∧ c < s.channels ∧ a = spaceTest + 8192 * c + 16 * w ∧ d = s.get F.EC_TEST_DATA_LO_DATA + 2 ^ 32 * s.get F.EC_TEST_DATA_HI_DATA ∧ e = eccOf 128 71 (syndromeOf ((s.rdByte (a + 8)).toNat ^^^ checkByte (s.rdLE a 8))) ∧ b < 64 ∧ e = .single ((dataPositions 71).getD b 0)) := by
  refine ⟨
⟨on, _, by decide, rfl, by decide, rfl, by decide⟩,
⟨{ on with dram := { patrol := 60129542136 } }, _, by decide, rfl, by decide, rfl, by decide⟩,
⟨on, 1, by decide⟩,
⟨on, 0, by decide⟩,
⟨on, 0, 1, by decide, fun _ _ => rfl, by decide⟩,
⟨{ on with dram := { logDue := (false, 0, 0) :: [] } }, (false, 0, 0), [], 0, by decide⟩,
⟨at_ [(F.EC_TEST_CTRL_BUSY, 0)], 0, _, _, _, _, .clean, by decide, by decide, rfl, rfl, by decide, rfl, rfl, by decide⟩,
⟨{ on with dram := { suspects := [⟨false, 0, 0, true, 0, 0, none, 0⟩] } }, 0, _, ⟨false, 0, 0, true, 0, 0, none, 0⟩, by decide, rfl, rfl⟩,
⟨{ at_ [(F.EC_TEST_CTRL_BUSY, 0)] with mem := [⟨spaceTest, 1⟩] }, 0, _, _, _, _, .single 3, 0, by decide, by decide, rfl, rfl, by decide, rfl, rfl,
      by decide⟩⟩

theorem witness_FramesFlow :
(∃ (s : State) (f : Frame) (rest : List Frame), s.built = f :: rest ∧ s.out.disc.contains f.stream = true) ∧
(∃ (s : State) (f : Frame) (rest : List Frame) (coded : _) (p : Nat), s.built = f :: rest ∧ s.out.disc.contains f.stream = false ∧ coded = codeArray
      (s.modeOf f).1 (s.modeOf f).2 f ∧ s.slotReady = true ∧ (f.aux = true ∨ s.sided = false) ∧ s.room 0 ((frameLen coded f + 63) / 64 * 64) = some
      p) ∧
(∃ (s : State) (f : Frame) (rest : List Frame) (coded : _), s.built = f :: rest ∧ s.out.disc.contains f.stream = false ∧ coded = codeArray (s.modeOf
      f).1 (s.modeOf f).2 f ∧ s.slotReady = false ∧ f.aux = false ∧ s.room 1 ((frameLen coded f + 63) / 64 * 64) = none ∧ rest = []) ∧
(∃ (s : State) (p : Placed) (slot : Nat) (k : Nat), s.nextPost = some p ∧ slot = s.get F.HW_RING_NEXT_SLOT ∧ s.owns slot = true ∧ k ≠ slot) ∧
(∃ (s : State) (slot : Nat) (k : Nat), s.domainOn 13 = true ∧ slot < s.get F.HW_RING_SIZE_SIZE ∧ s.owns slot = false ∧ k ≠ slot) ∧
(∃ (s : State), s.domainOn 14 = true) ∧
(∃ (s : State) (slot : Nat) (p : Placed), s.domainOn 13 = true ∧ slot < s.get F.HW_RING_SIZE_SIZE ∧ s.owns slot = false ∧ p.slot = some slot) := by
  refine ⟨
⟨{ on with out := { disc := [0] }, built := [demoFrame] }, demoFrame, [], by decide⟩,
⟨{ on with built := [{ demoFrame with stream := 256 }] }, { demoFrame with stream := 256 }, [], _, 0, by decide, by decide, rfl, by decide, .inl rfl,
      by decide +kernel⟩,
⟨{ at_ [(F.HW_RING_SIZE_SIZE, 0), (F.CX_CFG_SIDINGS, 0)] with built := [demoFrame] }, demoFrame, [], _, by decide, by decide, rfl, by decide⟩,
⟨{ on with out := { placed := [⟨0, 0, 64, 0, 1, none, false⟩] } }, ⟨0, 0, 64, 0, 1, none, false⟩, _, 1, by decide, rfl, rfl, by decide⟩,
⟨{ on with out := { ring := [(0, { control := 0 })] } }, 0, 1, by decide⟩,
⟨on, by decide⟩,
⟨{ on with out := { ring := [(0, { control := 0 })] } }, 0, ⟨0, 0, 64, 0, 1, some 0, false⟩, by decide⟩⟩

theorem witness_DiscardsSealsAndScans :
(∃ (s : State) (t : Nat) (k : Nat), (s.advance t).joinDue = true ∧ s.sectionOrder.find? (fun k => !s.out.disc.contains k) = some k) ∧
(∃ (s : State) (t : Nat) (k : Nat) (ks : List Nat) (u0 : Nat), s.out.disc = k :: ks ∧ s.out.freeAt = some u0 ∧ s.is F.CX_STATUS_BLOCKED = false ∧ max
      u0 s.out.discAt + max 1 (s.get F.FB_SHED_CFG_HOLD) * ms ≤ max s.now t) ∧
(∃ (s : State) (x : SealSecond) (rest : List SealSecond), s.out.due = x :: rest ∧ (s.unposted.filter (fun p => p.area == 5)).length < 64) ∧
(∃ (s : State) (n : Nat), s.domainOn 14 = true ∧ n < 4 ∧ s.get (F.CK_CTRL_MODE n) ≠ 1 ∧ s.is (F.CK_CTRL_BUSY n) = false ∧ s.scanRefusal n = 0) ∧
(∃ (s : State) (n : Nat), s.domainOn 14 = true ∧ n < 4 ∧ s.get (F.CK_CTRL_MODE n) ≠ 1 ∧ s.is (F.CK_CTRL_BUSY n) = false ∧ s.scanRefusal n ≠ 0) ∧
(∃ (s : State) (n : Nat) (w : Nat), n < 4 ∧ s.is (F.CK_CTRL_BUSY n) = true ∧ w = s.get (F.CK_FMT_WIDTH n)) := by
  refine ⟨
⟨{ at_ [(F.BS_COUNT_SECTIONS, 1), (F.FB_SHED_POS_RUNGS, 3)] with out := { blockedAt := some 0 } }, 1000000000000000000, _, by decide, rfl⟩,
⟨{ at_ [(F.CX_STATUS_BLOCKED, 0)] with out := { disc := 0 :: [], freeAt := some 0 } }, 1000000000000000000, 0, [], _, by decide, rfl, by decide⟩,
⟨{ on with out := { due := {} :: [] } }, {}, [], by decide⟩,
⟨at_ [(F.CK_CTRL_MODE 0, 2), (F.CK_CTRL_BUSY 0, 0)], 0, by decide⟩,
⟨at_ [(F.CK_CTRL_MODE 0, 2), (F.CK_CTRL_BUSY 0, 0), ((F.CK_FMT_WIDTH 0), 7)], 0, by decide⟩,
⟨at_ [(F.CK_CTRL_BUSY 0, 1)], 0, _, by decide, by decide, rfl⟩⟩

theorem witness_HostLink :
(∃ (s : State) (v : Nat), s.domainOn 14 = true ∧ indexOk (s.get F.HW_NB_WR_COUNT) (s.get F.HW_NB_RD_COUNT) (v % 2 ^ 32) = true) ∧
(∃ (s : State) (v : Nat), s.domainOn 14 = true ∧ indexOk (s.get F.HW_NB_WR_COUNT) (s.get F.HW_NB_RD_COUNT) (v % 2 ^ 32) = false) ∧
(∃ (s : State) (t : Nat) (t0 : _), s.domainOn 14 = true ∧ s.Settled ∧ s.ev.oldest = some t0 ∧ s.get F.HW_IRQ_CFG_USEC ≠ 0 ∧ t0 + s.get
      F.HW_IRQ_CFG_USEC * us ≤ max s.now t ∧ s.ev.masked.testBit 0 = false ∧ (s.get F.HW_IRQ_PEND_PEND).testBit 0 = false) ∧
(∃ (s : State) (v : Nat) (b : Nat), s.domainOn 14 = true ∧ s.Settled ∧ v < 32 ∧ b < 32 ∧ b ≠ v) ∧
(∃ (s : State), s.domainOn 14 = true ∧ s.is F.HW_LINK_UP = true) ∧
(∃ (s : State), s.domainOn 14 = true ∧ s.is F.HW_LINK_UP = false) := by
  refine ⟨
⟨on, 0, by decide⟩,
⟨on, 1, by decide⟩,
⟨{ at_ [(F.HW_IRQ_CFG_USEC, 1)] with ev := { oldest := some 0, masked := 0xFFFFFFFE } }, 1000000000000000000, _, by decide, ⟨by decide, by decide,
      by decide, by decide⟩, rfl, by decide⟩,
⟨on, 31, 0, by decide, ⟨by decide, by decide, by decide, by decide⟩, by decide⟩,
⟨at_ [(F.HW_LINK_UP, 1)], by decide⟩,
⟨at_ [(F.HW_LINK_UP, 0)], by decide⟩⟩

theorem witness_TimeReferences :
(∃ (s : State), s.ownRef = true ∧ s.is F.TB_STATUS_REF_QUAL = false) ∧
(∃ (s : State), s.ownRef = true ∧ s.is F.TB_STATUS_REF_QUAL = true) ∧
(∃ (s : State) (t : Nat) (e : _), s.ownRef = true ∧ e = phaseError (divRound ((s.count (max s.now t) : Int) * 10 - s.getS F.TB_PPS_CFG_IN_COMP *
      65536) 10) ∧ s.get F.TB_STATUS_TIME_STATE = 1 ∧ us < e.natAbs ∧ s.tref.glitches < 2) ∧
(∃ (s : State) (t : Nat) (g : _), s.ownRef = true ∧ s.is F.TB_STATUS_PPS_QUAL = true ∧ s.tref.goodAt = some g ∧ g + 1100 * ms ≤ t ∧ s.tref.run.length
      < 4) ∧
(∃ (s : State) (t : Nat) (e : _), s.ownRef = true ∧ e = phaseError (divRound ((s.count (max s.now t) : Int) * 10 - s.getS F.TB_PPS_CFG_IN_COMP *
      65536) 10) ∧ s.is F.TB_STATUS_PPS_QUAL = true ∧ s.get F.TB_STATUS_TIME_STATE = 1 ∧ e.natAbs ≤ 10 * ns) ∧
(∃ (s : State) (t : Nat) (e : _), s.ownRef = true ∧ e = phaseError (divRound ((s.count (max s.now t) : Int) * 10 - s.getS F.TB_PPS_CFG_IN_COMP *
      65536) 10) ∧ s.is F.TB_STATUS_PPS_QUAL = true ∧ s.get F.TB_STATUS_TIME_STATE = 1 ∧ 10 * ns < e.natAbs ∧ e.natAbs ≤ us) ∧
(∃ (s : State) (t : Nat) (e : _), s.ownRef = true ∧ e = phaseError (divRound ((s.count (max s.now t) : Int) * 10 - s.getS F.TB_PPS_CFG_IN_COMP *
      65536) 10) ∧ s.is F.TB_STATUS_PPS_QUAL = true ∧ s.get F.TB_STATUS_TIME_STATE = 3 ∧ s.tref.small = 2 ∧ e.natAbs ≤ 10 * ns) ∧
(∃ (s : State) (t : Nat) (e : _) (p : Nat) (q : Nat) (r : Nat), s.ownRef = true ∧ e = phaseError (divRound ((s.count (max s.now t) : Int) * 10 -
      s.getS F.TB_PPS_CFG_IN_COMP * 65536) 10) ∧ s.is F.TB_STATUS_PPS_QUAL = false ∧ s.get F.TB_STATUS_TIME_STATE = 0 ∧ s.tref.run = [p, q, r] ∧
      ((max s.now t : Nat) - (p : Int) - (1000 * ms : Nat)).natAbs ≤ us) := by
  refine ⟨
⟨at_ [(F.TB_STATUS_REF_QUAL, 0)], by decide⟩,
⟨at_ [(F.TB_STATUS_REF_QUAL, 1)], by decide⟩,
⟨at_ [(F.TB_STATUS_TIME_STATE, 1)], 131072000, _, by decide, rfl, by decide⟩,
⟨{ at_ [(F.TB_STATUS_PPS_QUAL, 1)] with tref := { goodAt := some 0 } }, 1000000000000000000, _, by decide, by decide, rfl, by decide⟩,
⟨at_ [(F.TB_STATUS_PPS_QUAL, 1), (F.TB_STATUS_TIME_STATE, 1)], 0, _, by decide, rfl, by decide⟩,
⟨at_ [(F.TB_STATUS_PPS_QUAL, 1), (F.TB_STATUS_TIME_STATE, 1)], 6553600, _, by decide, rfl, by decide⟩,
⟨{ at_ [(F.TB_STATUS_PPS_QUAL, 1), (F.TB_STATUS_TIME_STATE, 3)] with tref := { small := 2 } }, 0, _, by decide, rfl, by decide⟩,
⟨{ at_ [(F.TB_STATUS_PPS_QUAL, 0), (F.TB_STATUS_TIME_STATE, 0)] with tref := { run := [0, 1, 2] } }, 65536000000000, _, 0, 1, 2, by decide, rfl,
      by decide⟩⟩

theorem witness_SecondsAndEpochs :
(∃ (s : State) (t : Nat) (r : _), s.domainOn 2 = true ∧ s.tref.ppsRise = some r ∧ r + max 1 (min 500 (s.get F.TB_PPS_CFG_OUT_WIDTH)) * ms ≤ t) ∧
(∃ (s : State) (r : ReadAt) (c : _), s.domainOn 2 = true ∧ c = stampOf (s.count (max s.now r.at_))) ∧
(∃ (s : State) (v : Nat), s.domainOn 2 = true ∧ v.testBit 31 = true ∧ s.get F.FL_STATUS_ID ≠ 0) ∧
(∃ (s : State) (v : Nat), s.domainOn 2 = true ∧ v.testBit 31 = true ∧ s.get F.FL_STATUS_ID = 0) ∧
(∃ (s : State) (v : Nat), s.domainOn 2 = true ∧ v.testBit 31 = false) := by
  refine ⟨
⟨{ on with tref := { ppsRise := some 0 } }, 1000000000000000000, _, by decide, rfl, by decide⟩,
⟨on, ⟨0, 15⟩, _, by decide, rfl⟩,
⟨at_ [(F.FL_STATUS_ID, 1)], 0x80000000, by decide⟩,
⟨at_ [(F.FL_STATUS_ID, 0)], 0x80000000, by decide⟩,
⟨on, 0, by decide⟩⟩

theorem witness_EventInputs :
(∃ (s : State) (t : Nat), s.domainOn 2 = true ∧ (∀ x, s.tref.trigAt = some x → x + max 10 (s.get F.TB_TRIG_CFG_HOLDOFF) * (10 * ns) ≤ max s.now t)) ∧
(∃ (s : State) (t : Nat) (x : Nat), s.domainOn 2 = true ∧ s.tref.trigAt = some x ∧ max s.now t < x + max 10 (s.get F.TB_TRIG_CFG_HOLDOFF) * (10 *
      ns)) ∧
(∃ (s : State) (n : Nat) (fall : Bool), s.domainOn 2 = true ∧ n < 8 ∧ s.edgeWanted n fall = false) ∧
(∃ (s : State) (n : Nat) (fall : Bool) (m : Nat), s.domainOn 2 = true ∧ n < 8 ∧ s.edgeWanted n fall = true ∧ m ≠ n) ∧
(∃ (s : State) (t : Nat) (n : Nat), s.domainOn 2 = true ∧ n < 8 ∧ s.is (F.TB_EVT_CFG_EN n) = true ∧ s.get (F.TB_EVT_CFG_TMO n) ≠ 0 ∧ (s.evIn
      n).silent = false ∧ (s.evIn n).from_ + s.get (F.TB_EVT_CFG_TMO n) * ms ≤ t) ∧
(∃ (s : State) (n : Nat), s.domainOn 2 = true ∧ n < 8 ∧ (s.evIn n).queue = []) ∧
(∃ (s : State) (n : Nat) (e : EvtEntry) (rest : List EvtEntry), s.domainOn 2 = true ∧ n < 8 ∧ (s.evIn n).queue = e :: rest ∧ e.count < 65536) ∧
(∃ (s : State) (t : Nat) (n : Nat) (fall : Bool) (x : Nat), s.domainOn 2 = true ∧ n < 8 ∧ s.edgeWanted n fall = true ∧ (s.evIn n).last = some x ∧ max
      s.now t < x + (if n < 2 then 4 * ns else 10 * ns)) ∧
(∃ (s : State) (t : Nat) (n : Nat) (fall : Bool), s.domainOn 2 = true ∧ n < 8 ∧ s.edgeWanted n fall = true ∧ (∀ x, (s.evIn n).last = some x → x + (if
      n < 2 then 4 * ns else 10 * ns) ≤ max s.now t) ∧ (s.evIn n).queue.length < 1024) ∧
(∃ (s : State) (t : Nat) (n : Nat) (fall : Bool), s.domainOn 2 = true ∧ n < 8 ∧ s.edgeWanted n fall = true ∧ (∀ x, (s.evIn n).last = some x → x + (if
      n < 2 then 4 * ns else 10 * ns) ≤ max s.now t) ∧ 1024 ≤ (s.evIn n).queue.length) := by
  refine ⟨
⟨at_ [((F.TB_EVT_CFG_EN 0), 1)], 1000000000000000000, by decide⟩,
⟨{ at_ [((F.TB_EVT_CFG_EN 0), 1)] with tref := { trigAt := some 0 } }, 0, _, by decide, rfl, by decide⟩,
⟨at_ [((F.TB_EVT_CFG_EN 0), 1)], 0, true, by decide⟩,
⟨at_ [((F.TB_EVT_CFG_EN 0), 1)], 0, false, 1, by decide⟩,
⟨at_ [(F.TB_EVT_CFG_EN 0, 1), (F.TB_EVT_CFG_TMO 0, 1), ((F.TB_EVT_CFG_EN 0), 1)], 1000000000000000000, 0, by decide⟩,
⟨at_ [((F.TB_EVT_CFG_EN 0), 1)], 0, by decide⟩,
⟨{ at_ [((F.TB_EVT_CFG_EN 0), 1)] with evt := [(0, { queue := [⟨0, false, false, false, 65535⟩] })] }, 0, ⟨0, false, false, false, 65535⟩, [],
      by decide⟩,
⟨{ at_ [((F.TB_EVT_CFG_EN 0), 1)] with evt := [(0, { last := some 10 })] }, 11, 0, false, 10, by decide⟩,
⟨at_ [((F.TB_EVT_CFG_EN 0), 1)], 1000000000000000000, 0, false, by decide, by decide, by decide, nofun, by decide⟩,
⟨{ at_ [((F.TB_EVT_CFG_EN 0), 1)] with evt := [(0, { queue := List.replicate 1024 ⟨0, false, false, false, 0⟩ })] }, 1000000000000000000, 0, false,
      by decide, by decide, by decide, nofun, Nat.le_of_eq List.length_replicate.symm⟩⟩

theorem witness_InputStatistics :
(∃ (s : State) (n : Nat) (v : Nat), s.domainOn 2 = true ∧ n < 8 ∧ v.testBit 31 = true) ∧
(∃ (s : State) (n : Nat) (m : Meas) (d : Int), s.domainOn 2 = true ∧ n < 8 ∧ (s.evIn n).meas = some m ∧ s.get (F.TB_STAT_CFG_MODE n) = 1 ∧
      m.deltas.length = max 1 (s.get (F.TB_STAT_CFG_PARAM n)) ∧ d ∈ m.deltas) ∧
(∃ (s : State) (n : Nat) (m : Meas), s.domainOn 2 = true ∧ n < 8 ∧ (s.evIn n).meas = some m ∧ s.get (F.TB_STAT_CFG_MODE n) = 1 ∧ m.deltas.length =
      max 1 (s.get (F.TB_STAT_CFG_PARAM n)) ∧ (s.evIn n).latched = false) ∧
(∃ (s : State) (n : Nat) (m : Meas), s.domainOn 2 = true ∧ n < 8 ∧ (s.evIn n).meas = some m ∧ s.get (F.TB_STAT_CFG_MODE n) = 1 ∧ m.deltas.length =
      max 1 (s.get (F.TB_STAT_CFG_PARAM n)) ∧ (s.evIn n).latched = true) := by
  refine ⟨
⟨{ at_ [((F.TB_STAT_CFG_PARAM 0), 1)] with evt := [(0, { meas := some { deltas := [5] } })] }, 0, 0x80000000, by decide⟩,
⟨{ at_ [(F.TB_STAT_CFG_MODE 0, 1), ((F.TB_STAT_CFG_PARAM 0), 1)] with evt := [(0, { meas := some { deltas := [5] } })] }, 0, { deltas := [5] }, 5,
      by decide⟩,
⟨{ at_ [(F.TB_STAT_CFG_MODE 0, 1), ((F.TB_STAT_CFG_PARAM 0), 1)] with evt := [(0, { meas := some { deltas := [5] } })] }, 0, { deltas := [5] },
      by decide⟩,
⟨{ at_ [(F.TB_STAT_CFG_MODE 0, 1), ((F.TB_STAT_CFG_PARAM 0), 1)] with evt := [(0, { meas := some { deltas := [5] }, latched := true })] }, 0,
      { deltas := [5] }, by decide⟩⟩

theorem witness_ArrayPorts :
(∃ (s : State) (port : Nat), s.domainOn 15 = true ∧ port < 2 ∧ s.portUp port = false) ∧
(∃ (s : State) (port : Nat), s.domainOn 15 = true ∧ port < 2 ∧ s.portUp port = true ∧ (s.get F.FL_STATUS_ID = 0 ∨ s.get F.FL_STATUS_SRC_PORT ≠ port))
      ∧
(∃ (s : State) (src : Nat), s.get F.FL_STATUS_ID ≠ 0 ∧ s.get F.FL_STATUS_TOPOLOGY = 2 ∧ s.get F.FL_STATUS_SRC_PORT = src ∧ src < 2 ∧ s.portUp src =
      false ∧ s.portUp (1 - src) = true) ∧
(∃ (s : State) (t : Nat) (t0 : _) (d : Nat), s.domainOn 15 = true ∧ s.pw.startAt = some t0 ∧ t0 + 500 * ms ≤ t ∧ s.portUp 0 = false ∧ s.portUp 1 =
      false ∧ d < 15) ∧
(∃ (s : State) (id : Nat), s.domainOn 15 = true ∧ s.fl.numbered = false ∧ id < 8) ∧
(∃ (s : State) (port : _), s.domainOn 15 = true ∧ port < 2 ∧ s.portUp port = true ∧ s.get F.FL_STATUS_ID ≠ 0 ∧ s.get F.FL_STATUS_SRC_PORT = port) ∧
(∃ (s : State) (id : Nat), s.domainOn 15 = true ∧ s.fl.numbered = false ∧ 8 ≤ id) := by
  refine ⟨
⟨on, 0, by decide⟩,
⟨at_ [(F.FL_STATUS_DOWN_LINK, 1)], 1, by decide⟩,
⟨at_ [(F.FL_STATUS_ID, 1), (F.FL_STATUS_TOPOLOGY, 2), (F.FL_STATUS_DOWN_LINK, 1)], _, by decide, by decide, rfl, by decide, rfl, rfl⟩,
⟨{ on with pw := { startAt := some 0 } }, 1000000000000000000, _, 0, by decide, rfl, by decide⟩,
⟨{ on with fl := { numbered := false } }, 0, by decide⟩,
⟨at_ [(F.FL_STATUS_ID, 1), (F.FL_STATUS_UP_LINK, 1)], _, by decide, by decide, rfl, by decide, rfl⟩,
⟨{ on with fl := { numbered := false } }, 8, by decide⟩⟩

theorem witness_ArrayTime :
(∃ (s : State) (port : Nat) (t1 : Int) (t2 : Int) (t3 : Int) (t4 : Int) (d : _), s.domainOn 15 = true ∧ port < 2 ∧ s.portUp port = true ∧ d =
      divRound (((t4 - t1) - (t3 - t2)) * 1000) 131072 ∧ (s.get F.FL_STATUS_ID = 0 ∨ s.get F.FL_STATUS_SRC_PORT ≠ port)) ∧
(∃ (s : State) (t : Nat) (t0 : _), s.fl.beyondFrom = some t0 ∧ t0 + 100 * ms ≤ t ∧ s.ev.conds.any (fun c => c.1 == 0x0C06) = false) ∧
(∃ (s : State) (port : _) (t1 : Int) (t2 : Int) (t3 : Int) (t4 : Int) (d : _) (theta : _), s.domainOn 15 = true ∧ port < 2 ∧ s.portUp port = true ∧ d
      = divRound (((t4 - t1) - (t3 - t2)) * 1000) 131072 ∧ theta = divRound ((t2 - t1) * 2000 - ((t4 - t1) - (t3 - t2)) * 1000 + (if port = 0 then s.getS F.FL_ASYM_UP_A else s.getS F.FL_ASYM_DOWN_A) * 65536) 131072 ∧ s.get F.FL_STATUS_ID ≠ 0 ∧ s.get F.FL_STATUS_SRC_PORT = port ∧ s.get F.TB_STATUS_TIME_STATE = 0 ∧ s.fl.thetas = []) ∧
(∃ (s : State) (port : _) (t1 : Int) (t2 : Int) (t3 : Int) (t4 : Int) (d : _) (theta : _), s.domainOn 15 = true ∧ port < 2 ∧ s.portUp port = true ∧ d
      = divRound (((t4 - t1) - (t3 - t2)) * 1000) 131072 ∧ theta = divRound ((t2 - t1) * 2000 - ((t4 - t1) - (t3 - t2)) * 1000 + (if port = 0 then s.getS F.FL_ASYM_UP_A else s.getS F.FL_ASYM_DOWN_A) * 65536) 131072 ∧ s.get F.FL_STATUS_ID ≠ 0 ∧ s.get F.FL_STATUS_SRC_PORT = port ∧ s.get F.TB_STATUS_TIME_STATE ≠ 0) := by
  refine ⟨
⟨at_ [(F.FL_STATUS_UP_LINK, 1)], 0, 0, 0, 0, 0, _, by decide, by decide, by decide, rfl, by decide⟩,
⟨{ at_ [(F.FL_STATUS_UP_LINK, 1)] with fl := { beyondFrom := some 0 } }, 1000000000000000000, _, rfl, by decide⟩,
⟨{ at_ [(F.FL_STATUS_ID, 1), (F.TB_STATUS_TIME_STATE, 0), (F.FL_STATUS_UP_LINK, 1)] with fl := { thetas := [] } }, _, 0, 0, 0, 0, _, _, by decide,
      by decide, rfl, rfl, rfl, by decide, rfl, by decide⟩,
⟨at_ [(F.FL_STATUS_ID, 1), (F.TB_STATUS_TIME_STATE, 1), (F.FL_STATUS_UP_LINK, 1)], _, 0, 0, 0, 0, _, _, by decide, by decide, rfl, rfl, rfl,
      by decide, rfl, by decide⟩⟩

theorem witness_ArrayMessages :
(∃ (s : State) (seq : Nat) (sender : Nat), s.domainOn 15 = true ∧ s.firstCopy sender seq = true) ∧
(∃ (s : State) (seq : Nat) (sender : Nat), s.firstCopy sender seq = false) ∧
(∃ (s : State) (seq : Nat) (index : _), s.domainOn 15 = true ∧ s.firstCopy 0 seq = true ∧ s.sw.lead = none ∧ index % 4 ≠ s.activeIndex) ∧
(∃ (s : State) (seq : Nat) (r : _), s.domainOn 15 = true ∧ s.firstCopy 0 seq = true ∧ s.sw.lead = some r ∧ s.sw.queued = none) ∧
(∃ (s : State) (seq : Nat) (r : _) (q : _), s.domainOn 15 = true ∧ s.firstCopy 0 seq = true ∧ s.sw.lead = some r ∧ s.sw.queued = some q) ∧
(∃ (s : State) (m : Nat), s.get F.FL_STATUS_ID = 0 ∧ 0 < m ∧ m ≤ s.get F.FL_STATUS_COUNT ∧ s.fl.origin = none ∧ s.is F.SB_STATUS_COMMITTED = true) ∧
(∃ (s : State) (m : Nat) (r : _), s.get F.FL_STATUS_ID = 0 ∧ 0 < m ∧ m ≤ s.get F.FL_STATUS_COUNT ∧ s.sw.lead = some r ∧ s.sw.queued = none) := by
  refine ⟨
⟨on, 0, 1, by decide⟩,
⟨on, 0, 0, by decide⟩,
⟨at_ [(F.FL_STATUS_ID, 1)], 1, 2, by decide⟩,
⟨{ at_ [(F.FL_STATUS_ID, 1)] with sw := { lead := some ⟨1, 0, 0, none⟩ } }, 1, ⟨1, 0, 0, none⟩, by decide⟩,
⟨{ at_ [(F.FL_STATUS_ID, 1)] with sw := { lead := some ⟨1, 0, 0, none⟩, queued := some ⟨2, 0, 0, none⟩ } }, 1, ⟨1, 0, 0, none⟩, ⟨2, 0, 0, none⟩,
      by decide⟩,
⟨{ at_ [(F.FL_STATUS_ID, 0), (F.SB_STATUS_COMMITTED, 1), (F.FL_STATUS_COUNT, 7)] with fl := { origin := none } }, 7, by decide⟩,
⟨{ at_ [(F.FL_STATUS_COUNT, 1)] with sw := { lead := some ⟨1, 0, 0, none⟩ } }, 1, ⟨1, 0, 0, none⟩, by decide⟩⟩

theorem witness_InputsFallSilent :
(∃ (s : State) (t : Nat) (n : Nat), s.domainOn 2 = true ∧ n < 8 ∧ s.is (F.TB_EVT_CFG_EN n) = true ∧ s.get (F.TB_EVT_CFG_TMO n) ≠ 0 ∧ (s.evIn
      n).silent = false ∧ (s.evIn n).from_ + s.get (F.TB_EVT_CFG_TMO n) * ms ≤ max s.now t ∧ s.Settled ∧ s.ev.placed = true ∧ s.ev.lostDue = 0 ∧ s.nbOccupancy < s.get F.HW_NB_SIZE_SIZE) ∧
(∃ (s : State) (t : Nat) (n : Nat), s.domainOn 2 = true ∧ n < 8 ∧ ((s.evIn n).silent = true ∨ s.get (F.TB_EVT_CFG_TMO n) = 0 ∨ s.is (F.TB_EVT_CFG_EN
      n) = false ∨ max s.now t < (s.evIn n).from_ + s.get (F.TB_EVT_CFG_TMO n) * ms)) ∧
(∃ (s : State) (n : Nat) (fall : Bool), s.domainOn 2 = true ∧ n < 8 ∧ s.edgeWanted n fall = true) ∧
(∃ (s : State) (n : Nat) (v : Nat), s.domainOn 2 = true ∧ n < 8 ∧ s.is F.SB_STATUS_COMMITTED = false ∧ s.is (F.TB_EVT_CFG_EN n) = false ∧ v.testBit
      31 = true) := by
  refine ⟨
⟨{ at_ [(F.TB_EVT_CFG_EN 0, 1), (F.TB_EVT_CFG_TMO 0, 1)] with ev := { placed := true, lostDue := 0 } }, 1000000000000000000, 0, by decide, by decide,
      by decide, by decide, by decide, by decide, ⟨by decide, by decide, by decide, by decide⟩, by decide⟩,
⟨on, 0, 0, by decide⟩,
⟨at_ [((F.TB_EVT_CFG_EN 0), 1)], 0, false, by decide⟩,
⟨at_ [(F.SB_STATUS_COMMITTED, 0), (F.TB_EVT_CFG_EN 0, 0)], 0, 0x80000000, by decide⟩⟩

theorem witness_ShutdownTests :
(∃ (s : State) (t : Nat) (lane : Nat) (u : Nat) (a : Nat) (t0 : Nat) (f : UnitFail), s.slice? lane = some (u, a) ∧ s.bt.testFrom = some t0 ∧ max
      s.now t ≤ a + 2 * unitBudget u * ms ∧ max s.now t ≤ t0 + s.get F.SB_SHUTDOWN_BUDGET * 1000 * ms ∧ f.addrs = [] ∧ s.bt.work.fails.length < 256) ∧
(∃ (s : State) (t : Nat) (lane : Nat) (u : Nat) (a : Nat), s.slice? lane = some (u, a) ∧ a + 2 * unitBudget u * ms ≤ t ∧ s.bt.work.fails.length <
      256) ∧
(∃ (s : State) (t : Nat) (x : Shutdown), s.pw.shut = some x ∧ (s.advance t).journalDue x = true ∧ x.then_ = 0 ∧ s.domainOn 0 = true ∧ s.domainOn 2 =
      true ∧ x.target = 3) ∧
(∃ (s : State) (t : Nat) (x : Shutdown), s.pw.shut = some x ∧ (s.advance t).journalDue x = true ∧ x.then_ = 0 ∧ s.domainOn 0 = true ∧ s.domainOn 2 =
      true ∧ x.target = 1) := by
  refine ⟨
⟨{ on with bt := { testFrom := some 0, plan := [(0, ([5], 0))] } }, 0, 0, 5, 0, _, ⟨5, 0, []⟩, by decide, rfl, by decide⟩,
⟨{ on with bt := { plan := [(0, ([5], 0))], testFrom := some 0 } }, 1000000000000000000, 0, 5, 0, by decide⟩,
⟨{ on with pw := { shut := some ⟨3, 0, false, 3, 0⟩ }, bt := { plan := [], testFrom := some 0 } }, 0, ⟨3, 0, false, 3, 0⟩, by decide⟩,
⟨{ on with pw := { shut := some ⟨1, 0, false, 3, 0⟩ }, bt := { plan := [(0, ([5], 0))], testFrom := some 0 } }, 0, ⟨1, 0, false, 3, 0⟩, by decide⟩⟩

theorem witness_HostRunTests :
(∃ (s : State) (t : Nat) (i : Instr), s.domainOn 1 = true ∧ s.btOpen = false ∧ i ∈
      [Instr.btAccWriteCoded t, .btAccWriteData t, .btAccWriteCheck t, .btAccRead t]) ∧
(∃ (s : State) (v : Nat) (al : Bool), s.domainOn 1 = true ∧ s.btOpen = true ∧ v.testBit 31 = true ∧ s.is F.BT_RUN_STATUS_BUSY = false ∧ s.btRefusal
      (v % 65536) al = 0 ∧ v % 65536 < 0x800) ∧
(∃ (s : State) (v : Nat) (al : Bool), s.domainOn 1 = true ∧ s.btOpen = true ∧ v.testBit 31 = true ∧ s.is F.BT_RUN_STATUS_BUSY = false ∧ s.btRefusal
      (v % 65536) al ≠ 0) ∧
(∃ (s : State) (t : Nat) (u : Nat) (t0 : Nat), s.domainOn 1 = true ∧ s.bt.run = some (u, t0) ∧ t0 + 2 * unitBudget u * ms ≤ t) ∧
(∃ (s : State) (t : Nat) (i : Instr), s.domainOn 1 = true ∧ s.btOpen = true ∧ s.bt.lastRun = none ∧ i ∈
      [Instr.btAccWriteCoded t, .btAccWriteData t, .btAccWriteCheck t, .btAccRead t]) ∧
(∃ (s : State) (u : Nat) (w : Nat) (d : Nat) (x : Nat), s.domainOn 1 = true ∧ s.btOpen = true ∧ s.bt.lastRun = some u ∧ s.get F.BT_RUN_UNIT = u ∧
      s.btRefusal u false = 0 ∧ s.bt.run = none ∧ 0x800 ≤ u ∧ s.accPlace u (s.get F.BT_ACC_ADDR_VALUE) = w ∧ d = s.get F.BT_ACC_DATA_LO_VALUE + 2 ^
      32 * s.get F.BT_ACC_DATA_HI_VALUE ∧ d < 2 ^ 64 ∧ x ≠ spaceCheck + w ∧ (x < spaceDram + 8 * w ∨ spaceDram + 8 * w + 8 ≤ x)) ∧
(∃ (s : State) (u : Nat) (a : Nat) (od : Nat) (oc : Nat), s.domainOn 1 = true ∧ s.btOpen = true ∧ s.bt.lastRun = some u ∧ s.get F.BT_RUN_UNIT = u ∧
      s.btRefusal u false = 0 ∧ s.bt.run = none ∧ 0x100 ≤ u ∧ u < 0x500 ∧ s.get F.BT_ACC_ADDR_VALUE = a ∧ s.bt.acc.find? (fun x => x.1 == a) = some
      (a, (od, oc))) ∧
(∃ (s : State) (t : Nat) (u : Nat) (t0 : Nat), s.domainOn 1 = true ∧ s.bt.run = some (u, t0) ∧ max s.now t < t0 + 2 * unitBudget u * ms) := by
  refine ⟨
⟨{ on with otp := { life := 2 } }, 0, .btAccRead 0, by decide⟩,
⟨at_ [(F.BT_RUN_STATUS_BUSY, 0)], 0x80000000, false, by decide⟩,
⟨at_ [(F.BT_RUN_STATUS_BUSY, 0), (F.PM_STATE_STATE, 3)], 0x80000000, false, by decide⟩,
⟨{ on with bt := { run := some (0, 0) } }, 1000000000000000000, 0, 0, by decide⟩,
⟨{ on with bt := { lastRun := none } }, 0, .btAccRead 0, by decide⟩,
⟨{ at_ [(F.BT_RUN_UNIT, 0x800), (F.BT_ACC_DATA_LO_VALUE, 1)] with bt := { lastRun := some 0x800, run := none } }, 0x800, _, 1, 0, by decide,
      by decide, by decide, by decide, by decide +kernel, by decide, by decide, rfl, by decide⟩,
⟨{ at_ [(F.BT_RUN_UNIT, 0x100)] with bt := { lastRun := some 0x100, run := none, acc := [(0, (1, 2))] } }, 0x100, _, 1, 2, by decide, by decide,
      by decide, by decide, by decide, by decide, by decide, by decide, rfl, rfl⟩,
⟨{ on with bt := { run := some (0, 0) } }, 0, 0, 0, by decide⟩⟩

theorem witness_NvmCommands :
(∃ (s : State) (b : Nat) (e : Nat) (a : Nat), s.domainOn 1 = true ∧ s.is F.NV_STATUS_BUSY = false ∧ s.nvAvailable = true ∧ b = spaceNvm + s.slotBase
      s.inactiveSlot ∧ e = b + s.get F.NV_STATUS_SLOT_MIB * 2 ^ 20 ∧ (a < b ∨ e ≤ a)) ∧
(∃ (s : State) (a : Nat) (n : Nat) (b : Nat) (i : Nat), s.domainOn 1 = true ∧ s.is F.NV_STATUS_BUSY = false ∧ s.nvAvailable = true ∧ s.get
      F.NV_ADDR_VALUE = a ∧ s.get F.NV_LEN_VALUE = n ∧ b = spaceNvm + (s.slotBase s.inactiveSlot + a) ∧ 1 ≤ n ∧ n ≤ 32768 ∧ a % 256 = 0 ∧ a + n ≤ s.get F.NV_STATUS_SLOT_MIB * 2 ^ 20 ∧ i < n) ∧
(∃ (s : State) (a : Nat) (n : Nat), s.domainOn 1 = true ∧ s.is F.NV_STATUS_BUSY = false ∧ s.nvAvailable = true ∧ s.get F.NV_ADDR_VALUE = a ∧ s.get
      F.NV_LEN_VALUE = n ∧ (n = 0 ∨ 32768 < n ∨ a % 256 ≠ 0 ∨ s.get F.NV_STATUS_SLOT_MIB * 2 ^ 20 < a + n)) ∧
(∃ (s : State) (a : Nat) (n : Nat) (i : Nat), s.domainOn 1 = true ∧ s.is F.NV_STATUS_BUSY = false ∧ s.nvAvailable = true ∧ s.get F.NV_ADDR_VALUE = a
      ∧ s.get F.NV_LEN_VALUE = n ∧ s.nvReadable a n = true ∧ i < n) ∧
(∃ (s : State) (rl : Nat), s.domainOn 1 = true ∧ s.is F.NV_STATUS_BUSY = false ∧ s.nvAvailable = true ∧ s.activeRl = some rl ∧ rl ≤ 64 ∧
      s.otp.rollback < 64) ∧
(∃ (s : State), s.domainOn 1 = true ∧ s.is F.NV_STATUS_BUSY = false ∧ s.nvAvailable = false) ∧
(∃ (s : State) (src : Source) (t : Nat) (i : Instr), s.domainOn 1 = true ∧ s.is F.NV_STATUS_BUSY = true ∧ i ∈
      [Instr.nvErase src t, .nvProgram src t, .nvVerify src t, .nvRead src t, .nvRaise src t]) ∧
(∃ (s : State) (cmd : Nat) (result : Nat) (ok : Bool), s.domainOn 1 = true ∧ s.nv.op = some (cmd, result) ∧ s.pw.held = none ∧ s.nv.wait = none ∧
      result < 16 ∧ ok = true ∧ cmd = 3) ∧
(∃ (s : State) (b : Nat) (e : Nat) (a : Nat), s.domainOn 1 = true ∧ s.is F.NV_STATUS_BUSY = false ∧ s.nvAvailable = true ∧ b = spaceNvm + s.slotBase
      s.inactiveSlot ∧ e = b + s.get F.NV_STATUS_SLOT_MIB * 2 ^ 20 ∧ b ≤ a ∧ a < e ∧ a < spaceYard) ∧
(∃ (s : State) (a : Nat) (n : Nat) (b : Nat) (x : Nat), s.domainOn 1 = true ∧ s.is F.NV_STATUS_BUSY = false ∧ s.nvAvailable = true ∧ s.get
      F.NV_ADDR_VALUE = a ∧ s.get F.NV_LEN_VALUE = n ∧ b = spaceNvm + (s.slotBase s.inactiveSlot + a) ∧ 1 ≤ n ∧ n ≤ 32768 ∧ a % 256 = 0 ∧ a + n ≤ s.get F.NV_STATUS_SLOT_MIB * 2 ^ 20 ∧ (x < b ∨ b + n ≤ x)) := by
  refine ⟨
⟨at_ [(F.NV_STATUS_BUSY, 0), (F.NV_STATUS_SLOT_MIB, 31), (F.PM_STATE_STATE, 2)], _, _, 0, by decide, by decide, by decide, rfl, rfl, by decide⟩,
⟨at_ [(F.NV_STATUS_BUSY, 0), (F.NV_STATUS_SLOT_MIB, 31), (F.PM_STATE_STATE, 2), (F.NV_LEN_VALUE, 32768)], 0, 32768, _, 32767, by decide, by decide,
      by decide, by decide, by decide, rfl, by decide⟩,
⟨at_ [(F.NV_STATUS_BUSY, 0), (F.NV_STATUS_SLOT_MIB, 31), (F.PM_STATE_STATE, 2), (F.NV_LEN_VALUE, 32769)], 0, 32769, by decide⟩,
⟨at_ [(F.NV_STATUS_BUSY, 0), (F.NV_STATUS_SLOT_MIB, 31), (F.PM_STATE_STATE, 2), (F.NV_LEN_VALUE, 1), (F.NV_ADDR_VALUE, 0x10000)], 0x10000, 1, 0,
      by decide⟩,
⟨at_ [(F.NV_STATUS_BUSY, 0), (F.NV_STATUS_SLOT_MIB, 31), (F.PM_STATE_STATE, 2), (F.NV_SLOTA_VALID, 1)], 0, by decide⟩,
⟨at_ [(F.NV_STATUS_BUSY, 0), (F.NV_STATUS_SLOT_MIB, 31), (F.PM_STATE_STATE, 0)], by decide⟩,
⟨at_ [(F.NV_STATUS_BUSY, 1), (F.NV_STATUS_SLOT_MIB, 31), (F.PM_STATE_STATE, 2)], .host, 0, .nvErase .host 0, by decide⟩,
⟨{ at_ [(F.NV_STATUS_SLOT_MIB, 31), (F.PM_STATE_STATE, 2)] with nv := { op := some (3, 0), wait := none }, pw := { held := none } }, 3, 0, true,
      by decide⟩,
⟨at_ [(F.NV_STATUS_BUSY, 0), (F.NV_STATUS_SLOT_MIB, 31), (F.PM_STATE_STATE, 2)], _, _, 0x30002000000, by decide, by decide, by decide, rfl, rfl,
      by decide⟩,
⟨at_ [(F.NV_STATUS_BUSY, 0), (F.NV_STATUS_SLOT_MIB, 31), (F.PM_STATE_STATE, 2), (F.NV_LEN_VALUE, 1)], 0, 1, _, 0, by decide, by decide, by decide,
      by decide, by decide, rfl, by decide⟩⟩

theorem witness_RecordsInNvm :
(∃ (s : State) (r : CalRecord) (stamp : Nat) (temp : Int) (later : Bool) (slot : Nat) (a : Nat), s.domainOn 1 = true ∧ s.pw.shut = none ∧ s.is
      F.CL_STATUS_NVM_PENDING = true ∧ s.sens.cal.force = some (r, stamp, temp,
      later) ∧ slot = (if s.get F.CL_STATUS_ACTIVE = 1 then 1 else 0) ∧ (a < spaceNvm + 0x10000 * (slot + 1) ∨ spaceNvm + 0x10000 * (slot + 2) ≤ a)) ∧
(∃ (s : State) (slot : Nat) (due : Nat) (a : Nat), s.domainOn 1 = true ∧ s.bt.eraseAt = some (slot, due) ∧ slot < 2 ∧ (a < spaceNvm + 0x30000 +
      0x4000 * slot ∨ spaceNvm + 0x34000 + 0x4000 * slot ≤ a)) ∧
(∃ (s : State) (due : Nat) (slot : Nat) (a : Nat), s.domainOn 1 = true ∧ s.sens.cal.eraseAt = some due ∧ slot = (if s.get F.CL_STATUS_ACTIVE = 1 then
      1 else 0) ∧ (a < spaceNvm + 0x10000 * (slot + 1) ∨ spaceNvm + 0x10000 * (slot + 2) ≤ a)) ∧
(∃ (s : State) (r : CalRecord) (stamp : Nat) (temp : Int) (later : Bool) (slot : Nat) (ok : Bool), s.domainOn 1 = true ∧ s.pw.shut = none ∧ s.is
      F.CL_STATUS_NVM_PENDING = true ∧ s.sens.cal.force = some (r, stamp, temp,
      later) ∧ slot = (if s.get F.CL_STATUS_ACTIVE = 1 then 1 else 0) ∧ ok = true) ∧
(∃ (s : State) (r : CalRecord) (stamp : Nat) (temp : Int) (later : Bool) (slot : Nat) (ok : Bool), s.domainOn 1 = true ∧ s.pw.shut = none ∧ s.is
      F.CL_STATUS_NVM_PENDING = true ∧ s.sens.cal.force = some (r, stamp, temp,
      later) ∧ slot = (if s.get F.CL_STATUS_ACTIVE = 1 then 1 else 0) ∧ ok = false) ∧
(∃ (s : State) (slot : Nat) (due : Nat) (a : Nat), s.domainOn 1 = true ∧ s.bt.eraseAt = some (slot, due) ∧ slot < 2 ∧ spaceNvm + 0x30000 + 0x4000 *
      slot ≤ a ∧ a < spaceNvm + 0x34000 + 0x4000 * slot) ∧
(∃ (s : State) (due : Nat) (slot : Nat) (a : Nat), s.domainOn 1 = true ∧ s.sens.cal.eraseAt = some due ∧ slot = (if s.get F.CL_STATUS_ACTIVE = 1 then
      1 else 0) ∧ spaceNvm + 0x10000 * (slot + 1) ≤ a ∧ a < spaceNvm + 0x10000 * (slot + 2)) := by
  refine ⟨
⟨{ at_ [(F.CL_STATUS_NVM_PENDING, 1)] with pw := { shut := none }, sens := { cal := { force := some (⟨0, 0, 0, 0, [], [], [], []⟩, 0, 0, false), eraseAt := some 0 } } },
      ⟨0, 0, 0, 0, [], [], [], []⟩, 0, 0, false, _, 0, by decide, by decide, by decide, by decide, rfl, by decide⟩,
⟨{ on with bt := { eraseAt := some (0, 0) }, sens := { cal := { force := some (⟨0, 0, 0, 0, [], [], [], []⟩, 0, 0, false), eraseAt := some 0 } } },
      0, 0, 0, by decide⟩,
⟨{ on with sens := { cal := { force := some (⟨0, 0, 0, 0, [], [], [], []⟩, 0, 0, false), eraseAt := some 0 } } }, _, _, 0, by decide, rfl, rfl,
      by decide⟩,
⟨{ at_ [(F.CL_STATUS_NVM_PENDING, 1)] with pw := { shut := none }, sens := { cal := { force := some (⟨0, 0, 0, 0, [], [], [], []⟩, 0, 0, false), eraseAt := some 0 } } },
      ⟨0, 0, 0, 0, [], [], [], []⟩, 0, 0, false, _, true, by decide, by decide, by decide, by decide, rfl, by decide⟩,
⟨{ at_ [(F.CL_STATUS_NVM_PENDING, 1)] with pw := { shut := none }, sens := { cal := { force := some (⟨0, 0, 0, 0, [], [], [], []⟩, 0, 0, false), eraseAt := some 0 } } },
      ⟨0, 0, 0, 0, [], [], [], []⟩, 0, 0, false, _, false, by decide, by decide, by decide, by decide, rfl, by decide⟩,
⟨{ on with bt := { eraseAt := some (1, 0) }, sens := { cal := { force := some (⟨0, 0, 0, 0, [], [], [], []⟩, 0, 0, false), eraseAt := some 0 } } },
      1, 0, spaceNvm + 0x37FFF, by decide⟩,
⟨{ on with sens := { cal := { force := some (⟨0, 0, 0, 0, [], [], [], []⟩, 0, 0, false), eraseAt := some 0 } } }, _, _, spaceNvm + 0x10000,
      by decide, rfl, rfl, by decide⟩⟩

theorem witness_SuppliesDecide :
(∃ (s : State), s.pw.supplies = false ∧ s.domainOn 0 = true) ∧
(∃ (s : State) (a : Nat) (b : Nat) (c : Nat), s.is F.PM_STATE_THERM_WAIT = true ∧ (2900 ≤ a ∨ 2900 ≤ b ∨ 2900 ≤ c)) ∧
(∃ (s : State) (rail : Nat), s.pw.supplies = false ∧ s.pw.rail = some rail) ∧
(∃ (s : State) (t : Nat) (f : Nat), s.pw.failedAt = some f ∧ f + 1000 * ms ≤ t ∧ s.pw.supplies = true) ∧
(∃ (s : State), s.pw.supplies = true ∧ s.pw.pfwLow = false ∧ s.pw.shut = none ∧ s.domainOn 1 = true ∧ s.working = true) ∧
(∃ (s : State), s.pw.supplies = true ∧ s.pw.pfwLow = true ∧ s.pw.shut = none) ∧
(∃ (s : State) (t : Nat) (i : Nat) (a : Nat), s.sens.hot.find? (fun x => decide (max s.now t ≥ x.2 + 100 * ms)) = some (i, a) ∧ s.pw.shut = none ∧
      s.domainOn 1 = true ∧ s.working = true) ∧
(∃ (s : State) (a : Nat) (b : Nat) (c : Nat), s.is F.PM_STATE_THERM_WAIT = true ∧ a < 2900 ∧ b < 2900 ∧ c < 2900) ∧
(∃ (s : State) (x : Shutdown), s.pw.supplies = true ∧ s.pw.pfwLow = true ∧ s.pw.shut = some x) := by
  refine ⟨
⟨{ on with pw := { supplies := false } }, by decide⟩,
⟨at_ [(F.PM_STATE_THERM_WAIT, 1)], 2900, 0, 0, by decide⟩,
⟨{ on with pw := { supplies := false, rail := some 0 } }, _, by decide, rfl⟩,
⟨{ on with pw := { failedAt := some 0, supplies := true } }, 1000000000000000000, _, rfl, by decide⟩,
⟨{ at_ [(F.PM_STATE_STATE, 2)] with pw := { supplies := true, pfwLow := false, shut := none } }, by decide⟩,
⟨{ on with pw := { supplies := true, pfwLow := true, shut := none } }, by decide⟩,
⟨{ at_ [(F.PM_STATE_STATE, 2)] with pw := { shut := none }, sens := { hot := [(10, 0)] } }, 1000000000000000000, 10, 0, by decide⟩,
⟨at_ [(F.PM_STATE_THERM_WAIT, 1)], 0, 0, 0, by decide⟩,
⟨{ on with pw := { supplies := true, pfwLow := true, shut := some ⟨3, 0, true, 0, 0⟩ } }, ⟨3, 0, true, 0, 0⟩, by decide⟩⟩

theorem witness_ColdStartRuns :
(∃ (s : State) (mode : Nat), s.pw.coldDue = true ∧ s.pw.supplies = true ∧ s.pw.pfwLow = false ∧ s.is F.PM_START_HOLD = false ∧ s.domainOn 0 = true ∧
      mode ≠ 0) ∧
(∃ (s : State) (a : _) (b : _) (k : Nat) (img : _), s.starting = true ∧ s.stepDone 0 = false ∧ s.get F.SB_STATUS_PHASE ≠ 0 ∧ s.is F.PM_START_HOLD =
      false ∧ s.bestSlot a b = some (k, img)) ∧
(∃ (s : State), s.starting = true ∧ s.domainOn 13 = true ∧ s.stepDone 2 = false) ∧
(∃ (s : State), s.starting = true ∧ s.coldForms = true ∧ s.stepDone 2 = true ∧ s.stepDone 3 = false) ∧
(∃ (s : State) (i : _), s.starting = true ∧ s.pw.image.isSome = true ∧ s.stepDone 1 = false ∧ s.domainOn 13 = true ∧ s.domainOn 2 = true ∧ s.stepDone
      3 = true ∧ s.chooseTimetable.pw.tt = some i) ∧
(∃ (s : State) (t : Nat) (a : Nat), s.sens.tec.startAt = some a ∧ a + 4000 * ms ≤ t ∧ s.domainOn 4 = true ∧ s.is F.OP_LASER_WARM = false ∧ s.starting
      = true) ∧
(∃ (s : State), s.starting = true ∧ s.is F.CL_STATUS_RUNNING = true ∧ s.stepDone 5 = false ∧ s.domainOn 6 = true ∧ s.get F.SL_STATUS_CLK_STATE ≠ 0) ∧
(∃ (s : State) (t : Nat) (temp : Int) (bands : List Nat) (crc : Bool) (slot : Nat) (img : Image) (tt : Timetable), s.canCommit temp bands crc = true
      ∧ (s.advance t).arrayReady = true ∧ s.pw.image = some (slot, img) ∧ s.sw.timetables.find? (fun x => some x.index == s.pw.tt) = some tt) ∧
(∃ (s : State) (t : Nat) (c : Nat) (k : Nat) (img : Image), s.pw.commitAt = some c ∧ s.get F.PM_STATE_STATE = 2 ∧ s.pw.settled = false ∧ c + 60000 *
      ms ≤ t ∧ s.pw.shut = none ∧ s.pw.image = some (k, img) ∧ imageAutoRaise img = false) ∧
(∃ (s : State) (t : Nat) (c : Nat) (k : Nat) (img : Image), s.pw.commitAt = some c ∧ s.get F.PM_STATE_STATE = 2 ∧ s.pw.settled = false ∧ c + 60000 *
      ms ≤ t ∧ s.pw.shut = none ∧ s.pw.image = some (k, img) ∧ imageAutoRaise img = true ∧ img.rl ≤ 64 ∧ s.otp.rollback < 64) := by
  refine ⟨
⟨{ at_ [(F.PM_START_HOLD, 0)] with pw := { coldDue := true, supplies := true, pfwLow := false } }, 1, by decide⟩,
⟨{ at_ [(F.SB_STATUS_PHASE, 1), (F.PM_START_HOLD, 0), (F.NV_STATUS_SLOT_MIB, 1)] with pw := { startAt := some 0 }, otp := { vkHash := some (sha256 []) } },
      some demoImage, none, 0, demoImage, by decide +kernel⟩,
⟨{ on with pw := { startAt := some 0 } }, by decide⟩,
⟨{ on with pw := { startAt := some 0, allCold := true, steps := [2] } }, by decide⟩,
⟨{ on with pw := { startAt := some 0, image := some (0, { demoImage with timetables := [runTt] }), steps := [3] }, otp := { imageKey := some [] } },
      1, by decide +kernel⟩,
⟨{ at_ [(F.OP_LASER_WARM, 0)] with pw := { startAt := some 0 }, sens := { tec := { startAt := some 0 } } }, 1000000000000000000, _, rfl, by decide⟩,
⟨{ at_ [(F.CL_STATUS_RUNNING, 1), (F.SL_STATUS_CLK_STATE, 1)] with pw := { startAt := some 0 } }, by decide⟩,
⟨{ at_ [(F.OP_LASER_WARM, 1), (F.OP_LASER_LOCKED, 1)] with pw := { image := some (0, demoImage), startAt := some 0, tt := some 1, steps := [0, 1, 2, 3, 5] }, sw := { timetables := [demoTt] } },
      0, 0, [], true, 0, demoImage, demoTt, by decide⟩,
⟨{ at_ [(F.PM_STATE_STATE, 2)] with pw := { commitAt := some 0, settled := false, shut := none, image := some (0, demoImage) } },
      1000000000000000000, _, 0, demoImage, rfl, by decide⟩,
⟨{ at_ [(F.PM_STATE_STATE, 2)] with pw := { commitAt := some 0, settled := false, shut := none, image := some (0, { demoImage with flags := 1, rl := 64 }) } },
      1000000000000000000, _, 0, { demoImage with flags := 1, rl := 64 }, rfl, by decide⟩⟩

theorem witness_StartsFail :
(∃ (s : State), s.domainOn 0 = true ∧ s.pw.coldDue = true ∧ s.pw.supplies = true ∧ s.pw.pfwLow = false ∧ s.is F.PM_START_HOLD = false) ∧
(∃ (s : State) (a : Option Image) (b : Option Image), s.domainOn 0 = true ∧ s.starting = true ∧ s.stepDone 0 = false ∧ s.get F.SB_STATUS_PHASE ≠ 0 ∧
      s.is F.PM_START_HOLD = false ∧ s.bestSlot a b = none) ∧
(∃ (s : State), s.domainOn 0 = true ∧ s.starting = true ∧ s.domainOn 13 = true ∧ s.stepDone 2 = false) ∧
(∃ (s : State), s.domainOn 0 = true ∧ s.starting = true ∧ s.pw.image.isSome = true ∧ s.stepDone 1 = false ∧ s.domainOn 13 = true ∧ s.stepDone 3 =
      true ∧ s.chooseTimetable.pw.tt = none) ∧
(∃ (s : State) (t : Nat) (a : Nat) (l : Nat), s.domainOn 0 = true ∧ s.pw.startAt = some a ∧ s.pw.laserAt = some l ∧ l + 10000 * ms ≤ t ∧ s.stepDone 7
      = false) ∧
(∃ (s : State) (t : Nat) (a : Nat), s.domainOn 0 = true ∧ s.pw.startAt = some a ∧ (s.stepDone 7 = true ∨ s.pw.laserAt = none) ∧ a + 30000 * ms ≤ t) ∧
(∃ (s : State), s.domainOn 0 = true ∧ s.domainOn 2 = true ∧ s.pw.settled = false) ∧
(∃ (s : State), s.domainOn 0 = true ∧ s.domainOn 2 = true ∧ s.pw.settled = true) ∧
(∃ (s : State), s.domainOn 0 = true ∧ s.domainOn 2 = true ∧ s.starting = true) ∧
(∃ (s : State), s.domainOn 0 = true ∧ s.domainOn 2 = true ∧ s.starting = false ∧ s.pw.shut = none ∧ s.domainOn 1 = true ∧ s.working = true) := by
  refine ⟨
⟨{ at_ [(F.PM_START_HOLD, 0)] with pw := { coldDue := true, supplies := true, pfwLow := false } }, by decide⟩,
⟨{ at_ [(F.SB_STATUS_PHASE, 1), (F.PM_START_HOLD, 0)] with pw := { startAt := some 0 } }, none, none, by decide⟩,
⟨{ on with pw := { startAt := some 0 } }, by decide⟩,
⟨{ on with pw := { startAt := some 0, image := some (0, demoImage), steps := [3] } }, by decide⟩,
⟨{ on with pw := { startAt := some 0, laserAt := some 0 } }, 1000000000000000000, _, _, by decide, rfl, rfl, by decide⟩,
⟨{ on with pw := { startAt := some 0 } }, 1000000000000000000, _, by decide, rfl, by decide⟩,
⟨{ on with pw := { settled := false } }, by decide⟩,
⟨{ on with pw := { settled := true } }, by decide⟩,
⟨{ on with pw := { startAt := some 0 } }, by decide⟩,
⟨{ at_ [(F.PM_STATE_STATE, 2)] with pw := { shut := none } }, by decide⟩⟩

theorem witness_PowerCommands :
(∃ (s : State), s.domainOn 0 = true ∧ s.domainOn 2 = true ∧ s.pw.shut = none ∧ s.pw.held = none ∧ s.nv.op = none ∧ s.get F.PM_STATE_STATE = 2) ∧
(∃ (s : State), s.domainOn 0 = true ∧ s.domainOn 2 = true ∧ s.pw.shut = none ∧ s.pw.held = none ∧ s.nv.op = none ∧ s.working = true) ∧
(∃ (s : State) (op : Nat × Nat), s.domainOn 0 = true ∧ s.domainOn 2 = true ∧ s.pw.shut = none ∧ s.pw.held = none ∧ s.nv.op = some op ∧ s.working =
      true) ∧
(∃ (s : State) (d : Nat), s.domainOn 0 = true ∧ s.domainOn 2 = true ∧ s.pw.shut = none ∧ s.pw.held = none ∧ s.get F.PM_STATE_STATE = 1 ∧ d ∈
      [5, 6, 8, 9, 10, 11, 12, 13]) ∧
(∃ (s : State) (x : Shutdown), s.domainOn 0 = true ∧ s.domainOn 2 = true ∧ s.pw.shut = some x ∧ x.target = 1 ∧ x.emergency = false) ∧
(∃ (s : State), s.domainOn 0 = true ∧ s.domainOn 2 = true ∧ s.get F.PM_STATE_STATE = 0 ∧ s.pw.shut = none ∧ s.pw.supplies = true) ∧
(∃ (s : State), s.domainOn 0 = true ∧ s.domainOn 2 = true ∧ s.get F.PM_STATE_STATE = 3 ∧ s.pw.shut = none) ∧
(∃ (s : State) (t : Nat) (x : Shutdown), s.domainOn 0 = true ∧ s.domainOn 2 = true ∧ s.pw.shut = some x ∧ x.emergency = false ∧ x.step = 1 ∧
      ((s.fab.store = [] ∧ s.fab.jobs = []) ∨ x.at_ + 200 * ms ≤ t) ∧ s.is F.CL_STATUS_NVM_PENDING = true) ∧
(∃ (s : State) (t : Nat) (x : Shutdown), s.domainOn 0 = true ∧ s.domainOn 2 = true ∧ s.pw.shut = some x ∧ x.emergency = false ∧ x.step = 1 ∧
      ((s.fab.store = [] ∧ s.fab.jobs = []) ∨ x.at_ + 200 * ms ≤ t) ∧ s.is F.CL_STATUS_NVM_PENDING = false) := by
  refine ⟨
⟨{ at_ [(F.PM_STATE_STATE, 2)] with pw := { shut := none, held := none }, nv := { op := none } }, by decide⟩,
⟨{ at_ [(F.PM_STATE_STATE, 2)] with pw := { shut := none, held := none }, nv := { op := none } }, by decide⟩,
⟨{ at_ [(F.PM_STATE_STATE, 2)] with pw := { shut := none, held := none }, nv := { op := some (1, 0) } }, (1, 0), by decide⟩,
⟨{ at_ [(F.PM_STATE_STATE, 1)] with pw := { shut := none, held := none } }, 5, by decide⟩,
⟨{ on with pw := { shut := some ⟨1, 0, false, 1, 0⟩ } }, ⟨1, 0, false, 1, 0⟩, by decide⟩,
⟨{ at_ [(F.PM_STATE_STATE, 0)] with pw := { shut := none, supplies := true } }, by decide⟩,
⟨{ at_ [(F.PM_STATE_STATE, 3)] with pw := { shut := none } }, by decide⟩,
⟨{ at_ [(F.CL_STATUS_NVM_PENDING, 1)] with pw := { shut := some ⟨1, 0, false, 1, 0⟩ } }, 1000000000000000000, ⟨1, 0, false, 1, 0⟩, by decide,
      by decide, by decide, by decide, by decide, .inl ⟨rfl, rfl⟩, by decide⟩,
⟨{ at_ [(F.CL_STATUS_NVM_PENDING, 0)] with pw := { shut := some ⟨1, 0, false, 1, 0⟩ } }, 1000000000000000000, ⟨1, 0, false, 1, 0⟩, by decide,
      by decide, by decide, by decide, by decide, .inl ⟨rfl, rfl⟩, by decide⟩⟩

theorem witness_LifecycleTransitions :
(∃ (s : State) (t : Nat) (code : Nat) (t0 : Nat), s.domainOn 0 = true ∧ s.lc.first = some (code % 256, t0) ∧ max s.now t ≤ t0 + ms ∧ (¬ (code % 256 =
      2 ∧ s.otp.life = 1) ∧ ¬ (code % 256 = 3 ∧ (s.otp.life = 1 ∨ s.otp.life = 2)) ∧ ¬ (code % 256 = 4 ∧ s.otp.life ≤ 3))) ∧
(∃ (s : State) (t : Nat) (code : Nat), s.domainOn 0 = true ∧ (s.lc.first = none ∨ ∃ c t0, s.lc.first = some (c, t0) ∧ (c ≠ code % 256 ∨ t0 + ms < max
      s.now t))) ∧
(∃ (s : State) (t : Nat) (code : Nat) (t0 : Nat), s.domainOn 0 = true ∧ s.lc.first = some (code % 256, t0) ∧ max s.now t ≤ t0 + ms ∧ code % 256 = 2 ∧
      s.otp.life = 1 ∧ s.otp.imageKey.isSome = true ∧ s.otp.vkHash.isSome = true ∧ s.otp.sealKey.isSome = true ∧ s.get F.OP_STATE_STATE ≤ 1) ∧
(∃ (s : State) (t : Nat) (code : Nat) (t0 : Nat), s.domainOn 0 = true ∧ s.lc.first = some (code % 256, t0) ∧ max s.now t ≤ t0 + ms ∧ code % 256 = 3 ∧
      (s.otp.life = 1 ∨ s.otp.life = 2) ∧ s.get F.OP_STATE_STATE ≤ 1 ∧ s.otp.zeroised = false) ∧
(∃ (s : State) (t : Nat) (code : Nat) (t0 : Nat), s.domainOn 0 = true ∧ s.lc.first = some (code % 256, t0) ∧ max s.now t ≤ t0 + ms ∧ code % 256 = 4 ∧
      s.otp.life ≤ 3 ∧ s.otp.zeroised = false) ∧
(∃ (s : State) (t : Nat) (code : Nat) (t0 : Nat), s.domainOn 0 = true ∧ s.lc.first = some (code % 256, t0) ∧ max s.now t ≤ t0 + ms ∧ code % 256 = 2 ∧
      s.otp.life = 1 ∧ (s.otp.imageKey = none ∨ s.otp.vkHash = none ∨ s.otp.sealKey = none)) ∧
(∃ (s : State) (t : Nat) (code : Nat) (t0 : Nat), s.domainOn 0 = true ∧ s.lc.first = some (code % 256, t0) ∧ max s.now t ≤ t0 + ms ∧ code % 256 = 2 ∧
      s.otp.life = 1 ∧ s.otp.imageKey.isSome = true ∧ s.otp.vkHash.isSome = true ∧ s.otp.sealKey.isSome = true ∧ 2 ≤ s.get F.OP_STATE_STATE) ∧
(∃ (s : State) (t : Nat) (code : Nat) (t0 : Nat), s.domainOn 0 = true ∧ s.lc.first = some (code % 256, t0) ∧ max s.now t ≤ t0 + ms ∧ code % 256 = 3 ∧
      (s.otp.life = 1 ∨ s.otp.life = 2) ∧ 2 ≤ s.get F.OP_STATE_STATE) := by
  refine ⟨
⟨{ on with lc := { first := some (1 % 256, 0) } }, 0, 1, 0, by decide⟩,
⟨on, 0, 2, by decide, .inl rfl⟩,
⟨{ on with lc := { first := some (2 % 256, 0) }, otp := { life := 1, imageKey := some [], vkHash := some [], sealKey := some [] } }, 0, 2, 0,
      by decide⟩,
⟨{ on with lc := { first := some (3 % 256, 0) }, otp := { zeroised := false } }, 0, 3, 0, by decide⟩,
⟨{ on with lc := { first := some (4 % 256, 0) }, otp := { zeroised := false } }, 0, 4, 0, by decide⟩,
⟨{ on with lc := { first := some (2 % 256, 0) }, otp := { life := 1 } }, 0, 2, 0, by decide⟩,
⟨{ at_ [(F.OP_STATE_STATE, 2)] with lc := { first := some (2 % 256, 0) }, otp := { life := 1, imageKey := some [], vkHash := some [], sealKey := some [] } },
      0, 2, 0, by decide⟩,
⟨{ at_ [(F.OP_STATE_STATE, 3)] with lc := { first := some (3 % 256, 0) } }, 0, 3, 0, by decide⟩⟩

theorem witness_KeysAndTamper :
(∃ (s : State) (src : Source) (t : Nat) (cmd : Nat) (i : Instr), s.domainOn 1 = true ∧ (cmd, i) ∈
      [(1, Instr.progImageKey src t), (2, .progVkHash src t), (3, .genSeal src t), (4, .progTamper src t)] ∧ s.seCause cmd ≠ 0) ∧
(∃ (s : State) (i : Nat), s.domainOn 1 = true ∧ s.otp.life = 1 ∧ s.otp.zeroised = false ∧ s.otp.imageKey = none ∧ i < 8) ∧
(∃ (s : State) (i : Nat), s.domainOn 1 = true ∧ s.otp.life = 1 ∧ s.otp.zeroised = false ∧ s.otp.vkHash = none ∧ i < 8) ∧
(∃ (s : State), s.domainOn 1 = true ∧ s.otp.life = 1 ∧ s.otp.zeroised = false ∧ s.otp.sealPub = none) ∧
(∃ (s : State), s.domainOn 1 = true ∧ s.otp.life = 1 ∧ s.otp.zeroised = false ∧ s.otp.tamper = none) ∧
(∃ (s : State) (pin : Nat) (level : Bool), pin < 2 ∧ (s.tamperMode pin = 0 ∨ level ≠ s.tamperLevel pin)) ∧
(∃ (s : State) (pin : Nat) (level : Bool), pin < 2 ∧ s.tamperMode pin = 1 ∧ level = s.tamperLevel pin) ∧
(∃ (s : State) (pin : Nat) (level : Bool), pin < 2 ∧ s.tamperMode pin = 2 ∧ level = s.tamperLevel pin ∧ s.otp.zeroised = false ∧ s.pw.supplies = true
      ∧ s.pw.shut = none ∧ s.domainOn 1 = true ∧ s.working = true) ∧
(∃ (s : State) (pin : Nat) (level : Bool), pin < 2 ∧ s.tamperMode pin = 2 ∧ level = s.tamperLevel pin ∧ s.otp.zeroised = false ∧ s.pw.supplies =
      false) ∧
(∃ (s : State) (pin : Nat), pin < 2 ∧ s.otp.zeroised = true) := by
  refine ⟨
⟨{ on with otp := { life := 2 } }, .host, 0, 1, .progImageKey .host 0, by decide⟩,
⟨{ on with otp := { life := 1, zeroised := false, imageKey := none } }, 7, by decide⟩,
⟨{ on with otp := { life := 1, zeroised := false, vkHash := none } }, 0, by decide⟩,
⟨{ on with otp := { life := 1, zeroised := false, sealPub := none } }, by decide⟩,
⟨{ on with otp := { life := 1, zeroised := false, tamper := none } }, by decide⟩,
⟨on, 0, false, by decide⟩,
⟨{ on with otp := { tamper := some 16 } }, 0, _, by decide, by decide, rfl⟩,
⟨{ at_ [(F.PM_STATE_STATE, 2)] with otp := { zeroised := false, tamper := some 32 }, pw := { supplies := true, shut := none } }, 0, _, by decide,
      by decide, rfl, by decide⟩,
⟨{ on with otp := { zeroised := false, tamper := some 32 }, pw := { supplies := false } }, 0, _, by decide, by decide, rfl, by decide⟩,
⟨{ on with otp := { zeroised := true } }, 0, by decide⟩⟩

theorem witness_JtagPort :
(∃ (s : State), s.scanning = false ∧ (s.otp.life = 0 ∨ s.otp.life = 3)) ∧
(∃ (s : State), s.scanning = false ∧ s.otp.life ≠ 0 ∧ s.otp.life ≠ 3) ∧
(∃ (s : State) (t : Nat) (k : Nat) (i : Instr), s.scanning = false ∧ (k, i) ∈ [(3, Instr.extest t), (4, .clamp t), (5, .highz t)] ∧ s.domainOn 0 =
      true) ∧
(∃ (s : State), s.scanning = true ∧ s.domainOn 0 = true) ∧
(∃ (s : State) (t : Nat) (k : Nat) (i : Instr), s.scanning = false ∧ (k, i) ∈ [(3, Instr.extest t), (4, .clamp t), (5, .highz t)] ∧ s.pw.shut = none
      ∧ s.domainOn 1 = true ∧ s.working = true) ∧
(∃ (s : State) (x : Shutdown), s.scanning = true ∧ s.pw.shut = some x) ∧
(∃ (s : State), s.scanning = true ∧ s.pw.shut = none ∧ s.get F.PM_STATE_STATE = 0 ∧ s.pw.supplies = true) := by
  refine ⟨
⟨{ on with otp := { life := 3 } }, by decide⟩,
⟨on, by decide⟩,
⟨on, 0, 3, .extest 0, by decide⟩,
⟨{ on with lc := { jtag := 3 } }, by decide⟩,
⟨{ at_ [(F.PM_STATE_STATE, 2)] with pw := { shut := none } }, 0, 3, .extest 0, by decide⟩,
⟨{ on with pw := { shut := some ⟨3, 0, true, 0, 0⟩ }, lc := { jtag := 3 } }, ⟨3, 0, true, 0, 0⟩, by decide⟩,
⟨{ at_ [(F.PM_STATE_STATE, 0)] with pw := { shut := none, supplies := true }, lc := { jtag := 3 } }, by decide⟩⟩

theorem witness_ControlSpace :
(∃ (addr : Nat), addr % 4 ≠ 0) ∧
(∃ (s : State) (addr : Nat) (be : Nat), addr % 4 = 0 ∧ s.blockOn addr = true ∧ be % 16 ≠ 15) ∧
(∃ (s : State) (src : _) (addr : Nat) (v : Nat) (al : _) (r : _), addr % 4 = 0 ∧ s.blockOn addr = true ∧ s.hidden addr = false ∧ s.frameParam addr =
      false ∧ findReg addr = some r ∧ writeFront addr v s = none ∧ writeBack src addr v s = none ∧ writeSystem addr v al s = none ∧ satPairs addr = [] ∧ addr ≠ 0x50000) ∧
(∃ (s : State) (b : Nat), s.domainOn 0 = true ∧ b < 32) ∧
(∃ (s : State), s.domainOn 2 = true ∧ s.is F.SB_STATUS_COMMITTED = false) ∧
(∃ (s : State) (addr : Nat) (n : Nat), addr % 4 = 0 ∧ n ≤ 64 ∧ (∀ i, i < n → s.blockOn (addr % 2 ^ 24 + 4 * i) = true ∧ readEffect (addr % 2 ^ 24 + 4
      * i) s = none)) := by
  refine ⟨
⟨1, by decide⟩,
⟨on, 0, 0, by decide⟩,
⟨on, .host, 0x20108, 0, false, _, by decide, by decide, by decide, by decide, rfl, rfl, rfl, rfl, rfl, by decide⟩,
⟨on, 0, by decide⟩,
⟨at_ [(F.SB_STATUS_COMMITTED, 0)], by decide⟩,
⟨on, 0x20000, 1, by decide⟩⟩

theorem witness_CountersAndFaults :
(∃ (s : State) (addr : Nat) (v : Nat) (p : Fld × Fld), s.Settled ∧ addr % 4 = 0 ∧ s.blockOn addr = true ∧ s.hidden addr = false ∧ p ∈ satPairs addr ∧
      (v % 2 ^ 32).testBit (p.1.key % 32) = true) ∧
(∃ (s : State) (b : Nat), s.Settled ∧ s.domainOn 0 = true ∧ b < 15) ∧
(∃ (s : State) (addr : Nat) (f : Fld), s.Settled ∧ addr % 4 = 0 ∧ s.blockOn addr = true ∧ s.hidden addr = false ∧ f.key ∉ (satPairs addr).map
      (·.1.key) ∧ f.key ∉ (satPairs addr).map (·.2.key) ∧ f.key ≠ F.EC_CORR_SAT_CH_SAT.key ∧ f.key ∉ (List.range 4).map (fun c => (F.EC_CORR_COUNT
      c).key)) := by
  refine ⟨
⟨on, 0x1E008C, 1, (F.HW_CNT_SAT_BADW_SAT, F.HW_BAD_WRITES_COUNT), ⟨by decide, by decide, by decide, by decide⟩, by decide⟩,
⟨on, 0, ⟨by decide, by decide, by decide, by decide⟩, by decide⟩,
⟨on, 0x1E008C, F.OP_STATE_STATE, ⟨by decide, by decide, by decide, by decide⟩, by decide⟩⟩

end Sys2Proof.Tests
end

/-!
The control space as it is written and read (R6-R10, R29, R449), and the order of sequence numbers (R15).
-/

/-! ## Sequence numbers (R15) -/

namespace Sys2Proof.Machine

/-- The difference of two 32-bit numbers, computed without going below 0. -/
theorem sub32_eq {a b : Nat} (hb : b < 4294967296) : sub32 a b = (a + 4294967296 - b) % 4294967296 := by
  unfold sub32
  omega

theorem newer_iff (a b : Nat) : newer a b = true ↔ 1 ≤ sub32 a b ∧ sub32 a b ≤ 2147483647 := by
  simp only [newer, decide_eq_true_eq]
  omega

theorem newer_eq_false_iff (a b : Nat) : newer a b = false ↔ sub32 a b = 0 ∨ 2147483648 ≤ sub32 a b := by
  rw [← Bool.not_eq_true, newer_iff]
  omega

end Sys2Proof.Machine

section
open Sys2Proof Sys2Proof.Machine

/-- Settles O8: both directions are the one difference `sub32`, and the two differences of a pair add up to 2³². -/
theorem halfRangeRule : Obligations.HalfRangeRule := by
  intro a b ha hb
  rw [newer_iff, newer_eq_false_iff, newer_eq_false_iff, sub32_eq ha, sub32_eq hb]
  omega

end

namespace Sys2Proof.Machine

/-! ## The rows of the register tables -/

/-- The row's fields begin at different bits and lie inside the word (R6). -/
def RegRow.tidy (r : RegRow) : Bool :=
  decide (r.fields.map (·.lo)).Nodup && r.fields.all (fun f => decide (f.lo ≤ f.hi) && decide (f.hi < 32))

/-- The blocks above 0x23 are reserved (R38). -/
theorem blockRows_reserved {b : Nat} (h : 36 ≤ b) : blockRows b = [] := by
  simp (disch := omega) only [blockRows, if_neg]

theorem blockRows_tidy_below : ∀ b < 36, ∀ r ∈ blockRows b, r.tidy = true := by decide +kernel

/-- Every register that an address names has its fields in order. -/
theorem findReg_tidy {addr : Nat} {r : RegRow} (h : findReg addr = some r) : r.tidy = true := by
  have hr : r ∈ blockRows (addr / 0x10000) := List.mem_of_find?_eq_some h
  by_cases hb : addr / 0x10000 < 36
  · exact blockRows_tidy_below _ hb r hr
  · simp [blockRows_reserved (Nat.not_lt.mp hb)] at hr

theorem findReg_nodup {addr : Nat} {r : RegRow} (h : findReg addr = some r) : (r.fields.map (·.lo)).Nodup := by
  have := findReg_tidy h
  simp only [RegRow.tidy, Bool.and_eq_true, decide_eq_true_eq] at this
  exact this.1

theorem findReg_bits {addr : Nat} {r : RegRow} {f : FieldRow} (h : findReg addr = some r) (hf : f ∈ r.fields) : f.lo ≤ f.hi ∧ f.hi < 32 := by
  have := findReg_tidy h
  simp only [RegRow.tidy, Bool.and_eq_true, List.all_eq_true, decide_eq_true_eq] at this
  exact this.2 f hf

@[simp] theorem FieldRow.at_key (f : FieldRow) (addr : Nat) : (f.at addr).key = 32 * addr + f.lo := rfl
@[simp] theorem FieldRow.at_width (f : FieldRow) (addr : Nat) : (f.at addr).width = f.hi + 1 - f.lo := rfl

/-- Fields of one register with one key begin at one bit. -/
theorem FieldRow.lo_eq_of_key {f g : FieldRow} {addr : Nat} (h : (f.at addr).key = (g.at addr).key) : f.lo = g.lo := by
  simpa using h

/-! ## One field written (R8, R10) -/

/-- A write to a field leaves every other field alone. -/
theorem State.get_writeField_ne (s : State) (src : Source) (acc : Acc) {f g : Fld} (x : Nat) (h : g.key ≠ f.key) :
    (s.writeField src acc f x).get g = s.get g := by
  cases acc <;> simp only [State.writeField]
  case rw | w1c => exact s.get_put_ne _ h
  case rwl =>
    split
    · exact s.get_put_ne _ h
    · rfl

theorem OnlyChanges.writeField {fs : List Fld} {ps : List Part} (s : State) (src : Source) (acc : Acc) (f : Fld) (x : Nat)
    (h : f.key ∈ fs.map (·.key)) : OnlyChanges fs ps s (s.writeField src acc f x) := by
  cases acc <;> simp only [State.writeField]
  case rw | w1c => exact .put _ _ _ h
  case rwl =>
    split
    · exact .put _ _ _ h
    · exact .refl _
  all_goals exact .refl _

theorem State.get_writeField_rw (s : State) (src : Source) (f : Fld) (x : Nat) : (s.writeField src .rw f x).get f = x % 2 ^ f.width :=
  s.get_put_same f x

/-- A W1C bit stays 1 unless it is written 1. -/
theorem State.testBit_writeField_w1c (s : State) (src : Source) (f : Fld) (x : Nat) {b : Nat} (h : b < f.width) :
    ((s.writeField src .w1c f x).get f).testBit b = ((s.get f).testBit b && !x.testBit b) := by
  simp only [State.writeField, State.get_put_same, Nat.testBit_mod_two_pow, Nat.testBit_and, Nat.testBit_xor, Nat.testBit_two_pow_sub_one, h,
    decide_true, Bool.true_and, Bool.xor_true]

/-! ## A register written field by field -/

/-- The part of a write of `v` to the register at `addr` that falls to the field of row `f`. -/
def State.writeRow (src : Source) (addr v : Nat) (s : State) (f : FieldRow) : State :=
  s.writeField src (f.accAt addr) (f.at addr) (v / 2 ^ f.lo)

theorem State.writeFields_eq {addr : Nat} {r : RegRow} (s : State) (src : Source) (v : Nat) (h : findReg addr = some r) :
    s.writeFields src addr v = r.fields.foldl (State.writeRow src addr v) s := by
  simp only [State.writeFields, h]
  rfl

theorem get_foldl_writeRow_ne (src : Source) (addr v : Nat) (g : Fld) : ∀ (fs : List FieldRow) (s : State),
    (∀ f ∈ fs, g.key ≠ (f.at addr).key) → (fs.foldl (State.writeRow src addr v) s).get g = s.get g
  | [], _, _ => rfl
  | f :: fs, s, h => by
    rw [List.foldl_cons, get_foldl_writeRow_ne src addr v g fs _ (fun x hx => h x (List.mem_cons_of_mem _ hx))]
    exact s.get_writeField_ne _ _ _ (h f List.mem_cons_self)

/-- Of the fields written in turn, one reads afterwards as its own write alone leaves it: `old` is what it held, `new` what its write makes of
that. -/
theorem get_foldl_writeRow {src : Source} {addr v old new : Nat} {f : FieldRow}
    (hw : ∀ z : State, z.get (f.at addr) = old → (z.writeRow src addr v f).get (f.at addr) = new) :
    ∀ (fs : List FieldRow) (s : State), (fs.map (·.lo)).Nodup → f ∈ fs → s.get (f.at addr) = old →
      (fs.foldl (State.writeRow src addr v) s).get (f.at addr) = new
  | [], _, _, hf, _ => nomatch hf
  | g :: fs, s, hn, hf, hs => by
    obtain ⟨hg, hn⟩ := List.nodup_cons.mp hn
    rw [List.foldl_cons]
    rcases List.mem_cons.mp hf with rfl | hf
    · have hrest : ∀ x ∈ fs, (f.at addr).key ≠ (x.at addr).key := fun x hx e =>
        hg (List.mem_map.mpr ⟨x, hx, (FieldRow.lo_eq_of_key e).symm⟩)
      rw [get_foldl_writeRow_ne src addr v _ fs _ hrest]
      exact hw s hs
    · have hfg : (f.at addr).key ≠ (g.at addr).key := fun e =>
        hg (List.mem_map.mpr ⟨f, hf, FieldRow.lo_eq_of_key e⟩)
      exact get_foldl_writeRow hw fs _ hn hf ((s.get_writeField_ne _ _ _ hfg).trans hs)

theorem OnlyChanges.foldl_writeRow {gs : List Fld} {ps : List Part} (src : Source) (addr v : Nat) : ∀ (fs : List FieldRow) (s : State),
    (∀ f ∈ fs, (f.at addr).key ∈ gs.map (·.key)) → OnlyChanges gs ps s (fs.foldl (State.writeRow src addr v) s)
  | [], s, _ => .refl s
  | f :: fs, s, h =>
    (OnlyChanges.writeField s _ _ _ _ (h f List.mem_cons_self)).trans
      (OnlyChanges.foldl_writeRow src addr v fs _ (fun x hx => h x (List.mem_cons_of_mem _ hx)))

section
variable {addr : Nat} {r : RegRow} {f : FieldRow} (hr : findReg addr = some r) (hf : f ∈ r.fields)
include hr

/-- A write to a register changes no field of another. -/
theorem writeFields_onlyChanges (s : State) (src : Source) (v : Nat) : OnlyChanges (r.fields.map (·.at addr)) [] s (s.writeFields src addr v) := by
  rw [s.writeFields_eq src v hr]
  refine .foldl_writeRow src addr v r.fields s (fun f hf => ?_)
  exact List.mem_map_of_mem (f := Fld.key) (List.mem_map_of_mem hf)

include hf

theorem get_writeFields_rw (s : State) (src : Source) (v : Nat) (ha : f.accAt addr = .rw) :
    (s.writeFields src addr v).get (f.at addr) = v / 2 ^ f.lo % 2 ^ (f.at addr).width := by
  rw [s.writeFields_eq src v hr]
  refine get_foldl_writeRow (fun z _ => ?_) r.fields s (findReg_nodup hr) hf rfl
  simp only [State.writeRow, ha, State.get_writeField_rw]

theorem get_writeFields_w1c (s : State) (src : Source) (v : Nat) (ha : f.accAt addr = .w1c) {b : Nat} (hb : b < (f.at addr).width) :
    ((s.writeFields src addr v).get (f.at addr)).testBit b = ((s.get (f.at addr)).testBit b && !v.testBit (f.lo + b)) := by
  have hw : ∀ z : State, z.get (f.at addr) = s.get (f.at addr) →
      (z.writeRow src addr v f).get (f.at addr) = (s.writeRow src addr v f).get (f.at addr) := by
    intro z hz
    simp only [State.writeRow, ha, State.writeField, State.get_put_same, hz]
  rw [s.writeFields_eq src v hr, get_foldl_writeRow hw r.fields s (findReg_nodup hr) hf rfl]
  simp only [State.writeRow, ha, s.testBit_writeField_w1c src _ _ hb, Nat.testBit_div_two_pow, Nat.add_comm b]

theorem get_writeFields_ro (s : State) (src : Source) (v : Nat) (ha : f.accAt addr = .ro) :
    (s.writeFields src addr v).get (f.at addr) = s.get (f.at addr) := by
  rw [s.writeFields_eq src v hr]
  refine get_foldl_writeRow (fun z hz => ?_) r.fields s (findReg_nodup hr) hf rfl
  simpa only [State.writeRow, ha, State.writeField] using hz

end

/-! ## Registers without an effect or a SAT bit of their own -/

/-- A chain of cases answers nothing where each of its conditions fails and its last part answers nothing. -/
theorem ite_some_eq_none {α : Type} {c : Prop} [Decidable c] {x : α} {o : Option α} : (if c then some x else o) = none ↔ ¬c ∧ o = none := by
  split_ifs with h <;> simp [h]

/-- Whether a register has an effect of its own depends on its address alone. -/
theorem writeFront_none {addr v : Nat} {s : State} (w : Nat) (u : State) (h : writeFront addr v s = none) : writeFront addr w u = none := by
  revert h
  simp only [writeFront, ite_some_eq_none]
  cases copyOf 0x15011C 128 16 addr <;> simp only [Option.map_eq_none_iff, reduceCtorEq, imp_self]

theorem writeBack_none {src : Source} {addr v : Nat} {s : State} (w : Nat) (u : State) (h : writeBack src addr v s = none) :
    writeBack src addr w u = none := by
  revert h
  simp only [writeBack, ite_some_eq_none]
  cases copyOf 0x1D0000 256 4 addr <;> cases copyOf 0x1F0100 128 8 addr <;> simp only [Option.map_eq_none_iff, reduceCtorEq, imp_self]

theorem writeSystem_none {addr v : Nat} {al : Bool} {s : State} (w : Nat) (u : State) (h : writeSystem addr v al s = none) :
    writeSystem addr w al u = none := by
  simpa only [writeSystem, ite_some_eq_none, Option.map_eq_none_iff] using h

/-- A write of `v` to `addr` meets a register whose fields are all that the write acts on. -/
structure State.PlainWrite (s : State) (src : Source) (addr v : Nat) (al : Bool) : Prop where
  shown : s.hidden addr = false
  notParam : s.frameParam addr = false
  front : writeFront addr v s = none
  back : writeBack src addr v s = none
  system : writeSystem addr v al s = none
  noSat : satPairs addr = []
  notLanes : addr ≠ 0x50000

section
variable {s : State} {src : Source} {addr v : Nat} {al : Bool}

theorem State.PlainWrite.advance (h : s.PlainWrite src addr v al) (t w : Nat) : (s.advance t).PlainWrite src addr w al :=
  { shown := h.shown, notParam := h.notParam, front := writeFront_none _ _ h.front, back := writeBack_none _ _ h.back,
    system := writeSystem_none _ _ h.system, noSat := h.noSat, notLanes := h.notLanes }

theorem satClear_noSat (s : State) (v : Nat) (h : satPairs addr = []) : satClear addr v s = s := by
  have hne : addr ≠ 0x1B0024 := by rintro rfl; exact absurd h (by decide)
  unfold satClear
  simp only [h, hne, each, List.foldl_nil, if_false, ite_self]

theorem writeReg_plain (h : s.PlainWrite src addr v al) : writeReg src addr v al s = s.writeFields src addr v := by
  simp only [writeReg, h.shown, h.notParam, h.front, h.back, h.system, h.notLanes, satClear_noSat s v h.noSat, Bool.false_eq_true, or_self, if_false]

end

/-- The fields that settling writes (PM_FAULT, the notice board's, OP_STATE and their like) are read-only, or their registers have an effect or SAT
bits of their own. -/
theorem settleKeys_guarded : ∀ k ∈ settleKeys, ∀ r ∈ findReg (k / 32), ∀ f ∈ r.fields, f.lo = k % 32 →
    f.accAt (k / 32) = .ro ∨ satPairs (k / 32) ≠ [] ∨ k / 32 = 0x10020 ∨ k / 32 = 0x1E0060 := by decide +kernel

/-- Settling leaves what a plain write puts into a field that is not read-only. -/
theorem State.PlainWrite.notSettled {s : State} {src : Source} {addr v : Nat} {al : Bool} {r : RegRow} {f : FieldRow}
    (h : s.PlainWrite src addr v al) (hr : findReg addr = some r) (hf : f ∈ r.fields) (ha : f.accAt addr ≠ .ro) :
    (f.at addr).key ∉ settleKeys := by
  intro hk
  obtain ⟨hlo, hhi⟩ := findReg_bits hr hf
  have hdiv : (f.at addr).key / 32 = addr := by rw [FieldRow.at_key]; omega
  have hmod : f.lo = (f.at addr).key % 32 := by rw [FieldRow.at_key]; omega
  have hg := settleKeys_guarded _ hk r (by rw [hdiv]; exact hr) f hf hmod
  rw [hdiv] at hg
  rcases hg with hro | hsat | rfl | rfl
  · exact ha hro
  · exact hsat h.noSat
  · exact absurd h.system (by simp [writeSystem])
  · exact absurd h.back (by simp [writeBack])

/-! ## The commands -/

section
variable {s : State} {src : Source} {addr v : Nat} {al : Bool}

theorem exec_registerWrite_misaligned (t be : Nat) (h : addr % 4 ≠ 0) :
    exec (.registerWrite src t addr v be al) s = .refused (.misaligned addr) := by
  show execRegisterWrite src t addr v be al s = _
  rw [execRegisterWrite, if_pos h]

theorem exec_registerWrite_on (t be : Nat) (h : addr % 4 = 0) (hon : s.blockOn addr = true) :
    exec (.registerWrite src t addr v be al) s = .next ((registerWrite src addr v be al (s.advance t)).answer s.pending) := by
  show execRegisterWrite src t addr v be al s = _
  rw [execRegisterWrite, if_neg (not_not_intro h), runAt_eq, access_on (by simpa using hon)]

/-- A write of fewer than four bytes changes nothing (R7). -/
theorem exec_registerWrite_partial (t : Nat) {be : Nat} (h : addr % 4 = 0) (hon : s.blockOn addr = true) (hbe : be % 16 ≠ 15) :
    exec (.registerWrite src t addr v be al) s = .next ((s.advance t).answer s.pending) := by
  rw [exec_registerWrite_on t be h hon, registerWrite, if_neg hbe]

theorem exec_registerWrite_plain (t : Nat) (h : addr % 4 = 0) (hon : s.blockOn addr = true) (hp : s.PlainWrite src addr v al) :
    exec (.registerWrite src t addr v 15 al) s = .next (((s.advance t).writeFields src addr (v % 2 ^ 32)).answer s.pending) := by
  rw [exec_registerWrite_on t 15 h hon, registerWrite, if_pos rfl, writeReg_plain (hp.advance t _)]

theorem exec_mgmtWrite (t : Nat) (ws : List Nat) (h : addr % 4 = 0) :
    exec (.mgmtWrite t addr ws al) s = .next ((mgmtWrite al (addr % 2 ^ 24) (ws.take 64) (s.advance t)).answer s.pending) := by
  show execMgmtWrite t addr ws al s = _
  rw [execMgmtWrite, if_neg (not_not_intro h), runAt_eq]

theorem exec_mgmtRead (t : Nat) {n : Nat} (h : addr % 4 = 0) (hn : n ≤ 64) :
    exec (.mgmtRead t addr n) s = .next ((mgmtRead n (addr % 2 ^ 24) (s.advance t)).answer s.pending) := by
  show execMgmtRead t addr n s = _
  rw [execMgmtRead, if_neg (not_not_intro h), runAt_eq, Nat.min_eq_left hn]

/-- One word written through the MGMT port is a host write of it (R449). -/
theorem exec_mgmtWrite_one (t : Nat) (h : addr % 4 = 0) :
    exec (.mgmtWrite t addr [v] al) s = exec (.registerWrite .host t (addr % 2 ^ 24) v 15 al) s := by
  have h24 : ¬ addr % 2 ^ 24 % 4 ≠ 0 := by omega
  rw [exec_mgmtWrite t [v] h]
  show _ = execRegisterWrite .host t (addr % 2 ^ 24) v 15 al s
  rw [execRegisterWrite, if_neg h24, runAt_eq]
  rfl

end

/-! ## Reads through the MGMT port -/

theorem OnlyChanges.resp (s : State) (ws : List Nat) : OnlyChanges [] [.resp] s { s with resp := ws } :=
  ⟨fun _ _ _ => rfl, fun p hp => by cases p <;> first | rfl | exact absurd List.mem_cons_self hp⟩

/-- Whether a read has a side effect depends on the address alone. -/
theorem readEffect_none {addr : Nat} {s : State} (u : State) (h : readEffect addr s = none) : readEffect addr u = none := by
  revert h
  simp only [readEffect, ite_some_eq_none]
  cases copyOf 0x1F0108 128 8 addr <;> simp only [Option.map_eq_none_iff, reduceCtorEq, imp_self]

/-- What a register reads as does not depend on the last answer. -/
theorem plainWord_resp (s : State) (ws : List Nat) (addr : Nat) : ({ s with resp := ws } : State).plainWord addr = s.plainWord addr := rfl

/-- Consecutive reads without side effects answer their words and change nothing (R449). -/
theorem mgmtRead_plain : ∀ (n addr : Nat) (s : State),
    (∀ i < n, s.blockOn (addr + 4 * i) = true ∧ readEffect (addr + 4 * i) s = none) →
    mgmtRead n addr s = { s with resp := (List.range n).map (fun i => s.plainWord (addr + 4 * i)) }
  | 0, _, _, _ => rfl
  | n + 1, addr, s, h => by
    obtain ⟨hon, hread⟩ := h 0 (Nat.succ_pos n)
    have hfirst : access addr (readReg addr) s = { s with resp := [s.plainWord addr] } := by
      rw [access_on (addr := addr) hon, readReg, show readEffect addr s = none from hread]
    have hstep : ∀ i, addr + 4 + 4 * i = addr + 4 * (i + 1) := fun i => by omega
    have hrest := mgmtRead_plain n (addr + 4) { s with resp := [s.plainWord addr] } (fun i hi => by
      obtain ⟨hon, hread⟩ := h (i + 1) (Nat.succ_lt_succ hi)
      rw [hstep]
      exact ⟨hon, readEffect_none _ hread⟩)
    simp only [mgmtRead, hfirst, hrest, plainWord_resp, hstep, List.range_succ_eq_map, List.map_cons, List.map_map, List.singleton_append]
    rfl

/-! ## The registers of the examples -/

/-- PM_OFFACC_LO, SB_SHUTDOWN, SB_TT_AT_LO, SB_TT_AT_HI and TB_PPS_ERR are plain in every state. -/
theorem State.plainWrite_of_mem (s : State) (src : Source) (v : Nat) (al : Bool) {addr : Nat}
    (h : addr ∈ [0x10010, 0x2000C, 0x20108, 0x2010C, 0x1F001C]) : s.PlainWrite src addr v al := by
  simp only [List.mem_cons, List.not_mem_nil, or_false] at h
  rcases h with rfl | rfl | rfl | rfl | rfl <;>
    exact
      { shown := by simp [State.hidden, State.noSection, State.noLane, State.closedBt, copyOf]
        notParam := by simp [State.frameParam, copyOf]
        front := rfl, back := rfl, system := rfl, noSat := rfl, notLanes := by decide }

section
variable (s : State) (src : Source) (v : Nat)

theorem writeFields_offAccLo : s.writeFields src 0x10010 v = s.writeField src .w1c F.PM_OFFACC_LO_BLOCK v := by
  rw [s.writeFields_eq src v (r := ⟨"PM_OFFACC_LO", 0x10010, 1, 0x0, 1, 0, [⟨31, 0, .w1c, 0⟩]⟩) rfl]
  simp [State.writeRow, FieldRow.at, FieldRow.accAt]

theorem writeFields_ttAtLo : s.writeFields src 0x20108 v = s.put F.SB_TT_AT_LO_SEC_LO v := by
  rw [s.writeFields_eq src v (r := ⟨"SB_TT_AT_LO", 0x20108, 1, 0x0, 1, 0, [⟨31, 0, .rw, 0⟩]⟩) rfl]
  simp [State.writeRow, FieldRow.at, FieldRow.accAt, State.writeField]

theorem writeFields_ttAtHi : s.writeFields src 0x2010C v = s.put F.SB_TT_AT_HI_SEC_HI v := by
  rw [s.writeFields_eq src v (r := ⟨"SB_TT_AT_HI", 0x2010C, 1, 0x0, 1, 0, [⟨15, 0, .rw, 0⟩]⟩) rfl]
  simp [State.writeRow, FieldRow.at, FieldRow.accAt, State.writeField]

theorem writeFields_ppsErr : s.writeFields src 0x1F001C v = s := rfl

theorem writeFields_shutdown : s.writeFields src 0x2000C v = s.writeField src .rwl F.SB_SHUTDOWN_BUDGET (v / 2 ^ 24) := rfl

end

theorem writeField_rwl_host (s : State) (f : Fld) (x : Nat) : s.writeField .host .rwl f x = s := by
  simp [State.writeField]

/-- Before commit the signal box's write sets BUDGET, which has no range of its own (R10). -/
theorem writeField_budget_signalBox (s : State) (x : Nat) (h : s.is F.SB_STATUS_COMMITTED = false) :
    s.writeField .signalBox .rwl F.SB_SHUTDOWN_BUDGET x = s.put F.SB_SHUTDOWN_BUDGET (x % 256) := by
  have hrange : s.rangeOf F.SB_SHUTDOWN_BUDGET = none := rfl
  have habsent : s.absent F.SB_SHUTDOWN_BUDGET = false := Bool.and_false _
  simp [State.writeField, h, habsent, State.heldIn_free _ hrange]

/-- Two words from SB_TT_AT_LO on, written through the MGMT port. -/
theorem mgmtWrite_ttAt (s : State) (v w : Nat) (al : Bool) (h : s.domainOn 2 = true) : mgmtWrite al 0x20108 [v, w] s =
    (s.put F.SB_TT_AT_LO_SEC_LO (v % 2 ^ 32)).put F.SB_TT_AT_HI_SEC_HI (w % 2 ^ 32) := by
  have hlo : access 0x20108 (writeReg .host 0x20108 (v % 2 ^ 32) al) s = s.put F.SB_TT_AT_LO_SEC_LO (v % 2 ^ 32) := by
    rw [access_on (addr := 0x20108) h, writeReg_plain (s.plainWrite_of_mem _ _ _ (by decide)), writeFields_ttAtLo]
  have hon : (s.put F.SB_TT_AT_LO_SEC_LO (v % 2 ^ 32)).blockOn 0x2010C = true := (s.domainOn_put _ 2 (by decide)).trans h
  simp only [mgmtWrite, hlo]
  rw [access_on hon, writeReg_plain (State.plainWrite_of_mem _ _ _ _ (by decide)), writeFields_ttAtHi]

/-! ## The clauses of the control space, one by one -/

section
variable (s : State) (t : Nat)

/-- A write of four bytes to a plain register follows its fields' access types (R8, R10, R29). -/
theorem registerWrite_follows_access {src : Source} {addr v : Nat} {al : Bool} {r : RegRow} (h4 : addr % 4 = 0) (hon : s.blockOn addr = true)
    (hr : findReg addr = some r) (hp : s.PlainWrite src addr v al) : ∃ u, exec (.registerWrite src t addr v 15 al) s = .next u ∧
    (∀ f ∈ r.fields, f.accAt addr = .rw → u.get (f.at addr) = v % 2 ^ 32 / 2 ^ f.lo % 2 ^ (f.at addr).width) ∧
    (∀ f ∈ r.fields, f.accAt addr = .w1c → ∀ b, b < (f.at addr).width →
      (u.get (f.at addr)).testBit b = ((s.get (f.at addr)).testBit b && !v.testBit (f.lo + b))) ∧
    (∀ f ∈ r.fields, f.accAt addr = .ro → (f.at addr).key ∉ settleKeys → u.get (f.at addr) = s.get (f.at addr)) ∧
    OnlyChanges (r.fields.map (·.at addr)) [] s u := by
  refine ⟨_, exec_registerWrite_plain t h4 hon hp, fun f hf ha => ?_, fun f hf ha b hb => ?_, fun f hf ha hk => ?_,
    (writeFields_onlyChanges hr _ src _).answer⟩
  · rw [State.get_answer _ _ (hp.notSettled hr hf (by simp [ha])), get_writeFields_rw hr hf _ _ _ ha]
  · have hlt : f.lo + b < 32 := by
      have := findReg_bits hr hf
      rw [FieldRow.at_width] at hb
      omega
    rw [State.get_answer _ _ (hp.notSettled hr hf (by simp [ha])), get_writeFields_w1c hr hf _ _ _ ha hb, State.get_advance,
      Nat.testBit_mod_two_pow, decide_eq_true hlt, Bool.true_and]
  · rw [State.get_answer _ _ hk, get_writeFields_ro hr hf _ _ _ ha, State.get_advance]

theorem registerWrite_ttAtLo (src : Source) (v : Nat) (al : Bool) (h : s.domainOn 2 = true) :
    ∃ u, exec (.registerWrite src t 0x20108 v 15 al) s = .next u ∧ u.get F.SB_TT_AT_LO_SEC_LO = v % 2 ^ 32 ∧
      OnlyChanges [F.SB_TT_AT_LO_SEC_LO] [] s u := by
  refine ⟨_, exec_registerWrite_plain t rfl h (s.plainWrite_of_mem _ _ _ (by decide)), ?_⟩
  rw [writeFields_ttAtLo]
  refine ⟨?_, (OnlyChanges.put _ _ _ (by decide)).answer⟩
  rw [State.get_answer _ _ (by decide), State.get_put_same, Nat.mod_mod]

theorem registerWrite_offAccLo (src : Source) (v : Nat) (al : Bool) (h : s.domainOn 0 = true) :
    ∃ u, exec (.registerWrite src t 0x10010 v 15 al) s = .next u ∧
      (∀ b, b < 32 → (u.get F.PM_OFFACC_LO_BLOCK).testBit b = ((s.get F.PM_OFFACC_LO_BLOCK).testBit b && !v.testBit b)) ∧
      OnlyChanges [F.PM_OFFACC_LO_BLOCK] [] s u := by
  refine ⟨_, exec_registerWrite_plain t rfl h (s.plainWrite_of_mem _ _ _ (by decide)), ?_⟩
  rw [writeFields_offAccLo]
  refine ⟨fun b hb => ?_, (OnlyChanges.writeField _ _ _ _ _ (by decide)).answer⟩
  rw [State.get_answer _ _ (by decide), State.testBit_writeField_w1c _ _ _ _ hb, State.get_advance, Nat.testBit_mod_two_pow, decide_eq_true hb,
    Bool.true_and]

theorem registerWrite_ppsErr (src : Source) (v : Nat) (al : Bool) (h : s.domainOn 2 = true) :
    ∃ u, exec (.registerWrite src t 0x1F001C v 15 al) s = .next u ∧ OnlyChanges [] [] s u := by
  refine ⟨_, exec_registerWrite_plain t rfl h (s.plainWrite_of_mem _ _ _ (by decide)), ?_⟩
  rw [writeFields_ppsErr]
  exact (OnlyChanges.refl _).answer

theorem registerWrite_shutdown_host (v : Nat) (al : Bool) (h : s.domainOn 2 = true) :
    ∃ u, exec (.registerWrite .host t 0x2000C v 15 al) s = .next u ∧ OnlyChanges [] [] s u := by
  refine ⟨_, exec_registerWrite_plain t rfl h (s.plainWrite_of_mem _ _ _ (by decide)), ?_⟩
  rw [writeFields_shutdown, writeField_rwl_host]
  exact (OnlyChanges.refl _).answer

theorem registerWrite_shutdown_signalBox (v : Nat) (al : Bool) (h : s.domainOn 2 = true) (hc : s.is F.SB_STATUS_COMMITTED = false) :
    ∃ u, exec (.registerWrite .signalBox t 0x2000C v 15 al) s = .next u ∧ u.get F.SB_SHUTDOWN_BUDGET = v / 2 ^ 24 % 256 ∧
      OnlyChanges [F.SB_SHUTDOWN_BUDGET] [] s u := by
  refine ⟨_, exec_registerWrite_plain t rfl h (s.plainWrite_of_mem _ _ _ (by decide)), ?_⟩
  rw [writeFields_shutdown, writeField_budget_signalBox _ _ (by simpa using hc)]
  refine ⟨?_, (OnlyChanges.put _ _ _ (by decide)).answer⟩
  rw [State.get_answer _ _ (by decide), State.get_put_same]
  show v % 2 ^ 32 / 2 ^ 24 % 256 % 256 = _
  omega

theorem mgmtRead_answers {addr n : Nat} (h4 : addr % 4 = 0) (hn : n ≤ 64)
    (h : ∀ i, i < n → s.blockOn (addr % 2 ^ 24 + 4 * i) = true ∧ readEffect (addr % 2 ^ 24 + 4 * i) s = none) :
    ∃ u, exec (.mgmtRead t addr n) s = .next u ∧ u.resp = (List.range n).map (fun i => (s.advance t).plainWord (addr % 2 ^ 24 + 4 * i)) ∧
      OnlyChanges [] [.resp] s u := by
  have hadv : ∀ i < n, (s.advance t).blockOn (addr % 2 ^ 24 + 4 * i) = true ∧ readEffect (addr % 2 ^ 24 + 4 * i) (s.advance t) = none :=
    fun i hi => ⟨(h i hi).1, readEffect_none _ (h i hi).2⟩
  refine ⟨_, exec_mgmtRead t h4 hn, ?_⟩
  rw [mgmtRead_plain n _ _ hadv]
  exact ⟨State.answer_resp _ _, (OnlyChanges.resp _ _).answer⟩

theorem mgmtWrite_two (v w : Nat) (al : Bool) (h : s.domainOn 2 = true) : ∃ u, exec (.mgmtWrite t 0x20108 [v, w] al) s = .next u ∧
    u.get F.SB_TT_AT_LO_SEC_LO = v % 2 ^ 32 ∧ u.get F.SB_TT_AT_HI_SEC_HI = w % 2 ^ 16 ∧
    OnlyChanges [F.SB_TT_AT_LO_SEC_LO, F.SB_TT_AT_HI_SEC_HI] [] s u := by
  refine ⟨_, exec_mgmtWrite t [v, w] rfl, ?_⟩
  rw [show mgmtWrite al (0x20108 % 2 ^ 24) ([v, w].take 64) (s.advance t) = _ from mgmtWrite_ttAt (s.advance t) v w al h]
  refine ⟨?_, ?_, ((OnlyChanges.put _ _ _ (by decide)).trans (OnlyChanges.put _ _ _ (by decide))).answer⟩
  · rw [State.get_answer _ _ (by decide), State.get_put_ne _ _ (by decide), State.get_put_same, Nat.mod_mod]
  · rw [State.get_answer _ _ (by decide), State.get_put_same]
    show w % 2 ^ 32 % 2 ^ 16 = _
    omega

theorem mgmtInvalidCommand_answers : ∃ u, exec (.mgmtInvalidCommand t) s = .next u ∧ u.resp = [0xFF] ∧ OnlyChanges [] [.resp] s u :=
  ⟨_, rfl, State.answer_resp _ _, (OnlyChanges.resp (s.advance t) _).answer⟩

end

end Sys2Proof.Machine

section
open Sys2Proof Sys2Proof.Machine

/-- Settles O59: each clause is a fact of its own about the command it speaks of; a plain register's fields are written in turn, and as they begin
at different bits, each reads as its own write leaves it. -/
theorem controlSpace : Obligations.ControlSpace := by
  intro s t
  refine ⟨?misaligned, ?partialWrite, ?plain, ?ttAtLo, ?offAccLo, ?ppsErr, ?shutdown, ?mgmtRead, ?mgmtWriteOne, ?mgmtWriteTwo, ?mgmtInvalid⟩
  case misaligned => exact fun _ _ _ be _ h => exec_registerWrite_misaligned t be h
  case partialWrite => exact fun _ _ _ _ _ h hon hbe => ⟨_, exec_registerWrite_partial t h hon hbe, (OnlyChanges.refl _).answer⟩
  case plain =>
    intro src addr v al r h4 hon hshown hparam hr hfront hback hsystem hsat hlanes
    exact registerWrite_follows_access s t h4 hon hr ⟨hshown, hparam, hfront, hback, hsystem, hsat, hlanes⟩
  case ttAtLo => exact registerWrite_ttAtLo s t
  case offAccLo => exact registerWrite_offAccLo s t
  case ppsErr => exact registerWrite_ppsErr s t
  case shutdown => exact fun v al h => ⟨registerWrite_shutdown_host s t v al h, registerWrite_shutdown_signalBox s t v al h⟩
  case mgmtRead => exact fun _ _ h4 hn h => mgmtRead_answers s t h4 hn h
  case mgmtWriteOne => exact fun _ _ _ h => exec_mgmtWrite_one t h
  case mgmtWriteTwo => exact mgmtWrite_two s t
  case mgmtInvalid => exact mgmtInvalidCommand_answers s t

end

/-!
The output path and the sections' frames (R331-R339).
-/

namespace Sys2Proof.Machine

/-! ## Bytes of memory -/

/-- A byte reads the memory only. -/
theorem State.rdByte_congr {s u : State} (h : u.mem = s.mem) (a : Nat) : u.rdByte a = s.rdByte a := by simp [State.rdByte, h]

theorem State.rdBytes_eq_map (s : State) : ∀ (n a : Nat), s.rdBytes a n = (List.range n).map (fun i => s.rdByte (a + i))
  | 0, _ => rfl
  | n + 1, a => by
    simp [State.rdBytes, s.rdBytes_eq_map n (a + 1), List.range_succ_eq_map, Nat.add_assoc, Nat.add_comm 1]

theorem State.rdBytes_congr {s u : State} (h : u.mem = s.mem) (a n : Nat) : u.rdBytes a n = s.rdBytes a n := by
  simp [State.rdBytes_eq_map, State.rdByte_congr h]

/-- The run of bytes just written. -/
theorem State.rdBytes_wrBytes (s : State) (a : Nat) (bs : List (BitVec 8)) : (s.wrBytes a bs).rdBytes a bs.length = bs := by
  refine List.ext_getElem (by simp [State.rdBytes_eq_map]) fun i hi hj => ?_
  simp [State.rdBytes_eq_map, State.rdByte_wrBytes_in s a bs (a + i) (by omega) (by omega)]

/-! ## The builder (R26, R338, R339) -/

@[simp] theorem State.sealGap_mem (s : State) (k n : Nat) : (s.sealGap k n).mem = s.mem := rfl
@[simp] theorem State.get_sealGap (s : State) (k n : Nat) (g : Fld) : (s.sealGap k n).get g = s.get g := rfl

theorem get_discardFrame (s : State) (f : Frame) :
    (s.discardFrame f).get F.CX_DISCARDED_COUNT = min (s.get F.CX_DISCARDED_COUNT + 1) (2 ^ F.CX_DISCARDED_COUNT.width - 1) := by
  rw [State.discardFrame, State.get_sealGap, State.get_bump_same _ _ (by decide)]

/-- The end of a block changes CX_STATUS BLOCKED and its instants. -/
theorem State.unblock_onlyChanges (s : State) : OnlyChanges [F.CX_STATUS_BLOCKED] [.out] s s.unblock := by
  unfold State.unblock
  split
  · have hout : OnlyChanges [F.CX_STATUS_BLOCKED] [.out] s { s with out := { s.out with blockedAt := none, freeAt := some s.now } } :=
      ⟨fun _ _ _ => rfl, fun p hp => by cases p <;> first | rfl | exact absurd List.mem_cons_self hp⟩
    exact (hout.trans (.put _ _ _ (by decide))).trans (Posting.raise _ _ _ _).onlyChanges
  · exact .refl s

@[simp] theorem State.unblock_mem (s : State) : s.unblock.mem = s.mem := s.unblock_onlyChanges.2 .mem (by decide)
@[simp] theorem State.unblock_built (s : State) : s.unblock.built = s.built := s.unblock_onlyChanges.2 .built (by decide)
@[simp] theorem State.unblock_placed (s : State) : s.unblock.out.placed = s.out.placed := by
  unfold State.unblock; split <;> simp

/-- A frame that coding did not make shorter is counted. -/
def State.noteUnshrunk (s : State) (unshrunk : Bool) : State :=
  if unshrunk then (s.bump F.CX_NOSHRINK_COUNT F.CX_CNT_SAT_NOSH_SAT 1).raisePerSecond 0x0A07 wide 0 else s

@[simp] theorem State.noteUnshrunk_mem (s : State) (b : Bool) : (s.noteUnshrunk b).mem = s.mem := by unfold State.noteUnshrunk; split <;> simp
@[simp] theorem State.noteUnshrunk_out (s : State) (b : Bool) : (s.noteUnshrunk b).out = s.out := by unfold State.noteUnshrunk; split <;> simp

/-- A Brillouin or RTD frame that is placed ends their discarding. -/
def State.noteAux (s : State) (f : Frame) : State := s.when f.aux (fun s => s.put F.CX_STATUS_AUX_DISCARD 0)

@[simp] theorem State.noteAux_mem (s : State) (f : Frame) : (s.noteAux f).mem = s.mem := by unfold State.noteAux State.when; split <;> simp
@[simp] theorem State.noteAux_out (s : State) (f : Frame) : (s.noteAux f).out = s.out := by unfold State.noteAux State.when; split <;> simp

section
variable {s : State} {f : Frame} {rest : List Frame}

theorem framePlace_discarded (hb : s.built = f :: rest) (hd : s.out.disc.contains f.stream = true) :
    framePlace s = State.unblock { s.discardFrame f with built := rest } := by
  simp only [framePlace, hb, hd, if_true]

theorem framePlace_placed {w : State} (hb : s.built = f :: rest) (hd : s.out.disc.contains f.stream = false) (hp : s.placeFrame f = some w) :
    (framePlace s).built = rest ∧ (framePlace s).mem = w.mem ∧ (framePlace s).out.placed = w.out.placed := by
  have hrun : framePlace s = State.unblock { w with built := rest } := by
    simp only [framePlace, hb, hd, hp, Bool.false_eq_true, if_false]
  rw [hrun]
  exact ⟨State.unblock_built _, State.unblock_mem _, State.unblock_placed _⟩

theorem framePlace_blocked (hb : s.built = [f]) (hd : s.out.disc.contains f.stream = false) (hp : s.placeFrame f = none) :
    framePlace s = s.block.unblock := by
  simp only [framePlace, hb, hd, hp, Bool.false_eq_true, if_false, List.findIdx?_nil]

/-- A frame with a slot and room in the frame area goes there. -/
theorem placeFrame_direct {coded : Nat × List (BitVec 8) × List Int × Bool} {p : Nat} (hc : coded = codeArray (s.modeOf f).1 (s.modeOf f).2 f)
    (hr : s.slotReady = true) (hs : f.aux = true ∨ s.sided = false) (hp : s.room 0 ((frameLen coded f + 63) / 64 * 64) = some p) :
    s.placeFrame f = some (((s.putFrame f 0 p (f.flags + if coded.2.2.2 then 1024 else 0) coded).noteUnshrunk coded.2.2.2).noteAux f) := by
  subst hc
  have hs' : f.aux = true ∨ (!s.sided) = true := by simpa using hs
  simp only [State.placeFrame, hr, hs', hp, and_self, if_true]
  rfl

/-- A section's frame without a slot and without room in the sidings is placed nowhere. -/
theorem placeFrame_noRoom {coded : Nat × List (BitVec 8) × List Int × Bool} (hc : coded = codeArray (s.modeOf f).1 (s.modeOf f).2 f)
    (hd : s.out.disc.contains f.stream = false) (hr : s.slotReady = false) (ha : f.aux = false)
    (hp : s.room 1 ((frameLen coded f + 63) / 64 * 64) = none) : s.placeFrame f = none := by
  subst hc
  simp only [State.placeFrame, State.discards, hr, ha, hd, hp, Bool.false_eq_true, false_and, if_false, Option.map_none]

end

theorem putFrame_mem (s : State) (f : Frame) (area pos flags : Nat) (coded : Nat × List (BitVec 8) × List Int × Bool) :
    (s.putFrame f area pos flags coded).mem = (s.wrBytes (spaceBar2 + s.windowOffset area pos)
      (frameBytes (s.get F.FL_STATUS_ID) (kvGet 0 s.out.alive f.stream) (s.out.cur.seq % 2 ^ 32) flags coded f)).mem := rfl

theorem putFrame_placed (s : State) (f : Frame) (area pos flags : Nat) (coded : Nat × List (BitVec 8) × List Int × Bool) :
    (s.putFrame f area pos flags coded).out.placed = s.out.placed ++ [⟨area, pos,
      (frameBytes (s.get F.FL_STATUS_ID) (kvGet 0 s.out.alive f.stream) (s.out.cur.seq % 2 ^ 32) flags coded f).length,
      f.stream, f.product, none, false⟩] := rfl

theorem State.block_blocked (s : State) : s.block.is F.CX_STATUS_BLOCKED = true := by
  unfold State.block
  split
  · assumption
  · rw [State.is_raise _ _ _ _ (by decide), State.is_put_same]; rfl

@[simp] theorem State.block_mem (s : State) : s.block.mem = s.mem := by unfold State.block; split <;> simp
@[simp] theorem State.block_built (s : State) : s.block.built = s.built := by unfold State.block; split <;> simp
@[simp] theorem State.block_placed (s : State) : s.block.out.placed = s.out.placed := by unfold State.block; split <;> simp

/-- The block stays while a frame is held. -/
theorem State.unblock_of_held {s : State} (h : s.built ≠ []) : s.unblock = s := by simp [State.unblock, h]

/-! ## Posting and return (R335-R337) -/

@[simp] theorem State.nextSlot_out (s : State) : s.nextSlot.out = s.out := by unfold State.nextSlot; dsimp only; split <;> rfl
@[simp] theorem State.nextSlot_mem (s : State) : s.nextSlot.mem = s.mem := by unfold State.nextSlot; dsimp only; split <;> rfl

theorem State.get_nextSlot (s : State) {f : Fld} (h : f.key ≠ F.HW_RING_NEXT_SLOT.key) (h2 : f.key ≠ F.HW_RING_NEXT_LAP.key) :
    s.nextSlot.get f = s.get f := by
  unfold State.nextSlot
  dsimp only
  split
  · rw [State.get_bumpWrap_ne _ _ h2, State.get_put_ne _ _ h]
  · exact State.get_put_ne _ _ h

@[simp] theorem State.syncSidings_out (s : State) : s.syncSidings.out = s.out := by
  rw [State.syncSidings, State.putSat_out, State.putSat_out, State.putB_out]

@[simp] theorem State.syncSidings_mem (s : State) : s.syncSidings.mem = s.mem := by
  rw [State.syncSidings, State.putSat_mem, State.putSat_mem, State.putB_mem]

theorem State.get_syncSidings (s : State) {f : Fld} (h : f.key ∉ [F.CX_STATUS_SIDED.key, F.CX_SIDE_FILL_FILL.key, F.CX_SIDE_FILL_PEAK.key]) :
    s.syncSidings.get f = s.get f := by
  simp only [List.mem_cons, List.not_mem_nil, or_false, not_or] at h
  obtain ⟨h1, h2, h3⟩ := h
  rw [State.syncSidings, State.get_putSat_ne _ _ h3, State.get_putSat_ne _ _ h2, State.get_putB_ne _ _ h1]

/-- The descriptor that a posted frame gives its slot (R335). -/
def State.postedDesc (s : State) (p : Placed) : Desc :=
  { offset := s.windowOffset p.area p.offset, length := p.len,
    status := p.stream + p.product * 2 ^ 16 + areaCode p.area p.offset * 2 ^ 24 + (if p.area = 1 then 2 ^ 27 else 0),
    control := s.get F.HW_RING_NEXT_LAP }

/-- The next slot takes the frame's descriptor. -/
def State.postFrame (s : State) (p : Placed) : State :=
  { s with out := { s.out with ring := kvSet {} s.out.ring (s.get F.HW_RING_NEXT_SLOT) (s.postedDesc p),
                               placed := s.out.placed.map (fun (q : Placed) => if q = p then { q with slot := some (s.get F.HW_RING_NEXT_SLOT) } else q) } }

theorem Posting.frameCause (s : State) : Posting s s.frameCause := by
  unfold State.frameCause
  dsimp only
  split
  · exact (Posting.vectorCause s 0).trans (Posting.ev _ _)
  · exact Posting.vectorCause s 0

/-- The end of siding is reported (R338); `was`: were frames in the sidings before? -/
def State.noteUnsided (s : State) (was : Bool) : State := if was && !s.sided then s.raise 0x0A02 wide 0 else s

theorem Posting.noteUnsided (s : State) (was : Bool) : Posting s (s.noteUnsided was) := by
  unfold State.noteUnsided
  split
  · exact Posting.raise _ _ _ _
  · exact Posting.refl _

/-- One more post that is not yet announced (R348). -/
def State.countPost (s : State) : State :=
  let s := { s with ev := { s.ev with unannounced := s.ev.unannounced + 1, oldest := some (s.ev.oldest.getD s.now) } }
  if s.ev.unannounced ≥ max 1 (s.get F.HW_IRQ_CFG_FRAMES) then s.frameCause else s

theorem Posting.countPost (s : State) : Posting s s.countPost := by
  unfold State.countPost
  dsimp only
  split
  · exact (Posting.ev s _).trans (Posting.frameCause _)
  · exact Posting.ev s _

/-- A post gives the slot its descriptor, moves on and counts. -/
theorem framePost_posted {s : State} {p : Placed} (hp : s.nextPost = some p) (ho : s.owns (s.get F.HW_RING_NEXT_SLOT) = true) :
    framePost false s = (((s.postFrame p).nextSlot.bumpWrap F.HW_RING_POSTED_COUNT 1).syncSidings.noteUnsided s.sided).countPost := by
  simp only [framePost, hp, ho, Bool.not_true, Bool.false_eq_true, if_false]
  rfl

/-- A slot with an uncorrectable Control word is passed over. -/
theorem framePost_skipped {s : State} {p : Placed} (hp : s.nextPost = some p) : framePost true s =
    (State.raise (((s.bump F.EC_UE_COUNT F.EC_CNT_SAT_UE_SAT 1).raisePerSecond 0x0902 0 0).bump F.HW_SKIPPED_COUNT F.HW_CNT_SAT_SKIP_SAT 1)
      0x0A0B wide 0).nextSlot := by
  simp only [framePost, hp, if_true]

/-- The module owns a slot again, and the frames that were posted to it stand as returned. -/
def State.takeBack (s : State) (slot : Nat) : State :=
  { s with out := { s.out with ring := kvSet {} s.out.ring slot { s.desc slot with control := 2147483648 },
                               placed := s.out.placed.map (fun (p : Placed) => if p.slot = some slot then { p with back := true } else p) } }

theorem takeBack_placed {s : State} {slot : Nat} {p : Placed} (hp : p ∈ (s.takeBack slot).out.placed) (h : p.slot = some slot) : p.back = true := by
  obtain ⟨q, -, rfl⟩ := List.mem_map.mp hp
  split at h
  · rw [if_pos ‹_›]
  · contradiction

/-- A slot that comes back is the module's, and the space behind it is freed (R337). -/
theorem ringReturn_taken {s : State} {slot : Nat} (hs : slot < s.get F.HW_RING_SIZE_SIZE) (ho : s.owns slot = false) :
    ringReturn slot s = (s.takeBack slot).freeSpace.syncSidings := by
  simp only [ringReturn, Nat.not_le.mpr hs, ho, Bool.false_eq_true, or_self, if_false]
  rfl

/-! ## The clauses, one by one -/

section
variable (s : State) (t : Nat)

theorem framePlace_discards {f : Frame} {rest : List Frame} (hb : s.built = f :: rest) (hd : s.out.disc.contains f.stream = true) :
    ∃ u, exec (.framePlace t) s = .next u ∧ u.built = rest ∧
      u.get F.CX_DISCARDED_COUNT = min (s.get F.CX_DISCARDED_COUNT + 1) (2 ^ F.CX_DISCARDED_COUNT.width - 1) ∧ u.mem = s.mem := by
  have hrun : framePlace (s.advance t) = _ := framePlace_discarded (s := s.advance t) hb hd
  refine ⟨_, rfl, ?_, ?_, ?_⟩ <;> rw [hrun]
  · simp
  · rw [State.get_answer _ _ (by decide), (State.unblock_onlyChanges _).1 _ (by decide) (by decide), State.get_mk, get_discardFrame,
      State.get_advance]
  · simp [State.discardFrame]

theorem framePlace_places {f : Frame} {rest : List Frame} (hb : s.built = f :: rest) {coded : Nat × List (BitVec 8) × List Int × Bool} {p : Nat}
    (hd : s.out.disc.contains f.stream = false) (hc : coded = codeArray (s.modeOf f).1 (s.modeOf f).2 f) (hr : s.slotReady = true)
    (hs : f.aux = true ∨ s.sided = false) (hp : s.room 0 ((frameLen coded f + 63) / 64 * 64) = some p) :
    ∃ u bytes flags, exec (.framePlace t) s = .next u ∧ u.built = rest ∧
      bytes = frameBytes (s.get F.FL_STATUS_ID) (kvGet 0 s.out.alive f.stream) (s.out.cur.seq % 2 ^ 32) flags coded f ∧
      u.rdBytes (spaceBar2 + s.windowOffset 0 p) bytes.length = bytes ∧
      (∀ a, (a < spaceBar2 + s.windowOffset 0 p ∨ spaceBar2 + s.windowOffset 0 p + bytes.length ≤ a) → u.rdByte a = s.rdByte a) ∧
      (∃ q, u.out.placed = s.out.placed ++ [q] ∧ q.area = 0 ∧ q.offset = p ∧ q.len = bytes.length ∧ q.stream = f.stream ∧ q.slot = none) := by
  obtain ⟨hbuilt, hmem, hplaced⟩ := framePlace_placed (s := s.advance t) hb hd (placeFrame_direct (s := s.advance t) hc hr hs hp)
  obtain ⟨bytes, hbytes⟩ := exists_eq (a' := frameBytes (s.get F.FL_STATUS_ID) (kvGet 0 s.out.alive f.stream) (s.out.cur.seq % 2 ^ 32)
    (f.flags + if coded.2.2.2 then 1024 else 0) coded f)
  have hmem : ((framePlace (s.advance t)).answer s.pending).mem = (s.wrBytes (spaceBar2 + s.windowOffset 0 p) bytes).mem := by
    rw [State.answer_mem, hmem, State.noteAux_mem, State.noteUnshrunk_mem, putFrame_mem, hbytes]
    rfl
  have hplaced : ((framePlace (s.advance t)).answer s.pending).out.placed =
      s.out.placed ++ [⟨0, p, bytes.length, f.stream, f.product, none, false⟩] := by
    rw [State.answer_out, hplaced, State.noteAux_out, State.noteUnshrunk_out, putFrame_placed, hbytes]
    rfl
  refine ⟨_, bytes, _, rfl, ?_, hbytes, ?_, fun a ha => ?_, _, hplaced, rfl, rfl, rfl, rfl, rfl⟩
  · rw [State.answer_built, hbuilt]
  · exact (State.rdBytes_congr hmem _ _).trans (State.rdBytes_wrBytes _ _ _)
  · exact (State.rdByte_congr hmem _).trans (State.rdByte_wrBytes_out _ _ _ a ha)

theorem framePlace_blocks {f : Frame} (hb : s.built = [f]) {coded : Nat × List (BitVec 8) × List Int × Bool}
    (hd : s.out.disc.contains f.stream = false) (hc : coded = codeArray (s.modeOf f).1 (s.modeOf f).2 f) (hr : s.slotReady = false)
    (ha : f.aux = false) (hp : s.room 1 ((frameLen coded f + 63) / 64 * 64) = none) :
    ∃ u, exec (.framePlace t) s = .next u ∧ u.built = s.built ∧ u.is F.CX_STATUS_BLOCKED = true ∧ u.out.placed = s.out.placed ∧ u.mem = s.mem := by
  have hplace := placeFrame_noRoom (s := s.advance t) (f := f) hc hd hr ha hp
  have hheld : (s.advance t).block.built ≠ [] := by simp [hb]
  have hrun : framePlace (s.advance t) = (s.advance t).block := by
    rw [framePlace_blocked (s := s.advance t) hb hd hplace, State.unblock_of_held hheld]
  refine ⟨_, rfl, ?_, ?_, ?_, ?_⟩ <;> rw [hrun]
  · simp
  · rw [State.is_answer _ _ (by decide)]
    exact State.block_blocked _
  · simp
  · simp

/-- A frame that is due takes the next slot, if the module owns it (R335, R336). -/
theorem framePost_posts {p : Placed} {slot : Nat} (hp : s.nextPost = some p) (hslot : slot = s.get F.HW_RING_NEXT_SLOT) (ho : s.owns slot = true) :
    ∃ u d, exec (.framePost t false) s = .next u ∧ u.desc slot = d ∧ d.length = p.len ∧ d.offset = s.windowOffset p.area p.offset ∧
      d.control = s.get F.HW_RING_NEXT_LAP ∧ (∀ k, k ≠ slot → u.desc k = s.desc k) ∧
      u.get F.HW_RING_POSTED_COUNT = (s.get F.HW_RING_POSTED_COUNT + 1) % 2 ^ F.HW_RING_POSTED_COUNT.width ∧ u.mem = s.mem := by
  subst hslot
  have hrun : framePost false (s.advance t) = _ := framePost_posted (s := s.advance t) hp ho
  have hposting : Posting (((s.advance t).postFrame p).nextSlot.bumpWrap F.HW_RING_POSTED_COUNT 1).syncSidings (framePost false (s.advance t)) :=
    hrun ▸ (Posting.noteUnsided _ _).trans (Posting.countPost _)
  have hout : (framePost false (s.advance t)).out = ((s.advance t).postFrame p).out := by simp [hposting.out]
  have hdesc : ∀ k, ((framePost false (s.advance t)).answer s.pending).desc k =
      kvGet {} (kvSet {} s.out.ring (s.get F.HW_RING_NEXT_SLOT) (s.postedDesc p)) k := fun k => by
    simp [State.desc, hout]
    rfl
  refine ⟨_, s.postedDesc p, rfl, ?_, rfl, rfl, rfl, fun k hk => ?_, ?_, ?_⟩
  · rw [hdesc, kvGet_kvSet_same]
  · rw [hdesc, kvGet_kvSet_ne _ _ _ _ hk]
    rfl
  · rw [State.get_answer _ _ (by decide), hposting.get _ (by decide), State.get_syncSidings _ (by decide), State.get_bumpWrap_same,
      State.get_nextSlot _ (by decide) (by decide)]
    rfl
  · simp [hposting.mem]
    rfl

theorem framePost_skips {p : Placed} (hp : s.nextPost = some p) : ∃ u, exec (.framePost t true) s = .next u ∧ u.out = s.out ∧ u.mem = s.mem ∧
    u.get F.HW_SKIPPED_COUNT = min (s.get F.HW_SKIPPED_COUNT + 1) (2 ^ F.HW_SKIPPED_COUNT.width - 1) := by
  have hrun : framePost true (s.advance t) = _ := framePost_skipped (s := s.advance t) hp
  refine ⟨_, rfl, ?_, ?_, ?_⟩ <;> rw [hrun]
  · simp
  · simp
  · rw [State.get_answer _ _ (by decide), State.get_nextSlot _ (by decide) (by decide), State.get_raise _ _ _ _ (by decide),
      State.get_bump_same _ _ (by decide), State.get_raisePerSecond _ _ _ _ (by decide), State.get_bump_ne _ _ (by decide) (by decide)]
    rfl

theorem ringReturn_returns {slot : Nat} (hon : s.domainOn 13 = true) (hs : slot < s.get F.HW_RING_SIZE_SIZE) (ho : s.owns slot = false) :
    ∃ u, exec (.ringReturn t slot) s = .next u ∧ u.owns slot = true ∧ (∀ k, k ≠ slot → u.desc k = s.desc k) ∧
      (∀ p, p ∈ u.out.placed → p.slot = some slot → p.back = true) ∧ u.mem = s.mem := by
  have hrun : inDomain 13 (ringReturn slot) (s.advance t) = _ :=
    (inDomain_on (s := s.advance t) hon).trans (ringReturn_taken (s := s.advance t) hs ho)
  have hdesc : ∀ k, ((((s.advance t).takeBack slot).freeSpace.syncSidings).answer s.pending).desc k =
      kvGet {} (kvSet {} s.out.ring slot { s.desc slot with control := 2147483648 }) k := fun k => by
    simp [State.desc]
    rfl
  refine ⟨_, rfl, ?_, fun k hk => ?_, fun p hp hslot => ?_, ?_⟩ <;> rw [hrun] at *
  · rw [State.owns, hdesc, kvGet_kvSet_same]
    show Nat.testBit 2147483648 31 = true
    decide
  · rw [hdesc, kvGet_kvSet_ne _ _ _ _ hk]
    rfl
  · rw [State.answer_out, State.syncSidings_out] at hp
    exact takeBack_placed (List.mem_of_mem_filter hp) hslot
  · simp
    rfl

theorem bar2Write_rejected (hon : s.domainOn 14 = true) : ∃ u, exec (.bar2WriteRejected t) s = .next u ∧
    u.get F.HW_BAD_WRITES_COUNT = min (s.get F.HW_BAD_WRITES_COUNT + 1) (2 ^ F.HW_BAD_WRITES_COUNT.width - 1) ∧
    OnlyChanges [F.HW_BAD_WRITES_COUNT, F.HW_CNT_SAT_BADW_SAT] [] s u := by
  have hrun : inDomain 14 bar2WriteRejected (s.advance t) = _ := inDomain_on (s := s.advance t) hon
  refine ⟨_, rfl, ?_, OnlyChanges.answer (t := t) ?_⟩ <;> rw [hrun, bar2WriteRejected]
  · rw [State.get_answer _ _ (by decide), State.get_raisePerSecond _ _ _ _ (by decide), State.get_bump_same _ _ (by decide)]
    rfl
  · exact (OnlyChanges.bump _ _ _ _ (by decide) (by decide)).trans (Posting.raiseLimited _ _ _ _ _ _).onlyChanges

end

end Sys2Proof.Machine

section
open Sys2Proof Sys2Proof.Machine

/-- Settles O37: each clause is a fact of its own about placing, posting, returning or a rejected write. -/
theorem framesFlow : Obligations.FramesFlow := by
  intro s t
  refine ⟨fun f rest hb => ⟨framePlace_discards s t hb, ?place, ?block⟩, fun p slot hp hslot => ⟨framePost_posts s t hp hslot, framePost_skips s t hp⟩,
    fun _ => ringReturn_returns s t, bar2Write_rejected s t⟩
  case place => exact fun _ _ hd hc hr hs hp => framePlace_places s t hb hd hc hr hs hp
  case block =>
    rintro _ hd hc hr ha hp rfl
    exact framePlace_blocks s t hb hd hc hr ha hp

end

/-!
What the steps of a sweep, of a start and of a calibration leave alone, said once for every step.
-/

namespace Sys2Proof.Machine

/-! ## The frame -/

/-- The registers that a sweep, a start or a calibration shows at its end. -/
def heldKeys : List Nat :=
  [F.PM_STATE_STATE.key, F.PM_DOMAINS_ON.key, F.SB_STATUS_COMMITTED.key, F.SB_STATUS_PHASE.key, F.SB_TT_STATUS_ACTIVE.key, F.TT_SWEEP_COUNT_COUNT.key,
   F.OP_LASER_WARM.key, F.CL_STATUS_RUNNING.key]

/-- The parts of the state in which a sweep, a start or a calibration keeps its account. -/
def heldParts : List Part := [.pw, .sw, .sched, .opt]

/-- From `s` to `u` the instant, the held registers, the placed notice board and the held parts but those of `ps` are kept. -/
structure Keeps (ps : List Part) (s u : State) : Prop where
  get : ∀ f : Fld, f.key ∈ heldKeys → u.get f = s.get f
  now : u.now = s.now
  placed : u.ev.placed = s.ev.placed
  part : ∀ p ∈ heldParts, p ∉ ps → p.same s u

/-- Above the blocks of PM_, SB_, TT_ and OP_ one register alone is held: CL_STATUS RUNNING. A field of an indexed register lies there by its address. -/
theorem not_held {k : Nat} (h : 5 * 2 ^ 21 ≤ k := by simp; omega) (h2 : k ≠ 52428831 := by simp; omega) : k ∉ heldKeys := by
  simp only [heldKeys, List.mem_cons, List.not_mem_nil, or_false]
  omega

theorem held_not_settled : ∀ k ∈ heldKeys, k ∉ settleKeys := by decide

/-! ## Raising and posting leave the board where it is -/

theorem latchFault_placed (s : State) (code inst : Nat) : (s.latchFault code inst).ev.placed = s.ev.placed := by
  have hfirst : (if s.get F.PM_FAULT_LATCH = 0 then s.put F.PM_FAULT_CODE_FIRST code else s).ev = s.ev := by split <;> rfl
  unfold State.latchFault
  split
  · dsimp only
    split <;> simp [State.syncActive, hfirst]
  · rfl

theorem raiseEv_placed (s : State) (e : Ev) : (s.raiseEv e).ev.placed = s.ev.placed := latchFault_placed s e.code e.inst

theorem vectorCause_placed (s : State) (v : Nat) : (s.vectorCause v).ev.placed = s.ev.placed := by
  unfold State.vectorCause
  split
  · rfl
  · dsimp only
    split
    · rfl
    · split <;> rfl

theorem nbWrite_placed (s : State) (e : Ev) : (s.nbWrite e).ev.placed = s.ev.placed := by
  simp [State.nbWrite, vectorCause_placed, syncNb_ev]

theorem nbReportLost_placed (s : State) : s.nbReportLost.ev.placed = s.ev.placed := by
  unfold State.nbReportLost
  split
  · exact nbWrite_placed _ _
  · rfl

theorem post_placed (s : State) (e : Ev) : (s.post e).ev.placed = s.ev.placed := by
  unfold State.post
  split
  · dsimp only
    split
    · simp [nbReportLost_placed]
    · rw [nbWrite_placed, nbReportLost_placed]
  · unfold State.logEvent
    split <;> rfl

theorem posts_placed : ∀ (es : List Ev) (s : State), (es.foldl (fun s e => s.post e) s).ev.placed = s.ev.placed
  | [], _ => rfl
  | e :: es, s => (posts_placed es _).trans (post_placed s e)

theorem noteAmp_placed (s : State) (old : Nat) : (s.noteAmp old).ev.placed = s.ev.placed := by unfold State.noteAmp; split <;> rfl

theorem noteChange_placed (s : State) (old : Nat) : (s.noteChange old).ev.placed = s.ev.placed := by
  unfold State.noteChange
  split
  · rfl
  · refine (raiseEv_placed _ _).trans ?_
    split <;> rfl

@[simp] theorem State.settle_placed (s : State) : s.settle.ev.placed = s.ev.placed := by
  refine (posts_placed _ _).trans ?_
  show (State.noteChange _ _).ev.placed = _
  rw [noteChange_placed, noteAmp_placed]
  rfl

@[simp] theorem State.answer_placed (s : State) (q : List Instr) : (s.answer q).ev.placed = s.ev.placed := s.settle_placed

/-! ## Keeping, step by step -/

namespace Keeps

variable {ps : List Part} {s u w : State}

theorem refl : Keeps ps s s := ⟨fun _ _ => rfl, rfl, rfl, fun p _ _ => p.same_refl s⟩

theorem trans (a : Keeps ps s u) (b : Keeps ps u w) : Keeps ps s w :=
  ⟨fun f h => (b.get f h).trans (a.get f h), b.now.trans a.now, b.placed.trans a.placed, fun p h h2 => Part.same_trans (a.part p h h2) (b.part p h h2)⟩

theorem ite {c : Prop} [Decidable c] {a b : State} (ha : Keeps ps s a) (hb : Keeps ps s b) : Keeps ps s (if c then a else b) := by
  split
  · exact ha
  · exact hb

theorem each {α : Type} {xs : List α} {f : α → State → State} (h : Keeps ps s w) (hf : ∀ x ∈ xs, ∀ v, Keeps ps s v → Keeps ps s (f x v)) :
    Keeps ps s (each xs f w) := by
  unfold Machine.each
  induction xs generalizing w with
  | nil => exact h
  | cons x xs ih =>
    exact ih (hf x List.mem_cons_self w h) (fun y hy => hf y (List.mem_cons_of_mem _ hy))

/-- A change beside the held parts. -/
theorem beside {mem freeCtr resp lanes fp secs dfifo built fab recd br sens dram out evt tref fl bt nv lc tb otp pending} (h : Keeps ps s w) :
    Keeps ps s ⟨w.regs, mem, w.now, freeCtr, resp, w.ev, w.sched, w.opt, w.sw, lanes, fp, secs, dfifo, built, fab, recd, br, sens, dram, out, evt,
      tref, fl, bt, w.pw, nv, lc, tb, otp, pending⟩ :=
  h.trans ⟨fun _ _ => rfl, rfl, rfl, fun p hp _ => by
    simp only [heldParts, List.mem_cons, List.not_mem_nil, or_false] at hp
    rcases hp with rfl | rfl | rfl | rfl <;> rfl⟩

/-- A change of the event machinery that leaves the board where it is. -/
theorem ev {e : Events} (h : Keeps ps s w) (he : e.placed = w.ev.placed) : Keeps ps s { w with ev := e } :=
  h.trans ⟨fun _ _ => rfl, rfl, he, fun p _ _ => by cases p <;> rfl⟩

/-- Posting, where it leaves the board where it is. -/
theorem posting (h : Keeps ps s w) (hp : Posting w u) (he : u.ev.placed = w.ev.placed) : Keeps ps s u :=
  h.trans ⟨fun _ hf => hp.quiet.get _ (held_not_settled _ hf), hp.now, he, fun p _ _ => (hp.onlyChanges (fs := []) (ps := [])).2 p List.not_mem_nil⟩

theorem put (h : Keeps ps s w) {f : Fld} {v : Nat} (hf : f.key ∉ heldKeys := by decide) : Keeps ps s (w.put f v) :=
  h.trans ⟨fun _ hg => State.get_put_ne _ _ (fun e => hf (e ▸ hg)), rfl, rfl, fun p _ _ => by cases p <;> rfl⟩

theorem putB (h : Keeps ps s w) {f : Fld} {b : Bool} (hf : f.key ∉ heldKeys := by decide) : Keeps ps s (w.putB f b) := h.put hf

theorem putSat (h : Keeps ps s w) {f : Fld} {v : Nat} (hf : f.key ∉ heldKeys := by decide) : Keeps ps s (w.putSat f v) := h.put hf

theorem putS (h : Keeps ps s w) {f : Fld} {v : Int} (hf : f.key ∉ heldKeys := by decide) : Keeps ps s (w.putS f v) := h.put hf

theorem bumpWrap (h : Keeps ps s w) {f : Fld} {n : Nat} (hf : f.key ∉ heldKeys := by decide) : Keeps ps s (w.bumpWrap f n) := h.put hf

theorem bump (h : Keeps ps s w) {c k : Fld} {n : Nat} (hc : c.key ∉ heldKeys := by decide) (hk : k.key ∉ heldKeys := by decide) : Keeps ps s (w.bump c k n) :=
  .ite ((h.put hc).put hk) (h.put hc)

theorem putFree (h : Keeps ps s w) {f : Fld} (hf : f.key ∉ heldKeys := by decide) : Keeps ps s (w.putFree f) := .put (.beside h) hf

theorem raiseEv (h : Keeps ps s w) {e : Ev} : Keeps ps s (w.raiseEv e) := h.posting (Posting.raiseEv _ _) (raiseEv_placed _ _)

theorem raise (h : Keeps ps s w) {code inst val : Nat} : Keeps ps s (w.raise code inst val) := h.raiseEv

theorem raiseAny (h : Keeps ps s w) {code inst val : Nat} : Keeps ps s (w.raiseAny code inst val) := .ite h.raiseEv (raiseEv (.beside h))

theorem setCause (h : Keeps ps s w) {f : Fld} {code inst val : Nat} (hf : f.key ∉ heldKeys := by decide) : Keeps ps s (w.setCause f code inst val) :=
  .ite h (raise (h.put hf))

theorem modSens (h : Keeps ps s w) {f : Sens → Sens} : Keeps ps s (w.modSens f) := .beside h

theorem setLane (h : Keeps ps s w) {n : Nat} {l : Lane} : Keeps ps s (w.setLane n l) := .beside h

theorem setSec (h : Keeps ps s w) {k : Nat} {x : Section} : Keeps ps s (w.setSec k x) := .beside h

/-! ### Lanes and the Brillouin channel -/

theorem brHalt (h : Keeps ps s w) : Keeps ps s w.brHalt := .ite h (.raise (.put (.put (.put (.beside h)))))

theorem setLaneState (h : Keeps ps s w) {n st : Nat} : Keeps ps s (w.setLaneState n st) :=
  have hput : Keeps ps s ((w.put (F.SL_LANE_STATUS_STATE n) st).syncLaneOk) := .put (.put h not_held)
  .ite (.brHalt hput) hput

theorem converge (h : Keeps ps s w) {n : Nat} : Keeps ps s (w.converge n) := .ite (.setLaneState h) h

theorem brDiscard (h : Keeps ps s w) : Keeps ps s w.brDiscard := .put (.put (.beside h))

theorem brRebase (h : Keeps ps s w) {i : Nat} : Keeps ps s (w.brRebase i) := .beside (.put h)

theorem brRestart (h : Keeps ps s w) {i : Nat} {event : Bool} : Keeps ps s (w.brRestart i event) := by
  have hput : Keeps ps s (w.brDiscard.put F.BR_STATUS_STATE 1) := .put (.brDiscard h)
  have hraise : Keeps ps s (if event then (w.brDiscard.put F.BR_STATUS_STATE 1).raise 0x0602 wide 0 else w.brDiscard.put F.BR_STATUS_STATE 1) :=
    .ite (.raise hput) hput
  exact .ite (.brHalt hraise) (.brRebase hraise)

/-! ### Calibration -/

theorem restartGroups (h : Keeps ps s w) {c : Bool} : Keeps ps s (w.restartGroups c) := .beside h

theorem calApply (h : Keeps ps s w) {r : CalRecord} {slices : Bool} : Keeps ps s (w.calApply r slices) := by
  unfold State.calApply
  extract_lets whole wholeBr delays trig skews noise hk taken groups
  have hdelays : Keeps ps s delays := .put (.put (.put h))
  have hskews : Keeps ps s skews := .each (.put hdelays) (fun v _ _ hv => .ite (.putS hv not_held) hv)
  have hnoise : Keeps ps s noise := .each hskews (fun v _ _ hv => .ite (.put hv not_held) hv)
  have hhk : Keeps ps s hk := .each hnoise (fun v _ _ hv => .ite (.putS (.putS hv not_held) not_held) hv)
  have htaken : Keeps ps s taken := .ite (.each hhk (fun _ _ _ hv => .ite (.setLane hv) hv)) hhk
  have hgroups : Keeps ps s groups := .ite (.restartGroups htaken) htaken
  exact .ite htaken (.ite (.brRestart hgroups) hgroups)

theorem calEffect (h : Keeps ps s w) {slices : Bool} : Keeps ps s (w.calEffect slices) := by
  unfold State.calEffect
  split
  · exact h
  · exact .raise (.put (.put (.modSens (.calApply h))))

/-! ### The end of a sweep -/

theorem issueRange (h : Keeps ps s w) {k product n : Nat} : Keeps ps s (w.issueRange k product n) := by
  unfold State.issueRange
  extract_lets x q rows
  split
  · exact h
  · extract_lets left cut
    have hcut : Keeps ps s cut := .setSec h
    exact .ite hcut (.each hcut (fun _ _ _ hv => .beside (.bumpWrap hv not_held)))

theorem flushAll (h : Keeps ps s w) {k : Nat} : Keeps ps s (w.flushAll k) := .beside (.each h (fun _ _ _ hv => .issueRange hv))

theorem endGone (h : Keeps ps s w) : Keeps ps s w.endGone := .each h (fun _ _ _ hv => .ite (.flushAll hv) hv)

theorem laneSweep (h : Keeps ps s w) {n : Nat} {m : LaneMeasure} (hn : n < 6) : Keeps ps s (w.laneSweep n m) := by
  unfold State.laneSweep
  extract_lets cs clips peak rms spur
  have hpeak : Keeps ps s peak := .putSat (.bump h not_held not_held) not_held
  have hrms : Keeps ps s rms := by
    show Keeps ps s (match rmsLevel cs with | some r => _ | none => _)
    split
    · exact .putS hpeak not_held
    · exact .putFree hpeak not_held
  have hspur : Keeps ps s spur := .putSat hrms not_held
  exact .ite h (.converge (.ite (.put hspur not_held) hspur))

theorem trackSkew (h : Keeps ps s w) {n : Nat} {d : Int} : Keeps ps s (w.trackSkew n d) :=
  .ite h (.putS (.setLane h) not_held)

theorem sweepLanes (h : Keeps ps s w) {ms : List LaneMeasure} : Keeps ps s (w.sweepLanes ms) := by
  unfold State.sweepLanes
  extract_lets limit clipping res back levels clipped residual tracked off
  have hlevels : Keeps ps s levels := .each h (fun n hn v hv => by
    show Keeps ps s (match ms[n]? with | some m => v.laneSweep n m | none => v)
    split
    · exact .laneSweep hv (List.mem_range.1 hn)
    · exact hv)
  have hclipped : Keeps ps s clipped := by
    show Keeps ps s (match clipping with | some n => levels.raise 0x0203 n 0 | none => levels)
    clear_value clipping
    split
    · exact .raise hlevels
    · exact hlevels
  have htracked : Keeps ps s tracked := .each (.putSat hclipped) (fun n _ v hv => by
    show Keeps ps s (match ms[n]? with | some m => v.trackSkew n m.skew | none => v)
    split
    · exact .trackSkew hv
    · exact hv)
  exact .ite h (.ite (.raise (.put htracked)) (.ite (.put htracked) htracked))

theorem syncDemand (h : Keeps ps s w) : Keeps ps s w.syncDemand := .putSat (.putSat h)

theorem applyRate (h : Keeps ps s w) : Keeps ps s w.applyRate := by
  unfold State.applyRate
  extract_lets rate target ended recd settled new
  have hsettled : Keeps ps s settled := by
    show Keeps ps s (match w.recd.shortAt with | some a => _ | none => w)
    split
    · exact .ite (.beside (.put h)) h
    · exact h
  have hnew : Keeps ps s new := .syncDemand (.put (.put hsettled))
  exact .ite hsettled (.ite (.raise hnew) (.ite (.raise hnew) hnew))

/-- A change of the optical engine's account, where it may change. -/
theorem opt {o : Optics} (h : Keeps ps s w) (ho : Part.opt ∈ ps) : Keeps ps s { w with opt := o } :=
  h.trans ⟨fun _ _ => rfl, rfl, rfl, fun p _ hp => by cases p with | opt => exact absurd ho hp | _ => rfl⟩

theorem loopJudge (h : Keeps ps s w) (ho : Part.opt ∈ ps) : Keeps ps s w.loopJudge := by
  have hrun : Keeps ps s { w with opt := { w.opt with loopRun := w.opt.loopFailed, loopChecked := false, loopFailed := false } } := .opt h ho
  exact .ite (.ite (.setCause hrun) hrun) h

theorem syncWindow (h : Keeps ps s w) (ho : Part.opt ∈ ps) : Keeps ps s w.syncWindow := by
  unfold State.syncWindow
  extract_lets pruned shown low was active
  have hactive : Keeps ps s active := .putB (.putSat (.putSat (.opt h ho)))
  exact .ite (.opt hactive ho) hactive

theorem endSweep (h : Keeps ps s w) (ho : Part.opt ∈ ps) : Keeps ps s w.endSweep := .syncWindow (.loopJudge h ho) ho

/-! ### Powering the receiver and the lanes -/

theorem syncCeilings (h : Keeps ps s w) : Keeps ps s w.syncCeilings := by
  unfold State.syncCeilings
  extract_lets fused avg pulse loop
  have hpulse : Keeps ps s pulse := .put (.put h)
  have hloop : Keeps ps s loop := .ite (.put hpulse) hpulse
  exact .ite hloop (.putSat hloop)

theorem clkStart (h : Keeps ps s w) : Keeps ps s w.clkStart := .ite (.put (.put h)) (.put h)

theorem laneStart (h : Keeps ps s w) {n : Nat} : Keeps ps s (w.laneStart n) := by
  unfold State.laneStart
  extract_lets cs taken
  exact .setLaneState (.put (.setLane h) not_held)

theorem lanesEnable (h : Keeps ps s w) : Keeps ps s w.lanesEnable :=
  .each h (fun _ _ _ hv => .ite (.ite (.laneStart hv) hv) (.ite hv (.setLaneState (.setLane hv))))

theorem syncEngines (h : Keeps ps s w) : Keeps ps s w.syncEngines := by
  unfold State.syncEngines
  extract_lets mask yards n
  have hyards : Keeps ps s yards := .each h (fun y _ _ hv =>
    .put (.put (.put hv not_held) not_held) not_held)
  exact .put (.put hyards)

theorem outOfService (h : Keeps ps s w) {u : Nat} : Keeps ps s (w.outOfService u) :=
  .ite (.put h not_held) (.ite (.beside h) (.ite (.beside h) h))

theorem reapply (h : Keeps ps s w) : Keeps ps s w.reapply := .syncEngines (.each h (fun _ _ _ hv => .outOfService hv))

end Keeps
end Sys2Proof.Machine

/-!
Sweep boundaries, tail light and the switch of timetables (R35, R45, R47, R58-R65).
-/

namespace Sys2Proof.Machine

/-! ## Changes of one part -/

section
variable {fs : List Fld} {ps : List Part}

theorem OnlyChanges.sched (s : State) (x : Sched) (h : Part.sched ∈ ps) : OnlyChanges fs ps s { s with sched := x } :=
  ⟨fun _ _ _ => rfl, fun p hp => by cases p with | sched => exact absurd h hp | _ => rfl⟩

theorem OnlyChanges.sw (s : State) (x : Switch) (h : Part.sw ∈ ps) : OnlyChanges fs ps s { s with sw := x } :=
  ⟨fun _ _ _ => rfl, fun p hp => by cases p with | sw => exact absurd h hp | _ => rfl⟩

theorem OnlyChanges.ite {c : Prop} [Decidable c] {s a b : State} (ha : OnlyChanges fs ps s a) (hb : OnlyChanges fs ps s b) :
    OnlyChanges fs ps s (if c then a else b) := by
  split
  · exact ha
  · exact hb

end

/-! ## The sweep that starts (R45, R55) -/

/-- The sweep's withholding goes from `held` to `next`; its beginning and its end are shown. -/
def State.withhold (s : State) (held next : List Nat) : State :=
  let s := { s with sched := { s.sched with withheld := next } }
  if held = [] ∧ next ≠ [] then (s.put F.TT_STATUS_WITHHOLDING 1).raise 0x0140 wide 0
  else if held ≠ [] ∧ next = [] then (s.put F.TT_STATUS_WITHHOLDING 0).raise 0x0141 wide 0
  else s

theorem withholdPlan_withholds (s : State) : ∃ next, s.withholdPlan = s.withhold s.sched.withheld next := ⟨_, rfl⟩

theorem get_withhold (s : State) (held next : List Nat) {f : Fld} (h : f.key ∉ eventKeys) (h2 : f.key ≠ F.TT_STATUS_WITHHOLDING.key) :
    (s.withhold held next).get f = s.get f := by
  unfold State.withhold
  split
  · exact (State.get_raise _ _ _ _ h).trans (State.get_put_ne _ _ h2)
  · split
    · exact (State.get_raise _ _ _ _ h).trans (State.get_put_ne _ _ h2)
    · rfl

theorem withhold_sched (s : State) (held next : List Nat) : (s.withhold held next).sched = { s.sched with withheld := next } := by
  unfold State.withhold
  split
  · simp
  · split <;> simp

theorem startSweep_started (s : State) : s.startSweep.sched.sweeps = s.sched.sweeps + 1 ∧ s.startSweep.sched.sweepStart = s.now ∧
    s.startSweep.get F.TT_SWEEP_COUNT_COUNT = (s.get F.TT_SWEEP_COUNT_COUNT + 1) % 2 ^ F.TT_SWEEP_COUNT_COUNT.width := by
  obtain ⟨next, hplan⟩ := withholdPlan_withholds (State.bumpWrap { s with sched :=
    { s.sched with sweeps := s.sched.sweeps + 1, brilCount := s.sched.brilCount + 1, sweepStart := s.now, taken := [], trigCount := 0,
                   trigWindows := [] } } F.TT_SWEEP_COUNT_COUNT 1)
  have hrun : s.startSweep = _ := hplan
  refine ⟨?_, ?_, ?_⟩ <;> rw [hrun]
  · rw [withhold_sched]; rfl
  · rw [withhold_sched]; rfl
  · rw [get_withhold _ _ _ (by decide) (by decide)]
    exact State.get_bumpWrap_same _ _ _

@[simp] theorem State.answer_sweeps (s : State) (q : List Instr) : (s.answer q).sched.sweeps = s.sched.sweeps := by
  show s.settle.sched.sweeps = _
  rw [(settle_quiet s).sched]

@[simp] theorem State.answer_sweepStart (s : State) (q : List Instr) : (s.answer q).sched.sweepStart = s.sched.sweepStart := by
  show s.settle.sched.sweepStart = _
  rw [(settle_quiet s).sched]

/-- What a sweep boundary does before the next sweep starts changes nothing of the sweep's account. -/
theorem sweepEnd_keeps (s : State) (lanes : List LaneMeasure) :
    Keeps [.opt] s ((((s.endSweep.endGone).sweepLanes lanes).applyRate).calEffect false) :=
  .calEffect (.applyRate (.sweepLanes (.endGone (.endSweep .refl (by decide)))))

/-! ## Requests and phases of the switch (R58-R61) -/

theorem sendSwitch_onlyChanges (s : State) (m : SwitchMsg) : OnlyChanges [] [.fl] s (s.sendSwitch m) :=
  .ite (.refl s) ⟨fun _ _ _ => rfl, fun p hp => by cases p with | fl => exact absurd List.mem_cons_self hp | _ => rfl⟩

theorem passRequest_onlyChanges (s : State) (r : SwitchReq) : OnlyChanges [] [.fl] s (s.passRequest r) := by
  unfold State.passRequest
  split
  · exact sendSwitch_onlyChanges _ _
  · exact .refl s

theorem tellRejected_onlyChanges (s : State) (module : Nat) : OnlyChanges [] [.fl] s (s.tellRejected module) :=
  .ite (sendSwitch_onlyChanges _ _) (.ite (sendSwitch_onlyChanges _ _) (.refl s))

theorem setPhase_onlyChanges (s : State) (st : Nat) : OnlyChanges [F.SB_TT_STATUS_STATE] [.sw] s (s.setPhase st) :=
  (OnlyChanges.sw _ _ (by decide)).trans (.put _ _ _ (by decide))

theorem setPhase_sw (s : State) (st : Nat) : (s.setPhase st).sw = { s.sw with phase := st } := rfl

theorem setLead_onlyChanges (s : State) (r : SwitchReq) : OnlyChanges [F.SB_TT_STATUS_STATE, F.SB_TT_STATUS_PENDING_INDEX] [.sw] s (s.setLead r) :=
  ((OnlyChanges.sw _ _ (by decide)).trans ((setPhase_onlyChanges _ _).mono (by decide) (by decide))).trans (.put _ _ _ (by decide))

section
variable {s : State} {r : SwitchReq}

/-- The request that a value written to SB_TT_REQUEST makes. -/
def State.requestOf (s : State) (v : Nat) : SwitchReq :=
  ⟨v % 4, v / 256 % 4, s.get F.SB_TT_AT_HI_SEC_HI * 4294967296 + s.get F.SB_TT_AT_LO_SEC_LO, none⟩

/-- With nothing pending a request for another index takes the lead and is passed to the array. -/
theorem ttRequestWrite_taken {v : Nat} (hc : s.is F.SB_STATUS_COMMITTED = true) (hd : s.is F.PM_STATE_SHUTTING = false) (ho : s.opt.off = false)
    (hi : s.get F.FL_STATUS_ID = 0) (hv : v.testBit 31 = true) (hl : s.sw.lead = none) (hx : v % 4 ≠ s.activeIndex) :
    ttRequestWrite v s =
      (((s.put F.SB_TT_REQUEST_MODE (v / 256)).put F.SB_TT_REQUEST_INDEX v).setLead (s.requestOf v)).passRequest (s.requestOf v) := by
  obtain ⟨w, hw⟩ := exists_eq (a' := (s.put F.SB_TT_REQUEST_MODE (v / 256)).put F.SB_TT_REQUEST_INDEX v)
  have hreq : w.requestOf v = s.requestOf v := by
    subst hw; simp [State.requestOf, State.get_put_ne]
  have hactive : w.activeIndex = s.activeIndex := by
    subst hw; simp [State.activeIndex, State.get_put_ne]
  have hlead : w.sw.lead = none := by subst hw; exact hl
  have hreq' : (⟨v % 4, v / 256 % 4, w.get F.SB_TT_AT_HI_SEC_HI * 4294967296 + w.get F.SB_TT_AT_LO_SEC_LO, none⟩ : SwitchReq) = s.requestOf v := hreq
  have hnot : ¬(v / 256 % 4 < 2 ∧ v % 4 = s.activeIndex) := fun h => hx h.2
  simp only [ttRequestWrite, hc, hd, ho, hi, hv, ← hw, hreq', State.submitSwitch, hlead, hactive, hnot, State.when, Bool.not_true, Bool.false_eq_true,
    or_self, if_false, not_true, ne_eq, if_true, decide_false, Bool.and_false, Bool.not_false]

theorem ttRequestWrite_refused {v : Nat} (hc : s.is F.SB_STATUS_COMMITTED = true) (hd : s.is F.PM_STATE_SHUTTING = false) (ho : s.opt.off = false)
    (hi : s.get F.FL_STATUS_ID ≠ 0) (hv : v.testBit 31 = true) :
    ttRequestWrite v s = (s.put F.SB_TT_STATUS_STATE 5).put F.SB_TT_STATUS_REJ_CAUSE 4 := by
  simp only [ttRequestWrite, hc, hd, ho, hi, hv, Bool.not_true, Bool.false_eq_true, or_self, if_false, ne_eq, not_false_eq_true, if_true]

/-- The lead given up, and its rejection shown and raised. -/
def State.showRejected (s : State) (cause module : Nat) : State :=
  let s := { s with sw := { s.sw with lead := none, reports := [], arrayEpoch := none } }
  ((((s.setPhase 0).put F.SB_TT_STATUS_STATE 5).put F.SB_TT_STATUS_REJ_CAUSE cause).put F.SB_TT_STATUS_REJ_MODULE module).raise 0x0D41 wide 0

theorem showRejected_onlyChanges (s : State) (cause module : Nat) :
    OnlyChanges [F.SB_TT_STATUS_STATE, F.SB_TT_STATUS_REJ_CAUSE, F.SB_TT_STATUS_REJ_MODULE] [.sw] s (s.showRejected cause module) :=
  (OnlyChanges.trans (.trans (.trans (.trans (.sw _ _ (by decide)) ((setPhase_onlyChanges _ _).mono (by decide) (by decide)))
    (.put _ _ _ (by decide))) (.put _ _ _ (by decide))) (.put _ _ _ (by decide))).trans (Posting.raise _ _ _ _).onlyChanges

theorem showRejected_sw (s : State) (cause module : Nat) :
    (s.showRejected cause module).sw = { s.sw with lead := none, reports := [], arrayEpoch := none, phase := 0 } := by
  simp [State.showRejected, State.setPhase]

theorem get_showRejected (s : State) (cause module : Nat) : (s.showRejected cause module).get F.SB_TT_STATUS_STATE = 5 ∧
    (s.showRejected cause module).get F.SB_TT_STATUS_REJ_CAUSE = cause % 2 ^ F.SB_TT_STATUS_REJ_CAUSE.width := by
  constructor <;> rw [State.showRejected, State.get_raise _ _ _ _ (by decide), State.get_put_ne _ _ (by decide)]
  · rw [State.get_put_ne _ _ (by decide), State.get_put_same]
    rfl
  · rw [State.get_put_same]

/-- A rejected request that had prepared nothing, with none queued behind it. -/
theorem rejectSwitch_eq (hp : s.sw.phase = 1) (hq : s.sw.queued = none) (cause module : Nat) :
    s.rejectSwitch cause module = (s.showRejected cause module).tellRejected module := by
  have hdrop : s.dropShadow = s := if_pos (by omega)
  have hqueue : ((s.showRejected cause module).tellRejected module).sw.queued = none := by
    rw [(tellRejected_onlyChanges _ _).2 .sw (by decide), showRejected_sw]
    exact hq
  have hpromote : ((s.showRejected cause module).tellRejected module).promoteQueued = (s.showRejected cause module).tellRejected module := by
    rw [State.promoteQueued, hqueue]
  rw [State.rejectSwitch, hdrop]
  exact hpromote

/-- The rejection of a request that had prepared nothing, with none queued behind it. -/
theorem exec_reject {t cause module : Nat} (hp : s.sw.phase = 1) (hq : s.sw.queued = none)
    (hrun : ttSwitchCheck (s.advance t) = (s.advance t).rejectSwitch cause module) :
    ∃ u, exec (.ttSwitchCheck t) s = .next u ∧ u.get F.SB_TT_STATUS_STATE = 5 ∧
      u.get F.SB_TT_STATUS_REJ_CAUSE = cause % 2 ^ F.SB_TT_STATUS_REJ_CAUSE.width ∧ u.sw.lead = none ∧
      OnlyChanges [F.SB_TT_STATUS_STATE, F.SB_TT_STATUS_REJ_CAUSE, F.SB_TT_STATUS_REJ_MODULE] [.sw, .fl] s u := by
  have htold := tellRejected_onlyChanges ((s.advance t).showRejected cause module) module
  have hshown := get_showRejected (s.advance t) cause module
  refine ⟨_, rfl, ?_, ?_, ?_, .answer (t := t) ?_⟩ <;> rw [hrun, rejectSwitch_eq (s := s.advance t) hp hq]
  · rw [State.get_answer _ _ (by decide), htold.1 _ (by decide) (by decide), hshown.1]
  · rw [State.get_answer _ _ (by decide), htold.1 _ (by decide) (by decide), hshown.2]
  · rw [State.answer_sw, htold.2 .sw (by decide), showRejected_sw]
  · exact ((showRejected_onlyChanges _ _ _).mono (by decide) (by decide)).trans (htold.mono (by decide) (by decide))

/-- A request that may be selected prepares its tracks, powers their quadrants and goes to PREPARING. -/
theorem ttSwitchCheck_prepares {tt : Timetable} {ts : List Track} (hl : s.sw.lead = some r) (hp : s.sw.phase = 1) (hm : r.mode < 2)
    (hf : s.sw.timetables.find? (fun tt => tt.index == r.index) = some tt) (hs : s.sw.selectable.contains r.index = true)
    (hg : r.otherGrid tt = false) (ha : s.assignYards tt = some ts) :
    ttSwitchCheck s = State.setPhase (State.powerQuads { s with fab := { s.fab with nextTracks := ts } }) 2 := by
  simp only [ttSwitchCheck, hl, hp, hf, Nat.not_le.mpr hm, hs, hg, ha, ne_eq, not_true, if_false, Bool.not_true, Bool.false_eq_true]

/-- The shadow sets are there: the time is noted, a second that has passed marked, and the switch goes to READY. -/
def State.readyShadow (s : State) (r : SwitchReq) : State :=
  let tt := s.sw.timetables.find? (fun tt => tt.index == r.index)
  let s := { s with sw := { s.sw with readyAt := s.now },
                     sched := { s.sched with waveShadow := match tt with | some tt => tt.waves | none => [] } }
  (if r.mode = 1 ∧ s.nowSec ≥ r.second then s.put F.SB_TT_STATUS_LATE 1 else s).setPhase 3

theorem ttShadowReady_eq (hl : s.sw.lead = some r) (hp : s.sw.phase = 2) : ttShadowReady s =
    if (s.readyShadow r).get F.FL_STATUS_ID = 0 then (s.readyShadow r).chooseEpoch r
    else (s.readyShadow r).sendSwitch (.ready ((s.readyShadow r).get F.FL_STATUS_ID)) := by
  unfold ttShadowReady
  split
  case _ h => exact absurd (h.symm.trans hl) nofun
  case _ h =>
    cases h.symm.trans hl
    exact if_neg (not_not.mpr hp)

theorem readyShadow_onlyChanges (s : State) (r : SwitchReq) :
    OnlyChanges [F.SB_TT_STATUS_STATE, F.SB_TT_STATUS_LATE] [.sw, .sched] s (s.readyShadow r) := by
  unfold State.readyShadow
  extract_lets tt sched sw prepared
  have hprepared : OnlyChanges [F.SB_TT_STATUS_STATE, F.SB_TT_STATUS_LATE] [.sw, .sched] s prepared :=
    (OnlyChanges.sw s { sw with readyAt := s.now } (by decide)).trans (.sched _ _ (by decide))
  exact (OnlyChanges.ite (hprepared.trans (.put _ _ _ (by decide))) hprepared).trans ((setPhase_onlyChanges _ _).mono (by decide) (by decide))

theorem readyShadow_sw (s : State) (r : SwitchReq) : (s.readyShadow r).sw = { s.sw with readyAt := s.now, phase := 3 } := by
  unfold State.readyShadow
  extract_lets tt sched sw prepared
  rw [setPhase_sw]
  split <;> rfl

/-- Choosing the epoch and reporting READY change the epoch chosen and the messages sent. -/
theorem chooseEpoch_sends (s : State) (r : SwitchReq) :
    OnlyChanges [] [.sw, .fl] s (s.chooseEpoch r) ∧ ∃ e, (s.chooseEpoch r).sw = { s.sw with arrayEpoch := e } := by
  unfold State.chooseEpoch
  extract_lets n all last e e' b sw
  split
  · exact ⟨.refl s, s.sw.arrayEpoch, rfl⟩
  · have hsent := sendSwitch_onlyChanges { s with sw := { s.sw with arrayEpoch := some b } } (.epochAt b)
    exact ⟨(OnlyChanges.sw _ _ (by decide)).trans (hsent.mono (by decide) (by decide)), some b, hsent.2 .sw (by decide)⟩

theorem ttShadowReady_ready (hl : s.sw.lead = some r) (hp : s.sw.phase = 2) :
    OnlyChanges [F.SB_TT_STATUS_STATE, F.SB_TT_STATUS_LATE] [.sw, .sched, .fl] s (ttShadowReady s) ∧
    (ttShadowReady s).get F.SB_TT_STATUS_STATE = 3 ∧
    ∃ e, (ttShadowReady s).sw = { s.sw with readyAt := s.now, phase := 3, arrayEpoch := e } := by
  have hready := readyShadow_onlyChanges s r
  have hstate : (s.readyShadow r).get F.SB_TT_STATUS_STATE = 3 := State.get_put_same _ _ _
  have hsent : OnlyChanges [] [.sw, .fl] (s.readyShadow r) (ttShadowReady s) ∧ ∃ e, (ttShadowReady s).sw = { (s.readyShadow r).sw with arrayEpoch := e } := by
    rw [ttShadowReady_eq hl hp]
    split
    · exact chooseEpoch_sends _ r
    · have h := sendSwitch_onlyChanges (s.readyShadow r) (.ready ((s.readyShadow r).get F.FL_STATUS_ID))
      exact ⟨h.mono (by decide) (by decide), _, h.2 .sw (by decide)⟩
  obtain ⟨honly, e, hsw⟩ := hsent
  refine ⟨(hready.mono (by decide) (by decide)).trans (honly.mono (by decide) (by decide)), ?_, e, ?_⟩
  · rw [honly.1 _ (by decide) (by decide), hstate]
  · rw [hsw, readyShadow_sw]

end

/-! ## The clauses, one by one -/

section
variable (s : State) (t : Nat)

theorem sweepBoundary_advances (lanes : List LaneMeasure) (ho : s.opt.off = false) (ha : (s.advance t).originAhead = false)
    (hb : (s.advance t).boundaryDue = true) : ∃ u, exec (.sweepBoundary t lanes) s = .next u ∧ u.sched.sweeps = s.sched.sweeps + 1 ∧
    u.sched.sweepStart = max s.now t ∧ u.get F.TT_SWEEP_COUNT_COUNT = (s.get F.TT_SWEEP_COUNT_COUNT + 1) % 2 ^ 32 := by
  have hcond : ¬((s.advance t).opt.off = true ∨ (s.advance t).originAhead = true ∨ (!(s.advance t).boundaryDue) = true) := by
    rw [ha, hb]
    simpa using ho
  have hkeeps := sweepEnd_keeps (s.advance t) lanes
  obtain ⟨hsweeps, hstart, hcount⟩ :=
    startSweep_started (((((s.advance t).endSweep.endGone).sweepLanes lanes).applyRate).calEffect false)
  have hsched := hkeeps.part .sched (by decide) (by decide)
  refine ⟨_, rfl, ?_, ?_, ?_⟩ <;> rw [sweepBoundary, if_neg hcond]
  · rw [State.answer_sweeps, hsweeps, hsched]
    rfl
  · rw [State.answer_sweepStart, hstart, hkeeps.now]
    rfl
  · rw [State.get_answer _ _ (by decide), hcount, hkeeps.get _ (by decide)]
    rfl

theorem receiveGuardEnd_tailLight {slot : Nat} {level : Int} (ho : s.opt.off = false) (hlevel : 100 ≤ level)
    (hrun : kvGet (0, 0) s.sched.tailRun slot = (s.sched.sweeps - 1, 1)) (hs : 0 < s.sched.sweeps) :
    ∃ u, exec (.receiveGuardEnd t slot level) s = .next u ∧ u.get F.TT_STATUS_TAIL_LIGHT = 1 ∧ OnlyChanges [F.TT_STATUS_TAIL_LIGHT] [.sched] s u := by
  have hlight : ∃ x, receiveGuardEnd slot level (s.advance t) =
      (State.put { s.advance t with sched := x } F.TT_STATUS_TAIL_LIGHT 1).raise 0x0142 wide 0 := by
    have hlast : s.sched.sweeps - 1 + 1 = s.sched.sweeps := by omega
    have hlevel' : ¬level < 100 := by omega
    refine ⟨{ s.sched with tailRun := kvSet (0, 0) s.sched.tailRun slot (s.sched.sweeps, 2) }, ?_⟩
    simp [receiveGuardEnd, State.advance, ho, hrun, hlast, hlevel']
  obtain ⟨x, hx⟩ := hlight
  refine ⟨_, rfl, ?_, .answer (t := t) ?_⟩ <;> rw [hx]
  · rw [State.get_answer _ _ (by decide), State.get_raise _ _ _ _ (by decide), State.get_put_same]
    rfl
  · exact ((OnlyChanges.sched _ _ (by decide)).trans (.put _ _ _ (by decide))).trans (Posting.raise _ _ _ _).onlyChanges

theorem ttSwitchRequest_pending {src : Source} {v : Nat} (hon : s.domainOn 2 = true) (hc : s.is F.SB_STATUS_COMMITTED = true)
    (hd : s.is F.PM_STATE_SHUTTING = false) (ho : s.opt.off = false) (hi : s.get F.FL_STATUS_ID = 0) (hv : v.testBit 31 = true)
    (hl : s.sw.lead = none) (hx : v % 4 ≠ s.activeIndex) :
    ∃ u, exec (.ttSwitchRequest src t v) s = .next u ∧ u.get F.SB_TT_STATUS_STATE = 1 ∧ u.get F.SB_TT_STATUS_PENDING_INDEX = v % 4 ∧
      u.sw.lead = some (s.requestOf v) ∧ u.sw.phase = 1 ∧
      OnlyChanges [F.SB_TT_STATUS_STATE, F.SB_TT_STATUS_PENDING_INDEX, F.SB_TT_REQUEST_MODE, F.SB_TT_REQUEST_INDEX] [.sw, .fl] s u := by
  have hrun : access 0x20100 (ttRequestWrite v) (s.advance t) = _ :=
    (access_on (addr := 0x20100) (s := s.advance t) hon).trans (ttRequestWrite_taken (s := s.advance t) hc hd ho hi hv hl hx)
  have hpass := passRequest_onlyChanges ((((s.advance t).put F.SB_TT_REQUEST_MODE (v / 256)).put F.SB_TT_REQUEST_INDEX v).setLead
    ((s.advance t).requestOf v)) ((s.advance t).requestOf v)
  refine ⟨_, rfl, ?_, ?_, ?_, ?_, .answer (t := t) ?_⟩ <;> rw [hrun]
  · rw [State.get_answer _ _ (by decide), hpass.1 _ (by decide) (by decide), State.setLead, State.get_put_ne _ _ (by decide), State.setPhase,
      State.get_put_same]
    rfl
  · rw [State.get_answer _ _ (by decide), hpass.1 _ (by decide) (by decide), State.setLead, State.get_put_same]
    exact Nat.mod_mod _ _
  · rw [State.answer_sw, hpass.2 .sw (by decide)]
    rfl
  · rw [State.answer_sw, hpass.2 .sw (by decide)]
    rfl
  · exact (OnlyChanges.trans (.trans (.put _ _ _ (by decide)) (.put _ _ _ (by decide)))
      ((setLead_onlyChanges _ _).mono (by decide) (by decide))).trans (hpass.mono (by decide) (by decide))

theorem ttSwitchRequest_refused {src : Source} {v : Nat} (hon : s.domainOn 2 = true) (hc : s.is F.SB_STATUS_COMMITTED = true)
    (hd : s.is F.PM_STATE_SHUTTING = false) (ho : s.opt.off = false) (hi : s.get F.FL_STATUS_ID ≠ 0) (hv : v.testBit 31 = true) :
    ∃ u, exec (.ttSwitchRequest src t v) s = .next u ∧ u.get F.SB_TT_STATUS_STATE = 5 ∧ u.get F.SB_TT_STATUS_REJ_CAUSE = 4 ∧
      OnlyChanges [F.SB_TT_STATUS_STATE, F.SB_TT_STATUS_REJ_CAUSE] [] s u := by
  have hrun : access 0x20100 (ttRequestWrite v) (s.advance t) = _ :=
    (access_on (addr := 0x20100) (s := s.advance t) hon).trans (ttRequestWrite_refused (s := s.advance t) hc hd ho hi hv)
  refine ⟨_, rfl, ?_, ?_, .answer (t := t) ?_⟩ <;> rw [hrun]
  · rw [State.get_answer _ _ (by decide), State.get_put_ne _ _ (by decide), State.get_put_same]
    rfl
  · rw [State.get_answer _ _ (by decide), State.get_put_same]
    rfl
  · exact (OnlyChanges.put _ _ _ (by decide)).trans (.put _ _ _ (by decide))

section
variable {r : SwitchReq} (hl : s.sw.lead = some r) (hp : s.sw.phase = 1)
include hl hp

theorem ttSwitchCheck_absent (hq : s.sw.queued = none) (hf : s.sw.timetables.find? (fun tt => tt.index == r.index) = none) :
    ∃ u, exec (.ttSwitchCheck t) s = .next u ∧ u.get F.SB_TT_STATUS_STATE = 5 ∧ u.get F.SB_TT_STATUS_REJ_CAUSE = 1 ∧ u.sw.lead = none ∧
      OnlyChanges [F.SB_TT_STATUS_STATE, F.SB_TT_STATUS_REJ_CAUSE, F.SB_TT_STATUS_REJ_MODULE] [.sw, .fl] s u :=
  exec_reject (cause := 1) (module := s.get F.FL_STATUS_ID) hp hq (by simp [ttSwitchCheck, State.advance, hl, hp, hf])

section
variable {tt : Timetable} (hm : r.mode < 2) (hf : s.sw.timetables.find? (fun tt => tt.index == r.index) = some tt)
include hm hf

theorem ttSwitchCheck_barred (hq : s.sw.queued = none)
    (hs : s.sw.selectable.contains r.index = false ∨ (r.otherGrid tt = false ∧ ((s.advance t).assignYards tt).isSome = false)) :
    ∃ u, exec (.ttSwitchCheck t) s = .next u ∧ u.get F.SB_TT_STATUS_STATE = 5 ∧ u.get F.SB_TT_STATUS_REJ_CAUSE = 2 ∧ u.sw.lead = none := by
  have hrun : ttSwitchCheck (s.advance t) = (s.advance t).rejectSwitch 2 (s.get F.FL_STATUS_ID) := by
    simp only [ttSwitchCheck, State.advance_sw, hl, hp, hf, State.get_advance, Nat.not_le.mpr hm, ne_eq, not_true, if_false]
    rcases hs with hs | ⟨hg, ha⟩
    · simp only [hs, Bool.not_false, if_true]
    · have hnone : (s.advance t).assignYards tt = none := by simpa using ha
      simp only [hg, hnone, Bool.false_eq_true, if_false]
      exact ite_self _
  obtain ⟨u, hu, hstate, hcause, hlead, -⟩ := exec_reject (cause := 2) hp hq hrun
  exact ⟨u, hu, hstate, hcause, hlead⟩

theorem ttSwitchCheck_otherGrid (hq : s.sw.queued = none) (hs : s.sw.selectable.contains r.index = true) (hg : r.otherGrid tt = true) :
    ∃ u, exec (.ttSwitchCheck t) s = .next u ∧ u.get F.SB_TT_STATUS_STATE = 5 ∧ u.get F.SB_TT_STATUS_REJ_CAUSE = 3 ∧ u.sw.lead = none := by
  have hrun : ttSwitchCheck (s.advance t) = (s.advance t).rejectSwitch 3 (s.get F.FL_STATUS_ID) := by
    simp only [ttSwitchCheck, State.advance_sw, hl, hp, hf, hs, hg, State.get_advance, Nat.not_le.mpr hm, ne_eq, not_true, if_false, if_true,
      Bool.not_true, Bool.false_eq_true]
  obtain ⟨u, hu, hstate, hcause, hlead, -⟩ := exec_reject (cause := 3) hp hq hrun
  exact ⟨u, hu, hstate, hcause, hlead⟩

theorem ttSwitchCheck_preparing (hs : s.sw.selectable.contains r.index = true) (hg : r.otherGrid tt = false)
    (ha : ((s.advance t).assignYards tt).isSome = true) :
    ∃ u, exec (.ttSwitchCheck t) s = .next u ∧ u.get F.SB_TT_STATUS_STATE = 2 ∧ u.sw = { s.sw with phase := 2 } := by
  obtain ⟨ts, hts⟩ := Option.isSome_iff_exists.mp ha
  have hrun := ttSwitchCheck_prepares (s := s.advance t) hl hp hm hf hs hg hts
  refine ⟨_, rfl, ?_, ?_⟩ <;> rw [hrun]
  · rw [State.get_answer _ _ (by decide), State.setPhase, State.get_put_same]
    rfl
  · rw [State.answer_sw]
    rfl

end

end

theorem ttShadowReady_shows {r : SwitchReq} (hl : s.sw.lead = some r) (hp : s.sw.phase = 2) : ∃ u, exec (.ttShadowReady t) s = .next u ∧
    u.get F.SB_TT_STATUS_STATE = 3 ∧ u.sw.phase = 3 ∧ u.sw.readyAt = max s.now t ∧ u.sw.lead = some r ∧
    OnlyChanges [F.SB_TT_STATUS_STATE, F.SB_TT_STATUS_LATE] [.sw, .sched, .fl] s u := by
  obtain ⟨honly, hstate, e, hsw⟩ := ttShadowReady_ready (s := s.advance t) hl hp
  refine ⟨_, rfl, ?_, ?_, ?_, ?_, .answer (t := t) honly⟩
  · rw [State.get_answer _ _ (by decide), hstate]
  all_goals rw [State.answer_sw, hsw]
  · rfl
  · exact hl

theorem ttSwitchDone_shows {new old : Nat} (hd : s.sw.done = some (new, old)) (hl : s.sw.lead = none) :
    ∃ u, exec (.ttSwitchDone t) s = .next u ∧ u.sw.done = none ∧ u.get F.SB_TT_STATUS_STATE = 4 ∧
      u.get F.SB_TT_STATUS_ACTIVE = new % 2 ^ F.SB_TT_STATUS_ACTIVE.width ∧ u.get F.TT_ID_ACTIVE = new % 2 ^ F.TT_ID_ACTIVE.width ∧
      OnlyChanges [F.SB_TT_STATUS_STATE, F.SB_TT_STATUS_ACTIVE, F.TT_ID_ACTIVE] [.sw] s u := by
  have hrun : ∃ at_, ttSwitchDone (s.advance t) = (State.raiseAt (((State.put { s.advance t with sw := { s.sw with done := none } }
      F.SB_TT_STATUS_ACTIVE new).put F.TT_ID_ACTIVE new)) at_ 0x0D40 wide (new + 256 * old)).put F.SB_TT_STATUS_STATE 4 := by
    refine ⟨s.sw.epochAt, ?_⟩
    simp [ttSwitchDone, State.advance, hd, hl]
  obtain ⟨at_, hrun⟩ := hrun
  refine ⟨_, rfl, ?_, ?_, ?_, ?_, .answer (t := t) ?_⟩ <;> rw [hrun]
  · simp
  · rw [State.get_answer _ _ (by decide), State.get_put_same]
    rfl
  · rw [State.get_answer _ _ (by decide), State.get_put_ne _ _ (by decide), (Posting.raiseAt _ _ _ _ _).get _ (by decide),
      State.get_put_ne _ _ (by decide), State.get_put_same]
  · rw [State.get_answer _ _ (by decide), State.get_put_ne _ _ (by decide), (Posting.raiseAt _ _ _ _ _).get _ (by decide), State.get_put_same]
  · exact (OnlyChanges.trans (.trans (.trans (.sw _ _ (by decide)) (.put _ _ _ (by decide))) (.put _ _ _ (by decide)))
      (Posting.raiseAt _ _ _ _ _).onlyChanges).trans (.put _ _ _ (by decide))

theorem ttWaveDataRead_answers (r : ReadAt) (hon : s.domainOn 5 = true) : ∃ u, exec (.ttWaveDataRead r) s = .next u ∧
    u.resp = [pickBytes r.be s.waveWord] ∧ u.get F.TT_WAVE_SEL_ADDR = (s.get F.TT_WAVE_SEL_ADDR + 1) % 2 ^ F.TT_WAVE_SEL_ADDR.width ∧
    OnlyChanges [F.TT_WAVE_SEL_ADDR] [.resp] s u := by
  have hrun : readBytes r.be (access 0x30034 waveDataRead) (s.advance r.at_) =
      { (s.advance r.at_).bumpWrap F.TT_WAVE_SEL_ADDR 1 with resp := [pickBytes r.be (s.advance r.at_).waveWord] } := by
    rw [readBytes, access_on (addr := 0x30034) (s := s.advance r.at_) hon]
    rfl
  refine ⟨_, rfl, ?_, ?_, .answer (t := r.at_) ?_⟩ <;> rw [hrun]
  · rw [State.answer_resp]
    rfl
  · rw [State.get_answer _ _ (by decide)]
    exact State.get_bumpWrap_same _ _ _
  · exact (OnlyChanges.put _ _ _ (by decide)).trans ((OnlyChanges.resp _ _).mono (by decide) (by decide))

end

end Sys2Proof.Machine

section
open Sys2Proof Sys2Proof.Machine

/-- Settles O15: each clause is a fact of its own about the sweep boundary, tail light, a phase of the switch or a waveform word. -/
theorem sweepsAndSwitchSteps : Obligations.SweepsAndSwitchSteps := by
  intro s t
  refine ⟨sweepBoundary_advances s t, fun _ _ => receiveGuardEnd_tailLight s t, fun _ _ => ttSwitchRequest_pending s t,
    fun _ _ => ttSwitchRequest_refused s t, fun _ => ttSwitchCheck_absent s t, ?barred, ?otherGrid, ?preparing, fun _ => ttShadowReady_shows s t,
    fun _ _ => ttSwitchDone_shows s t, ttWaveDataRead_answers s⟩
  case barred => exact fun _ _ hl hp hq hm hf hs => ttSwitchCheck_barred s t hl hp hm hf hq hs
  case otherGrid => exact fun _ _ hl hp hq hm hf hs hg => ttSwitchCheck_otherGrid s t hl hp hm hf hq hs hg
  case preparing => exact fun _ _ hl hp hm hf hs hg ha => ttSwitchCheck_preparing s t hl hp hm hf hs hg ha

end

/-!
The power domains that a start switches, and the steps of a cold start up to COMMIT (R384-R389, R399, R402, R428).
-/

namespace Sys2Proof.Machine

/-! ## Events of the start and power functions -/

theorem raiseAny_posting (s : State) (code inst val : Nat) : ∃ c, Posting { s with freeCtr := c } (s.raiseAny code inst val) := by
  unfold State.raiseAny
  split
  · exact ⟨s.freeCtr, Posting.raiseEv _ _⟩
  · exact ⟨_, Posting.raiseEv _ _⟩

theorem State.get_raiseAny (s : State) (code inst val : Nat) {f : Fld} (h : f.key ∉ eventKeys) : (s.raiseAny code inst val).get f = s.get f := by
  obtain ⟨c, hc⟩ := raiseAny_posting s code inst val
  exact hc.get f h

theorem OnlyChanges.raiseAny {fs : List Fld} {ps : List Part} (s : State) (code inst val : Nat) (h : Part.freeCtr ∈ ps) :
    OnlyChanges fs ps s (s.raiseAny code inst val) := by
  obtain ⟨c, hc⟩ := raiseAny_posting s code inst val
  have hfree : OnlyChanges fs ps s { s with freeCtr := c } :=
    ⟨fun _ _ _ => rfl, fun p hp => by cases p with | freeCtr => exact absurd h hp | _ => rfl⟩
  exact hfree.trans hc.onlyChanges

/-! ## Power domains (R382) -/

/-- What lies outside the registers when only the domains of `kept` stay powered: the instant and the start's account stay but for the laser's
warm-up and the DRAM training, the signal box stays with PD_SBOX, and the optical engine does not leave OFF. -/
structure Drops (kept : Nat) (s u : State) : Prop where
  regs : u.regs = s.regs
  now : u.now = s.now
  pw : ∃ l tr, u.pw = { s.pw with laserAt := l, trained := tr }
  sw : kept.testBit 2 = true → u.sw = s.sw
  off : s.opt.off = true → u.opt.off = true

namespace Drops

variable {kept : Nat} {s u w : State}

theorem refl : Drops kept s s := ⟨rfl, rfl, ⟨_, _, rfl⟩, fun _ => rfl, id⟩

theorem trans (a : Drops kept s u) (b : Drops kept u w) : Drops kept s w := by
  obtain ⟨l, tr, hl⟩ := a.pw
  obtain ⟨l', tr', hl'⟩ := b.pw
  exact ⟨b.regs.trans a.regs, b.now.trans a.now, ⟨l', tr', by rw [hl', hl]⟩, fun h => (b.sw h).trans (a.sw h), b.off ∘ a.off⟩

theorem ite {c : Prop} [Decidable c] {a b : State} (ha : c → Drops kept s a) (hb : Drops kept s b) : Drops kept s (if c then a else b) := by
  split
  · exact ha ‹c›
  · exact hb

end Drops

/-- Where PD_TX loses power the optical engine is in OFF, and no later part of the paths changes that. -/
theorem dropPaths_drops (s : State) (on held : Nat) :
    Drops on s (s.dropPaths on held) ∧ (on.testBit 5 = false → (s.dropPaths on held).opt.off = true) := by
  unfold State.dropPaths
  extract_lets off light lanes br fp sens src src'
  have hrest : Drops on light (if off 4 = true then { sens with sens := { src with tec := {} }, pw := { src' with laserAt := none } } else sens) := by
    have hlanes : Drops on light lanes := .ite (fun _ => ⟨rfl, rfl, ⟨_, _, rfl⟩, fun _ => rfl, id⟩) .refl
    have hbr : Drops on light br := .ite (fun _ => hlanes.trans ⟨rfl, rfl, ⟨_, _, rfl⟩, fun _ => rfl, id⟩) hlanes
    have hfp : Drops on light fp := .ite (fun _ => hbr.trans ⟨rfl, rfl, ⟨_, _, rfl⟩, fun _ => rfl, id⟩) hbr
    have hsens : Drops on light sens := .ite (fun _ => hfp.trans ⟨rfl, rfl, ⟨_, _, rfl⟩, fun _ => rfl, id⟩) hfp
    exact .ite (fun _ => hsens.trans ⟨rfl, rfl, ⟨_, _, rfl⟩, fun _ => rfl, id⟩) hsens
  have hlight : Drops on s light := .ite (fun _ => ⟨rfl, rfl, ⟨_, _, rfl⟩, fun _ => rfl, fun _ => rfl⟩) .refl
  refine ⟨hlight.trans hrest, fun h => hrest.off ?_⟩
  have hpos : light = _ := if_pos (by simp [off, h])
  rw [hpos]

theorem dropLinks_drops (s : State) (on held : Nat) : Drops on s (s.dropLinks on held) := by
  unfold State.dropLinks
  extract_lets off nv sb fl ev pw mem ev'
  have hnv : Drops on s nv := .ite (fun _ => ⟨rfl, rfl, ⟨_, _, rfl⟩, fun _ => rfl, id⟩) .refl
  have hsb : Drops on s sb := .ite (fun hoff => hnv.trans ⟨rfl, rfl, ⟨_, _, rfl⟩, fun h => by simp [off, h] at hoff, id⟩) hnv
  have hfl : Drops on s fl := .ite (fun _ => hsb.trans ⟨rfl, rfl, ⟨_, _, rfl⟩, fun _ => rfl, id⟩) hsb
  have hmem : Drops on s mem := .ite (fun _ => hfl.trans ⟨rfl, rfl, ⟨_, _, rfl⟩, fun _ => rfl, id⟩) hfl
  exact .ite (fun _ => hmem.trans ⟨rfl, rfl, ⟨_, _, rfl⟩, fun _ => rfl, id⟩)
    (.ite (fun _ => hmem) (hmem.trans ⟨rfl, rfl, ⟨_, _, rfl⟩, fun _ => rfl, id⟩))

/-- Behind PM_DOMAINS, which shows the domains set: the registers that stay powered, and what `Drops` says of the rest. -/
theorem setDomains_eq (s : State) (on ret : Nat) : ∃ u held, s.setDomains on ret = (u.put F.PM_DOMAINS_ON on).put F.PM_DOMAINS_RETAINED ret ∧
    Drops (on &&& s.get F.PM_DOMAINS_ON)
      { s with regs := s.regs.filter (fun e => keepsKey (on &&& s.get F.PM_DOMAINS_ON) e.1), mem := s.mem.filter (fun c => keepsCell held c.1) } u ∧
    ((on &&& s.get F.PM_DOMAINS_ON).testBit 5 = false → u.opt.off = true) := by
  unfold State.setDomains
  extract_lets up kept held cut dropped tb
  have hpaths := dropPaths_drops cut kept held
  have hlinks : Drops kept (cut.dropPaths kept held) dropped := dropLinks_drops _ _ _
  have htb : Drops kept dropped tb := .ite (fun _ => ⟨rfl, rfl, ⟨_, _, rfl⟩, fun _ => rfl, id⟩) .refl
  exact ⟨tb, held, rfl, hpaths.1.trans (hlinks.trans htb), fun h => htb.off (hlinks.off (hpaths.2 h))⟩

section
variable (s : State) (on ret : Nat)

theorem setDomains_now : (s.setDomains on ret).now = s.now := by
  obtain ⟨u, held, hu, hdrops, -⟩ := setDomains_eq s on ret
  rw [hu]
  exact hdrops.now

theorem setDomains_pw : ∃ l tr, (s.setDomains on ret).pw = { s.pw with laserAt := l, trained := tr } := by
  obtain ⟨u, held, hu, hdrops, -⟩ := setDomains_eq s on ret
  rw [hu]
  exact hdrops.pw

variable {s on}

theorem setDomains_sw (hon : on.testBit 2 = true) (hs : s.domainOn 2 = true) : (s.setDomains on ret).sw = s.sw := by
  obtain ⟨u, held, hu, hdrops, -⟩ := setDomains_eq s on ret
  rw [hu]
  exact hdrops.sw (by rw [Nat.testBit_and, hon]; exact hs)

theorem setDomains_off (h : on.testBit 5 = false ∨ s.domainOn 5 = false) : (s.setDomains on ret).opt.off = true := by
  obtain ⟨u, held, hu, -, hoff⟩ := setDomains_eq s on ret
  rw [hu]
  refine hoff ?_
  rw [Nat.testBit_and]
  rcases h with h | h
  · rw [h, Bool.false_and]
  · exact (congrArg _ h).trans (Bool.and_false _)

/-- A register that stays powered is kept. -/
theorem get_setDomains {f : Fld} (h : keepsKey (on &&& s.get F.PM_DOMAINS_ON) f.key = true) (hd : f.key ≠ F.PM_DOMAINS_ON.key)
    (hr : f.key ≠ F.PM_DOMAINS_RETAINED.key) : (s.setDomains on ret).get f = s.get f := by
  obtain ⟨u, held, hu, hdrops, -⟩ := setDomains_eq s on ret
  rw [hu, State.get_put_ne _ _ hr, State.get_put_ne _ _ hd, State.get, hdrops.regs]
  exact kvGet_filter _ (fun x hx => by rw [hx]; exact h) _

theorem keepsKey_block {kept key : Nat} (h : kept.testBit (blockDomain (key / 32 / 65536)) = true) : keepsKey kept key = true := by
  simp [keepsKey, h]

/-- A register of a block whose domain stays powered is kept. -/
theorem get_setDomains_block {f : Fld} {d : Nat} (hb : blockDomain (f.key / 32 / 65536) = d) (hon : on.testBit d = true) (hs : s.domainOn d = true)
    (hd : f.key ≠ F.PM_DOMAINS_ON.key) (hr : f.key ≠ F.PM_DOMAINS_RETAINED.key) : (s.setDomains on ret).get f = s.get f := by
  refine get_setDomains ret (keepsKey_block ?_) hd hr
  rw [hb, Nat.testBit_and, hon]
  exact hs

theorem get_setDomains_on : (s.setDomains on ret).get F.PM_DOMAINS_ON = on % 2 ^ F.PM_DOMAINS_ON.width := by
  obtain ⟨u, held, hu, -, -⟩ := setDomains_eq s on ret
  rw [hu, State.get_put_ne _ _ (by decide), State.get_put_same]

end

/-! ## A cold start begins (R384 steps 1 to 3, R389, R469) -/

section
variable {fs : List Fld} {ps : List Part}

theorem OnlyChanges.pw (s : State) (x : Power) (h : Part.pw ∈ ps) : OnlyChanges fs ps s { s with pw := x } :=
  ⟨fun _ _ _ => rfl, fun p hp => by cases p with | pw => exact absurd h hp | _ => rfl⟩

theorem OnlyChanges.modSens (s : State) (f : Sens → Sens) (h : Part.sens ∈ ps) : OnlyChanges fs ps s (s.modSens f) :=
  ⟨fun _ _ _ => rfl, fun p hp => by cases p with | sens => exact absurd h hp | _ => rfl⟩

theorem OnlyChanges.otp (s : State) (x : Otp) (h : Part.otp ∈ ps) : OnlyChanges fs ps s { s with otp := x } :=
  ⟨fun _ _ _ => rfl, fun p hp => by cases p with | otp => exact absurd h hp | _ => rfl⟩

theorem OnlyChanges.each {α : Type} {xs : List α} {f : α → State → State} (hf : ∀ x v, OnlyChanges fs ps v (f x v)) (s : State) :
    OnlyChanges fs ps s (each xs f s) := by
  unfold Machine.each
  induction xs generalizing s with
  | nil => exact .refl s
  | cons x xs ih => exact (hf x s).trans (ih _)

end

theorem zeroise_onlyChanges (s : State) : OnlyChanges [] [.otp, .freeCtr] s s.zeroise.1 := by
  unfold State.zeroise
  split
  · exact .refl s
  · exact (OnlyChanges.otp _ _ (by decide)).trans (.raiseAny _ _ _ _ (by decide))

/-- The fields that show what the boot ROM and a start's choice of calibration record find. -/
def bootFields : List Fld :=
  [F.LC_TAMPER_PENDING, F.LC_TAMPER_VBAT_LOST, F.CL_STATUS_A_VALID, F.CL_STATUS_B_VALID, F.CL_SEQ_A_SEQ, F.CL_SEQ_B_SEQ, F.CL_STATUS_ACTIVE,
   F.CL_STATUS_FACTORY, F.HK_TEC_CFG_T_SET]

/-- The boot ROM's look at the tamper record clears the note that PD_AON was lost. -/
theorem bootTamper_finds (s : State) : OnlyChanges bootFields [.otp, .freeCtr, .pw] s s.bootTamper ∧ s.bootTamper.pw = { s.pw with aonLost := false } := by
  unfold State.bootTamper
  extract_lets latched lost pw noted armed
  have hlatched : OnlyChanges bootFields [.otp, .freeCtr] s latched :=
    .ite ((OnlyChanges.put _ _ _ (by decide)).trans ((zeroise_onlyChanges _).mono (by decide) (by decide))) (.refl s)
  have hnoted : noted.pw = { s.pw with aonLost := false } := congrArg (fun x => { x with aonLost := false }) (hlatched.2 .pw (by decide))
  have hseen : OnlyChanges bootFields [.otp, .freeCtr] noted ((noted.put F.LC_TAMPER_VBAT_LOST 1).raiseAny 0x0E03 wide 0).zeroise.1 :=
    ((OnlyChanges.put _ _ _ (by decide)).trans (.raiseAny _ _ _ _ (by decide))).trans ((zeroise_onlyChanges _).mono (by decide) (by decide))
  have hstart : OnlyChanges bootFields [.otp, .freeCtr, .pw] s noted := (hlatched.mono (fun _ h => h) (by decide)).trans (.pw _ _ (by decide))
  split
  · exact ⟨hstart.trans (hseen.mono (fun _ h => h) (by decide)), (hseen.2 .pw (by decide)).trans hnoted⟩
  · exact ⟨hstart, hnoted⟩

theorem calChoose_onlyChanges (s : State) (bad : List Nat) : OnlyChanges bootFields [.sens, .freeCtr] s (s.calChoose bad) := by
  unfold State.calChoose
  extract_lets failing marked reported good a b best valid shown
  have hmarked : OnlyChanges bootFields [.sens, .freeCtr] s marked := .modSens _ _ (by decide)
  have hreported : OnlyChanges bootFields [.sens, .freeCtr] s reported := hmarked.trans (.each (fun _ _ => .raiseAny _ _ _ _ (by decide)) _)
  have hshown : OnlyChanges bootFields [.sens, .freeCtr] s shown :=
    (((hreported.trans (.put _ _ _ (by decide))).trans (.put _ _ _ (by decide))).trans (.put _ _ _ (by decide))).trans (.put _ _ _ (by decide))
  clear_value best
  split
  · exact ((hshown.trans (.modSens _ _ (by decide))).trans (.put _ _ _ (by decide))).trans (.put _ _ _ (by decide))
  · exact (((hshown.trans (.modSens _ _ (by decide))).trans (.put _ _ _ (by decide))).trans (.put _ _ _ (by decide))).trans
      (.raiseAny _ _ _ _ (by decide))

theorem tecStart_onlyChanges (s : State) : OnlyChanges bootFields [.sens] s s.tecStart :=
  (OnlyChanges.put _ _ _ (by decide)).trans (.modSens _ _ (by decide))

/-- The start in progress began at `a`, in cold form, and none is due. -/
def State.Begun (s : State) (a : Nat) : Prop := s.pw.startAt = some a ∧ s.pw.allCold = true ∧ s.pw.coldDue = false

theorem State.Begun.of_pw {s u : State} {a : Nat} (h : s.Begun a) (hu : ∃ l tr, u.pw = { s.pw with laserAt := l, trained := tr }) : u.Begun a := by
  obtain ⟨l, tr, hpw⟩ := hu
  simpa only [State.Begun, hpw] using h

/-- Which domains are powered is shown in PM_DOMAINS alone. -/
theorem domainOn_congr {s u : State} (h : u.get F.PM_DOMAINS_ON = s.get F.PM_DOMAINS_ON) (d : Nat) : u.domainOn d = s.domainOn d := by
  rw [State.domainOn, h, State.domainOn]

theorem clearStart_domainOn (s : State) (d : Nat) : s.clearStart.domainOn d = s.domainOn d := by
  rw [State.clearStart, State.domainOn_put _ _ _ (by decide), State.domainOn_put _ _ _ (by decide), State.domainOn_put _ _ _ (by decide)]
  rfl

theorem goOff_pw (s : State) (on : List Nat) : ∃ l tr, (s.goOff on).pw = { s.clearStart.pw with laserAt := l, trained := tr } := setDomains_pw _ _ _

theorem goOff_now (s : State) (on : List Nat) : (s.goOff on).now = s.now := setDomains_now _ _ _

/-- Going to OFF with PD_AON kept leaves the PM_ registers but for the state, its causes and the domains. -/
theorem get_goOff {s : State} {on : List Nat} {f : Fld} (hb : blockDomain (f.key / 32 / 65536) = 0) (hon : (domainMask on).testBit 0 = true)
    (h0 : s.domainOn 0 = true)
    (hf : f.key ∉ [F.PM_STATE_SHUTTING, F.PM_STATE_THERM_WAIT, F.PM_STATE_STATE, F.PM_DOMAINS_ON, F.PM_DOMAINS_RETAINED].map (·.key)) :
    (s.goOff on).get f = s.get f := by
  simp only [List.map_cons, List.map_nil, List.mem_cons, List.not_mem_nil, or_false, not_or] at hf
  obtain ⟨hshut, hwait, hstate, hd, hr⟩ := hf
  have h0' : s.clearStart.domainOn 0 = true := (clearStart_domainOn s 0).trans h0
  rw [State.goOff, get_setDomains_block _ hb hon h0' hd hr, State.clearStart, State.get_put_ne _ _ hstate, State.get_put_ne _ _ hwait,
    State.get_put_ne _ _ hshut]
  rfl

theorem goOff_state {s : State} {on : List Nat} (hon : (domainMask on).testBit 0 = true) (h0 : s.domainOn 0 = true) :
    (s.goOff on).get F.PM_STATE_STATE = 0 := by
  have h0' : s.clearStart.domainOn 0 = true := (clearStart_domainOn s 0).trans h0
  rw [State.goOff, get_setDomains_block _ (d := 0) (by decide) hon h0' (by decide) (by decide), State.clearStart, State.get_put_same]
  rfl

/-- The attempt counted, and the conditions ended. -/
def State.countAttempt (s : State) : State :=
  let s := (s.bumpWrap F.PM_START_ATTEMPTS 1).put F.PM_STATE_KIND 0
  { s with ev := { s.ev with conds := [] } }.syncActive

theorem get_countAttempt (s : State) {f : Fld} (h : f.key ∉ [F.PM_START_ATTEMPTS.key, F.PM_STATE_KIND.key, F.PM_FAULT_ACTIVE.key]) :
    s.countAttempt.get f = s.get f := by
  simp only [List.mem_cons, List.not_mem_nil, or_false, not_or] at h
  obtain ⟨ha, hk, hf⟩ := h
  rw [State.countAttempt, State.syncActive, State.get_put_ne _ _ hf, State.get_mk, State.get_put_ne _ _ hk, State.get_bumpWrap_ne _ _ ha]

theorem get_countAttempt_attempts (s : State) : s.countAttempt.get F.PM_START_ATTEMPTS = (s.get F.PM_START_ATTEMPTS + 1) % 2 ^ 16 := by
  rw [State.countAttempt, State.syncActive, State.get_put_ne _ _ (by decide), State.get_mk, State.get_put_ne _ _ (by decide), State.get_bumpWrap_same]

/-- OFF with the attempt counted: what step 1 does before the boot ROM looks. -/
def State.beginStart (s : State) : State :=
  let s := s.countAttempt.goOff [0, 1, 2, 14]
  let s := ((s.put F.SB_STATUS_COMMITTED 0).put F.SB_STATUS_STEPS 0).put F.SB_STATUS_PHASE 0
  { s with pw := { s.pw with startAt := some s.now, allCold := true } }

/-- A rail that failed is reported once the boot ROM has looked. -/
theorem startCount_cases (s : State) : s.startCount = s.beginStart.bootTamper ∨ ∃ r, s.startCount =
    State.raiseAny { s.beginStart.bootTamper with pw := { s.beginStart.bootTamper.pw with rail := none } } 0x0D0C r 0 := by
  unfold State.startCount
  extract_lets counted ev ended off shown pw begun booted pw'
  have hbooted : booted = s.beginStart.bootTamper := rfl
  clear_value booted
  subst hbooted
  split
  · exact .inr ⟨_, rfl⟩
  · exact .inl rfl

theorem startCount_counts (s : State) :
    OnlyChanges bootFields [.otp, .freeCtr, .pw] s.beginStart s.startCount ∧ ∃ r, s.startCount.pw = { s.beginStart.pw with aonLost := false, rail := r } := by
  obtain ⟨honly, hpw⟩ := bootTamper_finds s.beginStart
  rcases startCount_cases s with h | ⟨r, h⟩ <;> rw [h]
  · exact ⟨honly, s.beginStart.pw.rail, hpw⟩
  · have hraise : OnlyChanges bootFields [.freeCtr] _
        (State.raiseAny { s.beginStart.bootTamper with pw := { s.beginStart.bootTamper.pw with rail := none } } 0x0D0C r 0) :=
      .raiseAny _ _ _ _ (by decide)
    refine ⟨(honly.trans (.pw _ _ (by decide))).trans (hraise.mono (fun _ h => h) (by decide)), none, (hraise.2 .pw (by decide)).trans ?_⟩
    rw [hpw]

theorem beginStart_begun (s : State) : s.beginStart.Begun s.now := by
  obtain ⟨l, tr, hpw⟩ := goOff_pw s.countAttempt [0, 1, 2, 14]
  refine ⟨congrArg some (goOff_now _ _), rfl, ?_⟩
  exact (congrArg Power.coldDue hpw : (s.countAttempt.goOff [0, 1, 2, 14]).pw.coldDue = false)

theorem startCount_begun (s : State) : s.startCount.Begun s.now := by
  obtain ⟨-, r, hr⟩ := startCount_counts s
  simpa only [State.Begun, hr] using beginStart_begun s

section
variable {s : State} (h0 : s.domainOn 0 = true)
include h0

/-- What a start that is counted shows. -/
theorem get_beginStart : s.beginStart.get F.PM_DOMAINS_ON = domainMask [0, 1, 2, 14] ∧ s.beginStart.get F.PM_STATE_STATE = 0 ∧
    s.beginStart.get F.SB_STATUS_COMMITTED = 0 ∧ s.beginStart.get F.PM_START_ATTEMPTS = (s.get F.PM_START_ATTEMPTS + 1) % 2 ^ 16 ∧
    s.beginStart.get F.PM_START_HOLD = s.get F.PM_START_HOLD := by
  have h0' : s.countAttempt.domainOn 0 = true := (domainOn_congr (get_countAttempt s (by decide)) 0).trans h0
  have hkeeps : ∀ f : Fld, f.key ∉ [F.SB_STATUS_COMMITTED.key, F.SB_STATUS_STEPS.key, F.SB_STATUS_PHASE.key] →
      s.beginStart.get f = (s.countAttempt.goOff [0, 1, 2, 14]).get f := fun f h => by
    simp only [List.mem_cons, List.not_mem_nil, or_false, not_or] at h
    obtain ⟨hc, hs, hp⟩ := h
    rw [State.beginStart, State.get_mk, State.get_put_ne _ _ hp, State.get_put_ne _ _ hs, State.get_put_ne _ _ hc]
  refine ⟨?_, ?_, ?_, ?_, ?_⟩
  · exact (hkeeps _ (by decide)).trans (get_setDomains_on _)
  · exact (hkeeps _ (by decide)).trans (goOff_state (by decide) h0')
  · rw [State.beginStart, State.get_mk, State.get_put_ne _ _ (by decide), State.get_put_ne _ _ (by decide), State.get_put_same]
    rfl
  · exact ((hkeeps _ (by decide)).trans (get_goOff (by decide) (by decide) h0' (by decide))).trans (get_countAttempt_attempts s)
  · exact ((hkeeps _ (by decide)).trans (get_goOff (by decide) (by decide) h0' (by decide))).trans (get_countAttempt s (by decide))

end

/-- The domains of step 3. -/
def startDomains : List Nat := [0, 1, 2, 3, 4, 13, 14, 15]

/-- Powering the domains of step 3 changes beside them the phase, the choice of calibration record and the laser's warm-up. -/
theorem startPower_powers (s : State) (bad : List Nat) :
    OnlyChanges (F.SB_STATUS_PHASE :: bootFields) [.dram, .pw, .sens, .freeCtr] (s.setDomains (domainMask startDomains) 0) (s.startPower bad) ∧
    (s.startPower bad).get F.SB_STATUS_PHASE = 1 ∧ ∃ l tr, (s.startPower bad).pw = { s.pw with laserAt := l, trained := tr } := by
  unfold State.startPower
  extract_lets powered pw started
  have hpowered : OnlyChanges (F.SB_STATUS_PHASE :: bootFields) [.dram, .pw, .sens, .freeCtr] powered
      { powered with dram := {}, pw := { pw with laserAt := some powered.now } } :=
    ⟨fun _ _ _ => rfl, fun p hp => by cases p with | dram | pw => exact absurd hp (by decide) | _ => rfl⟩
  have htec := tecStart_onlyChanges { powered with dram := {}, pw := { pw with laserAt := some powered.now } }
  have hcal := calChoose_onlyChanges (started.put F.SB_STATUS_PHASE 1) bad
  obtain ⟨l, tr, hpw⟩ := setDomains_pw s (domainMask startDomains) 0
  refine ⟨((hpowered.trans (htec.mono (fun _ h => List.mem_cons_of_mem _ h) (by decide))).trans (.put _ _ _ List.mem_cons_self)).trans
    (hcal.mono (fun _ h => List.mem_cons_of_mem _ h) (by decide)), ?_, some powered.now, tr, ?_⟩
  · rw [hcal.1 _ (by decide) (by decide), State.get_put_same]
    rfl
  · rw [hcal.2 .pw (by decide)]
    refine (htec.2 .pw (by decide)).trans ?_
    exact congrArg (fun x : Power => { x with laserAt := some powered.now }) hpw

/-- The capacity and the mode that the NVM answers with. -/
def State.putNvm (s : State) (mode cap : Nat) : State :=
  (s.putB F.NV_STATUS_FALLBACK (mode = 1)).put F.NV_STATUS_CAP cap |>.put F.NV_STATUS_SLOT_MIB (slotMib (64 * 2 ^ cap))

theorem putNvm_onlyChanges (s : State) (mode cap : Nat) :
    OnlyChanges [F.NV_STATUS_FALLBACK, F.NV_STATUS_CAP, F.NV_STATUS_SLOT_MIB] [] s (s.putNvm mode cap) :=
  ((OnlyChanges.put _ _ _ (by decide)).trans (.put _ _ _ (by decide))).trans (.put _ _ _ (by decide))

theorem get_putNvm (s : State) (mode cap : Nat) (hcap : cap ≤ 2) : (s.putNvm mode cap).get F.NV_STATUS_SLOT_MIB = slotMib (64 * 2 ^ cap) ∧
    (s.putNvm mode cap).get F.NV_STATUS_CAP = cap ∧ (s.putNvm mode cap).is F.NV_STATUS_FALLBACK = decide (mode = 1) := by
  have hmib : slotMib (64 * 2 ^ cap) ≤ 128 := Nat.min_le_left _ _
  refine ⟨?_, ?_, ?_⟩ <;> rw [State.putNvm]
  · rw [State.get_put_same, Nat.mod_eq_of_lt (Nat.lt_of_le_of_lt hmib (by decide))]
  · rw [State.get_put_ne _ _ (by decide), State.get_put_same, Nat.mod_eq_of_lt (Nat.lt_of_le_of_lt hcap (by decide))]
  · rw [State.is_put_ne _ _ (by decide), State.is_put_ne _ _ (by decide), State.is_putB_same _ _ (by decide)]

/-- A cold start that is due and finds everything in order powers the domains of step 3. -/
theorem coldStart_starts {s : State} {mode cap : Nat} {bad : List Nat} {tr : Bool} (hd : s.pw.coldDue = true) (hs : s.pw.supplies = true)
    (hp : s.pw.pfwLow = false) (h0 : s.domainOn 0 = true) (hh : s.is F.PM_START_HOLD = false) (hm : mode ≠ 0) :
    coldStart mode cap true bad tr s = (s.startCount.putNvm mode (min 2 cap)).startPower bad := by
  have hhold : (s.startCount.putNvm mode (min 2 cap)).is F.PM_START_HOLD = false := by
    obtain ⟨-, -, -, -, hbegin⟩ := get_beginStart h0
    rw [State.is, (putNvm_onlyChanges _ _ _).1 _ (by decide) (by decide), (startCount_counts s).1.1 _ (by decide) (by decide), hbegin]
    exact hh
  unfold coldStart
  rw [if_neg (by simp [hd, hs, hp])]
  extract_lets counted mib nvm
  rw [if_neg (by decide), if_neg hm]
  exact if_neg (by rw [show nvm.is F.PM_START_HOLD = false from hhold]; decide)

/-! ## The slots, the quick test and the timetable (R23, R384 steps 0 and 1, R399, R428) -/

/-- What a slot fails rests on the slot size and on OTP. -/
theorem slotFail_congr {s u : State} (hm : u.get F.NV_STATUS_SLOT_MIB = s.get F.NV_STATUS_SLOT_MIB) (ho : u.otp = s.otp) (i : Option Image) :
    u.slotFail i = s.slotFail i := by
  cases i with
  | none => rfl
  | some i =>
    simp only [State.slotFail, State.keyAccepted, hm, ho]
    rfl

theorem bestSlot_congr {s u : State} (hm : u.get F.NV_STATUS_SLOT_MIB = s.get F.NV_STATUS_SLOT_MIB) (ho : u.otp = s.otp) (a b : Option Image) :
    u.bestSlot a b = s.bestSlot a b := by
  simp only [State.bestSlot, slotFail_congr hm ho]

theorem bestSlot_le {s : State} {a b : Option Image} {k : Nat} {img : Image} (h : s.bestSlot a b = some (k, img)) : k ≤ 1 := by
  unfold State.bestSlot at h
  extract_lets ok at h
  split at h
  · split at h <;> cases h <;> decide
  · cases h; decide
  · cases h; decide
  · cases h

/-- The fields that show what the slots hold. -/
def slotFields : List Fld :=
  [F.NV_SLOTA_VALID, F.NV_SLOTA_FAIL, F.NV_SLOTA_RL, F.NV_SLOTA_BUILD, F.NV_SLOTB_VALID, F.NV_SLOTB_FAIL, F.NV_SLOTB_RL, F.NV_SLOTB_BUILD]

theorem showSlot_onlyChanges (s : State) (slot : Nat) (i : Option Image) : OnlyChanges slotFields [] s (s.showSlot slot i) :=
  .ite ((((OnlyChanges.put _ _ _ (by decide)).trans (.put _ _ _ (by decide))).trans (.put _ _ _ (by decide))).trans (.put _ _ _ (by decide)))
    ((((OnlyChanges.put _ _ _ (by decide)).trans (.put _ _ _ (by decide))).trans (.put _ _ _ (by decide))).trans (.put _ _ _ (by decide)))

theorem showSlot_zero (s : State) (i : Option Image) : (s.showSlot 0 i).is F.NV_SLOTA_VALID = decide (s.slotFail i = 0) := by
  unfold State.showSlot
  extract_lets f rl build
  rw [if_pos rfl, State.is_put_ne _ _ (by decide), State.is_put_ne _ _ (by decide), State.is_put_ne _ _ (by decide),
    State.is_putB_same _ _ (by decide)]

theorem showSlot_one (s : State) (i : Option Image) : (s.showSlot 1 i).is F.NV_SLOTB_VALID = decide (s.slotFail i = 0) ∧
    (s.showSlot 1 i).get F.NV_SLOTA_VALID = s.get F.NV_SLOTA_VALID := by
  unfold State.showSlot
  extract_lets f rl build
  rw [if_neg (by decide)]
  constructor
  · rw [State.is_put_ne _ _ (by decide), State.is_put_ne _ _ (by decide), State.is_put_ne _ _ (by decide), State.is_putB_same _ _ (by decide)]
  · rw [State.get_put_ne _ _ (by decide), State.get_put_ne _ _ (by decide), State.get_put_ne _ _ (by decide), State.get_putB_ne _ _ (by decide)]

theorem showSlots_onlyChanges (s : State) (a b : Option Image) : OnlyChanges slotFields [.freeCtr] s (s.showSlots a b) := by
  unfold State.showSlots
  extract_lets shown first
  have hshown : OnlyChanges slotFields [.freeCtr] s shown := ((showSlot_onlyChanges _ _ _).trans (showSlot_onlyChanges _ _ _)).mono (fun _ h => h) nofun
  have hfirst : OnlyChanges slotFields [.freeCtr] s first := .ite hshown (hshown.trans (.raiseAny _ _ _ _ (by decide)))
  exact .ite hfirst (hfirst.trans (.raiseAny _ _ _ _ (by decide)))

theorem is_showSlots (s : State) (a b : Option Image) : (s.showSlots a b).is F.NV_SLOTA_VALID = decide (s.slotFail a = 0) ∧
    (s.showSlots a b).is F.NV_SLOTB_VALID = decide (s.slotFail b = 0) := by
  obtain ⟨first, hfirst⟩ := exists_eq (a' := s.showSlot 0 a)
  have hb : first.slotFail b = s.slotFail b :=
    slotFail_congr (hfirst ▸ (showSlot_onlyChanges s 0 a).1 _ (by decide) (by decide)) (hfirst ▸ (showSlot_onlyChanges s 0 a).2 .otp (by decide)) b
  have hraised : ∀ f : Fld, f.key ∉ eventKeys → (s.showSlots a b).get f = (first.showSlot 1 b).get f := fun f h => by
    unfold State.showSlots
    extract_lets shown noted
    have hnoted : noted.get f = (first.showSlot 1 b).get f := by
      show (if _ then shown else _).get f = _
      split
      · rw [hfirst]
      · rw [State.get_raiseAny _ _ _ _ h, hfirst]
    split
    · exact hnoted
    · rw [State.get_raiseAny _ _ _ _ h, hnoted]
  constructor
  · rw [State.is, hraised _ (by decide), (showSlot_one first b).2, hfirst, ← State.is, showSlot_zero]
  · rw [State.is, hraised _ (by decide), ← State.is, (showSlot_one first b).1, hb]

theorem ranCold_onlyChanges (s : State) (k : Nat) : OnlyChanges [F.SB_STATUS_STEPS] [.pw] s (s.ranCold k) :=
  (OnlyChanges.pw _ _ (by decide)).trans (.put _ _ _ (by decide))

theorem markStep_done (s : State) (k : Nat) : (s.markStep k).stepDone k = true := by simp [State.stepDone, State.markStep]

theorem markStep_is (s : State) (k : Nat) (f : Fld) : (s.markStep k).is f = s.is f := rfl

theorem ranCold_done (s : State) (k : Nat) : (s.ranCold k).stepDone k = true := markStep_done s k

/-- Which steps have run is in the start's account. -/
theorem stepDone_congr {s u : State} (h : u.pw.steps = s.pw.steps) (k : Nat) : u.stepDone k = s.stepDone k := by rw [State.stepDone, h, State.stepDone]

@[simp] theorem State.answer_stepDone (s : State) (q : List Instr) (k : Nat) : (s.answer q).stepDone k = s.stepDone k :=
  stepDone_congr (by rw [State.answer_pw]) k

/-- The fields that a start's test shows last. -/
def lastTestFields : List Fld :=
  [F.BT_STATUS_OPEN_SEEN, F.BT_STATUS_JOURNAL, F.SB_SHUTDOWN_ABANDONED, F.BT_SUMMARY0_A, F.BT_SUMMARY0_B, F.BT_SUMMARY1_A, F.BT_SUMMARY1_B,
   F.BT_LAST_TEST_VALUE, F.BT_ROTATION_VALUE]

theorem syncBt_onlyChanges (s : State) : OnlyChanges lastTestFields [] s s.syncBt := by
  unfold State.syncBt
  extract_lets n results withdrawn p
  have hresults : OnlyChanges lastTestFields [] s results := (OnlyChanges.put _ _ _ (by decide)).trans (.put _ _ _ (by decide))
  have hwithdrawn : OnlyChanges lastTestFields [] s withdrawn := (hresults.trans (.put _ _ _ (by decide))).trans (.put _ _ _ (by decide))
  exact (hwithdrawn.trans (.put _ _ _ (by decide))).trans (.put _ _ _ (by decide))

/-- The quick test's end shows what the journals gave. -/
theorem startTest_shows (s : State) (bad : List Nat) (fails : List UnitFail) :
    (s.startTest bad fails).1.is F.BT_STATUS_CLEAN = (s.readJournals bad).cleanStart ∧
    (s.startTest bad fails).1.is F.BT_STATUS_QUICK = !(s.readJournals bad).cleanStart := by
  unfold State.startTest
  extract_lets read clean unknown memory results applied raised shown journal
  have hlast : OnlyChanges lastTestFields [] ((raised.putB F.BT_STATUS_QUICK (!clean)).putB F.BT_STATUS_CLEAN clean)
      (journal.putSat F.SB_SHUTDOWN_ABANDONED journal.bt.work.abandoned).syncBt :=
    (((OnlyChanges.put _ _ _ (by decide)).trans (.put _ _ _ (by decide))).trans (.put _ _ _ (by decide))).trans (syncBt_onlyChanges _)
  constructor
  · rw [State.is, hlast.1 _ (by decide) (by decide), ← State.is, State.is_putB_same _ _ (by decide)]
  · rw [State.is, hlast.1 _ (by decide) (by decide), ← State.is, State.is_putB_ne _ _ (by decide), State.is_putB_same _ _ (by decide)]

theorem chooseTimetable_advance (s : State) (t : Nat) : (s.advance t).chooseTimetable = s.chooseTimetable.advance t := by
  unfold State.chooseTimetable
  rw [State.advance_pw]
  split <;> rfl

theorem chooseTimetable_get (s : State) (f : Fld) : s.chooseTimetable.get f = s.get f := by
  unfold State.chooseTimetable
  split <;> rfl

/-! ## The receiver's power (R97, R281, R385) -/

/-- With the timetable chosen PD_RXB is brought to it; what the start has chosen and PD_SBOX stay. -/
theorem rxbSet_keeps (s : State) : (∃ l tr, s.rxbSet.pw = { s.pw with laserAt := l, trained := tr }) ∧
    (s.domainOn 2 = true → s.rxbSet.sw = s.sw ∧ s.rxbSet.domainOn 2 = true) := by
  unfold State.rxbSet
  split
  · exact ⟨⟨_, _, rfl⟩, fun h => ⟨rfl, h⟩⟩
  · have hkeeps : Keeps [] (s.setDomains (s.get F.PM_DOMAINS_ON ^^^ 128) (s.get F.PM_DOMAINS_RETAINED)) _ := Keeps.lanesEnable .refl
    refine ⟨?_, fun h => ?_⟩
    · rw [show State.pw _ = _ from hkeeps.part .pw (by decide) (by decide)]
      exact setDomains_pw _ _ _
    · have hbit : (s.get F.PM_DOMAINS_ON ^^^ 128).testBit 2 = true := by
        rw [Nat.testBit_xor, show (s.get F.PM_DOMAINS_ON).testBit 2 = true from h]
        decide
      refine ⟨(show State.sw _ = _ from hkeeps.part .sw (by decide) (by decide)).trans (setDomains_sw _ hbit h), ?_⟩
      rw [domainOn_congr (hkeeps.get _ (by decide)), State.domainOn, get_setDomains_on, Nat.testBit_mod_two_pow, hbit]
      decide

/-- What powering the receiver leaves to the start in progress. -/
structure StartKept (s u : State) : Prop where
  pw : ∃ l tr, u.pw = { s.pw with laserAt := l, trained := tr }
  sw : s.domainOn 2 = true → u.sw = s.sw
  warm : s.domainOn 4 = true → u.get F.OP_LASER_WARM = s.get F.OP_LASER_WARM

theorem StartKept.of_keeps {s u w : State} (h : StartKept s u) (hk : Keeps [] u w) : StartKept s w :=
  ⟨by rw [show w.pw = u.pw from hk.part .pw (by decide) (by decide)]; exact h.pw,
   fun h2 => (show w.sw = u.sw from hk.part .sw (by decide) (by decide)).trans (h.sw h2),
   fun h4 => (hk.get _ (by decide)).trans (h.warm h4)⟩

theorem StartKept.calBegin {s u : State} (h : StartKept s u) : StartKept s u.calBegin := by
  have hsens : u.calBegin.pw = u.pw ∧ u.calBegin.sw = u.sw := by simp [State.calBegin, State.modSens]
  refine ⟨by rw [hsens.1]; exact h.pw, fun h2 => hsens.2.trans (h.sw h2), fun h4 => (?_ : _ = u.get F.OP_LASER_WARM).trans (h.warm h4)⟩
  rw [State.calBegin, State.get_raise _ _ _ _ (by decide), State.get_put_ne _ _ (by decide), State.get_put_ne _ _ (by decide)]
  rfl

/-- The laser's WARM stays while PD_LASER does. -/
theorem keepsKey_warm {kept : Nat} (h : kept.testBit 4 = true) : keepsKey kept F.OP_LASER_WARM.key = true := by
  rw [keepsKey, h]
  simp

/-- Domains are added to those that are powered, and those stay powered. -/
theorem pathsUp_keeps (s : State) (more : List Nat) : StartKept s (s.pathsUp more) := by
  unfold State.pathsUp
  extract_lets on powered fused locked stored
  have hbit : ∀ d, s.domainOn d = true → (on ||| domainMask ([5, 6, 8] ++ s.rxbWanted ++ more)).testBit d = true := fun d h => by
    rw [Nat.testBit_or, show on.testBit d = true from h, Bool.true_or]
  have hpowered : StartKept s powered := by
    refine ⟨setDomains_pw _ _ _, fun h => setDomains_sw _ (hbit 2 h) h, fun h => get_setDomains _ (keepsKey_warm ?_) (by decide) (by decide)⟩
    rw [Nat.testBit_and, hbit 4 h]
    exact h
  have hfused : Keeps [] powered fused := .syncCeilings (.putB .refl)
  have hlocked : Keeps [] powered locked := .ite (.setCause hfused) hfused
  have hstored : Keeps [] powered stored := by
    dsimp only [stored]
    split
    · exact .calApply hlocked
    · exact hlocked
  exact hpowered.of_keeps (.reapply (.lanesEnable (.clkStart hstored)))

theorem receiverPower_keeps (s : State) : StartKept s s.receiverPower := by
  have hrefl : StartKept s s := ⟨⟨_, _, rfl⟩, fun _ => rfl, fun _ => rfl⟩
  unfold State.receiverPower
  split
  · exact hrefl
  · extract_lets powered
    have hpowered : StartKept s powered := by
      show StartKept s (if _ then _ else _)
      split
      · exact hrefl
      · exact pathsUp_keeps s []
    split
    · exact hpowered
    · exact hpowered.calBegin

/-- The end of a calibration is shown, whatever its record changes. -/
theorem calEnd_running (s : State) (r : CalRecord) : (s.calEnd r false).get F.CL_STATUS_RUNNING = 0 := by
  unfold State.calEnd
  extract_lets r' x cal shown counted
  have hcounted : counted.get F.CL_STATUS_RUNNING = 0 := (State.get_put_ne _ _ (by decide)).trans (State.get_put_same _ _ _)
  split
  · exact hcounted
  · exact (Keeps.calEffect (ps := []) .refl).get _ (by decide) |>.trans hcounted

/-! ## 60 s in RUN (R389, R402) -/

theorem raiseRollback_onlyChanges (s : State) (rl : Nat) : OnlyChanges [] [.otp, .freeCtr] s (s.raiseRollback rl).1 := by
  unfold State.raiseRollback
  split
  · exact .refl s
  · split
    · exact (OnlyChanges.otp _ _ (by decide)).trans (.raiseAny _ _ _ _ (by decide))
    · exact .refl s

/-- The rollback counter rises to a level within its 64 steps. -/
theorem raiseRollback_otp {s : State} {rl : Nat} (h : rl ≤ 64) (h2 : s.otp.rollback < 64) :
    (s.raiseRollback rl).1.otp = { s.otp with rollback := max s.otp.rollback rl } := by
  unfold State.raiseRollback
  rw [if_neg (by omega)]
  split
  · have hraise : OnlyChanges [] [.freeCtr] _ (State.raiseAny { s with otp := { s.otp with rollback := rl } } 0x0D08 wide 0) := .raiseAny _ _ _ _ (by decide)
    rw [max_eq_right (by omega)]
    exact hraise.2 .otp (by decide)
  · rw [max_eq_left (by omega)]

/-- The failures cleared, and the 60 s noted. -/
def State.markSettled (s : State) : State := { s with pw := { s.pw with settled := true } }.put F.PM_START_FAILS 0

theorem markSettled_onlyChanges (s : State) : OnlyChanges [F.PM_START_FAILS] [.pw] s s.markSettled :=
  (OnlyChanges.pw _ _ (by decide)).trans (.put _ _ _ (by decide))

theorem runSettled_marks {s : State} {c : Nat} (hc : s.pw.commitAt = some c)
    (hcond : ¬(s.get F.PM_STATE_STATE ≠ 2 ∨ s.pw.settled = true ∨ s.now < c + 60000 * ms ∨ s.pw.shut.isSome = true)) :
    (s.pw.image = none → runSettled s = s.markSettled) ∧
    ∀ k img, s.pw.image = some (k, img) → runSettled s = if imageAutoRaise img then (s.markSettled.raiseRollback img.rl).1 else s.markSettled := by
  have hrun : runSettled s = match s.markSettled.pw.image with
      | some (_, img) => if imageAutoRaise img then (s.markSettled.raiseRollback img.rl).1 else s.markSettled
      | none => s.markSettled := by
    unfold runSettled
    rw [hc]
    exact if_neg hcond
  exact ⟨fun h => by rw [hrun, show s.markSettled.pw.image = none from h], fun k img h => by rw [hrun, show s.markSettled.pw.image = some (k, img) from h]⟩

/-! ## The clauses before COMMIT, one by one -/

theorem domainMask_startDomains : ∀ d < 16, ((domainMask startDomains % 2 ^ F.PM_DOMAINS_ON.width).testBit d = true ↔ d ∈ startDomains) := by decide

theorem startDomains_first : ∀ d ∈ [0, 1, 2], (domainMask startDomains).testBit d = true ∧ (domainMask [0, 1, 2, 14]).testBit d = true := by decide

theorem opticalState_off {s : State} (h : s.opt.off = true) : s.opticalState = 0 := by simp [State.opticalState, h]

@[simp] theorem State.answer_off (s : State) (q : List Instr) : (s.answer q).opt.off = s.opt.off := by
  show s.settle.opt.off = _
  rw [(settle_quiet s).opt]

section
variable (s : State) (t : Nat)

theorem exec_coldStart {mode cap : Nat} {bad : List Nat} {tr : Bool} (hd : s.pw.coldDue = true) (hs : s.pw.supplies = true)
    (hp : s.pw.pfwLow = false) (hh : s.is F.PM_START_HOLD = false) (h0 : s.domainOn 0 = true) (hm : mode ≠ 0) :
    ∃ u, exec (.coldStart t mode cap true bad tr) s = .next u ∧ u.get F.PM_STATE_STATE = 0 ∧ u.get F.SB_STATUS_PHASE = 1 ∧
      u.get F.SB_STATUS_COMMITTED = 0 ∧ u.get F.PM_START_ATTEMPTS = (s.get F.PM_START_ATTEMPTS + 1) % 2 ^ 16 ∧
      u.get F.NV_STATUS_SLOT_MIB = slotMib (64 * 2 ^ min 2 cap) ∧ u.get F.NV_STATUS_CAP = min 2 cap ∧
      u.is F.NV_STATUS_FALLBACK = decide (mode = 1) ∧ u.pw.startAt = some (max s.now t) ∧ u.pw.allCold = true ∧ u.pw.coldDue = false ∧
      u.poweredOnly startDomains ∧ u.opticalState = 0 := by
  obtain ⟨c, hc⟩ := exists_eq (a' := (s.advance t).startCount)
  obtain ⟨v, hv⟩ := exists_eq (a' := c.putNvm mode (min 2 cap))
  have hrun : coldStart mode cap true bad tr (s.advance t) = v.startPower bad := by
    rw [coldStart_starts (s := s.advance t) hd hs hp h0 hh hm, hv, hc]
  obtain ⟨hon, hstate, hcommitted, hattempts, -⟩ := get_beginStart (s := s.advance t) h0
  have hcount : OnlyChanges bootFields [.otp, .freeCtr, .pw] (s.advance t).beginStart c := hc ▸ (startCount_counts _).1
  have hnvm : OnlyChanges [F.NV_STATUS_FALLBACK, F.NV_STATUS_CAP, F.NV_STATUS_SLOT_MIB] [] c v := hv ▸ putNvm_onlyChanges _ _ _
  obtain ⟨hmib, hcap, hfall⟩ : v.get F.NV_STATUS_SLOT_MIB = _ ∧ v.get F.NV_STATUS_CAP = _ ∧ v.is F.NV_STATUS_FALLBACK = _ :=
    hv ▸ get_putNvm c mode (min 2 cap) (by omega)
  obtain ⟨hpower, hphase, hpw⟩ := startPower_powers v bad
  have hcounted : v.Begun (max s.now t) := by
    rw [State.Begun, hnvm.2 .pw (by decide), hc]
    exact startCount_begun (s.advance t)
  obtain ⟨hat, hcold, hdue⟩ := hcounted.of_pw hpw
  have hvon : v.get F.PM_DOMAINS_ON = domainMask [0, 1, 2, 14] := by
    rw [hnvm.1 _ (by decide) (by decide), hcount.1 _ (by decide) (by decide), hon]
  have hdomain : ∀ d, (domainMask [0, 1, 2, 14]).testBit d = true → v.domainOn d = true := fun d h => by rw [State.domainOn, hvon, h]
  have hkept : ∀ (f : Fld) (d : Nat), d ∈ [0, 1, 2] → blockDomain (f.key / 32 / 65536) = d → f.key ∉ settleKeys →
      f.key ∉ [F.PM_DOMAINS_ON.key, F.PM_DOMAINS_RETAINED.key] → f.key ∉ (F.SB_STATUS_PHASE :: bootFields).map (·.key) →
      ((v.startPower bad).answer s.pending).get f = v.get f := fun f d hd hb hq hdom hf => by
    simp only [List.mem_cons, List.not_mem_nil, or_false, not_or] at hdom
    rw [State.get_answer _ _ hq, hpower.1 f hq hf]
    have hon : (domainMask startDomains).testBit d = true ∧ (domainMask [0, 1, 2, 14]).testBit d = true := startDomains_first d hd
    exact get_setDomains_block 0 hb hon.1 (hdomain d hon.2) hdom.1 hdom.2
  refine ⟨_, rfl, ?_, ?_, ?_, ?_, ?_, ?_, ?_, ?_, ?_, ?_, fun d hd => ?_, ?_⟩ <;> rw [hrun]
  · rw [hkept _ 0 (by decide) (by decide) (by decide) (by decide) (by decide), hnvm.1 _ (by decide) (by decide),
      hcount.1 _ (by decide) (by decide), hstate]
  · rw [State.get_answer _ _ (by decide), hphase]
  · rw [hkept _ 2 (by decide) (by decide) (by decide) (by decide) (by decide), hnvm.1 _ (by decide) (by decide),
      hcount.1 _ (by decide) (by decide), hcommitted]
  · rw [hkept _ 0 (by decide) (by decide) (by decide) (by decide) (by decide), hnvm.1 _ (by decide) (by decide),
      hcount.1 _ (by decide) (by decide), hattempts]
    rfl
  · rw [hkept _ 1 (by decide) (by decide) (by decide) (by decide) (by decide), hmib]
  · rw [hkept _ 1 (by decide) (by decide) (by decide) (by decide) (by decide), hcap]
  · rw [State.is, hkept _ 1 (by decide) (by decide) (by decide) (by decide) (by decide), ← State.is, hfall]
  · rw [State.answer_pw, hat]
  · rw [State.answer_pw, hcold]
  · rw [State.answer_pw, hdue]
  · rw [State.domainOn, State.get_answer _ _ (by decide), hpower.1 _ (by decide) (by decide), get_setDomains_on]
    exact domainMask_startDomains d hd
  · refine opticalState_off ?_
    rw [State.answer_off, hpower.2 .opt (by decide)]
    exact setDomains_off 0 (.inl (by decide))

theorem slotVerified_chooses {a b : Option Image} {k : Nat} {img : Image} {bad : List Nat} {tr : Bool} (hs : s.starting = true)
    (hd : s.stepDone 0 = false) (hp : s.get F.SB_STATUS_PHASE ≠ 0) (hh : s.is F.PM_START_HOLD = false) (hb : s.bestSlot a b = some (k, img)) :
    ∃ u, exec (.slotVerified t a b bad tr) s = .next u ∧ u.get F.NV_STATUS_ACTIVE = k ∧ u.get F.SB_STATUS_PHASE = 2 ∧
      u.pw.image = some (k, img) ∧ u.stepDone 0 = true ∧ u.is F.NV_SLOTA_VALID = decide (s.slotFail a = 0) ∧
      u.is F.NV_SLOTB_VALID = decide (s.slotFail b = 0) := by
  obtain ⟨v, hv⟩ := exists_eq (a' := (s.advance t).showSlots a b)
  have honly : OnlyChanges slotFields [.freeCtr] (s.advance t) v := hv ▸ showSlots_onlyChanges _ a b
  have hhold : v.is F.PM_START_HOLD = false := by
    rw [State.is, honly.1 _ (by decide) (by decide)]
    exact hh
  have hbest : v.bestSlot a b = some (k, img) :=
    (bestSlot_congr (s := s.advance t) (honly.1 _ (by decide) (by decide)) (honly.2 .otp (by decide)) a b).trans hb
  have hrun : ∃ x : Power, x.image = some (k, img) ∧
      slotVerified a b bad tr (s.advance t) = (((({ v with pw := x } : State).put F.NV_STATUS_ACTIVE k).put F.SB_STATUS_PHASE 2).ranCold 0) := by
    have hcond : ¬((!(s.advance t).starting) = true ∨ (s.advance t).stepDone 0 = true ∨ (s.advance t).get F.SB_STATUS_PHASE = 0) := by
      have hs' : (s.advance t).starting = true := hs
      have hd' : (s.advance t).stepDone 0 = false := hd
      rw [hs', hd', State.get_advance]
      simpa using hp
    refine ⟨{ v.pw with image := some (k, img), allCold := v.pw.allCold || (v.is F.PM_STATE_KIND && decide (k ≠ v.get F.NV_STATUS_ACTIVE)),
                        cache := some (k, v.get F.NV_WRITES_COUNT) }, rfl, ?_⟩
    rw [slotVerified, if_neg hcond]
    simp only [← hv, hbest, hhold, Bool.false_eq_true, if_false]
  obtain ⟨x, hx, hrun⟩ := hrun
  have hran := ranCold_onlyChanges ((State.put { v with pw := x } F.NV_STATUS_ACTIVE k).put F.SB_STATUS_PHASE 2) 0
  have hvalid : ∀ f : Fld, f.key ∉ settleKeys → f.key ∉ [F.SB_STATUS_STEPS.key, F.SB_STATUS_PHASE.key, F.NV_STATUS_ACTIVE.key] →
      ((slotVerified a b bad tr (s.advance t)).answer s.pending).is f = v.is f := fun f hq hf => by
    simp only [List.mem_cons, List.not_mem_nil, or_false, not_or] at hf
    obtain ⟨hsteps, hphase, hactive⟩ := hf
    rw [State.is_answer _ _ hq, hrun, State.is, hran.1 _ hq (by simpa using hsteps), State.get_put_ne _ _ hphase, State.get_put_ne _ _ hactive]
    rfl
  have hshown := is_showSlots (s.advance t) a b
  rw [← hv] at hshown
  refine ⟨_, rfl, ?_, ?_, ?_, ?_, (hvalid _ (by decide) (by decide)).trans hshown.1, (hvalid _ (by decide) (by decide)).trans hshown.2⟩ <;> rw [hrun]
  · rw [State.get_answer _ _ (by decide), hran.1 _ (by decide) (by decide), State.get_put_ne _ _ (by decide), State.get_put_same]
    exact Nat.mod_eq_of_lt (Nat.lt_of_le_of_lt (bestSlot_le hb) (by decide))
  · rw [State.get_answer _ _ (by decide), hran.1 _ (by decide) (by decide), State.get_put_same]
    rfl
  · rw [State.answer_pw]
    exact hx
  · rw [State.answer_stepDone, ranCold_done]

theorem dramTrained_trains {temp : Int} {bands : List Nat} {tr : Bool} (hs : s.starting = true) (hon : s.domainOn 13 = true)
    (hd : s.stepDone 2 = false) : ∃ u, exec (.dramTrained t true temp bands tr) s = .next u ∧ u.pw.trained = some (temp, bands) ∧
    u.stepDone 2 = true ∧ u.get F.SB_STATUS_STEPS = (s.get F.SB_STATUS_STEPS ||| 4) % 128 ∧ OnlyChanges [F.SB_STATUS_STEPS] [.pw] s u := by
  have hrun : dramTrained true temp bands tr (s.advance t) =
      State.ranCold { s.advance t with pw := { s.pw with trained := some (temp, bands) } } 2 := by
    have hs' : (s.advance t).starting = true := hs
    have hon' : (s.advance t).domainOn 13 = true := hon
    have hd' : (s.advance t).stepDone 2 = false := hd
    simp only [dramTrained, hs', hon', hd', Bool.not_true, Bool.false_eq_true, or_self, if_false]
    rfl
  refine ⟨_, rfl, ?_, ?_, ?_, .answer (t := t) ?_⟩ <;> rw [hrun]
  · rw [State.answer_pw]
    rfl
  · rw [State.answer_stepDone, ranCold_done]
  · rw [State.get_answer _ _ (by decide), State.ranCold, State.get_put_same]
    rfl
  · exact (OnlyChanges.pw _ _ (by decide)).trans (ranCold_onlyChanges _ _)

theorem quickTestDone_tests {bad : List Nat} {fails : List UnitFail} (hs : s.starting = true) (hc : s.coldForms = true) (h2 : s.stepDone 2 = true)
    (h3 : s.stepDone 3 = false) : ∃ u, exec (.quickTestDone t bad fails) s = .next u ∧ u.stepDone 3 = true ∧
    u.is F.BT_STATUS_CLEAN = ((s.advance t).readJournals bad).cleanStart ∧
    u.is F.BT_STATUS_QUICK = !((s.advance t).readJournals bad).cleanStart := by
  obtain ⟨hclean, hquick⟩ := startTest_shows (s.advance t) bad fails
  have hcond : ¬((!(s.advance t).starting) = true ∨ (!(s.advance t).coldForms) = true ∨ (!(s.advance t).stepDone 2) = true ∨
      (s.advance t).stepDone 3 = true) := by
    rw [show (s.advance t).starting = true from hs, show (s.advance t).coldForms = true from hc, show (s.advance t).stepDone 2 = true from h2,
      show (s.advance t).stepDone 3 = false from h3]
    decide
  have hrun : quickTestDone bad fails (s.advance t) = if ((s.advance t).startTest bad fails).2 then ((s.advance t).startTest bad fails).1.ranCold 3
      else ((s.advance t).startTest bad fails).1.markStep 3 := by
    unfold quickTestDone
    generalize (s.advance t).startTest bad fails = test
    obtain ⟨tested, ran⟩ := test
    exact if_neg hcond
  have hkept : ∀ f : Fld, f.key ∉ settleKeys → f.key ≠ F.SB_STATUS_STEPS.key →
      (quickTestDone bad fails (s.advance t)).is f = ((s.advance t).startTest bad fails).1.is f := fun f hq hf => by
    rw [hrun]
    split
    · rw [State.is, (ranCold_onlyChanges _ 3).1 f hq (by simpa using hf), State.is]
    · exact markStep_is _ 3 f
  refine ⟨_, rfl, ?_, ?_, ?_⟩
  · rw [State.answer_stepDone, hrun]
    split
    · exact ranCold_done _ 3
    · exact markStep_done _ 3
  · rw [State.is_answer _ _ (by decide), hkept _ (by decide) (by decide), hclean]
  · rw [State.is_answer _ _ (by decide), hkept _ (by decide) (by decide), hquick]

theorem engineCodeLoaded_chooses {tr : Bool} {i : Nat} (hs : s.starting = true) (hi : s.pw.image.isSome = true) (h1 : s.stepDone 1 = false)
    (h13 : s.domainOn 13 = true) (h2 : s.domainOn 2 = true) (h3 : s.stepDone 3 = true) (htt : s.chooseTimetable.pw.tt = some i) :
    ∃ u, exec (.engineCodeLoaded t tr) s = .next u ∧ u.pw.tt = some i ∧ u.stepDone 1 = true ∧
      u.sw.timetables = s.chooseTimetable.sw.timetables ∧ u.sw.selectable = s.chooseTimetable.sw.selectable := by
  obtain ⟨v, hv⟩ := exists_eq (a' := s.chooseTimetable.advance t)
  have hchoose : (s.advance t).chooseTimetable = v := hv ▸ chooseTimetable_advance s t
  have hv2 : v.domainOn 2 = true := by
    rw [hv, State.domainOn_advance, domainOn_congr (chooseTimetable_get s _)]
    exact h2
  obtain ⟨⟨l, tr', hpw⟩, hsw⟩ := rxbSet_keeps v
  obtain ⟨hsw, hon⟩ := hsw hv2
  have htt' : v.rxbSet.pw.tt = some i := by rw [hpw, hv]; exact htt
  have hkept := receiverPower_keeps (v.rxbSet.ranCold 1)
  obtain ⟨l', tr'', hpower⟩ := hkept.pw
  have hlast : (v.rxbSet.ranCold 1).receiverPower.sw = s.chooseTimetable.sw := by
    rw [hkept.sw ((State.domainOn_put _ _ _ (by decide)).trans hon), (ranCold_onlyChanges _ 1).2 .sw (by decide), hsw, hv]
    rfl
  have hcond : ¬((!(s.advance t).starting) = true ∨ (s.advance t).pw.image.isNone = true ∨ (s.advance t).stepDone 1 = true ∨
      (!(s.advance t).domainOn 13) = true ∨ ((s.advance t).coldForms = true ∧ (!(s.advance t).stepDone 3) = true)) := by
    rw [show (s.advance t).starting = true from hs, show (s.advance t).stepDone 1 = false from h1, show (s.advance t).domainOn 13 = true from h13,
      show (s.advance t).stepDone 3 = true from h3, State.advance_pw, ← Option.not_isSome, hi]
    simp
  have hrun : engineCodeLoaded tr (s.advance t) = (v.rxbSet.ranCold 1).receiverPower := by
    rw [engineCodeLoaded, if_neg hcond, hchoose]
    exact if_neg (by rw [htt']; exact Bool.false_ne_true)
  refine ⟨_, rfl, ?_, ?_, ?_, ?_⟩ <;> rw [hrun]
  · rw [State.answer_pw, hpower]
    exact htt'
  · rw [State.answer_stepDone, stepDone_congr (s := v.rxbSet.ranCold 1) (by rw [hpower]), ranCold_done]
  · rw [State.answer_sw, hlast]
  · rw [State.answer_sw, hlast]

theorem laserWarm_warms {a : Nat} (ha : s.sens.tec.startAt = some a) (ht : a + 4000 * ms ≤ t) (hon : s.domainOn 4 = true)
    (hw : s.is F.OP_LASER_WARM = false) : ∃ u, exec (.laserWarm t) s = .next u ∧ u.get F.OP_LASER_WARM = 1 ∧
    (s.starting = true → u.stepDone 4 = true) := by
  have hcond : ¬((s.advance t).now < a + 4000 * ms ∨ (!(s.advance t).domainOn 4) = true ∨ (s.advance t).is F.OP_LASER_WARM = true) := by
    rw [show (s.advance t).domainOn 4 = true from hon, show (s.advance t).is F.OP_LASER_WARM = false from hw, State.advance_now]
    simp only [Bool.not_true, Bool.false_eq_true, or_self, or_false, not_lt]
    omega
  obtain ⟨v, hv⟩ := exists_eq (a' := (s.advance t).put F.OP_LASER_WARM 1)
  have hrun : laserWarm (s.advance t) = if v.starting then (v.ranCold 4).receiverPower else v := by
    rw [laserWarm, State.advance_sens, ha, hv]
    exact if_neg hcond
  have hwarm : v.get F.OP_LASER_WARM = 1 := by
    rw [hv, State.get_put_same]
    rfl
  have hon' : (v.ranCold 4).domainOn 4 = true := by
    rw [domainOn_congr ((ranCold_onlyChanges v 4).1 _ (by decide) (by decide)), hv, State.domainOn_put _ _ _ (by decide)]
    exact hon
  have hkept := receiverPower_keeps (v.ranCold 4)
  refine ⟨_, rfl, ?_, fun hs => ?_⟩
  · rw [State.get_answer _ _ (by decide), hrun]
    split
    · rw [hkept.warm hon', (ranCold_onlyChanges _ 4).1 _ (by decide) (by decide), hwarm]
    · exact hwarm
  · obtain ⟨l, tr, hpower⟩ := hkept.pw
    rw [State.answer_stepDone, hrun, if_pos (hv ▸ hs), stepDone_congr (s := v.ranCold 4) (by rw [hpower]), ranCold_done]

theorem receiverCalDone_ends {r : CalRecord} (hs : s.starting = true) (hr : s.is F.CL_STATUS_RUNNING = true) (h5 : s.stepDone 5 = false)
    (hon : s.domainOn 6 = true) (hc : s.get F.SL_STATUS_CLK_STATE ≠ 0) :
    ∃ u, exec (.receiverCalDone t r) s = .next u ∧ u.stepDone 5 = true ∧ u.is F.CL_STATUS_RUNNING = false := by
  have hcond : ¬((!(s.advance t).starting) = true ∨ (!(s.advance t).is F.CL_STATUS_RUNNING) = true ∨ (s.advance t).stepDone 5 = true ∨
      (!(s.advance t).domainOn 6) = true ∨ (s.advance t).get F.SL_STATUS_CLK_STATE = 0) := by
    rw [show (s.advance t).starting = true from hs, show (s.advance t).is F.CL_STATUS_RUNNING = true from hr,
      show (s.advance t).stepDone 5 = false from h5, show (s.advance t).domainOn 6 = true from hon, State.get_advance]
    simpa using hc
  obtain ⟨v, hv⟩ := exists_eq (a' := ((s.advance t).calEnd r false).put F.SL_STATUS_SKEW_VALID 1)
  have hend : v.is F.CL_STATUS_RUNNING = false := by
    rw [hv, State.is, State.get_put_ne _ _ (by decide), calEnd_running]
    rfl
  have hconverged : Keeps [] v (each (List.range 6) (fun n s => s.converge n) v) := .each .refl (fun _ _ _ hw => .converge hw)
  have hrun : receiverCalDone r (s.advance t) = (each (List.range 6) (fun n s => s.converge n) v).ranCold 5 := by
    rw [receiverCalDone, if_neg hcond, hv]
  refine ⟨_, rfl, ?_, ?_⟩ <;> rw [hrun]
  · rw [State.answer_stepDone, ranCold_done]
  · rw [State.is_answer _ _ (by decide), State.is, (ranCold_onlyChanges _ 5).1 _ (by decide) (by decide), hconverged.get _ (by decide)]
    exact hend

theorem runSettled_settles {c : Nat} (hc : s.pw.commitAt = some c) (hrun : s.get F.PM_STATE_STATE = 2) (hn : s.pw.settled = false)
    (ht : c + 60000 * ms ≤ t) (hd : s.pw.shut = none) : ∃ u, exec (.runSettled t) s = .next u ∧ u.get F.PM_START_FAILS = 0 ∧
    u.pw = { s.pw with settled := true } ∧ (∀ k img, s.pw.image = some (k, img) → imageAutoRaise img = false → u.otp = s.otp) ∧
    (∀ k img, s.pw.image = some (k, img) → imageAutoRaise img = true → img.rl ≤ 64 → s.otp.rollback < 64 →
      u.otp = { s.otp with rollback := max s.otp.rollback img.rl }) ∧ OnlyChanges [F.PM_START_FAILS] [.pw, .otp, .freeCtr] s u := by
  have hcond : ¬((s.advance t).get F.PM_STATE_STATE ≠ 2 ∨ (s.advance t).pw.settled = true ∨ (s.advance t).now < c + 60000 * ms ∨
      (s.advance t).pw.shut.isSome = true) := by
    rw [State.get_advance, hrun, State.advance_pw, hn, hd, State.advance_now]
    simp only [ne_eq, not_true, Bool.false_eq_true, Option.isSome_none, false_or, or_false, not_lt]
    omega
  obtain ⟨hnone, hsome⟩ := runSettled_marks (s := s.advance t) hc hcond
  have honly : OnlyChanges [] [.otp, .freeCtr] (s.advance t).markSettled (runSettled (s.advance t)) := by
    cases hi : s.pw.image with
    | none => rw [hnone hi]; exact .refl _
    | some x =>
      rw [hsome x.1 x.2 hi]
      exact .ite (raiseRollback_onlyChanges _ _) (.refl _)
  refine ⟨_, rfl, ?_, ?_, fun k img hi hauto => ?_, fun k img hi hauto hrl hotp => ?_, .answer (t := t) ?_⟩
  · rw [State.get_answer _ _ (by decide), honly.1 _ (by decide) (by decide), State.markSettled, State.get_put_same]
    rfl
  · rw [State.answer_pw, honly.2 .pw (by decide)]
    rfl
  · rw [State.answer_otp, hsome k img hi, hauto]
    rfl
  · rw [State.answer_otp, hsome k img hi, hauto, if_pos rfl, raiseRollback_otp (s := (s.advance t).markSettled) hrl hotp]
    rfl
  · exact ((markSettled_onlyChanges _).mono (fun _ h => h) (by decide)).trans (honly.mono (by decide) (by decide))

end

end Sys2Proof.Machine

/-!
COMMIT: the start is over and the module in RUN (R29, R80, R333, R382, R384, R387).
-/

namespace Sys2Proof.Machine

/-! ## What the units set up at COMMIT leave alone -/

namespace Keeps

variable {ps : List Part} {s u w : State}

theorem syncDiscard (h : Keeps ps s w) : Keeps ps s w.syncDiscard := .putB (.putSat h)

theorem syncSidings (h : Keeps ps s w) : Keeps ps s w.syncSidings := .putSat (.putSat (.putB h))

theorem outputStart (h : Keeps ps s w) : Keeps ps s w.outputStart := by
  unfold State.outputStart
  extract_lets out ring chain cx
  have hring : Keeps ps s ring := .put (.put (.put (.beside h)))
  have hchain : Keeps ps s chain := .put (.put hring)
  exact .syncSidings (.syncDiscard (.put (.put (.put hchain))))

theorem sectionsStart (h : Keeps ps s w) {tt : Timetable} : Keeps ps s (w.sectionsStart tt) := by
  unfold State.sectionsStart
  extract_lets cleared secs
  have hsecs : Keeps ps s secs := .each (.beside h) (fun k _ v hv => by
    split
    · exact .setSec hv
    · exact hv)
  exact .putSat (.put (.put hsecs))

/-! ### The recorder's lines -/

theorem setLine (h : Keeps ps s w) {n : Nat} {x : Line} : Keeps ps s (w.setLine n x) := .beside h

theorem modLine (h : Keeps ps s w) {n : Nat} {f : Line → Line} : Keeps ps s (w.modLine n f) := .beside h

theorem syncLine (h : Keeps ps s w) {n : Nat} : Keeps ps s (w.syncLine n) := by
  unfold State.syncLine
  extract_lets x shown mask
  have hshown : Keeps ps s shown := .put (.put (.put h not_held) not_held) not_held
  exact .put (.put hshown)

theorem retarget (h : Keeps ps s w) : Keeps ps s w.retarget := .syncDemand (.beside h)

theorem writeRecord (h : Keeps ps s w) {n : Nat} {c : Capture} {cause : Nat} : Keeps ps s (w.writeRecord n c cause) := by
  unfold State.writeRecord
  extract_lets x last post wr empty written noted counted
  have hcounted : Keeps ps s counted := .put (.bumpWrap (.setLine (.beside h)) not_held) not_held
  exact .ite (.raise hcounted) hcounted

theorem closeWhere (h : Keeps ps s w) {n cause : Nat} {p : Capture → Bool} : Keeps ps s (w.closeWhere n cause p) := by
  unfold State.closeWhere
  extract_lets x due order open_ closed y f
  have hclosed : Keeps ps s closed := .each (.setLine h) (fun _ _ _ hv => .writeRecord hv)
  exact .ite h (.ite (.setLine hclosed) hclosed)

theorem blockLine (h : Keeps ps s w) {n : Nat} : Keeps ps s (w.blockLine n) := .ite h (.raise (.modLine (.closeWhere h)))

theorem checkBlocked (h : Keeps ps s w) {n : Nat} : Keeps ps s (w.checkBlocked n) := .ite (.blockLine h) h

theorem leaveBlocked (h : Keeps ps s w) {n : Nat} : Keeps ps s (w.leaveBlocked n) := .ite (.raise (.modLine h)) h

theorem armed (h : Keeps ps s w) {n : Nat} : Keeps ps s (arm n w) := by
  unfold arm
  extract_lets x fresh
  have hfresh : Keeps ps s fresh := .ite (.setLine h) (.modLine (.setLine h))
  exact .ite h (.ite h (.ite
    (.raise (.put (.put h not_held) not_held))
    (.syncLine (.checkBlocked (.retarget (.put hfresh not_held))))))

theorem setupLine (h : Keeps ps s w) {n oldSize word : Nat} : Keeps ps s (w.setupLine n oldSize word) := by
  unfold State.setupLine
  extract_lets c sized free slot x set shown
  have hset : Keeps ps s set := .setLine (.leaveBlocked (.put (.put h not_held) not_held))
  have hshown : Keeps ps s shown := .put (.put hset not_held) not_held
  exact .ite (.syncLine (.armed hshown)) (.syncLine hshown)

theorem syncTracks (h : Keeps ps s w) : Keeps ps s w.syncTracks := by
  unfold State.syncTracks
  extract_lets ts tl yards
  have hyards : Keeps ps s yards := .each h (fun y hy _ hv => by
    have hy := List.mem_range.1 hy
    exact .putSat (.putSat (.putB hv not_held) not_held) not_held)
  exact .put hyards

/-! ### Memory, voltage, sensors and the Brillouin channel -/

theorem syncRegions (h : Keeps ps s w) : Keeps ps s w.syncRegions :=
  .put (.putB (.put (.put (.each h (fun _ _ _ hv => .put hv not_held)))))

theorem pmbusFail (h : Keeps ps s w) {status : Nat} : Keeps ps s (w.pmbusFail status) := by
  have hshown : Keeps ps s ((w.put F.FB_PMBUS_FAILS (min 3 (w.get F.FB_PMBUS_FAILS + 1))).put F.FB_PMBUS_STATUS status) :=
    .put (.put h)
  exact .ite (.raise (.put hshown)) hshown

theorem vcoreAt (h : Keeps ps s w) {mv : Nat} : Keeps ps s (w.vcoreAt mv) := by
  unfold State.vcoreAt
  extract_lets at_ was shown
  have hshown : Keeps ps s shown := .putB (.put h)
  exact .ite (.raise hshown) hshown

theorem voltageStart (h : Keeps ps s w) {ack linear16 : Bool} {vout status : Nat} : Keeps ps s (w.voltageStart ack linear16 vout status) := by
  unfold State.voltageStart
  extract_lets cleared read
  have hcleared : Keeps ps s cleared := .put (.put (.put h))
  have hread : Keeps ps s read := .put (.vcoreAt hcleared)
  exact .ite (.pmbusFail hcleared) (.ite hread (.raise (.put hread)))

theorem sensorsStart (h : Keeps ps s w) : Keeps ps s w.sensorsStart := by
  unfold State.sensorsStart
  extract_lets seen rtd channels passes
  have hseen : Keeps ps s seen := .each h (fun x hx _ hv => .each hv (fun l hl _ hv => by
    have hx := List.mem_range.1 hx
    have hl := List.mem_range.1 hl
    exact .put hv not_held))
  have hchannels : Keeps ps s channels := .each (.modSens hseen) (fun c hc _ hv => by
    have hc := List.mem_range.1 hc
    exact .put (.put (.put (.put (.put hv not_held) not_held) not_held) not_held) not_held)
  exact .put (.putS (.put (.put hchannels)))

theorem brSetup (h : Keeps ps s w) : Keeps ps s w.brSetup := by
  unfold State.brSetup
  split
  · exact .put h
  · exact .put (.put (.put h))

theorem brCommit (h : Keeps ps s w) {kept : Bool} : Keeps ps s (w.brCommit kept) := by
  unfold State.brCommit
  extract_lets skipped cleared old br reset restarted valid br'
  have hskipped : Keeps ps s skipped := .put (.put (.brSetup h))
  have hreset : Keeps ps s reset := .beside (.put (.put (.put hskipped)))
  have hrestarted : Keeps ps s restarted := .brRestart hreset
  refine .ite (.put (.put (.brDiscard hreset))) ?_
  clear_value old
  split
  · exact .ite (.beside (.put (.beside (.put (.put hrestarted))))) hrestarted
  · exact hrestarted

/-! ### The array and the NVM -/

theorem arrayStart (h : Keeps ps s w) {lead : Option (Nat × Nat)} : Keeps ps s (w.arrayStart lead) := by
  unfold State.arrayStart
  split
  · exact .ite (.raise (.put h)) h
  · exact h

theorem setOrigin (h : Keeps ps s w) : Keeps ps s w.setOrigin := .ite h (.beside h)

theorem nvRuns (h : Keeps ps s w) {cmd result : Nat} : Keeps ps s (w.nvRuns cmd result) := .put (.beside h)

theorem nvEnd (h : Keeps ps s w) {result : Nat} : Keeps ps s (w.nvEnd result) :=
  .raiseAny (.put (.put (.put (.beside h))))

theorem countWrite (h : Keeps ps s w) : Keeps ps s w.countWrite := .putSat h

theorem nvErase (h : Keeps ps s w) : Keeps ps s w.nvErase := by
  unfold State.nvErase
  extract_lets b e erased shown
  exact .nvRuns (.countWrite (.ite (.put (.beside h)) (.put (.beside h))))

theorem nvProgram (h : Keeps ps s w) : Keeps ps s w.nvProgram := .ite (.nvEnd h) (.nvRuns (.countWrite (.beside h)))

theorem nvRead (h : Keeps ps s w) : Keeps ps s w.nvRead :=
  .ite (.nvEnd h) (.nvRuns (.each h (fun _ _ _ hv => .put hv not_held)))

theorem raiseRollback (h : Keeps ps s w) {rl : Nat} : Keeps ps s (w.raiseRollback rl).1 := by
  unfold State.raiseRollback
  split
  · exact h
  · split
    · exact .raiseAny (.beside h)
    · exact h

theorem nvRaise (h : Keeps ps s w) : Keeps ps s w.nvRaise := by
  unfold State.nvRaise
  split
  · exact .nvRuns h
  · exact .nvRuns (.raiseRollback h)

theorem nvResume (h : Keeps ps s w) : Keeps ps s w.nvResume := by
  unfold State.nvResume
  split
  · refine .ite ?_ h
    unfold State.nvBegin
    extract_lets nv begun
    have hbegun : Keeps ps s begun := .beside h
    split
    · exact .nvErase hbegun
    · exact .nvProgram hbegun
    · exact .nvRuns hbegun
    · exact .nvRead hbegun
    · exact .nvRaise hbegun
  · exact h

/-! ### The notice board -/

/-- Placing the board posts the start log to it, and the board then is placed. -/
theorem placeBoard : Keeps ps { s with ev := { s.ev with placed := true } } s.placeBoard := by
  unfold State.placeBoard
  extract_lets log events emptied shown
  have hemptied : Keeps ps { s with ev := { s.ev with placed := true } } emptied := .ev (w := { s with ev := { s.ev with placed := true } }) .refl rfl
  have hshown : Keeps ps { s with ev := { s.ev with placed := true } } shown := .putSat (.put (.put hemptied))
  exact .each (f := fun e s => s.post e) hshown (fun e _ v hv => hv.posting (Posting.post _ _) (post_placed v e))

end Keeps

/-! ## Loading the records leaves the instant -/

/-- From `s` to `w` the present instant is the same. -/
structure SameNow (s w : State) : Prop where
  now : w.now = s.now

namespace SameNow

variable {s w : State}

theorem refl : SameNow s s := ⟨rfl⟩

theorem put (h : SameNow s w) {f : Fld} {v : Nat} : SameNow s (w.put f v) := ⟨h.now⟩

theorem modSens (h : SameNow s w) {f : Sens → Sens} : SameNow s (w.modSens f) := ⟨h.now⟩

/-- A change of anything but the instant. -/
theorem record {regs mem freeCtr resp ev sched opt sw lanes fp secs dfifo built fab recd br sens dram out evt tref fl bt pw nv lc tb otp pending}
    (h : SameNow s w) : SameNow s ⟨regs, mem, w.now, freeCtr, resp, ev, sched, opt, sw, lanes, fp, secs, dfifo, built, fab, recd, br, sens, dram, out,
      evt, tref, fl, bt, pw, nv, lc, tb, otp, pending⟩ := ⟨h.now⟩

theorem each {α : Type} {xs : List α} {f : α → State → State} (h : SameNow s w) (hf : ∀ x v, SameNow s v → SameNow s (f x v)) :
    SameNow s (each xs f w) := by
  unfold Machine.each
  induction xs generalizing w with
  | nil => exact h
  | cons x xs ih => exact ih (hf x w h)

theorem noteEnabled (h : SameNow s w) {n : Nat} {was : Bool} : SameNow s (w.noteEnabled n was) := by
  unfold State.noteEnabled
  split
  · exact .record h
  · exact h

theorem loadReg (h : SameNow s w) {rw : Bool} {r : RegRow} {addr : Nat} {x : Option Nat} : SameNow s (w.loadReg rw r addr x) := by
  unfold State.loadReg
  induction r.fields generalizing w with
  | nil => exact h
  | cons f fs ih =>
    refine ih ?_
    dsimp only
    split
    · exact .put h
    · exact h

theorem loadBlock (h : SameNow s w) {rows : List RegRow} {recs : List (Nat × Nat)} : SameNow s (w.loadBlock rows recs) :=
  .each h (fun _ _ hv => .each hv (fun _ _ hv => .loadReg hv))

theorem loadRecord (h : SameNow s w) {rows : List RegRow} {recs : List (Nat × Nat)} : SameNow s (w.loadRecord rows recs) := by
  refine .each (.loadBlock h) (fun r _ hv => .each hv (fun a _ hv => ?_))
  split
  · exact .loadReg hv
  · exact hv

theorem loadModule (h : SameNow s w) {img : Image} : SameNow s (w.loadModule img) := by
  unfold State.loadModule
  generalize [regsOP, regsSL, regsFB, regsDC, regsEC, regsTB, regsFL, regsSF, regsHK, regsCL] = blocks
  extract_lets word records timeout locked opt limited budget tables
  have hrecords : SameNow s records := .each h (fun _ _ hv => .loadRecord hv)
  have hlocked : SameNow s locked := .put (.put hrecords)
  have hlimited : SameNow s limited := .record hlocked
  have htables : SameNow s tables := .modSens (.put hlimited)
  split
  · exact .each htables (fun _ _ hv => .put hv)
  · exact htables

theorem clampRegions (h : SameNow s w) : SameNow s w.clampRegions := .put (.put (.put h))

theorem placeRegions (h : SameNow s w) : SameNow s w.placeRegions := by
  unfold State.placeRegions
  extract_lets clamped nb se aux frame side based framed n
  have hclamped : SameNow s clamped := .clampRegions h
  have hframed : SameNow s framed := .put (.put (.put (.put (.put hclamped))))
  exact .put (.each hframed (fun _ _ hv => .put hv))

theorem placeRings (h : SameNow s w) : SameNow s w.placeRings := by
  unfold State.placeRings
  extract_lets base
  clear_value base
  generalize w.sw.timetables = tts
  induction List.range 16 generalizing w base with
  | nil => exact h
  | cons n ns ih => exact ih (.put (.put h)) _

theorem loadSection (h : SameNow s w) {k : Nat} {d : Option SectionDesc} : SameNow s (w.loadSection k d) := by
  refine .each h (fun i v hv => ?_)
  extract_lets a
  split
  · exact .loadReg hv
  · exact hv

theorem loadSections (h : SameNow s w) {tt : Timetable} : SameNow s (w.loadSections tt) := by
  unfold State.loadSections
  extract_lets n secs
  have hsecs : SameNow s secs := .each h (fun _ _ hv => .put (.put (.loadSection hv)))
  exact .put (.put hsecs)

theorem loadFigures (h : SameNow s w) {tt : Timetable} : SameNow s (w.loadFigures tt) :=
  .each (.put (.put (.put (.put (.put h))))) (fun _ _ hv => .put hv)

theorem loadTimetable (h : SameNow s w) {tt : Timetable} : SameNow s (w.loadTimetable tt) := by
  unfold State.loadTimetable
  generalize [regsTT, regsFP, regsEV, regsBR, regsCX.filter (fun r => r.base == 0x1C1000)] = rows
  extract_lets blocks sched waves
  have hblocks : SameNow s blocks := .each h (fun _ _ hv => .loadBlock hv)
  have hwaves : SameNow s waves := .record hblocks
  exact .each (.loadFigures (.loadSections hwaves)) (fun _ _ hv => .put hv)

theorem buildReferences (h : SameNow s w) {keep : Nat → Bool} : SameNow s (w.buildReferences keep) := by
  refine .each h (fun k v hv => ?_)
  extract_lets n rs built
  split
  · exact .put (.put (.record hv))
  · exact .put (.put (.record hv))

end SameNow

/-! ## COMMIT, part by part -/

/-- What the records of the image and of its timetable set. -/
def State.commitLoad (s : State) (img : Image) (tt : Timetable) : State :=
  let was := fun (n : Nat) => s.is (F.TB_EVT_CFG_EN n)
  let s := each (List.range 8) (fun n s => s.noteEnabled n (was n)) (s.loadModule img)
  let s := each [regsCX, regsHW, regsCK] (fun rows s => s.loadRecord rows tt.regs) s
  ((((s.placeRegions.placeRings.loadTimetable tt).buildReferences (fun _ => false)).put F.TT_ID_COUNT img.timetables.length).put
    F.SB_TT_STATUS_ACTIVE tt.index).put F.TT_ID_ACTIVE tt.index

/-- The units set up for the timetable. -/
def State.commitUnits (s : State) (tt : Timetable) (ack linear16 : Bool) (vout status : Nat) : State :=
  let s := ((s.outputStart.sectionsStart tt).restartGroups true).fabricStart tt
  (s.syncRegions.voltageStart ack linear16 vout status).sensorsStart.lanesEnable

/-- What follows in RUN: the Brillouin channel, the notice board, the array and the first sweep. -/
def State.commitRun (s : State) (kept : Bool) (tt : Timetable) (lead : Option (Nat × Nat)) : State :=
  let s := s.brCommit kept
  let s := if s.brilSlot.isSome ∧ !s.is F.BR_STATUS_BASE_VALID then s.put F.SB_STATUS_STEPS (s.get F.SB_STATUS_STEPS ||| 64) else s
  let s := (s.placeBoard.raise 0x0D01 wide (tt.index + 256 * s.get F.PM_STATE_KIND)).arrayStart lead
  let s := s.setOrigin.nvResume
  if s.get F.FL_STATUS_COUNT = 0 ∨ s.is F.FL_STATUS_MISMATCH then s.startSweep else s

section
variable {s : State} {temp : Int} {bands : List Nat} {crc ack linear16 : Bool} {vout status slot : Nat} {lead : Option (Nat × Nat)}
  {img : Image} {tt : Timetable}

theorem commit_eq (hc : s.canCommit temp bands crc = true) (hi : s.pw.image = some (slot, img))
    (ht : s.sw.timetables.find? (fun x => some x.index == s.pw.tt) = some tt) : commit temp bands crc ack linear16 vout status lead s =
      (((s.commitLoad img tt).commitUnits tt ack linear16 vout status).opticsStart.runNow slot).commitRun
        (s.is F.PM_STATE_KIND && !s.coldForms) tt lead := by
  unfold commit
  rw [hc, hi, ht]
  rfl

end

/-- The timetable chosen is ACTIVE, and the start's instant stands. -/
theorem commitLoad_loads (s : State) (img : Image) (tt : Timetable) : SameNow s (s.commitLoad img tt) ∧
    (s.commitLoad img tt).get F.SB_TT_STATUS_ACTIVE = tt.index % 2 ^ F.SB_TT_STATUS_ACTIVE.width := by
  unfold State.commitLoad
  generalize [regsCX, regsHW, regsCK] = blocks
  extract_lets was noted loaded
  have hnoted : SameNow s noted := .each (.loadModule .refl) (fun _ _ hv => .noteEnabled hv)
  have hloaded : SameNow s loaded := .each hnoted (fun _ _ hv => .loadRecord hv)
  refine ⟨.put (.put (.put (.buildReferences (.loadTimetable (.placeRings (.placeRegions hloaded)))))), ?_⟩
  rw [State.get_put_ne _ _ (by decide), State.get_put_same]

/-- The instant and the timetable shown stand. -/
structure Stands (s w : State) : Prop where
  now : w.now = s.now
  active : w.get F.SB_TT_STATUS_ACTIVE = s.get F.SB_TT_STATUS_ACTIVE

theorem Stands.trans {s u w : State} (a : Stands s u) (b : Stands u w) : Stands s w := ⟨b.now.trans a.now, b.active.trans a.active⟩

theorem Keeps.stands {ps : List Part} {s w : State} (h : Keeps ps s w) : Stands s w := ⟨h.now, h.get _ (by decide)⟩

theorem powerQuads_stands (s : State) : Stands s s.powerQuads := by
  unfold State.powerQuads
  extract_lets ys q
  exact ⟨rfl, by rw [State.get_put_ne _ _ (by decide), State.get_put_ne _ _ (by decide)]⟩

theorem fabricStart_stands (s : State) (tt : Timetable) : Stands s (s.fabricStart tt) := by
  unfold State.fabricStart
  extract_lets fab tracks sw fp reset quads
  have htracks : Keeps [.sw] s tracks := .beside .refl
  have hreset : Keeps [.sw] s reset := htracks.trans ⟨fun _ _ => rfl, rfl, rfl, fun p hp hn => by
    cases p with | sw => exact absurd (by decide) hn | fp => exact absurd hp (by decide) | _ => rfl⟩
  have hquads : Stands s quads := (Keeps.syncTracks (.syncEngines hreset)).stands.trans (powerQuads_stands _)
  exact hquads.trans (Keeps.stands (ps := []) (.retarget (.each (.beside .refl) (fun n _ _ hv => .setupLine hv))))

theorem commitUnits_stands (s : State) (tt : Timetable) (ack linear16 : Bool) (vout status : Nat) :
    Stands s (s.commitUnits tt ack linear16 vout status) := by
  unfold State.commitUnits
  extract_lets fabric
  have hsections : Keeps [] s ((s.outputStart.sectionsStart tt).restartGroups true) := .restartGroups (.sectionsStart (.outputStart .refl))
  have hfabric : Stands s fabric := hsections.stands.trans (fabricStart_stands _ tt)
  exact hfabric.trans (Keeps.stands (ps := []) (.lanesEnable (.sensorsStart (.voltageStart (.syncRegions .refl)))))

theorem syncWindow_running (s : State) : s.syncWindow.opt.off = s.opt.off ∧ s.syncWindow.opt.dmRunning = s.opt.dmRunning := by
  unfold State.syncWindow
  extract_lets pruned shown low was active
  split
  · exact ⟨rfl, rfl⟩
  · exact ⟨rfl, rfl⟩

/-- The optical engine leaves OFF with the dead-man timer running (R70, R80). -/
theorem opticsStart_lights (s : State) : Keeps [.opt] s s.opticsStart ∧ s.opticsStart.opt.off = false ∧ s.opticsStart.opt.dmRunning = true := by
  unfold State.opticsStart
  extract_lets lit
  have hlit : Keeps [.opt] s lit := .opt .refl (by decide)
  have hceilings : Keeps [] lit.dmReload lit.dmReload.syncCeilings := .syncCeilings .refl
  have hopt : lit.dmReload.syncCeilings.opt = _ := hceilings.part .opt (by decide) (by decide)
  obtain ⟨hoff, hrun⟩ := syncWindow_running (lit.dmReload.syncCeilings.put F.OP_DIAG_ACTIVE 0)
  refine ⟨.syncWindow (.put (.syncCeilings (.opt hlit (by decide)))) (by decide), ?_, ?_⟩
  · rw [hoff, State.put_opt, hopt]
    rfl
  · rw [hrun, State.put_opt, hopt]
    rfl

/-- The module is in RUN, COMMITTED since `at_` with the timetable `active`, with light and the dead-man timer running. -/
structure InRun (active at_ : Nat) (s : State) : Prop where
  state : s.get F.PM_STATE_STATE = 2
  committed : s.get F.SB_STATUS_COMMITTED = 1
  phase : s.get F.SB_STATUS_PHASE = 3
  active : s.get F.SB_TT_STATUS_ACTIVE = active
  lit : s.opt.off = false
  deadman : s.opt.dmRunning = true
  started : s.pw.startAt = none
  commitAt : s.pw.commitAt = some at_

/-- The registers that show RUN. -/
def runKeys : List Nat := [F.PM_STATE_STATE.key, F.SB_STATUS_COMMITTED.key, F.SB_STATUS_PHASE.key, F.SB_TT_STATUS_ACTIVE.key]

theorem runKeys_held : ∀ k ∈ runKeys, k ∈ heldKeys := by decide

theorem runKeys_free : ∀ k ∈ runKeys, k ∉ settleKeys ∧ k ∉ [F.TT_SWEEP_COUNT_COUNT, F.TT_STATUS_WITHHOLDING].map (·.key) := by decide

namespace InRun

variable {active at_ : Nat} {s u : State}

theorem of_same (h : InRun active at_ s) (hg : ∀ f : Fld, f.key ∈ runKeys → u.get f = s.get f) (ho : Part.opt.same s u) (hp : Part.pw.same s u) :
    InRun active at_ u := by
  have hopt : u.opt = _ := ho
  have hpw : u.pw = _ := hp
  exact ⟨(hg _ (by decide)).trans h.state, (hg _ (by decide)).trans h.committed, (hg _ (by decide)).trans h.phase, (hg _ (by decide)).trans h.active,
    by rw [hopt]; exact h.lit, by rw [hopt]; exact h.deadman, by rw [hpw]; exact h.started, by rw [hpw]; exact h.commitAt⟩

theorem of_keeps (h : InRun active at_ s) (hk : Keeps [] s u) : InRun active at_ u :=
  h.of_same (fun f hf => hk.get f (runKeys_held _ hf)) (hk.part .opt (by decide) (by decide)) (hk.part .pw (by decide) (by decide))

theorem ev (h : InRun active at_ s) (x : Events) : InRun active at_ { s with ev := x } := h.of_same (fun _ _ => rfl) rfl rfl

end InRun

theorem runNow_inRun {s : State} (img : Nat) (hl : s.opt.off = false) (hd : s.opt.dmRunning = true) :
    InRun (s.get F.SB_TT_STATUS_ACTIVE) s.now (s.runNow img) := by
  unfold State.runNow
  extract_lets ms_ pw begun
  refine ⟨?_, ?_, ?_, ?_, hl, hd, rfl, rfl⟩
  · rw [State.get_putSat_ne _ _ (by decide), State.get_put_same]
    rfl
  · rw [State.get_putSat_ne _ _ (by decide), State.get_put_ne _ _ (by decide), State.get_put_ne _ _ (by decide), State.get_put_same]
    rfl
  · rw [State.get_putSat_ne _ _ (by decide), State.get_put_ne _ _ (by decide), State.get_put_same]
    rfl
  · rw [State.get_putSat_ne _ _ (by decide), State.get_put_ne _ _ (by decide), State.get_put_ne _ _ (by decide), State.get_put_ne _ _ (by decide)]
    rfl

theorem withhold_onlyChanges (s : State) (held next : List Nat) : OnlyChanges [F.TT_STATUS_WITHHOLDING] [.sched] s (s.withhold held next) ∧
    (s.withhold held next).ev.placed = s.ev.placed := by
  unfold State.withhold
  extract_lets sched planned
  have hplanned : OnlyChanges [F.TT_STATUS_WITHHOLDING] [.sched] s planned := .sched _ _ (by decide)
  have hraise : ∀ v code, OnlyChanges [F.TT_STATUS_WITHHOLDING] [.sched] s ((planned.put F.TT_STATUS_WITHHOLDING v).raise code wide 0) ∧
      ((planned.put F.TT_STATUS_WITHHOLDING v).raise code wide 0).ev.placed = s.ev.placed := fun v code =>
    ⟨(hplanned.trans (.put _ _ _ (by decide))).trans (Posting.raise _ _ _ _).onlyChanges, raiseEv_placed _ _⟩
  split
  · exact hraise 1 _
  · split
    · exact hraise 0 _
    · exact ⟨hplanned, rfl⟩

theorem startSweep_onlyChanges (s : State) : OnlyChanges [F.TT_SWEEP_COUNT_COUNT, F.TT_STATUS_WITHHOLDING] [.sched] s s.startSweep ∧
    s.startSweep.ev.placed = s.ev.placed := by
  unfold State.startSweep
  extract_lets sched counted
  obtain ⟨next, hplan⟩ := withholdPlan_withholds (counted.bumpWrap F.TT_SWEEP_COUNT_COUNT 1)
  rw [hplan]
  obtain ⟨honly, hplaced⟩ := withhold_onlyChanges (counted.bumpWrap F.TT_SWEEP_COUNT_COUNT 1) _ next
  exact ⟨((OnlyChanges.sched _ _ (by decide)).trans (.put _ _ _ (by decide))).trans (honly.mono (by decide) (by decide)), hplaced⟩

/-- What follows in RUN keeps the module there, and places the notice board. -/
theorem commitRun_inRun {s : State} {active at_ : Nat} (h : InRun active at_ s) (kept : Bool) (tt : Timetable) (lead : Option (Nat × Nat)) :
    InRun active at_ (s.commitRun kept tt lead) ∧ (s.commitRun kept tt lead).ev.placed = true := by
  unfold State.commitRun
  extract_lets br steps array last
  have hbr : Keeps [] s br := .brCommit .refl
  have hsteps : Keeps [] s steps := .ite (.put hbr) hbr
  have hlast : Keeps [] { steps with ev := { steps.ev with placed := true } } last := .nvResume (.setOrigin (.arrayStart (.raise .placeBoard)))
  have hplaced : InRun active at_ { steps with ev := { steps.ev with placed := true } } :=
    (h.of_keeps hsteps).ev _
  have hrun : InRun active at_ last := hplaced.of_keeps hlast
  split
  · obtain ⟨honly, hboard⟩ := startSweep_onlyChanges last
    refine ⟨hrun.of_same (fun f hf => ?_) (honly.2 .opt (by decide)) (honly.2 .pw (by decide)), hboard.trans hlast.placed⟩
    exact honly.1 f (runKeys_free _ hf).1 (runKeys_free _ hf).2
  · exact ⟨hrun, hlast.placed⟩

/-- The conditions of COMMIT hold at the instant of COMMIT where the array is ready then. -/
theorem canCommit_advance {s : State} {t : Nat} {temp : Int} {bands : List Nat} {crc : Bool} (h : s.canCommit temp bands crc = true)
    (ha : (s.advance t).arrayReady = true) : (s.advance t).canCommit temp bands crc = true := by
  unfold State.canCommit at h ⊢
  rw [Bool.and_eq_true] at h ⊢
  exact ⟨h.1, ha⟩

@[simp] theorem State.answer_dmRunning (s : State) (q : List Instr) : (s.answer q).opt.dmRunning = s.opt.dmRunning := by
  show s.settle.opt.dmRunning = _
  rw [(settle_quiet s).opt]

theorem exec_commit (s : State) (t : Nat) {temp : Int} {bands : List Nat} {crc ack lin : Bool} {vout status slot : Nat} {lead : Option (Nat × Nat)}
    {img : Image} {tt : Timetable} (hc : s.canCommit temp bands crc = true) (ha : (s.advance t).arrayReady = true)
    (hi : s.pw.image = some (slot, img)) (htt : s.sw.timetables.find? (fun x => some x.index == s.pw.tt) = some tt) :
    ∃ u, exec (.commit t temp bands crc ack lin vout status lead) s = .next u ∧ u.get F.PM_STATE_STATE = 2 ∧ u.get F.SB_STATUS_COMMITTED = 1 ∧
      u.get F.SB_STATUS_PHASE = 3 ∧ u.get F.SB_TT_STATUS_ACTIVE = tt.index % 2 ^ F.SB_TT_STATUS_ACTIVE.width ∧ u.opt.off = false ∧
      u.opt.dmRunning = true ∧ u.pw.startAt = none ∧ u.pw.commitAt = some (max s.now t) ∧ u.ev.placed = true := by
  obtain ⟨kept, hkept⟩ := exists_eq (a' := ((s.advance t).is F.PM_STATE_KIND && !(s.advance t).coldForms))
  obtain ⟨loaded, hloaded⟩ := exists_eq (a' := (s.advance t).commitLoad img tt)
  obtain ⟨units, hunits⟩ := exists_eq (a' := loaded.commitUnits tt ack lin vout status)
  have hrun : commit temp bands crc ack lin vout status lead (s.advance t) = (units.opticsStart.runNow slot).commitRun kept tt lead := by
    rw [commit_eq (s := s.advance t) (canCommit_advance hc ha) hi htt, hunits, hloaded, hkept]
  obtain ⟨hnow, hactive⟩ : SameNow (s.advance t) loaded ∧ loaded.get F.SB_TT_STATUS_ACTIVE = _ := hloaded ▸ commitLoad_loads (s.advance t) img tt
  have hstands : Stands loaded units := hunits ▸ commitUnits_stands loaded tt ack lin vout status
  obtain ⟨hoptics, hoff, hdead⟩ := opticsStart_lights units
  obtain ⟨hend, hplaced⟩ := commitRun_inRun (runNow_inRun slot hoff hdead) kept tt lead
  have hat : units.opticsStart.now = max s.now t := by rw [hoptics.now, hstands.now, hnow.now]; rfl
  have htt : units.opticsStart.get F.SB_TT_STATUS_ACTIVE = tt.index % 2 ^ F.SB_TT_STATUS_ACTIVE.width := by
    rw [hoptics.get _ (by decide), hstands.active, hactive]
  rw [← hrun, hat, htt] at hend
  rw [← hrun] at hplaced
  refine ⟨_, rfl, ?_, ?_, ?_, ?_, ?_, ?_, ?_, ?_, ?_⟩
  · rw [State.get_answer _ _ (by decide), hend.state]
  · rw [State.get_answer _ _ (by decide), hend.committed]
  · rw [State.get_answer _ _ (by decide), hend.phase]
  · rw [State.get_answer _ _ (by decide), hend.active]
  · rw [State.answer_off, hend.lit]
  · rw [State.answer_dmRunning, hend.deadman]
  · rw [State.answer_pw, hend.started]
  · rw [State.answer_pw, hend.commitAt]
  · rw [State.answer_placed, hplaced]

end Sys2Proof.Machine

section
open Sys2Proof Sys2Proof.Machine

/-- Settles O53: each step of a cold start, COMMIT and the 60 s in RUN are facts of their own. -/
theorem coldStartRuns : Obligations.ColdStartRuns := by
  intro s t
  refine ⟨?start, ?slot, ?dram, ?quick, ?code, ?laser, ?cal, ?commit, ?settled⟩
  case start => exact fun _ _ _ _ hd hs hp hh h0 hm => exec_coldStart s t hd hs hp hh h0 hm
  case slot => exact fun _ _ _ _ _ _ hs hd hp hh hb => slotVerified_chooses s t hs hd hp hh hb
  case dram => exact fun _ _ _ hs hon hd => dramTrained_trains s t hs hon hd
  case quick => exact fun _ _ hs hc h2 h3 => quickTestDone_tests s t hs hc h2 h3
  case code => exact fun _ _ hs hi h1 h13 h2 h3 htt => engineCodeLoaded_chooses s t hs hi h1 h13 h2 h3 htt
  case laser => exact fun _ ha ht hon hw => laserWarm_warms s t ha ht hon hw
  case cal => exact fun _ hs hr h5 hon hc => receiverCalDone_ends s t hs hr h5 hon hc
  case commit => exact fun _ _ _ _ _ _ _ _ _ _ _ hc ha hi htt => exec_commit s t hc ha hi htt
  case settled => exact fun _ hc hr hn ht hd => runSettled_settles s t hc hr hn ht hd

end

/-!
The messages of an array: copies, cross-triggers, the coordinated switch, the epoch and the sweep origin (R59, R63, R240, R361, R376, R377).
-/

namespace Sys2Proof.Machine

/-! ## Changes of one part -/

section
variable {fs : List Fld} {ps : List Part}

theorem OnlyChanges.fl (s : State) (x : Flotis) (h : Part.fl ∈ ps) : OnlyChanges fs ps s { s with fl := x } :=
  ⟨fun _ _ _ => rfl, fun p hp => by cases p with | fl => exact absurd h hp | _ => rfl⟩

theorem OnlyChanges.fab (s : State) (x : Fabric) (h : Part.fab ∈ ps) : OnlyChanges fs ps s { s with fab := x } :=
  ⟨fun _ _ _ => rfl, fun p hp => by cases p with | fab => exact absurd h hp | _ => rfl⟩

theorem OnlyChanges.recd (s : State) (x : Recorder) (h : Part.recd ∈ ps) : OnlyChanges fs ps s { s with recd := x } :=
  ⟨fun _ _ _ => rfl, fun p hp => by cases p with | recd => exact absurd h hp | _ => rfl⟩

theorem OnlyChanges.tref (s : State) (x : TimeRef) (h : Part.tref ∈ ps) : OnlyChanges fs ps s { s with tref := x } :=
  ⟨fun _ _ _ => rfl, fun p hp => by cases p with | tref => exact absurd h hp | _ => rfl⟩

/-- A step for each entry of a list, where the frame may depend on what the list holds. -/
theorem OnlyChanges.each_mem {α : Type} {xs : List α} {f : α → State → State} (hf : ∀ x ∈ xs, ∀ v, OnlyChanges fs ps v (f x v)) (s : State) :
    OnlyChanges fs ps s (Machine.each xs f s) := by
  unfold Machine.each
  induction xs generalizing s with
  | nil => exact .refl s
  | cons x xs ih => exact (hf x List.mem_cons_self s).trans (ih (fun y hy => hf y (List.mem_cons_of_mem _ hy)) _)

end

/-! ## Copies of a message (R377) -/

/-- A message of a sender noted: its number is remembered, and it is forwarded where both ports are up. -/
def State.noteMessage (s : State) (sender seq : Nat) : State :=
  { s with fl := { s.fl with seen := kvIns sender (seq % 65536) (kvDel sender s.fl.seen),
                             forwarded := s.fl.forwarded + (if s.portUp 0 ∧ s.portUp 1 then 1 else 0) } }

theorem noteMessage_onlyChanges (s : State) (sender seq : Nat) : OnlyChanges [] [.fl] s (s.noteMessage sender seq) := .fl _ _ (by decide)

section
variable {s : State} {sender seq : Nat}

theorem message_first (f : State → State) (hon : s.domainOn 15 = true) (hf : s.firstCopy sender seq = true) :
    s.message sender seq f = f (s.noteMessage sender seq) := by
  refine (if_neg (by simp [hon, hf])).trans (congrArg f ?_)
  by_cases hports : s.portUp 0 ∧ s.portUp 1
  · rw [State.noteMessage, if_pos hports]
    exact if_pos hports
  · rw [State.noteMessage, if_neg hports]
    exact if_neg hports

theorem message_again (f : State → State) (hf : s.firstCopy sender seq = false) : s.message sender seq f = s := if_pos (.inr (by simp [hf]))

end

/-! ## Cross-triggers (R226, R227, R240) -/

/-- The registers that a trigger on a line may write. -/
def triggerFields (n : Nat) : List Fld :=
  [F.EV_STATE_STATE n, F.EV_STATE_OPEN n, F.EV_STATE_WAITING n, F.EV_STATUS_ARMED, F.EV_STATUS_BLOCKED, F.EV_IGNORED_COUNT n, F.EV_LSAT_IGN_SAT n]

/-- The registers that a trigger on any of the 16 lines may write. -/
def allTriggerFields : List Fld := (List.range 16).flatMap triggerFields

theorem syncLine_onlyChanges (s : State) (n : Nat) : OnlyChanges (triggerFields n) [.recd] s (s.syncLine n) := by
  unfold State.syncLine
  extract_lets x shown mask
  have hshown : OnlyChanges (triggerFields n) [.recd] s shown :=
    OnlyChanges.trans (.trans (.put _ _ _ (by simp [triggerFields])) (.put _ _ _ (by simp [triggerFields]))) (.put _ _ _ (by simp [triggerFields]))
  exact (hshown.trans (.put _ _ _ (by simp [triggerFields]))).trans (.put _ _ _ (by simp [triggerFields]))

theorem ignoreTrigger_onlyChanges (s : State) (n : Nat) : OnlyChanges (triggerFields n) [.recd] s (s.ignoreTrigger n) :=
  (OnlyChanges.bump _ _ _ _ (by simp [triggerFields]) (by simp [triggerFields])).trans (.recd _ _ (by decide))

/-- A trigger is ignored, placed with its input or left to wait; each way its line is shown. -/
theorem placeTrigger_onlyChanges (s : State) (n src : Nat) (at_ : Int) : OnlyChanges (triggerFields n) [.recd] s (s.placeTrigger n src at_) := by
  have hset (x : Line) : OnlyChanges (triggerFields n) [.recd] s ((s.setLine n x).syncLine n) :=
    (OnlyChanges.recd _ _ (by decide)).trans (syncLine_onlyChanges _ n)
  unfold State.placeTrigger
  extract_lets x instant
  split
  · exact .refl s
  · split
    · exact hset _
    · exact .ite ((ignoreTrigger_onlyChanges s n).trans (syncLine_onlyChanges _ n)) (hset _)

theorem crossTrigger_onlyChanges (s : State) (m line : Nat) (at_ : Int) : OnlyChanges allTriggerFields [.recd] s (s.crossTrigger m line at_) := by
  refine .each_mem (fun n hn v => .ite ((placeTrigger_onlyChanges v n 1 at_).mono (fun k hk => ?_) (fun _ => id)) (.refl v)) s
  obtain ⟨f, hf, rfl⟩ := List.mem_map.mp hk
  exact List.mem_map_of_mem (List.mem_flatMap.mpr ⟨n, hn, hf⟩)

/-! ## The lead switch rejected (R59, R63, R175) -/

theorem powerQuads_onlyChanges (s : State) : OnlyChanges [F.FB_QUAD_POWERED, F.PM_DOMAINS_ON] [] s s.powerQuads := by
  unfold State.powerQuads
  extract_lets yards quads
  exact (OnlyChanges.put _ _ _ (by decide)).trans (.put _ _ _ (by decide))

theorem dropShadow_onlyChanges (s : State) : OnlyChanges [F.FB_QUAD_POWERED, F.PM_DOMAINS_ON] [.fab, .sched] s s.dropShadow :=
  .ite (.refl s) (((OnlyChanges.fab s { s.fab with nextTracks := [] } (by decide)).trans (.sched _ { s.sched with waveShadow := [] } (by decide))).trans
    ((powerQuads_onlyChanges _).mono (by decide) (by decide)))

/-- The registers that the rejection of the lead switch may write, none being queued. -/
def rejectFields : List Fld :=
  [F.SB_TT_STATUS_STATE, F.SB_TT_STATUS_REJ_CAUSE, F.SB_TT_STATUS_REJ_MODULE, F.FB_QUAD_POWERED, F.PM_DOMAINS_ON]

/-- The lead switch rejected, what it had prepared dropped and the array told, before a queued request follows. -/
def State.rejected (s : State) (cause module : Nat) : State := (s.dropShadow.showRejected cause module).tellRejected module

section
variable (s : State) (cause module : Nat)

theorem rejectSwitch_promotes : s.rejectSwitch cause module = (s.rejected cause module).promoteQueued := rfl

theorem get_showRejected_module :
    (s.showRejected cause module).get F.SB_TT_STATUS_REJ_MODULE = module % 2 ^ F.SB_TT_STATUS_REJ_MODULE.width := by
  rw [State.showRejected, State.get_raise _ _ _ _ (by decide), State.get_put_same]

theorem rejected_onlyChanges : OnlyChanges rejectFields [.sw, .fl, .fab, .sched] s (s.rejected cause module) :=
  (((dropShadow_onlyChanges s).mono (by decide) (by decide)).trans ((showRejected_onlyChanges _ cause module).mono (by decide) (by decide))).trans
    ((tellRejected_onlyChanges _ module).mono (by decide) (by decide))

theorem rejected_sw : (s.rejected cause module).sw = { s.sw with lead := none, reports := [], arrayEpoch := none, phase := 0 } := by
  rw [State.rejected, (tellRejected_onlyChanges _ _).2 .sw (by decide), showRejected_sw, (dropShadow_onlyChanges s).2 .sw (by decide)]

theorem get_rejected : (s.rejected cause module).get F.SB_TT_STATUS_STATE = 5 ∧
    (s.rejected cause module).get F.SB_TT_STATUS_REJ_CAUSE = cause % 2 ^ F.SB_TT_STATUS_REJ_CAUSE.width ∧
    (s.rejected cause module).get F.SB_TT_STATUS_REJ_MODULE = module % 2 ^ F.SB_TT_STATUS_REJ_MODULE.width := by
  have htold := tellRejected_onlyChanges (s.dropShadow.showRejected cause module) module
  obtain ⟨hstate, hcause⟩ := get_showRejected s.dropShadow cause module
  exact ⟨(htold.1 _ (by decide) (by decide)).trans hstate, (htold.1 _ (by decide) (by decide)).trans hcause,
    (htold.1 _ (by decide) (by decide)).trans (get_showRejected_module _ _ _)⟩

variable {s}

theorem rejectSwitch_alone (hq : s.sw.queued = none) : s.rejectSwitch cause module = s.rejected cause module := by
  have hqueue : (s.rejected cause module).sw.queued = none := by rw [rejected_sw]; exact hq
  rw [rejectSwitch_promotes, State.promoteQueued, hqueue]

theorem rejectSwitch_queued {q : SwitchReq} (hq : s.sw.queued = some q) : ∃ w : State, s.rejectSwitch cause module = w.setLead q ∧
    w.sw = { s.sw with lead := none, queued := none, reports := [], arrayEpoch := none, phase := 0 } ∧
    w.get F.SB_TT_STATUS_REJ_CAUSE = cause % 2 ^ F.SB_TT_STATUS_REJ_CAUSE.width := by
  have hsw := rejected_sw s cause module
  have hqueue : (s.rejected cause module).sw.queued = some q := by rw [hsw]; exact hq
  rw [rejectSwitch_promotes, State.promoteQueued, hqueue]
  refine ⟨_, rfl, ?_, ?_⟩
  · simp only [State.put_sw, hsw]
  · rw [State.get_put_ne _ _ (by decide), State.get_put_ne _ _ (by decide)]
    exact (get_rejected s cause module).2.1

end

/-- The answer to a rejection that an array module causes, with none queued behind the lead; `v` is what the rejection finds. -/
theorem answer_rejected {s v u : State} {t module : Nat} (hv : OnlyChanges [] [.fl] (s.advance t) v) (hq : s.sw.queued = none)
    (hu : u = (v.rejectSwitch 3 module).answer s.pending) : u.sw.lead = none ∧ u.get F.SB_TT_STATUS_STATE = 5 ∧
    u.get F.SB_TT_STATUS_REJ_CAUSE = 3 ∧ u.get F.SB_TT_STATUS_REJ_MODULE = module % 2 ^ F.SB_TT_STATUS_REJ_MODULE.width ∧
    OnlyChanges rejectFields [.sw, .fl, .fab, .sched] s u := by
  have hsw : v.sw = s.sw := hv.2 .sw (by decide)
  obtain ⟨hstate, hcause, hmodule⟩ := get_rejected v 3 module
  rw [rejectSwitch_alone 3 module (hsw ▸ hq)] at hu
  subst hu
  refine ⟨?_, ?_, ?_, ?_, .answer (t := t) ((hv.mono (by decide) (by decide)).trans (rejected_onlyChanges v 3 module))⟩
  · rw [State.answer_sw, rejected_sw]
  · rw [State.get_answer _ _ (by decide), hstate]
  · rw [State.get_answer _ _ (by decide), hcause]
    rfl
  · rw [State.get_answer _ _ (by decide), hmodule]

/-! ## Lists of reports -/

theorem mem_kvIns_same {α : Type} (k : Nat) (v : α) : ∀ m : List (Nat × α), (k, v) ∈ kvIns k v m
  | [] => List.mem_cons_self
  | (a, w) :: m => by
    unfold kvIns
    split
    · exact List.mem_cons_self
    · exact List.mem_cons_of_mem _ (mem_kvIns_same k v m)

theorem mem_kvIns_of_mem {α : Type} {k : Nat} {v : α} {x : Nat × α} : ∀ {m : List (Nat × α)}, x ∈ m → x ∈ kvIns k v m
  | (a, w) :: m, h => by
    unfold kvIns
    split
    · exact List.mem_cons_of_mem _ h
    · rcases List.mem_cons.mp h with rfl | h
      · exact List.mem_cons_self
      · exact List.mem_cons_of_mem _ (mem_kvIns_of_mem h)

theorem mem_kvDel_of_ne {α : Type} {k : Nat} {x : Nat × α} (hx : x.1 ≠ k) : ∀ {m : List (Nat × α)}, x ∈ m → x ∈ kvDel k m
  | (a, w) :: m, h => by
    unfold kvDel
    rcases List.mem_cons.mp h with rfl | h
    · rw [if_neg hx]
      exact List.mem_cons_self
    · split
      · exact mem_kvDel_of_ne hx h
      · exact List.mem_cons_of_mem _ (mem_kvDel_of_ne hx h)

/-- A key listed stays listed after an update at any key. -/
theorem any_key_kvIns {α : Type} {k j : Nat} {v : α} {m : List (Nat × α)} (h : j = k ∨ m.any (fun x => x.1 == j) = true) :
    (kvIns k v (kvDel k m)).any (fun x => x.1 == j) = true := by
  by_cases hj : j = k
  · exact List.any_eq_true.mpr ⟨(k, v), mem_kvIns_same k v _, by simp [hj]⟩
  · obtain ⟨x, hx, hxj⟩ := List.any_eq_true.mp (h.resolve_left hj)
    have hkey : x.1 = j := by simpa using hxj
    exact List.any_eq_true.mpr ⟨x, mem_kvIns_of_mem (mem_kvDel_of_ne (hkey ▸ hj) hx), hxj⟩

/-- The latest of the reports is no earlier than any of them. -/
theorem le_latest_report {b : Nat} (m : List (Nat × Nat)) (a : Nat) (h : b ≤ a ∨ ∃ x ∈ m, b ≤ x.2) : b ≤ m.foldl (fun a x => max a x.2) a := by
  induction m generalizing a with
  | nil => simpa using h
  | cons x m ih => exact ih (max a x.2) (by simpa [or_assoc] using h)

/-! ## The instants that module 0 chooses (R63, R376) -/

/-- Rounding up to a multiple. -/
theorem roundUp_bounds {k : Nat} (hk : 0 < k) (n : Nat) : n ≤ (n + k - 1) / k * k ∧ (n + k - 1) / k * k < n + k := by
  have hbelow := Nat.div_mul_le_self (n + k - 1) k
  have habove := Nat.lt_div_mul_add hk (a := n + k - 1)
  omega

section
variable {s : State}

theorem boundaryFrom_spec {e : Nat} (hp : 0 < s.period) (he : s.sched.sweepStart ≤ e) :
    e ≤ s.boundaryFrom e ∧ (s.boundaryFrom e - s.sched.sweepStart) % s.period = 0 := by
  have hperiod : max 1 s.period = s.period := Nat.max_eq_right hp
  have hround := (roundUp_bounds hp (e - s.sched.sweepStart)).1
  rw [State.boundaryFrom, hperiod, Nat.add_sub_cancel_left, Nat.mul_mod_left]
  exact ⟨by omega, rfl⟩

/-- With every module READY, one of them now, the epoch is chosen at a sweep boundary at least one sweep and 1 ms ahead. -/
theorem chooseEpoch_chooses {r : SwitchReq} {m : Nat} (hn : 0 < s.get F.FL_STATUS_COUNT) (hid : s.get F.FL_STATUS_ID = 0) (hphase : s.sw.phase = 3)
    (hall : ∀ i, i < s.get F.FL_STATUS_COUNT → s.sw.reports.any (fun x => x.1 == i + 1) = true) (hnone : s.sw.arrayEpoch = none)
    (hlast : (m, s.now) ∈ s.sw.reports) (hstart : s.sched.sweepStart ≤ s.now) (hp : 0 < s.period) :
    ∃ b, (s.chooseEpoch r).sw.arrayEpoch = some b ∧ s.now + max ms s.period ≤ b ∧ (b - s.sched.sweepStart) % s.period = 0 := by
  unfold State.chooseEpoch
  extract_lets n all last ahead e b sw
  have hcond : ¬(n = 0 ∨ s.get F.FL_STATUS_ID ≠ 0 ∨ s.sw.phase ≠ 3 ∨ (!all) = true ∨ s.sw.arrayEpoch.isSome = true) := by
    have hevery : all = true := List.all_eq_true.mpr (fun i hi => hall i (List.mem_range.mp hi))
    have hpos : n ≠ 0 := Nat.pos_iff_ne_zero.mp hn
    simp [hpos, hid, hphase, hevery, hnone]
  have hnow : s.now ≤ last := le_latest_report _ _ (.inr ⟨_, hlast, Nat.le_refl _⟩)
  have hahead : s.now + max ms s.period ≤ ahead := Nat.add_le_add_right hnow _
  have he : s.now + max ms s.period ≤ e := by
    show _ ≤ if r.mode = 1 then _ else _
    split
    · exact Nat.le_trans hahead (Nat.le_max_left _ _)
    · exact hahead
  obtain ⟨hle, hmod⟩ := boundaryFrom_spec (e := e) hp (by omega)
  refine ⟨b, ?_, Nat.le_trans he hle, hmod⟩
  rw [if_neg hcond, (sendSwitch_onlyChanges _ _).2 .sw (by decide)]

/-- A module's report that it has committed, with its instant (R376). -/
def State.keepReady (s : State) (m : Nat) : State := { s with fl := { s.fl with ready := kvIns m s.now (kvDel m s.fl.ready) } }

/-- A module's report that the switch is READY there, with its instant (R63). -/
def State.keepReport (s : State) (m : Nat) : State := { s with sw := { s.sw with reports := kvIns m s.now (kvDel m s.sw.reports) } }

/-- The sweep origin alone may change, and not while a report is missing. -/
theorem setOrigin_origin (s : State) : ∃ o, s.setOrigin = { s with fl := { s.fl with origin := o } } ∧
    (s.fl.ready.length < s.get F.FL_STATUS_COUNT → o = s.fl.origin) := by
  unfold State.setOrigin
  split
  · exact ⟨s.fl.origin, rfl, fun _ => rfl⟩
  · next h => exact ⟨_, rfl, fun hlen => absurd (.inr (.inl hlen)) h⟩

/-- With every report in and the module committed, the origin is set at least 10 ms ahead, within a millisecond. -/
theorem setOrigin_sets (ho : s.fl.origin = none) (hlen : s.get F.FL_STATUS_COUNT ≤ s.fl.ready.length) (hc : s.is F.SB_STATUS_COMMITTED = true) :
    ∃ o, s.setOrigin.fl.origin = some o ∧ s.now + 10 * ms ≤ o ∧ o < s.now + 11 * ms := by
  have hcond : ¬(s.fl.origin.isSome = true ∨ s.fl.ready.length < s.get F.FL_STATUS_COUNT ∨ (!s.is F.SB_STATUS_COMMITTED) = true) := by
    simp [ho, hc, hlen]
  obtain ⟨hlow, hhigh⟩ := roundUp_bounds (k := ms) (by decide) (s.count s.now + 10 * ms)
  rw [State.setOrigin, if_neg hcond]
  exact ⟨_, rfl, by omega, by omega⟩

end

/-! ## The clauses, one by one -/

section
variable (s : State) (t seq : Nat)

theorem crossTriggerReceive_again {sender line : Nat} {at_ : Int} (hf : s.firstCopy sender seq = false) :
    ∃ u, exec (.crossTriggerReceive t sender seq line at_) s = .next u ∧ OnlyChanges [] [] s u := by
  refine ⟨_, rfl, .answer (t := t) ?_⟩
  rw [crossTriggerReceive, message_again (s := s.advance t) _ hf]
  exact .refl _

theorem crossTriggerReceive_counts {sender line : Nat} {at_ : Int} (hon : s.domainOn 15 = true) (hf : s.firstCopy sender seq = true) :
    ∃ u, exec (.crossTriggerReceive t sender seq line at_) s = .next u ∧
      u.get F.FL_XT_RECV_COUNT = min (s.get F.FL_XT_RECV_COUNT + 1) (2 ^ F.FL_XT_RECV_COUNT.width - 1) ∧
      u.fl.seen = kvIns sender (seq % 65536) (kvDel sender s.fl.seen) ∧
      u.fl.forwarded = s.fl.forwarded + (if s.portUp 0 ∧ s.portUp 1 then 1 else 0) := by
  have hcross := crossTrigger_onlyChanges
    (((s.advance t).noteMessage sender seq).bump F.FL_XT_RECV_COUNT F.FL_CNT_SAT_RECV_SAT 1) sender line at_
  have hfl := (hcross.2 .fl (by decide)).trans (State.bump_fl _ _ _ _)
  refine ⟨_, rfl, ?_, ?_, ?_⟩ <;> rw [crossTriggerReceive, message_first (s := s.advance t) _ hon hf]
  · rw [State.get_answer _ _ (by decide), hcross.1 _ (by decide) (by decide), State.get_bump_same _ _ (by decide)]
    rfl
  · rw [State.answer_fl, hfl]
    rfl
  · rw [State.answer_fl, hfl]
    rfl

section
variable {s t seq} {index mode second tl g : Nat} (hon : s.domainOn 15 = true) (hf : s.firstCopy 0 seq = true)
include hon hf

theorem switchMessageReceive_request (hl : s.sw.lead = none) (hx : index % 4 ≠ s.activeIndex) :
    ∃ u, exec (.switchMessageReceive t seq 0 index mode second tl g) s = .next u ∧ u.sw.lead = some ⟨index % 4, mode % 4, second, some (tl, g)⟩ ∧
      u.sw.phase = 1 ∧ u.get F.SB_TT_STATUS_STATE = 1 ∧ u.fl.seen = kvIns 0 (seq % 65536) (kvDel 0 s.fl.seen) := by
  have hrun : switchMessageReceive seq 0 index mode second tl g (s.advance t) =
      ((s.advance t).noteMessage 0 seq).setLead ⟨index % 4, mode % 4, second, some (tl, g)⟩ := by
    have hlead : ((s.advance t).noteMessage 0 seq).sw.lead = none := hl
    have hnot : ¬(mode % 4 < 2 ∧ index % 4 = ((s.advance t).noteMessage 0 seq).activeIndex) := fun h => hx h.2
    rw [switchMessageReceive, message_first (s := s.advance t) _ hon hf]
    simp only [State.submitSwitch, hlead, if_neg hnot]
  refine ⟨_, rfl, ?_, ?_, ?_, ?_⟩ <;> rw [hrun]
  · rw [State.answer_sw]
    rfl
  · rw [State.answer_sw]
    rfl
  · rw [State.get_answer _ _ (by decide), State.setLead, State.get_put_ne _ _ (by decide), State.setPhase, State.get_put_same]
    rfl
  · rw [State.answer_fl]
    rfl

theorem switchMessageReceive_epoch : ∃ u, exec (.switchMessageReceive t seq 1 index mode second tl g) s = .next u ∧
    u.sw.arrayEpoch = some second ∧ OnlyChanges [] [.sw, .fl] s u := by
  refine ⟨_, rfl, ?_, .answer (t := t) ?_⟩ <;> rw [switchMessageReceive, message_first (s := s.advance t) _ hon hf]
  · rw [State.answer_sw]
    rfl
  · exact ((noteMessage_onlyChanges _ _ _).mono (by decide) (by decide)).trans (.sw _ _ (by decide))

theorem epochMessageReceive_pends {value : Nat} : ∃ u, exec (.epochMessageReceive t seq value second) s = .next u ∧
    u.get F.TB_STATUS_EPOCH_PENDING = 1 ∧ u.tref = { s.tref with epoch := some (value, false), epochAt := some second } ∧
    OnlyChanges [F.TB_STATUS_EPOCH_PENDING] [.tref, .fl] s u := by
  refine ⟨_, rfl, ?_, ?_, .answer (t := t) ?_⟩ <;> rw [epochMessageReceive, message_first (s := s.advance t) _ hon hf]
  · rw [State.get_answer _ _ (by decide), State.get_put_same]
    rfl
  · rw [State.answer_tref]
    rfl
  · exact (((noteMessage_onlyChanges _ _ _).mono (by decide) (by decide)).trans (.tref _ _ (by decide))).trans (.put _ _ _ (by decide))

variable {r : SwitchReq} (hl : s.sw.lead = some r)
include hl

theorem switchMessageReceive_rejects : switchMessageReceive seq 2 index mode second tl g (s.advance t) =
    ((s.advance t).noteMessage 0 seq).rejectSwitch 3 mode := by
  have hlead : ((s.advance t).noteMessage 0 seq).sw.lead.isSome = true := by
    show s.sw.lead.isSome = true
    rw [hl]
    rfl
  rw [switchMessageReceive, message_first (s := s.advance t) _ hon hf]
  exact if_pos hlead

theorem switchMessageReceive_rejectsAlone (hq : s.sw.queued = none) :
    ∃ u, exec (.switchMessageReceive t seq 2 index mode second tl g) s = .next u ∧ u.sw.lead = none ∧ u.get F.SB_TT_STATUS_STATE = 5 ∧
      u.get F.SB_TT_STATUS_REJ_CAUSE = 3 ∧ u.get F.SB_TT_STATUS_REJ_MODULE = mode % 2 ^ F.SB_TT_STATUS_REJ_MODULE.width ∧
      OnlyChanges rejectFields [.sw, .fl, .fab, .sched] s u := by
  refine ⟨_, rfl, answer_rejected (noteMessage_onlyChanges (s.advance t) 0 seq) hq ?_⟩
  rw [switchMessageReceive_rejects hon hf hl]

theorem switchMessageReceive_rejectsQueued {q : SwitchReq} (hq : s.sw.queued = some q) :
    ∃ u, exec (.switchMessageReceive t seq 2 index mode second tl g) s = .next u ∧ u.sw.lead = some q ∧ u.sw.queued = none ∧ u.sw.phase = 1 ∧
      u.get F.SB_TT_STATUS_STATE = 1 ∧ u.get F.SB_TT_STATUS_REJ_CAUSE = 3 := by
  obtain ⟨w, hw, hsw, hcause⟩ := rejectSwitch_queued (s := (s.advance t).noteMessage 0 seq) 3 mode hq
  have hlead := setLead_onlyChanges w q
  have hset : (w.setLead q).sw = { w.sw with lead := some q, phase := 1 } := rfl
  refine ⟨_, rfl, ?_, ?_, ?_, ?_, ?_⟩ <;> rw [switchMessageReceive_rejects hon hf hl, hw]
  · rw [State.answer_sw, hset]
  · rw [State.answer_sw, hset, hsw]
  · rw [State.answer_sw, hset]
  · rw [State.get_answer _ _ (by decide), State.setLead, State.get_put_ne _ _ (by decide), State.setPhase, State.get_put_same]
    rfl
  · rw [State.get_answer _ _ (by decide), hlead.1 _ (by decide) (by decide), hcause]
    rfl

end

section
variable {s t} {m : Nat} (hid : s.get F.FL_STATUS_ID = 0) (hm : 0 < m) (hcount : m ≤ s.get F.FL_STATUS_COUNT)
include hid hm hcount

theorem readyReport_keeps (ho : s.fl.origin = none) : ∃ u, exec (.readyReport t m) s = .next u ∧
    u.fl.ready = kvIns m (max s.now t) (kvDel m s.fl.ready) ∧
    (u.fl.ready.length < s.get F.FL_STATUS_COUNT → u.fl.origin = none) ∧
    (s.get F.FL_STATUS_COUNT ≤ u.fl.ready.length → s.is F.SB_STATUS_COMMITTED = true →
      ∃ o, u.fl.origin = some o ∧ max s.now t + 10 * ms ≤ o ∧ o < max s.now t + 11 * ms) ∧
    OnlyChanges [] [.fl] s u := by
  have hrun : readyReport m (s.advance t) = ((s.advance t).keepReady m).setOrigin := by
    have hcond : ¬((s.advance t).get F.FL_STATUS_ID ≠ 0 ∨ m = 0 ∨ m > (s.advance t).get F.FL_STATUS_COUNT ∨ (s.advance t).fl.origin.isSome = true) := by
      simp [hid, ho, hm.ne', hcount]
    exact if_neg hcond
  obtain ⟨o, hset, hwaits⟩ := setOrigin_origin ((s.advance t).keepReady m)
  have hready : ((s.advance t).keepReady m).setOrigin.fl.ready = kvIns m (max s.now t) (kvDel m s.fl.ready) := by
    rw [hset]
    rfl
  refine ⟨_, rfl, ?_, ?_, ?_, .answer (t := t) ?_⟩ <;> rw [hrun]
  · rw [State.answer_fl, hready]
  · rw [State.answer_fl, hready, hset]
    exact fun hlen => (hwaits hlen).trans ho
  · rw [State.answer_fl, hready]
    exact setOrigin_sets (s := (s.advance t).keepReady m) ho
  · rw [hset]
    exact (OnlyChanges.fl _ _ (by decide)).trans (.fl _ _ (by decide))

variable {r : SwitchReq} (hl : s.sw.lead = some r)
include hl

/-- A module's report of the switch, as module 0 takes it. -/
theorem switchReadyReport_taken (ready : Bool) : switchReadyReport m ready (s.advance t) =
    if ready then ((s.advance t).keepReport m).chooseEpoch r else (s.advance t).rejectSwitch 3 m := by
  have hcond : ¬((s.advance t).get F.FL_STATUS_ID ≠ 0 ∨ m = 0 ∨ m > (s.advance t).get F.FL_STATUS_COUNT) := by
    simp [hid, hm.ne', hcount]
  unfold switchReadyReport
  split
  case _ h => exact absurd (h.symm.trans hl) nofun
  case _ h =>
    cases h.symm.trans hl
    exact if_neg hcond

theorem switchReadyReport_ready : ∃ u, exec (.switchReadyReport t m true) s = .next u ∧
    u.sw = { s.sw with reports := kvIns m (max s.now t) (kvDel m s.sw.reports), arrayEpoch := u.sw.arrayEpoch } ∧
    (s.sw.phase = 3 → s.sw.arrayEpoch = none → s.sw.readyAt ≤ max s.now t → s.sched.sweepStart ≤ max s.now t → 0 < s.period →
      (∀ i, i < s.get F.FL_STATUS_COUNT → i + 1 = m ∨ s.sw.reports.any (fun x => x.1 == i + 1) = true) →
      ∃ b, u.sw.arrayEpoch = some b ∧ max s.now t + max ms s.period ≤ b ∧ (b - s.sched.sweepStart) % s.period = 0) ∧
    OnlyChanges [] [.sw, .fl] s u := by
  obtain ⟨honly, e, hsw⟩ := chooseEpoch_sends ((s.advance t).keepReport m) r
  refine ⟨_, rfl, ?_, ?_, .answer (t := t) ?_⟩ <;> rw [switchReadyReport_taken hid hm hcount hl, if_pos rfl]
  · rw [State.answer_sw, hsw]
    rfl
  · rw [State.answer_sw]
    exact fun hphase hnone _ hstart hp hall => chooseEpoch_chooses (s := (s.advance t).keepReport m) (m := m) (Nat.lt_of_lt_of_le hm hcount)
      hid hphase (fun i hi => any_key_kvIns (hall i hi)) hnone (mem_kvIns_same _ _ _) hstart hp
  · exact (OnlyChanges.sw _ _ (by decide)).trans honly

theorem switchReadyReport_refused (hq : s.sw.queued = none) : ∃ u, exec (.switchReadyReport t m false) s = .next u ∧ u.sw.lead = none ∧
    u.get F.SB_TT_STATUS_STATE = 5 ∧ u.get F.SB_TT_STATUS_REJ_CAUSE = 3 ∧
    u.get F.SB_TT_STATUS_REJ_MODULE = m % 2 ^ F.SB_TT_STATUS_REJ_MODULE.width ∧
    OnlyChanges rejectFields [.sw, .fl, .fab, .sched] s u := by
  refine ⟨_, rfl, answer_rejected (v := s.advance t) (.refl _) hq ?_⟩
  rw [switchReadyReport_taken hid hm hcount hl]
  rfl

end

end

end Sys2Proof.Machine

section
open Sys2Proof Sys2Proof.Machine

/-- Settles O46: each clause is a fact of its own about a message's copies, a cross-trigger, a step of the array's switch, the epoch or a report. -/
theorem arrayMessages : Obligations.ArrayMessages := by
  intro s t seq
  refine ⟨fun _ _ _ => crossTriggerReceive_counts s t seq, fun _ _ _ => crossTriggerReceive_again s t seq,
    fun hon hf => ⟨?request, ?chosen, ?alone, ?queued, ?epoch⟩, fun m hid hm hcount => ⟨?ready, ?reported, ?refused⟩⟩
  case request => exact fun _ _ _ _ _ hl hx => switchMessageReceive_request hon hf hl hx
  case chosen => exact fun _ _ _ _ _ => switchMessageReceive_epoch hon hf
  case alone => exact fun _ _ _ _ _ _ hl hq => switchMessageReceive_rejectsAlone hon hf hl hq
  case queued => exact fun _ _ _ _ _ _ _ hl hq => switchMessageReceive_rejectsQueued hon hf hl hq
  case epoch => exact fun _ _ => epochMessageReceive_pends hon hf
  case ready => exact readyReport_keeps hid hm hcount
  case reported => exact fun _ => switchReadyReport_ready hid hm hcount
  case refused => exact fun _ => switchReadyReport_refused hid hm hcount

end

/-!
Every step leaves the block settled (R69-R71, R89, R91, R463).
-/

namespace Sys2Proof.Machine

/-- A meaning behind a check that stops the block answers as the meaning does. -/
theorem guarded_next {p : Prop} [Decidable p] {x : Outcome} {t : Nat} {s u : State} {f : State → State}
    (h : (if p then x else runAt t s f) = .next u) (hx : Stops x) : ∃ (v : State) (q : List Instr), u = v.answer q := by
  split at h
  · exact absurd h (hx u)
  · exact ⟨_, _, runAt_next h⟩

/-- Each meaning answers the settled effect of its instant; those that name an address check it before. -/
theorem exec_next_answer {c : Instr} {s u : State} (h : exec c s = .next u) : ∃ (v : State) (q : List Instr), u = v.answer q := by
  cases c with
  | registerWrite | satClear | mgmtRead | mgmtWrite | dramRequest => exact guarded_next h (fun _ => nofun)
  | _ => exact ⟨_, _, (Host.Outcome.next.inj h).symm⟩

end Sys2Proof.Machine

section
open Sys2Proof Sys2Proof.Machine

/-- Settles O4: a step idles on an empty queue, and else answers the settled effect of a command. -/
theorem stepsSettle : Obligations.StepsSettle := by
  intro s u hs h
  unfold step at h
  split at h
  · cases h
    exact hs
  · obtain ⟨v, q, rfl⟩ := exec_next_answer h
    exact v.answer_settled q

/-- Settles O5: at reset no register is listed, so that each reads as its reset value, and every part is empty. -/
theorem resetIsSettled : Obligations.ResetIsSettled := by
  refine ⟨⟨rfl, rfl, rfl, rfl⟩, rfl, reset_memory_wf, rfl, rfl, ?powered, rfl, rfl, rfl⟩
  case powered =>
    unfold State.poweredOnly
    decide

end

/-!
The optical engine: the causes and the commands of OP_CTRL, the fuse and the dead-man timer (R68-R73, R77-R81, R84, R89, R90).
-/

namespace Sys2Proof.Machine

/-! ## Frames of the optical engine -/

section
variable {fs : List Fld} {ps : List Part} {s u : State}

theorem OnlyChanges.opt (s : State) (x : Optics) (h : Part.opt ∈ ps) : OnlyChanges fs ps s { s with opt := x } :=
  ⟨fun _ _ _ => rfl, fun p hp => by cases p with | opt => exact absurd h hp | _ => rfl⟩

/-- The light under way is no part of a frame. -/
theorem OnlyChanges.light (s : State) (x : Option (Nat × Nat)) : OnlyChanges fs ps s { s with sched := { s.sched with light := x } } :=
  ⟨fun _ _ _ => rfl, fun p _ => by cases p <;> rfl⟩

/-- A register that a frame does not name reads as before. -/
theorem OnlyChanges.is (h : OnlyChanges fs ps s u) {f : Fld} (hk : f.key ∉ settleKeys) (hf : f.key ∉ fs.map (·.key)) : u.is f = s.is f := by
  rw [State.is, h.1 f hk hf, State.is]

/-- What the answer holds of the optical engine, but for when AMP_EN# last went low. -/
theorem State.answer_optics {α : Type} (g : Optics → α) (s : State) (q : List Instr)
    (hg : ∀ (o : Optics) (a : Nat) (b : Bool), g { o with ampSince := a, ampSeen := b } = g o := by exact fun _ _ _ => rfl) :
    g (s.answer q).opt = g s.opt := by
  have hq : (s.answer q).opt = _ := (settle_quiet s).opt
  rw [hq, hg]

end

/-! ## Causes (R70) -/

/-- The causes of DARK. -/
def darkCauses : List Fld :=
  [F.OP_STATE_INTERLOCK, F.OP_STATE_OVERPOWER, F.OP_STATE_LOOP_FAULT, F.OP_STATE_LAUNCH_OPEN, F.OP_STATE_AMP_FAULT, F.OP_STATE_LASER,
   F.OP_STATE_HOST_DARK]

/-- The causes of PROBE. -/
def probeCauses : List Fld := [F.OP_STATE_DEADMAN, F.OP_STATE_BREAK, F.OP_STATE_HOST_PROBE]

theorem State.darkCause_eq (s : State) : s.darkCause = darkCauses.any s.is := by
  simp [State.darkCause, darkCauses, Bool.or_assoc]

theorem State.probeCause_eq (s : State) : s.probeCause = probeCauses.any s.is := by
  simp [State.probeCause, probeCauses, Bool.or_assoc]

section
variable {s u : State} {f : Fld}

theorem darkCause_congr (h : ∀ f ∈ darkCauses, u.is f = s.is f) : u.darkCause = s.darkCause := by
  rw [State.darkCause_eq, State.darkCause_eq, Bool.eq_iff_iff, List.any_eq_true, List.any_eq_true]
  exact exists_congr fun f => and_congr_right fun hf => by rw [h f hf]

/-- A cause of DARK makes the state DARK, outside OFF. -/
theorem opticalState_dark (hoff : s.opt.off = false) (hf : f ∈ darkCauses) (h : s.is f = true) : s.opticalState = 1 := by
  have hdark : s.darkCause = true := by
    rw [State.darkCause_eq]
    exact List.any_eq_true.mpr ⟨f, hf, h⟩
  simp [State.opticalState, hoff, hdark]

/-- A cause of PROBE makes the state PROBE, outside OFF and without a cause of DARK. -/
theorem opticalState_probe (hoff : s.opt.off = false) (hdark : s.darkCause = false) (hf : f ∈ probeCauses) (h : s.is f = true) :
    s.opticalState = 2 := by
  have hprobe : s.probeCause = true := by
    rw [State.probeCause_eq]
    exact List.any_eq_true.mpr ⟨f, hf, h⟩
  simp [State.opticalState, hoff, hdark, hprobe]

/-- With light on no cause of DARK is set, and the engine is not in OFF. -/
theorem lit_of_opticalState (h : 2 ≤ s.opticalState) : s.opt.off = false ∧ s.darkCause = false := by
  unfold State.opticalState at h
  split at h
  · omega
  · split at h
    · omega
    · simp_all

theorem opticalState_congr (ho : u.opt.off = s.opt.off) (hd : ∀ f ∈ darkCauses, u.is f = s.is f) (hp : ∀ f ∈ probeCauses, u.is f = s.is f) :
    u.opticalState = s.opticalState := by
  have hprobe : u.probeCause = s.probeCause := by
    rw [State.probeCause_eq, State.probeCause_eq, Bool.eq_iff_iff, List.any_eq_true, List.any_eq_true]
    exact exists_congr fun f => and_congr_right fun hf => by rw [hp f hf]
  rw [State.opticalState, State.opticalState, ho, darkCause_congr hd, hprobe]

end

/-! ## A cause set, and a cause cleared (R70, R469) -/

section
variable {fs : List Fld} {ps : List Part} (s : State) {f : Fld} (code inst val : Nat)

theorem OnlyChanges.setCause (h : f.key ∈ fs.map (·.key)) : OnlyChanges fs ps s (s.setCause f code inst val) :=
  .ite (.refl s) ((OnlyChanges.put _ _ _ h).trans (Posting.raise _ _ _ _).onlyChanges)

theorem OnlyChanges.clearCause (h : f.key ∈ fs.map (·.key)) : OnlyChanges fs ps s (s.clearCause f code) :=
  .ite ((OnlyChanges.put _ _ _ h).trans (Posting.endConds _ _).onlyChanges) (.refl s)

@[simp] theorem State.setCause_opt : (s.setCause f code inst val).opt = s.opt := by
  unfold State.setCause
  split <;> simp

@[simp] theorem State.clearCause_opt : (s.clearCause f code).opt = s.opt := by
  unfold State.clearCause
  split
  · rw [(Posting.endConds _ _).opt, State.put_opt]
  · rfl

/-- A cause that is set stays set, and one that is not becomes set. -/
theorem is_setCause (hk : f.key ∉ eventKeys) (hw : f.width = 1) : (s.setCause f code inst val).is f = true := by
  unfold State.setCause
  split
  · assumption
  · rw [State.is_raise _ _ _ _ hk, State.is_put_same, hw]
    rfl

theorem is_clearCause (hk : f.key ∉ eventKeys) : (s.clearCause f code).is f = false := by
  unfold State.clearCause
  split
  · rw [State.is_endConds _ _ hk, State.is_put_same, Nat.zero_mod]
    rfl
  · exact Bool.eq_false_iff.mpr ‹_›

/-- A cause cleared where a condition allows it stays where the condition does not hold. -/
theorem is_clearCause_if (hk : f.key ∉ eventKeys) (c : Bool) : (if c then s.clearCause f code else s).is f = (s.is f && !c) := by
  cases c
  · simp
  · simpa using is_clearCause s code hk

end

/-! ## The commands of OP_CTRL (R71, R84, R88) -/

theorem clearOwing_onlyChanges (s : State) (f : Fld) (code : Nat) (kind : Retest) : OnlyChanges [f] [.opt] s (s.clearOwing f code kind) :=
  .ite ((OnlyChanges.clearCause s code (by simp)).trans (.opt _ _ (by decide))) (.refl s)

theorem is_clearOwing (s : State) {f : Fld} (code : Nat) (kind : Retest) (hk : f.key ∉ eventKeys) : (s.clearOwing f code kind).is f = false := by
  unfold State.clearOwing
  split
  · exact is_clearCause s code hk
  · exact Bool.eq_false_iff.mpr ‹_›

theorem clearOwing_owed (s : State) (f : Fld) (code : Nat) (kind : Retest) :
    (s.clearOwing f code kind).opt.owed = s.opt.owed ++ if s.is f then [kind] else [] := by
  unfold State.clearOwing
  split
  · simp
  · simp

/-- The causes that RESUME may clear. -/
def resumeFields : List Fld :=
  [F.OP_STATE_HOST_DARK, F.OP_STATE_OVERPOWER, F.OP_STATE_LOOP_FAULT, F.OP_STATE_LAUNCH_OPEN, F.OP_STATE_INTERLOCK, F.OP_STATE_AMP_FAULT]

/-- RESUME clears its causes one after the other, and none of the clearings touches the cause of another. -/
theorem cmdResume_clears (s : State) : (cmdResume s).is F.OP_STATE_HOST_DARK = false ∧ (cmdResume s).is F.OP_STATE_OVERPOWER = false ∧
    (cmdResume s).is F.OP_STATE_LOOP_FAULT = false ∧ (cmdResume s).is F.OP_STATE_LAUNCH_OPEN = false ∧
    (cmdResume s).is F.OP_STATE_INTERLOCK = (s.is F.OP_STATE_INTERLOCK && !s.is F.OP_IL_LOOP_OK) ∧
    (cmdResume s).is F.OP_STATE_AMP_FAULT = (s.is F.OP_STATE_AMP_FAULT && !s.is F.OP_AMP_MON) ∧
    (cmdResume s).opt.owed = s.opt.owed ++ (if s.is F.OP_STATE_LOOP_FAULT then [.loop] else []) ++
      (if s.is F.OP_STATE_LAUNCH_OPEN then [.launchOpen] else []) ∧
    OnlyChanges resumeFields [.opt] s (cmdResume s) := by
  unfold cmdResume
  extract_lets locked power loop launch amp
  have hlocked : OnlyChanges [F.OP_STATE_INTERLOCK] [] s locked := .ite (.clearCause _ _ (by decide)) (.refl s)
  have hpower : OnlyChanges [F.OP_STATE_OVERPOWER] [] locked power := .clearCause _ _ (by decide)
  have hloop : OnlyChanges [F.OP_STATE_LOOP_FAULT] [.opt] power loop := clearOwing_onlyChanges _ _ _ _
  have hlaunch : OnlyChanges [F.OP_STATE_LAUNCH_OPEN] [.opt] loop launch := clearOwing_onlyChanges _ _ _ _
  have hamp : OnlyChanges [F.OP_STATE_AMP_FAULT] [] launch amp :=
    .ite ((OnlyChanges.clearCause _ _ (by decide)).trans (Posting.endConds _ _).onlyChanges) (.refl _)
  have hhost : OnlyChanges [F.OP_STATE_HOST_DARK] [] amp (amp.put F.OP_STATE_HOST_DARK 0) := .put _ _ _ (by decide)
  have htoPower : OnlyChanges resumeFields [.opt] s power := (hlocked.mono (by decide) (by decide)).trans (hpower.mono (by decide) (by decide))
  have htoLaunch : OnlyChanges resumeFields [.opt] s launch :=
    (htoPower.trans (hloop.mono (by decide) (by decide))).trans (hlaunch.mono (by decide) (by decide))
  have hampOpt : amp.opt.owed = launch.opt.owed := by
    dsimp only [amp]
    split
    · rw [(Posting.endConds _ _).opt, State.clearCause_opt]
    · rfl
  have hampIs : amp.is F.OP_STATE_AMP_FAULT = (launch.is F.OP_STATE_AMP_FAULT && !launch.is F.OP_AMP_MON) := by
    rw [← is_clearCause_if launch 0x010C (by decide)]
    dsimp only [amp]
    split
    · exact State.is_endConds _ _ (by decide)
    · rfl
  have hpowerOpt : power.opt.owed = s.opt.owed := by
    rw [show power.opt = locked.opt from State.clearCause_opt _ _]
    dsimp only [locked]
    split
    · rw [State.clearCause_opt]
    · rfl
  refine ⟨State.is_put_same _ _ _, ?power, ?loop, ?launch, ?locked, ?amp, ?owed,
    (htoLaunch.trans (hamp.mono (by decide) (by decide))).trans (hhost.mono (by decide) (by decide))⟩
  case power =>
    rw [hhost.is (by decide) (by decide), hamp.is (by decide) (by decide), hlaunch.is (by decide) (by decide), hloop.is (by decide) (by decide)]
    exact is_clearCause _ _ (by decide)
  case loop =>
    rw [hhost.is (by decide) (by decide), hamp.is (by decide) (by decide), hlaunch.is (by decide) (by decide)]
    exact is_clearOwing _ _ _ (by decide)
  case launch =>
    rw [hhost.is (by decide) (by decide), hamp.is (by decide) (by decide)]
    exact is_clearOwing _ _ _ (by decide)
  case locked =>
    rw [hhost.is (by decide) (by decide), hamp.is (by decide) (by decide), hlaunch.is (by decide) (by decide), hloop.is (by decide) (by decide),
      hpower.is (by decide) (by decide)]
    exact is_clearCause_if s 0x0102 (by decide) _
  case amp =>
    rw [hhost.is (by decide) (by decide), hampIs, htoLaunch.is (f := F.OP_AMP_MON) (by decide) (by decide), hlaunch.is (by decide) (by decide),
      hloop.is (by decide) (by decide), hpower.is (by decide) (by decide), hlocked.is (by decide) (by decide)]
  case owed =>
    rw [State.put_opt, hampOpt, clearOwing_owed, clearOwing_owed, hpowerOpt, hloop.is (by decide) (by decide), hpower.is (by decide) (by decide),
      hlocked.is (by decide) (by decide), hpower.is (by decide) (by decide), hlocked.is (by decide) (by decide)]

theorem clearBreak_clears (s : State) : s.clearBreak.is F.OP_BREAK_POS_VALID = false ∧
    s.clearBreak.is F.OP_STATE_BREAK = (s.is F.OP_STATE_BREAK && !s.is F.OP_BREAK_POS_VALID) ∧
    OnlyChanges [F.OP_BREAK_POS_VALID, F.OP_STATE_BREAK] [.opt] s s.clearBreak := by
  unfold State.clearBreak
  split
  case isTrue h =>
    extract_lets cleared opt ended
    have hended : Posting ended ((ended.endConds 0x0107).raise 0x0108 wide 0) := (Posting.endConds _ _).trans (Posting.raise _ _ _ _)
    have hcleared : OnlyChanges [F.OP_BREAK_POS_VALID, F.OP_STATE_BREAK] [.opt] s ended :=
      ((OnlyChanges.put _ _ _ (by decide)).trans (.put _ _ _ (by decide))).trans (.opt _ _ (by decide))
    refine ⟨?_, ?_, hcleared.trans hended.onlyChanges⟩
    · rw [State.is, hended.get _ (by decide), ← State.is, State.is_mk, State.is_put_ne _ _ (by decide), State.is_put_same]
      rfl
    · rw [State.is, hended.get _ (by decide), ← State.is, State.is_mk, State.is_put_same, h, Bool.not_true, Bool.and_false]
      rfl
  case isFalse h =>
    rw [Bool.not_eq_true] at h
    exact ⟨h, by simp [h], .refl s⟩

theorem cmdRestore_clears (s : State) : (cmdRestore s).is F.OP_STATE_HOST_PROBE = false ∧
    (cmdRestore s).is F.OP_STATE_DEADMAN = (s.is F.OP_STATE_DEADMAN && !s.opt.kickSince) ∧ (cmdRestore s).is F.OP_BREAK_POS_VALID = false ∧
    (cmdRestore s).is F.OP_STATE_BREAK = (s.is F.OP_STATE_BREAK && !s.is F.OP_BREAK_POS_VALID) ∧
    OnlyChanges [F.OP_STATE_HOST_PROBE, F.OP_STATE_DEADMAN, F.OP_BREAK_POS_VALID, F.OP_STATE_BREAK] [.opt] s (cmdRestore s) := by
  unfold cmdRestore
  extract_lets kicked host
  have hkicked : OnlyChanges [F.OP_STATE_DEADMAN] [] s kicked := .ite (.clearCause _ _ (by decide)) (.refl s)
  have hhost : OnlyChanges [F.OP_STATE_HOST_PROBE] [] kicked host := .put _ _ _ (by decide)
  obtain ⟨hvalid, hbreak, honly⟩ := clearBreak_clears host
  refine ⟨?_, ?_, hvalid, ?_, ((hkicked.mono (by decide) (by decide)).trans (hhost.mono (by decide) (by decide))).trans (honly.mono (by decide) (by decide))⟩
  · rw [honly.is (by decide) (by decide), State.is_put_same]
    rfl
  · rw [honly.is (by decide) (by decide), hhost.is (by decide) (by decide)]
    exact is_clearCause_if s 0x0104 (by decide) _
  · rw [hbreak, hhost.is (by decide) (by decide), hkicked.is (by decide) (by decide), hhost.is (by decide) (by decide),
      hkicked.is (by decide) (by decide)]

section
variable {s : State} (t : Nat) (hon : s.domainOn 5 = true)
include hon

/-- An access to a register of OP_ while PD_TX is powered answers the settled effect. -/
theorem runAt_op {addr : Nat} (hb : blockDomain (addr / 65536) = 5) (f : State → State) :
    runAt t s (access addr f) = .next ((f (s.advance t)).answer s.pending) := by
  have hblock : (s.advance t).blockOn addr = true := by
    rw [State.blockOn, hb]
    exact hon
  rw [runAt_eq, access_on hblock]

theorem dark_acts : ∃ u, exec (.dark t) s = .next u ∧ u.get F.OP_STATE_HOST_DARK = 1 ∧ (s.opt.off = false → u.get F.OP_STATE_STATE = 1) ∧
    OnlyChanges [F.OP_STATE_HOST_DARK] [] s u := by
  refine ⟨_, runAt_op t hon rfl cmdDark, ?_, fun hoff => ?_, (OnlyChanges.put _ _ _ (by decide)).answer⟩
  · rw [State.get_answer _ _ (by decide), cmdDark, State.get_put_same]
    rfl
  · rw [State.answer_state]
    exact opticalState_dark (f := F.OP_STATE_HOST_DARK) hoff (by decide) (State.is_put_same _ _ _)

theorem probe_acts : ∃ u, exec (.probe t) s = .next u ∧ u.get F.OP_STATE_HOST_PROBE = 1 ∧
    (s.opt.off = false → s.darkCause = false → u.get F.OP_STATE_STATE = 2) ∧ OnlyChanges [F.OP_STATE_HOST_PROBE] [] s u := by
  refine ⟨_, runAt_op t hon rfl cmdProbe, ?_, fun hoff hdark => ?_, (OnlyChanges.put _ _ _ (by decide)).answer⟩
  · rw [State.get_answer _ _ (by decide), cmdProbe, State.get_put_same]
    rfl
  · have hsame : (cmdProbe (s.advance t)).darkCause = s.darkCause := darkCause_congr (fun f hf => State.is_put_ne _ _ (by revert f; decide))
    rw [State.answer_state]
    exact opticalState_probe (f := F.OP_STATE_HOST_PROBE) hoff (hsame.trans hdark) (by decide) (State.is_put_same _ _ _)

theorem resume_acts : ∃ u, exec (.resume t) s = .next u ∧ u.is F.OP_STATE_HOST_DARK = false ∧ u.is F.OP_STATE_OVERPOWER = false ∧
    u.is F.OP_STATE_LOOP_FAULT = false ∧ u.is F.OP_STATE_LAUNCH_OPEN = false ∧
    u.is F.OP_STATE_INTERLOCK = (s.is F.OP_STATE_INTERLOCK && !s.is F.OP_IL_LOOP_OK) ∧
    u.is F.OP_STATE_AMP_FAULT = (s.is F.OP_STATE_AMP_FAULT && !s.is F.OP_AMP_MON) ∧
    u.opt.owed = s.opt.owed ++ (if s.is F.OP_STATE_LOOP_FAULT then [.loop] else []) ++
      (if s.is F.OP_STATE_LAUNCH_OPEN then [.launchOpen] else []) ∧ OnlyChanges resumeFields [.opt] s u := by
  obtain ⟨hhost, hpower, hloop, hlaunch, hlocked, hamp, howed, honly⟩ := cmdResume_clears (s.advance t)
  refine ⟨_, runAt_op t hon rfl cmdResume, ?_, ?_, ?_, ?_, ?_, ?_, (State.answer_optics (·.owed) _ _).trans howed, honly.answer⟩
  all_goals rw [State.is_answer _ _ (by decide)]
  · exact hhost
  · exact hpower
  · exact hloop
  · exact hlaunch
  · exact hlocked
  · exact hamp

theorem restore_acts : ∃ u, exec (.restore t) s = .next u ∧ u.is F.OP_STATE_HOST_PROBE = false ∧
    u.is F.OP_STATE_DEADMAN = (s.is F.OP_STATE_DEADMAN && !s.opt.kickSince) ∧ u.is F.OP_BREAK_POS_VALID = false ∧
    u.is F.OP_STATE_BREAK = (s.is F.OP_STATE_BREAK && !s.is F.OP_BREAK_POS_VALID) ∧
    OnlyChanges [F.OP_STATE_HOST_PROBE, F.OP_STATE_DEADMAN, F.OP_BREAK_POS_VALID, F.OP_STATE_BREAK] [.opt] s u := by
  obtain ⟨hhost, hdeadman, hvalid, hbreak, honly⟩ := cmdRestore_clears (s.advance t)
  refine ⟨_, runAt_op t hon rfl cmdRestore, ?_, ?_, ?_, ?_, honly.answer⟩
  all_goals rw [State.is_answer _ _ (by decide)]
  · exact hhost
  · exact hdeadman
  · exact hvalid
  · exact hbreak

theorem rebase_acts : ∃ u, exec (.rebase t) s = .next u ∧ u.opt.ends = [] ∧ u.opt.collecting = true ∧ OnlyChanges [] [.opt] s u :=
  ⟨_, runAt_op t hon rfl cmdRebase, State.answer_optics (·.ends) _ _, State.answer_optics (·.collecting) _ _, (OnlyChanges.opt _ _ (by decide)).answer⟩

end

/-! ## The sources of the causes (R68, R78, R80, R89, R90) -/

section
variable {s : State} (t : Nat)

theorem laserUnlock_acts (hon : s.domainOn 4 = true) (hl : s.is F.OP_LASER_LOCKED = true) : ∃ u, exec (.laserUnlock t) s = .next u ∧
    u.get F.OP_LASER_LOCKED = 0 ∧ u.get F.OP_STATE_LASER = 1 ∧ (s.opt.off = false → u.get F.OP_STATE_STATE = 1) ∧
    OnlyChanges [F.OP_LASER_LOCKED, F.OP_STATE_LASER] [] s u := by
  obtain ⟨v, hv⟩ := exists_eq (a' := ((s.advance t).put F.OP_LASER_LOCKED 0).put F.OP_STATE_LASER 1)
  have hrun : inDomain 4 laserUnlock (s.advance t) = v.raise 0x010E wide 0 := by
    rw [inDomain_on (by exact hon), laserUnlock, if_pos (.inl hl), hv]
  have hlocked : v.get F.OP_LASER_LOCKED = 0 := by
    rw [hv, State.get_put_ne _ _ (by decide), State.get_put_same]
    rfl
  have hlaser : v.get F.OP_STATE_LASER = 1 := by
    rw [hv, State.get_put_same]
    rfl
  refine ⟨_, rfl, ?_, ?_, fun hoff => ?_, .answer (t := t) ?_⟩ <;> rw [hrun]
  · rw [State.get_answer _ _ (by decide), State.get_raise _ _ _ _ (by decide), hlocked]
  · rw [State.get_answer _ _ (by decide), State.get_raise _ _ _ _ (by decide), hlaser]
  · rw [State.answer_state]
    refine opticalState_dark (f := F.OP_STATE_LASER) ?_ (by decide) ?_
    · rw [State.raise_opt, hv]
      exact hoff
    · rw [State.is_raise _ _ _ _ (by decide), State.is, hlaser]
      rfl
  · rw [hv]
    exact ((OnlyChanges.put _ _ _ (by decide)).trans (.put _ _ _ (by decide))).trans (Posting.raise _ _ _ _).onlyChanges

theorem interlockOpen_acts (hon : s.domainOn 5 = true) : ∃ u, exec (.interlockOpen t) s = .next u ∧ u.get F.OP_IL_PIN = 1 ∧
    u.get F.OP_IL_LOOP_OK = 0 ∧ u.is F.OP_STATE_INTERLOCK = true ∧ (s.opt.off = false → u.get F.OP_STATE_STATE = 1) ∧
    OnlyChanges [F.OP_IL_PIN, F.OP_IL_LOOP_OK, F.OP_STATE_INTERLOCK] [] s u := by
  obtain ⟨d, hd⟩ := exists_eq (a' := ({ s.advance t with sched := { s.sched with light := none } } : State))
  obtain ⟨v, hv⟩ := exists_eq (a' := (d.put F.OP_IL_PIN 1).put F.OP_IL_LOOP_OK 0)
  have hrun : interlockOpen (s.advance t) = v.setCause F.OP_STATE_INTERLOCK 0x0102 wide 0 := by
    have hv5 : v.domainOn 5 = true := by
      rw [hv, State.domainOn_put _ _ _ (by decide), State.domainOn_put _ _ _ (by decide), hd]
      exact hon
    subst hv hd
    exact if_pos hv5
  have hset : OnlyChanges [F.OP_STATE_INTERLOCK] [] v (v.setCause F.OP_STATE_INTERLOCK 0x0102 wide 0) := .setCause _ _ _ _ (by decide)
  refine ⟨_, rfl, ?_, ?_, ?_, fun hoff => ?_, .answer (t := t) ?_⟩ <;> rw [hrun]
  · rw [State.get_answer _ _ (by decide), hset.1 _ (by decide) (by decide), hv, State.get_put_ne _ _ (by decide), State.get_put_same]
    rfl
  · rw [State.get_answer _ _ (by decide), hset.1 _ (by decide) (by decide), hv, State.get_put_same]
    rfl
  · rw [State.is_answer _ _ (by decide), is_setCause _ _ _ _ (by decide) rfl]
  · rw [State.answer_state]
    refine opticalState_dark (f := F.OP_STATE_INTERLOCK) ?_ (by decide) (is_setCause _ _ _ _ (by decide) rfl)
    rw [State.setCause_opt, hv, hd]
    exact hoff
  · have hdim : OnlyChanges [F.OP_IL_PIN, F.OP_IL_LOOP_OK, F.OP_STATE_INTERLOCK] [] (s.advance t) d := hd ▸ .light (s.advance t) none
    have hshown : OnlyChanges [F.OP_IL_PIN, F.OP_IL_LOOP_OK, F.OP_STATE_INTERLOCK] [] d v :=
      hv ▸ (OnlyChanges.put _ _ _ (by decide)).trans (.put _ _ _ (by decide))
    exact (hdim.trans hshown).trans (hset.mono (by decide) (by decide))

/-- INTERLOCK# low sets LOOP_OK, which then stands. -/
def State.showLoopOk (s : State) : State :=
  if s.is F.OP_IL_LOOP_OK then s else if s.domainOn 5 then (s.put F.OP_IL_LOOP_OK 1).raise 0x0103 wide 0 else s.put F.OP_IL_LOOP_OK 1

theorem showLoopOk_shows (s : State) : s.showLoopOk.is F.OP_IL_LOOP_OK = true ∧ OnlyChanges [F.OP_IL_LOOP_OK] [] s s.showLoopOk := by
  have hput : OnlyChanges [F.OP_IL_LOOP_OK] [] s (s.put F.OP_IL_LOOP_OK 1) := .put _ _ _ (by decide)
  refine ⟨?_, .ite (.refl s) (.ite (hput.trans (Posting.raise _ _ _ _).onlyChanges) hput)⟩
  unfold State.showLoopOk
  split
  · assumption
  · split
    · rw [State.is_raise _ _ _ _ (by decide), State.is_put_same]
      rfl
    · exact State.is_put_same _ _ _

theorem interlockOk_acts : ∃ u, exec (.interlockOk t) s = .next u ∧ u.get F.OP_IL_PIN = 0 ∧ u.is F.OP_IL_LOOP_OK = true ∧
    u.is F.OP_STATE_INTERLOCK = (s.is F.OP_STATE_INTERLOCK && !s.is F.OP_IL_AUTO) ∧
    OnlyChanges [F.OP_IL_PIN, F.OP_IL_LOOP_OK, F.OP_STATE_INTERLOCK] [] s u := by
  obtain ⟨p, hp⟩ := exists_eq (a' := (s.advance t).put F.OP_IL_PIN 0)
  obtain ⟨v, hv⟩ := exists_eq (a' := p.showLoopOk)
  have hrun : interlockOk (s.advance t) = if v.is F.OP_IL_AUTO then v.clearCause F.OP_STATE_INTERLOCK 0x0102 else v := by
    subst hv hp
    rfl
  have hpin : OnlyChanges [F.OP_IL_PIN] [] (s.advance t) p := hp ▸ .put _ _ _ (by decide)
  obtain ⟨hok, hshown⟩ := hv ▸ showLoopOk_shows p
  have hclear : OnlyChanges [F.OP_STATE_INTERLOCK] [] v (if v.is F.OP_IL_AUTO then v.clearCause F.OP_STATE_INTERLOCK 0x0102 else v) :=
    .ite (.clearCause _ _ (by decide)) (.refl v)
  have hkept {f : Fld} (h : f.key ∉ settleKeys) (h2 : f.key ∉ [F.OP_IL_PIN.key, F.OP_IL_LOOP_OK.key]) : v.is f = s.is f := by
    simp only [List.mem_cons, List.not_mem_nil, or_false, not_or] at h2
    rw [hshown.is h (by simpa using h2.2), hpin.is h (by simpa using h2.1), State.is_advance]
  refine ⟨_, rfl, ?_, ?_, ?_, .answer (t := t) ?_⟩ <;> rw [hrun]
  · rw [State.get_answer _ _ (by decide), hclear.1 _ (by decide) (by decide), hshown.1 _ (by decide) (by decide), hp, State.get_put_same]
    rfl
  · rw [State.is_answer _ _ (by decide), hclear.is (by decide) (by decide), hok]
  · rw [State.is_answer _ _ (by decide), is_clearCause_if _ _ (by decide), hkept (by decide) (by decide), hkept (by decide) (by decide)]
  · exact ((hpin.mono (by decide) (by decide)).trans (hshown.mono (by decide) (by decide))).trans (hclear.mono (by decide) (by decide))

theorem ampMonRise_acts (s : State) : ∃ u, exec (.ampMonRise t) s = .next u ∧ u.get F.OP_AMP_MON = 1 ∧ OnlyChanges [F.OP_AMP_MON] [] s u := by
  have hseen (v : State) : OnlyChanges [F.OP_AMP_MON] [] v { v with opt := { v.opt with ampSeen := true } } := (Quiet.amp v v.opt.ampSince true).onlyChanges
  refine ⟨_, rfl, ?_, .answer (t := t) ((OnlyChanges.put _ _ _ (by decide)).trans (hseen _))⟩
  rw [State.get_answer _ _ (by decide), ampMonRise, State.get_mk, State.get_put_same]
  rfl

/-- The amplifier's fault sets its cause, with which the state is DARK. -/
theorem setAmpFault_dark {v : State} (hoff : v.opt.off = false) (code : Nat) (q : List Instr) :
    ((v.setCause F.OP_STATE_AMP_FAULT code wide 0).answer q).is F.OP_STATE_AMP_FAULT = true ∧
    ((v.setCause F.OP_STATE_AMP_FAULT code wide 0).answer q).get F.OP_STATE_STATE = 1 := by
  have hset : (v.setCause F.OP_STATE_AMP_FAULT code wide 0).is F.OP_STATE_AMP_FAULT = true := is_setCause _ _ _ _ (by decide) rfl
  refine ⟨(State.is_answer _ _ (by decide)).trans hset, (State.answer_state _ _).trans (opticalState_dark ?_ (by decide) hset)⟩
  rw [State.setCause_opt, hoff]

theorem ampFault_acts (hu : s.is F.OP_AMP_USE = true) (ho : 2 ≤ s.opticalState) (hs : s.opt.ampSeen = true) :
    ∃ u, exec (.ampFault t) s = .next u ∧ u.get F.OP_AMP_MON = 0 ∧ u.is F.OP_STATE_AMP_FAULT = true ∧ u.get F.OP_STATE_STATE = 1 ∧
    OnlyChanges [F.OP_AMP_MON, F.OP_STATE_AMP_FAULT] [] s u := by
  obtain ⟨v, hv⟩ := exists_eq (a' := (s.advance t).put F.OP_AMP_MON 0)
  have hlow : OnlyChanges [F.OP_AMP_MON] [] (s.advance t) v := hv ▸ .put _ _ _ (by decide)
  have hopt : v.opt = s.opt := hv ▸ rfl
  have hstate : v.opticalState = s.opticalState :=
    opticalState_congr (by rw [hopt]) (fun f hf => hlow.is (by revert f; decide) (by revert f; decide))
      (fun f hf => hlow.is (by revert f; decide) (by revert f; decide))
  have hrun : ampFault (s.advance t) = v.setCause F.OP_STATE_AMP_FAULT 0x010C wide 0 := by
    have hcond : v.is F.OP_AMP_USE = true ∧ v.opticalState ≥ 2 ∧ (s.advance t).opt.ampSeen = true :=
      ⟨(hlow.is (by decide) (by decide)).trans hu, hstate ▸ ho, hs⟩
    subst hv
    exact if_pos hcond
  obtain ⟨hcause, hdark⟩ := setAmpFault_dark (v := v) (by rw [hopt]; exact (lit_of_opticalState ho).1) 0x010C s.pending
  have hset : OnlyChanges [F.OP_STATE_AMP_FAULT] [] v (v.setCause F.OP_STATE_AMP_FAULT 0x010C wide 0) := .setCause _ _ _ _ (by decide)
  refine ⟨_, rfl, ?_, ?_, ?_, .answer (t := t) ?_⟩ <;> rw [hrun]
  · rw [State.get_answer _ _ (by decide), hset.1 _ (by decide) (by decide), hv, State.get_put_same]
    rfl
  · exact hcause
  · exact hdark
  · exact (hlow.mono (by decide) (by decide)).trans (hset.mono (by decide) (by decide))

theorem ampNotReady_acts (hu : s.is F.OP_AMP_USE = true) (ho : 2 ≤ s.opticalState) (hs : s.opt.ampSeen = false)
    (ht : s.opt.ampSince + s.get F.OP_AMP_READY_TMO * ms ≤ t) : ∃ u, exec (.ampNotReady t) s = .next u ∧ u.is F.OP_STATE_AMP_FAULT = true ∧
    u.get F.OP_STATE_STATE = 1 ∧ OnlyChanges [F.OP_STATE_AMP_FAULT] [] s u := by
  have hrun : ampNotReady (s.advance t) = (s.advance t).setCause F.OP_STATE_AMP_FAULT 0x010D wide 0 := by
    have hwait : (s.advance t).ampWaiting = true := by
      have ho' : 2 ≤ (s.advance t).opticalState := ho
      simp [State.ampWaiting, hu, ho', hs]
    exact if_pos ⟨hwait, Nat.le_trans ht (Nat.le_max_right _ _)⟩
  obtain ⟨hcause, hdark⟩ := setAmpFault_dark (v := s.advance t) (lit_of_opticalState ho).1 0x010D s.pending
  refine ⟨_, rfl, ?_, ?_, .answer (t := t) ?_⟩ <;> rw [hrun]
  · exact hcause
  · exact hdark
  · exact .setCause _ _ _ _ (by decide)

theorem deadmanExpired_acts {d : Nat} (hd : s.opt.dmDeadline = some d) (hr : s.opt.dmRunning = true) (he : s.is F.OP_DM_CFG_EN = true) (ht : d ≤ t) :
    ∃ u, exec (.deadmanExpired t) s = .next u ∧ u.get F.OP_DM_STATUS_EXPIRED = 1 ∧ u.get F.OP_STATE_DEADMAN = 1 ∧
    (s.opt.off = false → s.darkCause = false → u.get F.OP_STATE_STATE = 2) ∧ OnlyChanges [F.OP_DM_STATUS_EXPIRED, F.OP_STATE_DEADMAN] [.opt] s u := by
  obtain ⟨w, hw⟩ := exists_eq (a' := ({ s.advance t with opt := { s.opt with dmDeadline := none, kickSince := false } } : State))
  obtain ⟨v, hv⟩ := exists_eq (a' := (w.put F.OP_DM_STATUS_EXPIRED 1).put F.OP_STATE_DEADMAN 1)
  have hrun : deadmanExpired (s.advance t) = v.raise 0x0104 wide 0 := by
    have hcond : (s.advance t).opt.dmRunning = true ∧ (s.advance t).is F.OP_DM_CFG_EN = true ∧ d ≤ (s.advance t).now :=
      ⟨hr, he, Nat.le_trans ht (Nat.le_max_right _ _)⟩
    rw [deadmanExpired, State.advance_opt, hd, hv, hw]
    exact if_pos hcond
  have hdeadman : v.get F.OP_STATE_DEADMAN = 1 := by
    rw [hv, State.get_put_same]
    rfl
  have honly : OnlyChanges [F.OP_DM_STATUS_EXPIRED, F.OP_STATE_DEADMAN] [.opt] (s.advance t) v := by
    rw [hv, hw]
    exact ((OnlyChanges.opt _ _ (by decide)).trans (.put _ _ _ (by decide))).trans (.put _ _ _ (by decide))
  have hraise : OnlyChanges [] [] v (v.raise 0x0104 wide 0) := (Posting.raise _ _ _ _).onlyChanges
  refine ⟨_, rfl, ?_, ?_, fun hoff hdark => ?_, .answer (t := t) ?_⟩ <;> rw [hrun]
  · rw [State.get_answer _ _ (by decide), State.get_raise _ _ _ _ (by decide), hv, State.get_put_ne _ _ (by decide), State.get_put_same]
    rfl
  · rw [State.get_answer _ _ (by decide), State.get_raise _ _ _ _ (by decide), hdeadman]
  · have hsame : (v.raise 0x0104 wide 0).darkCause = s.darkCause := darkCause_congr (fun f hf =>
      (hraise.is (by revert f; decide) (by simp)).trans (honly.is (by revert f; decide) (by revert f; decide)))
    rw [State.answer_state]
    refine opticalState_probe (f := F.OP_STATE_DEADMAN) ?_ (hsame.trans hdark) (by decide) ?_
    · rw [State.raise_opt, hv, hw]
      exact hoff
    · rw [State.is_raise _ _ _ _ (by decide), State.is, hdeadman]
      rfl
  · exact honly.trans (hraise.mono (by simp) (by simp))

end

/-! ## The safe-optical fuse (R73, R77) -/

/-- The ceilings in force after they are brought to their settings; the fuse limits both. -/
theorem syncCeilings_limits (s : State) :
    OnlyChanges [F.OP_CEIL_AVG_EFFECTIVE, F.OP_CEIL_PULSE_EFFECTIVE, F.OP_LOOP_MAX, F.OP_AVG_WIN_SWEEPS] [] s s.syncCeilings ∧
    s.syncCeilings.opt = s.opt ∧ s.syncCeilings.otp = s.otp ∧
    (s.is F.OP_FUSE_STATUS_FUSED = true → s.syncCeilings.get F.OP_CEIL_AVG_EFFECTIVE ≤ 350 ∧ s.syncCeilings.get F.OP_CEIL_PULSE_EFFECTIVE ≤ 5000) := by
  unfold State.syncCeilings
  extract_lets fused avg pulse loop
  have hloop : OnlyChanges [F.OP_LOOP_MAX] [] pulse loop := .ite (.put _ _ _ (by decide)) (.refl _)
  obtain ⟨w, hw⟩ := exists_eq (a' := if loop.period = 0 then loop else loop.putSat F.OP_AVG_WIN_SWEEPS (loop.windowLen / loop.period))
  have hwin : OnlyChanges [F.OP_AVG_WIN_SWEEPS] [] loop w := hw ▸ .ite (.refl _) (.put _ _ _ (by decide))
  have hopt : w.opt = s.opt := by
    have hl : loop.opt = s.opt := by
      dsimp only [loop]
      split <;> rfl
    rw [hw]
    split
    · exact hl
    · rw [State.putSat_opt, hl]
  have hcut (x n w : Nat) : min x n % 2 ^ w ≤ n := Nat.le_trans (Nat.mod_le _ _) (Nat.min_le_right _ _)
  rw [← hw]
  refine ⟨?_, hopt, ?_, fun hf => ?_⟩
  · have hpulse : OnlyChanges [F.OP_CEIL_AVG_EFFECTIVE, F.OP_CEIL_PULSE_EFFECTIVE, F.OP_LOOP_MAX, F.OP_AVG_WIN_SWEEPS] [] s pulse :=
      (OnlyChanges.put _ _ _ (by decide)).trans (.put _ _ _ (by decide))
    exact (hpulse.trans (hloop.mono (by decide) (by decide))).trans (hwin.mono (by decide) (by decide))
  · rw [show w.otp = loop.otp from hwin.2 .otp (by decide), show loop.otp = pulse.otp from hloop.2 .otp (by decide)]
    rfl
  · have hfused : fused = true := hf
    rw [hwin.1 _ (by decide) (by decide), hwin.1 _ (by decide) (by decide), hloop.1 _ (by decide) (by decide), hloop.1 _ (by decide) (by decide)]
    constructor
    · rw [State.get_put_ne _ _ (by decide), State.get_put_same, if_pos hfused]
      exact hcut _ _ _
    · rw [State.get_put_same, if_pos hfused]
      exact hcut _ _ _

section
variable {s : State} (t : Nat) (hon : s.domainOn 5 = true)

theorem fuseRefuse_answers (s : State) (result : Nat) (q : List Instr) : ((s.fuseRefuse result).answer q).opt.fuseOpen = none ∧
    ((s.fuseRefuse result).answer q).get F.OP_FUSE_STATUS_RESULT = result % 8 ∧
    OnlyChanges [F.OP_FUSE_STATUS_RESULT] [.opt] s (s.fuseRefuse result) := by
  refine ⟨?_, ?_, ((OnlyChanges.opt _ _ (by decide)).trans (.put _ _ _ (by decide))).trans (Posting.raise _ _ _ _).onlyChanges⟩
  · refine (State.answer_optics (·.fuseOpen) _ _).trans ?_
    rw [State.fuseRefuse, State.raise_opt, State.put_opt]
  · rw [State.get_answer _ _ (by decide), State.fuseRefuse, State.get_raise _ _ _ _ (by decide), State.get_put_same]
    rfl

include hon

theorem fuseArm_opens : ∃ u, exec (.fuseArm t) s = .next u ∧ u.opt.fuseOpen = some (max s.now t) ∧ OnlyChanges [] [.opt] s u :=
  ⟨_, runAt_op t hon rfl fuseArm, State.answer_optics (·.fuseOpen) _ _, (OnlyChanges.opt _ _ (by decide)).answer⟩

theorem fuseBlow_blows {t0 : Nat} (h0 : s.opt.fuseOpen = some t0) (ht : max s.now t ≤ t0 + ms) (hl : s.otp.life = 1 ∨ s.otp.life = 2)
    (ho : s.opticalState ≤ 1) (htt : ∀ tt, s.activeTimetable = some tt → tt.inlineAmp = false ∧ s.get F.TT_FIBRE_END_L_F ≤ 100000000)
    (hu : s.is F.OP_AMP_USE = false) : ∃ u, exec (.fuseBlow t) s = .next u ∧ u.otp = { s.otp with safeOpt := true } ∧
    u.get F.OP_FUSE_STATUS_FUSED = 1 ∧ u.get F.OP_FUSE_STATUS_RESULT = 1 ∧ u.get F.OP_CEIL_AVG_EFFECTIVE ≤ 350 ∧
    u.get F.OP_CEIL_PULSE_EFFECTIVE ≤ 5000 ∧ u.opt.fuseOpen = none := by
  obtain ⟨w, hw⟩ := exists_eq (a' := ({ s.advance t with opt := { s.opt with fuseOpen := none }, otp := { s.otp with safeOpt := true } } : State))
  obtain ⟨v, hv⟩ := exists_eq (a' := (w.put F.OP_FUSE_STATUS_FUSED 1).put F.OP_FUSE_STATUS_RESULT 1)
  have hrun : fuseBlow (s.advance t) = v.syncCeilings.raise 0x0110 wide 0 := by
    have htime : ¬ (s.advance t).now > t0 + ms := Nat.not_lt.mpr ht
    have hlife : ¬ ((s.advance t).otp.life ≠ 1 ∧ (s.advance t).otp.life ≠ 2) := by
      rw [State.advance_otp]
      omega
    have hstate : ¬ (s.advance t).opticalState ≥ 2 := Nat.not_le.mpr (Nat.lt_succ_of_le ho)
    rw [fuseBlow, State.advance_opt, h0]
    dsimp only
    rw [if_neg htime, if_neg hlife, if_neg hstate, hv, hw]
    refine if_neg ?_
    rintro (hlong | huse)
    · split at hlong
      next tt h =>
        obtain ⟨hamp, hlen⟩ := htt tt h
        rw [hamp, Bool.false_or, decide_eq_true_eq] at hlong
        exact absurd hlen (Nat.not_le.mpr hlong)
      next => exact Bool.false_ne_true hlong
    · exact Bool.false_ne_true (hu.symm.trans huse)
  obtain ⟨honly, hopt, hotp, hlimits⟩ := syncCeilings_limits v
  have hfused : v.get F.OP_FUSE_STATUS_FUSED = 1 := by
    rw [hv, State.get_put_ne _ _ (by decide), State.get_put_same]
    rfl
  obtain ⟨havg, hpulse⟩ := hlimits (by rw [State.is, hfused]; rfl)
  refine ⟨_, runAt_op t hon rfl fuseBlow, ?_, ?_, ?_, ?_, ?_, ?_⟩
  · rw [hrun, State.answer_otp, State.raise_otp, hotp, hv, hw]
    rfl
  · rw [hrun, State.get_answer _ _ (by decide), State.get_raise _ _ _ _ (by decide), honly.1 _ (by decide) (by decide), hfused]
  · rw [hrun, State.get_answer _ _ (by decide), State.get_raise _ _ _ _ (by decide), honly.1 _ (by decide) (by decide), hv, State.get_put_same]
    rfl
  · rw [hrun, State.get_answer _ _ (by decide), State.get_raise _ _ _ _ (by decide)]
    exact havg
  · rw [hrun, State.get_answer _ _ (by decide), State.get_raise _ _ _ _ (by decide)]
    exact hpulse
  · refine (State.answer_optics (·.fuseOpen) _ _).trans ?_
    rw [hrun, State.raise_opt, hopt, hv, hw]
    rfl

theorem fuseBlow_refused (h : s.opt.fuseOpen = none ∨ ∃ t0, s.opt.fuseOpen = some t0 ∧ t0 + ms < max s.now t) :
    ∃ u, exec (.fuseBlow t) s = .next u ∧ u.get F.OP_FUSE_STATUS_RESULT = 5 ∧ OnlyChanges [F.OP_FUSE_STATUS_RESULT] [.opt] s u := by
  have hrun : fuseBlow (s.advance t) = (s.advance t).fuseRefuse 5 := by
    rcases h with h | ⟨t0, h, ht⟩
    · rw [fuseBlow, State.advance_opt, h]
    · rw [fuseBlow, State.advance_opt, h]
      exact if_pos ht
  obtain ⟨-, hresult, honly⟩ := fuseRefuse_answers (s.advance t) 5 s.pending
  refine ⟨_, runAt_op t hon rfl fuseBlow, ?_, .answer (t := t) ?_⟩ <;> rw [hrun]
  · exact hresult
  · exact honly

theorem fuseOtherValue_ends {v t0 : Nat} (h1 : v ≠ 0x5AFE) (h2 : v ≠ 0xF05E) (h0 : s.opt.fuseOpen = some t0) :
    ∃ u, exec (.fuseOtherValue t v) s = .next u ∧ u.opt.fuseOpen = none ∧ u.get F.OP_FUSE_STATUS_RESULT = 5 ∧
    OnlyChanges [F.OP_FUSE_STATUS_RESULT] [.opt] s u := by
  have hrun : fuseWrite v (s.advance t) = (s.advance t).fuseRefuse 5 := by
    rw [fuseWrite, if_neg h1, if_neg h2, fuseOther, State.advance_opt, h0]
    rfl
  obtain ⟨hopen, hresult, honly⟩ := fuseRefuse_answers (s.advance t) 5 s.pending
  refine ⟨_, runAt_op t hon rfl (fuseWrite v), ?_, ?_, .answer (t := t) ?_⟩ <;> rw [hrun]
  · exact hopen
  · exact hresult
  · exact honly

end

/-! ## The dead-man timer (R79, R81) -/

section
variable {s : State} (t : Nat) (hon : s.domainOn 5 = true) (hr : s.opt.dmRunning = true)

theorem dmReload_deadline (v : State) (q : List Instr) : (v.dmReload.answer q).opt.dmDeadline = some (v.now + v.get F.OP_DM_CFG_TIMEOUT * ms) :=
  State.answer_optics (·.dmDeadline) _ _

include hon hr

theorem kick_valid {v : Nat} (hv : v = 0xA5 ∨ v = 0x5A) (hl : s.opt.lastKick ≠ some v) : ∃ u, exec (.kick t v) s = .next u ∧
    u.opt.lastKick = some v ∧ u.opt.kickSince = true ∧ u.get F.OP_DM_STATUS_EXPIRED = 0 ∧
    u.opt.dmDeadline = some (max s.now t + s.get F.OP_DM_CFG_TIMEOUT * ms) ∧ OnlyChanges [F.OP_DM_STATUS_EXPIRED] [.opt] s u := by
  obtain ⟨w, hw⟩ := exists_eq (a' := State.put { s.advance t with opt := { s.opt with lastKick := some v, kickSince := true } } F.OP_DM_STATUS_EXPIRED 0)
  have hrun : kick v (s.advance t) = w.dmReload := by
    rw [kick, State.advance_opt, hr, if_neg (by simp), if_pos ⟨hv, hl⟩, hw]
  have hopt : w.opt = { s.opt with lastKick := some v, kickSince := true } := hw ▸ rfl
  have honly : OnlyChanges [F.OP_DM_STATUS_EXPIRED] [.opt] (s.advance t) w :=
    hw ▸ (OnlyChanges.opt (s.advance t) _ (by decide)).trans (.put _ _ _ (by decide))
  refine ⟨_, runAt_op t hon rfl (kick v), ?_, ?_, ?_, ?_, .answer (t := t) ?_⟩ <;> rw [hrun]
  · refine (State.answer_optics (·.lastKick) _ _).trans ?_
    rw [State.dmReload, hopt]
  · refine (State.answer_optics (·.kickSince) _ _).trans ?_
    rw [State.dmReload, hopt]
  · rw [State.get_answer _ _ (by decide), State.dmReload, State.get_mk, hw, State.get_put_same]
    rfl
  · rw [dmReload_deadline, honly.1 _ (by decide) (by decide), hw]
    rfl
  · exact honly.trans (.opt _ _ (by decide))

theorem kick_bad {v : Nat} (hv : ¬ ((v = 0xA5 ∨ v = 0x5A) ∧ s.opt.lastKick ≠ some v)) : ∃ u, exec (.kick t v) s = .next u ∧
    u.get F.OP_DM_STATUS_BADKICK = 1 ∧
    u.get F.OP_BADKICKS_COUNT = min (s.get F.OP_BADKICKS_COUNT + 1) (2 ^ F.OP_BADKICKS_COUNT.width - 1) ∧
    OnlyChanges [F.OP_DM_STATUS_BADKICK, F.OP_BADKICKS_COUNT, F.OP_CNT_SAT_KICK_SAT] [] s u := by
  have hrun : kick v (s.advance t) = ((s.advance t).put F.OP_DM_STATUS_BADKICK 1).bump F.OP_BADKICKS_COUNT F.OP_CNT_SAT_KICK_SAT 1 := by
    rw [kick, State.advance_opt, hr, if_neg (by simp), if_neg hv]
  refine ⟨_, runAt_op t hon rfl (kick v), ?_, ?_, .answer (t := t) ?_⟩ <;> rw [hrun]
  · rw [State.get_answer _ _ (by decide), State.get_bump_ne _ _ (by decide) (by decide), State.get_put_same]
    rfl
  · rw [State.get_answer _ _ (by decide), State.get_bump_same _ _ (by decide), State.get_put_ne _ _ (by decide), State.get_advance]
  · exact (OnlyChanges.put _ _ _ (by decide)).trans (.bump _ _ _ _ (by decide) (by decide))

theorem dmCfgWrite_acts (src : Source) (v : Nat) : ∃ u, exec (.dmCfgWrite src t v) s = .next u ∧
    u.get F.OP_DM_CFG_TIMEOUT =
      max 10 (if s.is F.OP_DM_CFG_LOCKED then min (v % 2 ^ 20) s.opt.dmLimit else v % 2 ^ 20) % 2 ^ F.OP_DM_CFG_TIMEOUT.width ∧
    u.get F.OP_DM_CFG_EN = (if s.is F.OP_DM_CFG_LOCKED ∧ v / 2 ^ 31 % 2 = 0 then s.get F.OP_DM_CFG_EN else v / 2 ^ 31 % 2) ∧
    u.opt.dmDeadline = some (max s.now t + u.get F.OP_DM_CFG_TIMEOUT * ms) ∧
    OnlyChanges [F.OP_DM_CFG_TIMEOUT, F.OP_DM_CFG_EN] [.opt] s u := by
  obtain ⟨e, he⟩ := exists_eq (a' := if s.is F.OP_DM_CFG_LOCKED ∧ v / 2 ^ 31 % 2 = 0 then s.advance t else
    (s.advance t).put F.OP_DM_CFG_EN (v / 2 ^ 31 % 2))
  have hen : OnlyChanges [F.OP_DM_CFG_EN] [] (s.advance t) e := he ▸ .ite (.refl _) (.put _ _ _ (by decide))
  have heo : e.opt = s.opt := by
    rw [he]
    split <;> rfl
  have henow : e.now = max s.now t := by
    rw [he]
    split <;> rfl
  have hget : e.get F.OP_DM_CFG_EN = if s.is F.OP_DM_CFG_LOCKED ∧ v / 2 ^ 31 % 2 = 0 then s.get F.OP_DM_CFG_EN else v / 2 ^ 31 % 2 := by
    rw [he]
    split
    · rfl
    · rw [State.get_put_same]
      exact Nat.mod_mod _ _
  obtain ⟨w, hw⟩ := exists_eq (a' := e.put F.OP_DM_CFG_TIMEOUT
    (max 10 (if s.is F.OP_DM_CFG_LOCKED then min (v % 2 ^ 20) s.opt.dmLimit else v % 2 ^ 20)))
  have hrun : dmCfgWrite v (s.advance t) = w.dmReload := by
    have hlimit : e.opt.dmLimit = s.opt.dmLimit := by rw [heo]
    have hwrun : w.opt.dmRunning = true := by
      rw [hw, State.put_opt, heo]
      exact hr
    rw [← hlimit] at hw
    subst he hw
    exact if_pos hwrun
  have hnow : w.now = max s.now t := hw ▸ henow
  have htimeout : (w.dmReload.answer s.pending).get F.OP_DM_CFG_TIMEOUT = w.get F.OP_DM_CFG_TIMEOUT := State.get_answer _ _ (by decide)
  refine ⟨_, runAt_op t hon rfl (dmCfgWrite v), ?_, ?_, ?_, .answer (t := t) ?_⟩ <;> rw [hrun]
  · rw [htimeout, hw, State.get_put_same]
  · rw [State.get_answer _ _ (by decide), State.dmReload, State.get_mk, hw, State.get_put_ne _ _ (by decide), hget]
  · rw [dmReload_deadline, htimeout, hnow]
  · rw [hw]
    exact ((hen.mono (by decide) (by decide)).trans (.put _ _ _ (by decide))).trans (.opt _ _ (by decide))

end

end Sys2Proof.Machine

section
open Sys2Proof Sys2Proof.Machine

/-- Settles O9: each command of OP_CTRL is a fact of its own; RESUME and RESTORE clear their causes one after the other. -/
theorem opticalCommandsAct : Obligations.OpticalCommandsAct := by
  intro s t hon
  exact ⟨dark_acts t hon, probe_acts t hon, resume_acts t hon, restore_acts t hon, rebase_acts t hon⟩

/-- Settles O10: each source of a cause is a fact of its own. -/
theorem causesFollowTheirSources : Obligations.CausesFollowTheirSources := by
  intro s t
  refine ⟨?laser, ?interlockOpen, ?interlockOk, ?rise, ?fault, ?notReady, ?deadman⟩
  case laser => exact fun hon hl => laserUnlock_acts t hon hl
  case interlockOpen => exact fun hon => interlockOpen_acts t hon
  case interlockOk => exact fun _ => interlockOk_acts t
  case rise => exact ampMonRise_acts t s
  case fault => exact fun hu ho hs => ampFault_acts t hu ho hs
  case notReady => exact fun hu ho hs ht => ampNotReady_acts t hu ho hs ht
  case deadman => exact fun _ hd hr he ht => deadmanExpired_acts t hd hr he ht

/-- Settles O11: the sequence opens, blows within its 1 ms under its conditions, and else is refused. -/
theorem fuseNeedsItsSequence : Obligations.FuseNeedsItsSequence := by
  intro s t hon
  refine ⟨fuseArm_opens t hon, ?blows, fuseBlow_refused t hon, ?other⟩
  case blows => exact fun _ h0 ht hl ho htt hu => fuseBlow_blows t hon h0 ht hl ho htt hu
  case other => exact fun _ _ h1 h2 h0 => fuseOtherValue_ends t hon h1 h2 h0

/-- Settles O12: a valid kick, any other kick and a setting are facts of their own. -/
theorem deadmanTimerAct : Obligations.DeadmanTimerAct := by
  intro s t hon hr
  exact ⟨fun _ hv hl => kick_valid t hon hr hv hl, fun _ hv => kick_bad t hon hr hv, dmCfgWrite_acts t hon hr⟩

end

/-!
Diagnostic and re-test pulses: what the monitors measure and how a pulse is judged (R72-R76, R82, R83).
-/

namespace Sys2Proof.Machine

/-! ## What a pulse at the monitors leaves alone -/

/-- The registers that the loop check, the averaging window and the cuts of a pulse may write. -/
def monitorFields : List Fld :=
  [F.OP_MON_AVG_TX_AVG, F.OP_MON_AVG_SENSE_AVG, F.OP_DIAG_ACTIVE, F.OP_LOOP_GAIN, F.OP_CUTS_COUNT, F.OP_CNT_SAT_CUT_SAT, F.OP_STATE_OVERPOWER]

/-- From `s` to `u` the monitors' account goes on: the registers of `monitorFields`, the optical engine but for the re-tests owed and the sweep of
the latest diagnostic pulse, and the count of free values may change. -/
structure Monitored (s u : State) : Prop where
  only : OnlyChanges monitorFields [.opt, .freeCtr] s u
  owed : u.opt.owed = s.opt.owed
  diagSweep : u.opt.diagSweep = s.opt.diagSweep

namespace Monitored

variable {s u w : State}

theorem refl : Monitored s s := ⟨.refl s, rfl, rfl⟩

theorem trans (a : Monitored s u) (b : Monitored u w) : Monitored s w := ⟨a.only.trans b.only, b.owed.trans a.owed, b.diagSweep.trans a.diagSweep⟩

theorem ite {c : Prop} [Decidable c] {a b : State} (ha : Monitored s a) (hb : Monitored s b) : Monitored s (if c then a else b) := by
  split
  · exact ha
  · exact hb

theorem put (h : Monitored s w) {f : Fld} {v : Nat} (hf : f.key ∈ monitorFields.map (·.key) := by decide) : Monitored s (w.put f v) :=
  h.trans ⟨.put _ _ _ hf, rfl, rfl⟩

/-- A change of the optical engine that keeps the re-tests owed and the sweep of the latest diagnostic pulse. -/
theorem opt (h : Monitored s w) {x : Optics} (ho : x.owed = w.opt.owed) (hd : x.diagSweep = w.opt.diagSweep) :
    Monitored s { w with opt := x } :=
  h.trans ⟨.opt _ _ (by decide), ho, hd⟩

theorem posting (h : Monitored s w) (hp : Posting w u) : Monitored s u := h.trans ⟨hp.onlyChanges, by rw [hp.opt], by rw [hp.opt]⟩

theorem setCause (h : Monitored s w) {f : Fld} {code inst val : Nat} (hf : f.key ∈ monitorFields.map (·.key) := by decide) :
    Monitored s (w.setCause f code inst val) :=
  h.trans ⟨.setCause _ _ _ _ hf, by rw [State.setCause_opt], by rw [State.setCause_opt]⟩

theorem syncWindow (h : Monitored s w) : Monitored s w.syncWindow := by
  unfold State.syncWindow
  extract_lets pruned shown low was active
  have hpruned : Monitored s pruned := .opt h rfl rfl
  have hactive : Monitored s active := .put (.put (.put hpruned))
  exact .ite (.opt hactive rfl rfl) hactive

theorem cut (h : Monitored s w) {se : Nat} : Monitored s (w.cut se) := by
  unfold State.cut
  extract_lets counted raised recent opt sched dimmed
  have hcounted : Monitored s counted := h.trans ⟨.bump _ _ _ _ (by decide) (by decide), by rw [State.bump_opt], by rw [State.bump_opt]⟩
  have hraised : Monitored s raised := hcounted.posting (Posting.raiseLimited _ _ _ _ _ _)
  have hnoted : Monitored s { raised with opt := { raised.opt with cuts := recent } } := .opt hraised rfl rfl
  have hdimmed : Monitored s dimmed := hnoted.trans ⟨.light _ none, rfl, rfl⟩
  exact .ite (.setCause hdimmed) hdimmed

theorem putGain (h : Monitored s w) {tx se : Nat} : Monitored s (w.putGain tx se) := by
  have hfree : Monitored w (w.free F.OP_LOOP_GAIN.width).2 :=
    ⟨⟨fun _ _ _ => rfl, fun p hp => by cases p with | freeCtr => exact absurd (by decide) hp | _ => rfl⟩, rfl, rfl⟩
  exact .ite (.put (h.trans hfree)) (.put h)

theorem loopCheck (h : Monitored s w) {tx se : Nat} {diag : Bool} : Monitored s (w.loopCheck tx se diag) :=
  .ite h (.opt (.putGain h) rfl rfl)

end Monitored

/-! ## One pulse measured and judged (R72, R82, R83) -/

/-- A pulse has been measured and judged: the energies are shown and the monitors that missed it, the sweep is noted, and what is owed, the fuses,
memory and the switch are as before. -/
structure Judged (tx se : Nat) (s u : State) : Prop where
  txShown : u.get F.OP_MON_LAST_TX_ENERGY = min tx (2 ^ F.OP_MON_LAST_TX_ENERGY.width - 1)
  senseShown : u.get F.OP_MON_LAST_SENSE_ENERGY = min se (2 ^ F.OP_MON_LAST_SENSE_ENERGY.width - 1)
  missTx : u.is F.OP_DIAG_MISS_TX = decide (tx < 50)
  missSense : u.is F.OP_DIAG_MISS_SENSE = decide (se < 50)
  seen : 50 ≤ tx → 50 ≤ se → u.get F.OP_DIAG_MISSED = 0
  sweep : u.opt.diagSweep = some s.sched.sweeps
  owed : u.opt.owed = s.opt.owed
  otp : u.otp = s.otp
  mem : u.mem = s.mem
  sw : u.sw = s.sw

section
variable {tx se : Nat} {s u w : State}

/-- A pulse that is judged stays so in the answer. -/
theorem Judged.answer (h : Judged tx se s u) (q : List Instr) : Judged tx se s (u.answer q) :=
  { txShown := (State.get_answer _ _ (by decide)).trans h.txShown
    senseShown := (State.get_answer _ _ (by decide)).trans h.senseShown
    missTx := (State.is_answer _ _ (by decide)).trans h.missTx
    missSense := (State.is_answer _ _ (by decide)).trans h.missSense
    seen := fun ht hs => (State.get_answer _ _ (by decide)).trans (h.seen ht hs)
    sweep := (State.answer_optics (·.diagSweep) _ _).trans h.sweep
    owed := (State.answer_optics (·.owed) _ _).trans h.owed
    otp := (State.answer_otp _ _).trans h.otp
    mem := (State.answer_mem _ _).trans h.mem
    sw := (State.answer_sw _ _).trans h.sw }

/-- A pulse that is judged stays so where a cause of DARK is set. -/
theorem Judged.setCause (h : Judged tx se s u) (f : Fld) (code inst val : Nat) (hf : f ∈ [F.OP_STATE_LOOP_FAULT, F.OP_STATE_LAUNCH_OPEN]) :
    Judged tx se s (u.setCause f code inst val) := by
  have honly : OnlyChanges [F.OP_STATE_LOOP_FAULT, F.OP_STATE_LAUNCH_OPEN] [] u (u.setCause f code inst val) :=
    .setCause _ _ _ _ (List.mem_map_of_mem hf)
  exact
    { txShown := (honly.1 _ (by decide) (by decide)).trans h.txShown
      senseShown := (honly.1 _ (by decide) (by decide)).trans h.senseShown
      missTx := (honly.is (by decide) (by decide)).trans h.missTx
      missSense := (honly.is (by decide) (by decide)).trans h.missSense
      seen := fun ht hs => (honly.1 _ (by decide) (by decide)).trans (h.seen ht hs)
      sweep := by rw [State.setCause_opt, h.sweep]
      owed := by rw [State.setCause_opt, h.owed]
      otp := (honly.2 .otp (by decide)).trans h.otp
      mem := (honly.2 .mem (by decide)).trans h.mem
      sw := (honly.2 .sw (by decide)).trans h.sw }

/-- The light that leaves and the two energies that it shows at the monitors. -/
def State.measure (s : State) (tx se len : Nat) : State :=
  let s := { s with sched := { s.sched with light := some (s.now, s.now + len) } }
  let s := { s with opt := { s.opt with window := (s.now, (tx, se)) :: s.opt.window } }
  (s.putSat F.OP_MON_LAST_TX_ENERGY tx).putSat F.OP_MON_LAST_SENSE_ENERGY se

theorem measure_shows (s : State) (tx se len : Nat) :
    (s.measure tx se len).get F.OP_MON_LAST_TX_ENERGY = min tx (2 ^ F.OP_MON_LAST_TX_ENERGY.width - 1) ∧
    (s.measure tx se len).get F.OP_MON_LAST_SENSE_ENERGY = min se (2 ^ F.OP_MON_LAST_SENSE_ENERGY.width - 1) := by
  unfold State.measure
  constructor
  · rw [State.get_putSat_ne _ _ (by decide), State.get_putSat_same]
  · rw [State.get_putSat_same]

/-- After it has been measured, a launch is cut where it reaches a ceiling, and the window is brought up to it. -/
theorem fire_monitors (s : State) (tx se len : Nat) : Monitored (s.measure tx se len) (s.fire tx se len) := by
  unfold State.fire
  extract_lets sched lit opt noted shown pruned ended
  have hpruned : Monitored shown pruned := .opt .refl rfl rfl
  have hended : Monitored shown ended := .ite (.cut hpruned) hpruned
  exact .syncWindow hended

/-- The verdict shown: which monitor missed the pulse, whether both saw it, and the missing pulses in a row. -/
def State.showVerdict (s : State) (tx se n : Nat) : State :=
  (((s.putB F.OP_DIAG_MISS_TX (decide (tx < 50))).putB F.OP_DIAG_MISS_SENSE (decide (se < 50))).putB F.OP_DIAG_SEEN
    (!(decide (tx < 50) || decide (se < 50)))).put F.OP_DIAG_MISSED n

theorem judgeDiag_cases (s : State) (tx se : Nat) : ∃ n, (50 ≤ tx → 50 ≤ se → n = 0) ∧
    s.judgeDiag tx se = if n ≥ 2 then (s.showVerdict tx se n).setCause F.OP_STATE_LAUNCH_OPEN 0x010A wide 0 else s.showVerdict tx se n := by
  refine ⟨_, fun ht hs => if_neg ?_, rfl⟩
  simp [Nat.not_lt.mpr ht, Nat.not_lt.mpr hs]

/-- A pulse measured is judged. -/
theorem judgeDiag_judges (htx : w.get F.OP_MON_LAST_TX_ENERGY = min tx (2 ^ F.OP_MON_LAST_TX_ENERGY.width - 1))
    (hse : w.get F.OP_MON_LAST_SENSE_ENERGY = min se (2 ^ F.OP_MON_LAST_SENSE_ENERGY.width - 1)) (hd : w.opt.diagSweep = some s.sched.sweeps)
    (ho : w.opt.owed = s.opt.owed) (hotp : w.otp = s.otp) (hmem : w.mem = s.mem) (hsw : w.sw = s.sw) : Judged tx se s (w.judgeDiag tx se) := by
  obtain ⟨n, hn, hrun⟩ := judgeDiag_cases w tx se
  have hshown : Judged tx se s (w.showVerdict tx se n) := by
    unfold State.showVerdict
    refine ⟨?_, ?_, ?_, ?_, fun ht hs => ?_, hd, ho, hotp, hmem, hsw⟩
    · rw [State.get_put_ne _ _ (by decide), State.get_putB_ne _ _ (by decide), State.get_putB_ne _ _ (by decide), State.get_putB_ne _ _ (by decide), htx]
    · rw [State.get_put_ne _ _ (by decide), State.get_putB_ne _ _ (by decide), State.get_putB_ne _ _ (by decide), State.get_putB_ne _ _ (by decide), hse]
    · rw [State.is_put_ne _ _ (by decide), State.is_putB_ne _ _ (by decide), State.is_putB_ne _ _ (by decide), State.is_putB_same _ _ (by decide)]
    · rw [State.is_put_ne _ _ (by decide), State.is_putB_ne _ _ (by decide), State.is_putB_same _ _ (by decide)]
    · rw [hn ht hs, State.get_put_same, Nat.zero_mod]
  rw [hrun]
  split
  · exact hshown.setCause _ _ _ _ (by decide)
  · exact hshown

/-- A diagnostic pulse that leaves is measured and judged. -/
theorem pulse_judges (s : State) (tx se : Nat) : Judged tx se s (s.pulse tx se) := by
  unfold State.pulse
  extract_lets opt noted fired checked
  have hmonitored : Monitored (noted.measure tx se noted.diagGate) checked := (fire_monitors noted tx se noted.diagGate).trans (.loopCheck .refl)
  obtain ⟨htx, hse⟩ := measure_shows noted tx se noted.diagGate
  exact judgeDiag_judges ((hmonitored.only.1 _ (by decide) (by decide)).trans htx) ((hmonitored.only.1 _ (by decide) (by decide)).trans hse)
    hmonitored.diagSweep hmonitored.owed (hmonitored.only.2 .otp (by decide)) (hmonitored.only.2 .mem (by decide)) (hmonitored.only.2 .sw (by decide))

end

/-! ## The two pulses, one by one (R76, R82, R83) -/

/-- The periodic pulse takes the window's instant, and is stamped. -/
def State.takeWindow (s : State) : State := State.take { s with sched := { s.sched with launchStamp := stampOf (s.count s.now) } } 17

/-- A re-test pulse is stamped, and the re-tests of `rest` stay owed. -/
def State.takeRetest (s : State) (rest : List Retest) : State :=
  { s with opt := { s.opt with owed := rest }, sched := { s.sched with launchStamp := stampOf (s.count s.now) } }

section
variable {s : State} (t tx se : Nat)

theorem diagnosticPulse_judged (h : (s.advance t).diagAllowed = true) :
    ∃ u, exec (.diagnosticPulse t tx se) s = .next u ∧ Judged tx se (s.advance t).takeWindow u := by
  have hrun : diagnosticPulse tx se (s.advance t) = (s.advance t).takeWindow.pulse tx se := if_pos h
  exact ⟨_, rfl, .answer (hrun ▸ pulse_judges _ tx se) _⟩

theorem diagnosticPulse_idle (h : (s.advance t).diagAllowed = false) :
    ∃ u, exec (.diagnosticPulse t tx se) s = .next u ∧ OnlyChanges [] [] s u := by
  have hrun : diagnosticPulse tx se (s.advance t) = s.advance t := if_neg (Bool.eq_false_iff.mp h)
  exact ⟨_, rfl, .answer (t := t) (by rw [hrun]; exact .refl _)⟩

/-- After its judgement a re-test pulse that fails sets again the cause that it tests. -/
theorem retestPulse_judged {k : Retest} {rest : List Retest} (hk : s.opt.owed = k :: rest) (h : (s.advance t).retestAllowed = true) :
    ∃ u, exec (.retestPulse t tx se) s = .next u ∧ Judged tx se ((s.advance t).takeRetest rest) u := by
  have hj := pulse_judges ((s.advance t).takeRetest rest) tx se
  refine ⟨_, rfl, .answer ?_ _⟩
  rw [retestPulse, State.advance_opt, hk]
  dsimp only
  rw [h]
  cases k with
  | loop =>
    show Judged _ _ _ (if _ then State.setCause (State.pulse ((s.advance t).takeRetest rest) tx se) _ _ _ _ else _)
    split
    · exact hj.setCause _ _ _ _ (by decide)
    · exact hj
  | launchOpen =>
    show Judged _ _ _ (if _ then State.setCause (State.pulse ((s.advance t).takeRetest rest) tx se) _ _ _ _ else _)
    split
    · exact hj.setCause _ _ _ _ (by decide)
    · exact hj

end

end Sys2Proof.Machine

section
open Sys2Proof Sys2Proof.Machine

/-- Settles O13: both pulses are one pulse measured and judged; the re-test pulse may set a cause again, which shows in none of these registers. -/
theorem pulsesAreJudged : Obligations.PulsesAreJudged := by
  intro s t tx se _
  refine ⟨?allowed, diagnosticPulse_idle t tx se, ?retest⟩
  case allowed =>
    intro h
    obtain ⟨u, hu, hj⟩ := diagnosticPulse_judged t tx se h
    exact ⟨u, hu, hj.txShown, hj.senseShown, hj.sweep, hj.missTx, hj.missSense, hj.seen, hj.otp, hj.mem, hj.sw⟩
  case retest =>
    intro k rest hk h
    obtain ⟨u, hu, hj⟩ := retestPulse_judged t tx se hk h
    exact ⟨u, hu, hj.txShown, hj.senseShown, hj.owed, hj.sweep, hj.missTx, hj.missSense, hj.seen, hj.otp, hj.mem, hj.sw⟩

end

/-!
Breaks: the launch of the probe group that confirms one, and the clean ones that clear it (R84-R88).
-/

namespace Sys2Proof.Machine

/-! ## One examination (R84-R88) -/

/-- The registers that a confirmed break may write. -/
def breakFields : List Fld :=
  [F.OP_BREAK_POS_VALID, F.OP_BREAK_POS_POS, F.OP_BREAK_POS_FRESNEL, F.OP_BREAKS_COUNT, F.OP_CNT_SAT_BREAK_SAT, F.OP_STATE_BREAK]

/-- A break that is confirmed is shown where it was located and counted, and with OP_APR EN sets its cause. -/
structure BreakShown (at_ : Nat × Bool) (s u : State) : Prop where
  valid : u.is F.OP_BREAK_POS_VALID = true
  pos : u.get F.OP_BREAK_POS_POS = min at_.1 (2 ^ F.OP_BREAK_POS_POS.width - 1)
  fresnel : u.is F.OP_BREAK_POS_FRESNEL = at_.2
  count : u.get F.OP_BREAKS_COUNT = min (s.get F.OP_BREAKS_COUNT + 1) (2 ^ F.OP_BREAKS_COUNT.width - 1)
  cause : s.is F.OP_APR_EN = true → u.is F.OP_STATE_BREAK = true

/-- The break's position shown and the break counted. -/
def State.showBreak (s : State) (pos : Nat) (fresnel : Bool) : State :=
  State.bump (((s.put F.OP_BREAK_POS_VALID 1).putB F.OP_BREAK_POS_FRESNEL fresnel).putSat F.OP_BREAK_POS_POS pos)
    F.OP_BREAKS_COUNT F.OP_CNT_SAT_BREAK_SAT 1

theorem confirmBreak_confirms (s : State) (p : List Nat) (e : Nat) :
    BreakShown (locate p e) s (s.confirmBreak p e) ∧ OnlyChanges breakFields [.opt] s (s.confirmBreak p e) := by
  unfold State.confirmBreak
  generalize locate p e = located
  obtain ⟨pos, fresnel⟩ := located
  obtain ⟨c, hc⟩ := exists_eq (a' := s.showBreak pos fresnel)
  obtain ⟨r, hr⟩ := exists_eq (a' := c.raiseAt c.opt.breakFirst 0x0107 wide pos)
  obtain ⟨w, hw⟩ := exists_eq (a' := ({ r with opt := { r.opt with cleanRun := 0, breakAt := r.now } } : State))
  obtain ⟨v, hv⟩ := exists_eq (a' := if w.is F.OP_APR_EN then w.put F.OP_STATE_BREAK 1 else w)
  suffices h : BreakShown (pos, fresnel) s v ∧ OnlyChanges breakFields [.opt] s v by
    subst hv hw hr hc
    exact h
  have hcounted : OnlyChanges breakFields [.opt] s c := hc ▸
    (((OnlyChanges.put _ _ _ (by decide)).trans (.put _ _ _ (by decide))).trans (.put _ _ _ (by decide))).trans
      (.bump _ _ _ _ (by decide) (by decide))
  have hnoted : OnlyChanges [] [.opt] c w := by
    rw [hw]
    exact OnlyChanges.trans (hr ▸ (Posting.raiseAt _ _ _ _ _).onlyChanges) (.opt _ _ (by decide))
  have hcause : OnlyChanges [F.OP_STATE_BREAK] [] w v := hv ▸ .ite (.put _ _ _ (by decide)) (.refl w)
  have hlast : OnlyChanges [F.OP_STATE_BREAK] [.opt] c v := (hnoted.mono (by decide) (by decide)).trans (hcause.mono (by decide) (by decide))
  refine ⟨⟨?_, ?_, ?_, ?_, fun hen => ?_⟩, hcounted.trans (hlast.mono (by decide) (by decide))⟩
  · rw [hlast.is (by decide) (by decide), hc, State.showBreak, State.is_bump_ne _ _ (by decide) (by decide), State.is_putSat_ne _ _ (by decide),
      State.is_putB_ne _ _ (by decide), State.is_put_same]
    rfl
  · rw [hlast.1 _ (by decide) (by decide), hc, State.showBreak, State.get_bump_ne _ _ (by decide) (by decide), State.get_putSat_same]
  · rw [hlast.is (by decide) (by decide), hc, State.showBreak, State.is_bump_ne _ _ (by decide) (by decide), State.is_putSat_ne _ _ (by decide),
      State.is_putB_same _ _ (by decide)]
  · rw [hlast.1 _ (by decide) (by decide), hc, State.showBreak, State.get_bump_same _ _ (by decide), State.get_putSat_ne _ _ (by decide),
      State.get_putB_ne _ _ (by decide), State.get_put_ne _ _ (by decide)]
  · have hen' : w.is F.OP_APR_EN = true := by
      rw [hnoted.is (by decide) (by decide), hcounted.is (by decide) (by decide), hen]
    rw [hv, if_pos hen', State.is_put_same]
    rfl

/-- The launch at `at_` is examined: it has light, a polarisation and a reference end that is established, and is examined once. -/
structure State.Examines (s : State) (at_ : Nat) : Prop where
  lit : 2 ≤ s.opticalState
  polarised : s.is F.FP_STATUS_POL_X = true ∨ s.is F.FP_STATUS_POL_Y = true
  fresh : s.opt.examined ≠ some at_
  refValid : s.opt.refValid = true
  established : s.opt.collecting = false

/-- The launch at `at_` noted as examined. -/
def State.examine (s : State) (at_ : Nat) : State := { s with opt := { s.opt with examined := some at_ } }

/-- Does backscatter that ends in bin e end more than MARGIN before the reference end (R84)? -/
def State.endsShort (s : State) (e : Nat) : Bool := decide (binPos e + 1000 * s.get F.OP_APR_MARGIN < 10 * s.get F.OP_REF_END_POS)

/-- A launch that ends short counts, and the first of them gives the break's instant. -/
def State.countShort (s : State) (at_ : Nat) : State :=
  { s with opt := { s.opt with breakFirst := if s.opt.breakRun = 0 then at_ else s.opt.breakFirst, breakRun := s.opt.breakRun + 1 } }

/-- A launch that does not end short ends the run of those that did. -/
def State.endRun (s : State) : State := { s with opt := { s.opt with breakRun := 0 } }

/-- The clean launches in a row while a break is confirmed; enough of them clear it (R88). -/
def State.countClean (s : State) (run : Nat) : State :=
  let s := { s with opt := { s.opt with cleanRun := run } }
  if s.get F.TT_PROBE_RESTORE_SWEEPS ≠ 0 ∧ run ≥ s.get F.TT_PROBE_RESTORE_SWEEPS then s.clearBreak else s

section
variable {s : State} {at_ noise : Nat} {p : List Nat}

/-- What an examination does, by whether a break is confirmed and whether the launch ends short. -/
theorem breakDetection_eq (h : s.Examines at_) : breakDetection at_ p noise s =
    if s.is F.OP_BREAK_POS_VALID then (s.examine at_).countClean (if s.endsShort (endBin noise p) then 0 else s.opt.cleanRun + 1)
    else if s.endsShort (endBin noise p) then
      if s.opt.breakRun + 1 ≥ 2 then ((s.examine at_).countShort at_).confirmBreak p (endBin noise p) else (s.examine at_).countShort at_
    else (s.examine at_).endRun := by
  obtain ⟨hlit, hpol, hfresh, href, hest⟩ := h
  have hcond : ¬(s.opticalState < 2 ∨ ((!s.is F.FP_STATUS_POL_X) = true ∧ (!s.is F.FP_STATUS_POL_Y) = true) ∨ s.opt.examined = some at_) := by
    rcases hpol with hpol | hpol <;> simp [hpol, hfresh, Nat.not_lt.mpr hlit]
  have hcollect : (s.examine at_).collectEnd (binPos (endBin noise p)) = s.examine at_ := if_pos (by simpa [State.examine] using hest)
  have hvalid : ¬(!(s.examine at_).opt.refValid) = true := by
    rw [show (s.examine at_).opt.refValid = true from href]
    decide
  unfold breakDetection
  rw [if_neg hcond]
  dsimp only
  generalize hend : State.collectEnd _ _ = collected
  obtain rfl : collected = s.examine at_ := hend.symm.trans hcollect
  exact (if_neg hvalid).trans rfl

theorem breakDetection_idle (h : s.opticalState < 2 ∨ (s.is F.FP_STATUS_POL_X = false ∧ s.is F.FP_STATUS_POL_Y = false) ∨ s.opt.examined = some at_) :
    breakDetection at_ p noise s = s := if_pos (by simpa using h)

end

/-- The group that launches the probe pulses. -/
def State.probePipe (s : State) : GroupPipe := s.grp (s.get F.TT_SCHED_PROBE_GROUP)

/-- The bin in which the backscatter of its latest launch ends. -/
def State.probeEnd (s : State) : Nat := endBin (s.probePipe.noise * 65536) s.probePipe.profile

/-- The latest launch of the probe group examined, where there is one. -/
def State.detectBreak (s : State) : State :=
  if s.probePipe.launched then breakDetection s.probePipe.at_ s.probePipe.profile (s.probePipe.noise * 65536) s else s

theorem exec_breakDetection (s : State) (t : Nat) : exec (.breakDetection t) s = .next ((s.advance t).detectBreak.answer s.pending) := rfl

section
variable {s : State}

/-- Where nothing is to be examined the detection changes nothing. -/
theorem detectBreak_idle (h : s.opticalState < 2 ∨ (s.is F.FP_STATUS_POL_X = false ∧ s.is F.FP_STATUS_POL_Y = false) ∨
    s.probePipe.launched = false ∨ s.opt.examined = some s.probePipe.at_) : s.detectBreak = s := by
  unfold State.detectBreak
  split
  · next hl => exact breakDetection_idle (by simpa [hl] using h)
  · rfl

variable (hl : s.probePipe.launched = true) (hx : s.Examines s.probePipe.at_)
include hl hx

/-- An examination goes by whether a break is confirmed and whether the launch ends short. -/
theorem detectBreak_examines : s.detectBreak =
    if s.is F.OP_BREAK_POS_VALID then (s.examine s.probePipe.at_).countClean (if s.endsShort s.probeEnd then 0 else s.opt.cleanRun + 1)
    else if s.endsShort s.probeEnd then
      if s.opt.breakRun + 1 ≥ 2 then ((s.examine s.probePipe.at_).countShort s.probePipe.at_).confirmBreak s.probePipe.profile s.probeEnd
      else (s.examine s.probePipe.at_).countShort s.probePipe.at_
    else (s.examine s.probePipe.at_).endRun :=
  (if_pos hl).trans (breakDetection_eq hx)

/-- The second launch that ends short confirms the break. -/
theorem detectBreak_confirms (hv : s.is F.OP_BREAK_POS_VALID = false) (hr : 1 ≤ s.opt.breakRun) (hs : s.endsShort s.probeEnd = true) :
    BreakShown (locate s.probePipe.profile s.probeEnd) s s.detectBreak ∧ OnlyChanges breakFields [.opt] s s.detectBreak := by
  have hrun : s.detectBreak = ((s.examine s.probePipe.at_).countShort s.probePipe.at_).confirmBreak s.probePipe.profile s.probeEnd := by
    rw [detectBreak_examines hl hx, hv, if_neg Bool.false_ne_true, if_pos hs, if_pos (Nat.succ_le_succ hr)]
  obtain ⟨hshown, honly⟩ := confirmBreak_confirms ((s.examine s.probePipe.at_).countShort s.probePipe.at_) s.probePipe.profile s.probeEnd
  rw [hrun]
  refine ⟨⟨hshown.valid, hshown.pos, hshown.fresnel, hshown.count, hshown.cause⟩, OnlyChanges.trans ?_ honly⟩
  exact (OnlyChanges.opt s _ (by decide)).trans (.opt _ _ (by decide))

theorem detectBreak_short (hv : s.is F.OP_BREAK_POS_VALID = true) (hs : s.endsShort s.probeEnd = true) (hn : 0 < s.get F.TT_PROBE_RESTORE_SWEEPS) :
    s.detectBreak.opt.cleanRun = 0 ∧ OnlyChanges [] [.opt] s s.detectBreak := by
  have hrun : s.detectBreak = { s.examine s.probePipe.at_ with opt := { (s.examine s.probePipe.at_).opt with cleanRun := 0 } } := by
    rw [detectBreak_examines hl hx, if_pos hv, if_pos hs]
    exact if_neg (fun h => Nat.not_le.mpr hn h.2)
  rw [hrun]
  exact ⟨rfl, (OnlyChanges.opt s _ (by decide)).trans (.opt _ _ (by decide))⟩

theorem detectBreak_clean (hv : s.is F.OP_BREAK_POS_VALID = true) (hs : s.endsShort s.probeEnd = false) (hn : s.get F.TT_PROBE_RESTORE_SWEEPS ≠ 0)
    (hc : s.get F.TT_PROBE_RESTORE_SWEEPS ≤ s.opt.cleanRun + 1) :
    s.detectBreak.is F.OP_BREAK_POS_VALID = false ∧ s.detectBreak.is F.OP_STATE_BREAK = false := by
  obtain ⟨w, hw⟩ := exists_eq (a' := ({ s.examine s.probePipe.at_ with
    opt := { (s.examine s.probePipe.at_).opt with cleanRun := s.opt.cleanRun + 1 } } : State))
  have hrun : s.detectBreak = w.clearBreak := by
    rw [detectBreak_examines hl hx, if_pos hv, if_neg (Bool.eq_false_iff.mp hs), hw]
    exact if_pos ⟨hn, hc⟩
  obtain ⟨hvalid, hbreak, -⟩ := clearBreak_clears w
  have hv' : w.is F.OP_BREAK_POS_VALID = true := hw ▸ hv
  rw [hrun]
  exact ⟨hvalid, by rw [hbreak, hv', Bool.not_true, Bool.and_false]⟩

end

end Sys2Proof.Machine

section
open Sys2Proof Sys2Proof.Machine

/-- Settles O19: an examination confirms a break, counts its clean launches or clears it; without one nothing changes. -/
theorem breaksAreConfirmed : Obligations.BreaksAreConfirmed := by
  intro s t p e hp he
  subst hp he
  refine ⟨fun hl hfresh hlit hpol href hest => ?examined, ?idle⟩
  case examined =>
    have hx : (s.advance t).Examines (s.advance t).probePipe.at_ := ⟨hlit, hpol, hfresh, href, hest⟩
    refine ⟨fun hv hr hs => ?confirmed, fun hv hs hn => ?short, fun hv hs hn hc => ?clean⟩
    case confirmed =>
      obtain ⟨hshown, honly⟩ := detectBreak_confirms (s := s.advance t) hl hx hv hr (decide_eq_true hs)
      refine ⟨_, exec_breakDetection s t, ?_, ?_, ?_, ?_, fun hen => ?_, honly.answer⟩
      · exact (State.is_answer _ _ (by decide)).trans hshown.valid
      · exact (State.get_answer _ _ (by decide)).trans hshown.pos
      · exact (State.is_answer _ _ (by decide)).trans hshown.fresnel
      · exact (State.get_answer _ _ (by decide)).trans hshown.count
      · exact (State.is_answer _ _ (by decide)).trans (hshown.cause hen)
    case short =>
      obtain ⟨hrun, honly⟩ := detectBreak_short (s := s.advance t) hl hx hv (decide_eq_true hs) hn
      exact ⟨_, exec_breakDetection s t, (State.answer_optics (·.cleanRun) _ _).trans hrun, honly.answer⟩
    case clean =>
      obtain ⟨hvalid, hbreak⟩ := detectBreak_clean (s := s.advance t) hl hx hv (decide_eq_false (Nat.not_lt.mpr hs)) hn hc
      exact ⟨_, exec_breakDetection s t, (State.is_answer _ _ (by decide)).trans hvalid, (State.is_answer _ _ (by decide)).trans hbreak⟩
  case idle =>
    intro h
    refine ⟨_, exec_breakDetection s t, .answer (t := t) ?_⟩
    rw [detectBreak_idle (s := s.advance t) h]
    exact .refl _

end

/-!
The laser regains its lock, in a start and outside one (R68, R280, R384).
-/

namespace Sys2Proof.Machine

/-! ## What powering the receiver leaves of the laser's registers (R97, R281, R384) -/

/-- The registers that show the laser's lock, its cause and its TEC's fault. -/
def laserKeys : List Nat := [F.OP_LASER_LOCKED.key, F.OP_STATE_LASER.key, F.HK_TEC_STAT_FAULT.key]

/-- Above the blocks of OP_ one register alone shows the laser: HK_TEC_STAT FAULT. A field of an indexed register lies there by its address. -/
theorem not_laserKey {k : Nat} (h : 5 * 2 ^ 21 ≤ k := by simp; omega) (h2 : k ≠ 50348319 := by simp; omega) : k ∉ laserKeys := by
  simp only [laserKeys, List.mem_cons, List.not_mem_nil, or_false]
  omega

theorem laserKeys_not_settled : ∀ k ∈ laserKeys, k ∉ settleKeys := by decide

/-- From `s` to `u` the laser's registers read alike. -/
structure LaserKept (s u : State) : Prop where
  get : ∀ f : Fld, f.key ∈ laserKeys → u.get f = s.get f

namespace LaserKept

variable {s u w : State}

theorem refl : LaserKept s s := ⟨fun _ _ => rfl⟩

theorem trans (a : LaserKept s u) (b : LaserKept u w) : LaserKept s w := ⟨fun f h => (b.get f h).trans (a.get f h)⟩

theorem ite {c : Prop} [Decidable c] {a b : State} (ha : LaserKept s a) (hb : LaserKept s b) : LaserKept s (if c then a else b) := by
  split
  · exact ha
  · exact hb

theorem each {α : Type} {xs : List α} {f : α → State → State} (h : LaserKept s w) (hf : ∀ x v, LaserKept s v → LaserKept s (f x v)) :
    LaserKept s (each xs f w) := by
  unfold Machine.each
  induction xs generalizing w with
  | nil => exact h
  | cons x xs ih => exact ih (hf x w h)

/-- A change beside the registers. -/
theorem beside {mem now freeCtr resp ev sched opt sw lanes fp secs dfifo built fab recd br sens dram out evt tref fl bt pw nv lc tb otp pending}
    (h : LaserKept s w) : LaserKept s ⟨w.regs, mem, now, freeCtr, resp, ev, sched, opt, sw, lanes, fp, secs, dfifo, built, fab, recd, br, sens, dram,
      out, evt, tref, fl, bt, pw, nv, lc, tb, otp, pending⟩ := ⟨h.get⟩

theorem put (h : LaserKept s w) {f : Fld} {v : Nat} (hf : f.key ∉ laserKeys := by decide) : LaserKept s (w.put f v) :=
  h.trans ⟨fun _ hg => State.get_put_ne _ _ (fun e => hf (e ▸ hg))⟩

theorem putS (h : LaserKept s w) {f : Fld} {v : Int} (hf : f.key ∉ laserKeys := by decide) : LaserKept s (w.putS f v) := h.put hf

theorem posting (h : LaserKept s w) (hp : Posting w u) : LaserKept s u :=
  h.trans ⟨fun _ hf => hp.quiet.get _ (laserKeys_not_settled _ hf)⟩

theorem raise (h : LaserKept s w) {code inst val : Nat} : LaserKept s (w.raise code inst val) := h.posting (Posting.raise _ _ _ _)

theorem setCause (h : LaserKept s w) {f : Fld} {code inst val : Nat} (hf : f.key ∉ laserKeys := by decide) :
    LaserKept s (w.setCause f code inst val) := .ite h (.raise (h.put hf))

theorem syncCeilings (h : LaserKept s w) : LaserKept s w.syncCeilings :=
  h.trans ⟨fun f hf => (syncCeilings_limits w).1.1 f (laserKeys_not_settled _ hf) (by
    simp only [laserKeys, List.mem_cons, List.not_mem_nil, or_false] at hf
    rcases hf with hf | hf | hf <;> rw [hf] <;> decide)⟩

/-! ### Lanes and the Brillouin channel -/

theorem brHalt (h : LaserKept s w) : LaserKept s w.brHalt := .ite h (.raise (.put (.put (.put (.beside h)))))

theorem setLaneState (h : LaserKept s w) {n st : Nat} : LaserKept s (w.setLaneState n st) :=
  have hput : LaserKept s ((w.put (F.SL_LANE_STATUS_STATE n) st).syncLaneOk) := .put (.put h not_laserKey)
  .ite (.brHalt hput) hput

theorem brRestart (h : LaserKept s w) {i : Nat} {event : Bool} : LaserKept s (w.brRestart i event) := by
  unfold State.brRestart
  extract_lets begun told
  have hbegun : LaserKept s begun := .put (.put (.put (.beside h)))
  have htold : LaserKept s told := .ite (.raise hbegun) hbegun
  exact .ite (.brHalt htold) (.beside (.put htold))

theorem calApply (h : LaserKept s w) {r : CalRecord} {slices : Bool} : LaserKept s (w.calApply r slices) := by
  unfold State.calApply
  extract_lets whole wholeBr delays trig skews noise hk taken groups
  have hdelays : LaserKept s delays := .put (.put (.put h))
  have hskews : LaserKept s skews := .each (.put hdelays) (fun v _ hv => .ite (.putS hv not_laserKey) hv)
  have hnoise : LaserKept s noise := .each hskews (fun v _ hv => .ite (.put hv not_laserKey) hv)
  have hhk : LaserKept s hk := .each hnoise (fun v _ hv => .ite (.putS (.putS hv not_laserKey) not_laserKey) hv)
  have htaken : LaserKept s taken := .ite (.each hhk (fun _ _ hv => .ite (.beside hv) hv)) hhk
  have hgroups : LaserKept s groups := .ite (.beside htaken) htaken
  exact .ite htaken (.ite (.brRestart hgroups) hgroups)

theorem clkStart (h : LaserKept s w) : LaserKept s w.clkStart := .ite (.put (.put h)) (.put h)

theorem laneStart (h : LaserKept s w) {n : Nat} : LaserKept s (w.laneStart n) := by
  unfold State.laneStart
  extract_lets cs taken
  exact .setLaneState (.put (.beside h) not_laserKey)

theorem lanesEnable (h : LaserKept s w) : LaserKept s w.lanesEnable :=
  .each h (fun _ _ hv => .ite (.ite (.laneStart hv) hv) (.ite hv (.setLaneState (.beside hv))))

theorem syncEngines (h : LaserKept s w) : LaserKept s w.syncEngines := by
  unfold State.syncEngines
  extract_lets mask yards n
  have hyards : LaserKept s yards := .each h (fun y _ hv => .put (.put (.put hv not_laserKey) not_laserKey) not_laserKey)
  exact .put (.put hyards)

theorem reapply (h : LaserKept s w) : LaserKept s w.reapply :=
  .syncEngines (.each h (fun _ _ hv => .ite (.put hv not_laserKey) (.ite (.beside hv) (.ite (.beside hv) hv))))

theorem calBegin (h : LaserKept s w) : LaserKept s w.calBegin := .raise (.put (.put (.beside h)))

end LaserKept

/-! ## The lock shown (R68, R280) -/

/-- The laser shows its lock, and neither its cause nor its TEC's fault. -/
structure LaserFine (s : State) : Prop where
  locked : s.is F.OP_LASER_LOCKED = true
  cause : s.is F.OP_STATE_LASER = false
  tec : s.is F.HK_TEC_STAT_FAULT = false

section
variable {s u : State}

theorem LaserFine.of_kept (h : LaserFine s) (hk : LaserKept s u) : LaserFine u :=
  ⟨by rw [State.is, hk.get _ (by decide), ← State.is, h.locked], by rw [State.is, hk.get _ (by decide), ← State.is, h.cause],
   by rw [State.is, hk.get _ (by decide), ← State.is, h.tec]⟩

/-- A register that loses power reads as at reset, and each other as before. -/
theorem get_setDomains_or (s : State) (on ret : Nat) {f : Fld} (hd : f.key ≠ F.PM_DOMAINS_ON.key) (hr : f.key ≠ F.PM_DOMAINS_RETAINED.key) :
    (s.setDomains on ret).get f = s.get f ∨ (s.setDomains on ret).get f = f.reset := by
  by_cases hkept : keepsKey (on &&& s.get F.PM_DOMAINS_ON) f.key = true
  · exact .inl (get_setDomains ret hkept hd hr)
  · obtain ⟨u, held, hu, hdrops, -⟩ := setDomains_eq s on ret
    refine .inr ?_
    rw [hu, State.get_put_ne _ _ hr, State.get_put_ne _ _ hd, State.get, hdrops.regs]
    exact kvGet_none _ (fun x hx e => hkept (e ▸ (List.mem_filter.mp hx).2))

/-- A bit that is clear and clear at reset stays so when domains are switched. -/
theorem is_setDomains_false (on ret : Nat) {f : Fld} (hd : f.key ≠ F.PM_DOMAINS_ON.key) (hr : f.key ≠ F.PM_DOMAINS_RETAINED.key) (h0 : f.reset = 0)
    (h : s.is f = false) : (s.setDomains on ret).is f = false := by
  rcases get_setDomains_or s on ret hd hr with hg | hg
  · rw [State.is, hg, ← State.is, h]
  · rw [State.is, hg, h0]
    rfl

/-- The lock is kept with PD_LASER, and the domains switched set neither the cause nor the fault. -/
theorem LaserFine.setDomains (h : LaserFine s) (h4 : s.domainOn 4 = true) {on ret : Nat} (hon : on.testBit 4 = true) : LaserFine (s.setDomains on ret) := by
  have hkept : (on &&& s.get F.PM_DOMAINS_ON).testBit 4 = true := by
    rw [Nat.testBit_and, hon]
    exact h4
  have hlocked : keepsKey (on &&& s.get F.PM_DOMAINS_ON) F.OP_LASER_LOCKED.key = true := by
    rw [keepsKey, hkept]
    simp
  exact ⟨by rw [State.is, get_setDomains _ hlocked (by decide) (by decide), ← State.is, h.locked],
    is_setDomains_false _ _ (by decide) (by decide) rfl h.cause, is_setDomains_false _ _ (by decide) (by decide) rfl h.tec⟩

theorem LaserFine.pathsUp (h : LaserFine s) (h4 : s.domainOn 4 = true) (more : List Nat) : LaserFine (s.pathsUp more) := by
  unfold State.pathsUp
  extract_lets on powered fused locked stored
  have hpowered : LaserFine powered := h.setDomains h4 (by rw [Nat.testBit_or, show on.testBit 4 = true from h4, Bool.true_or])
  have hfused : LaserKept powered fused := .syncCeilings (.put .refl)
  have hlocked : LaserKept powered locked := .ite (.setCause hfused) hfused
  have hstored : LaserKept powered stored := by
    dsimp only [stored]
    split
    · exact .calApply hlocked
    · exact hlocked
  exact hpowered.of_kept (.reapply (.lanesEnable (.clkStart hstored)))

theorem LaserFine.receiverPower (h : LaserFine s) (h4 : s.domainOn 4 = true) : LaserFine s.receiverPower := by
  unfold State.receiverPower
  split
  · exact h
  · extract_lets powered
    have hpowered : LaserFine powered := by
      dsimp only [powered]
      split
      · exact h
      · exact h.pathsUp h4 []
    split
    · exact hpowered
    · exact hpowered.of_kept (.calBegin .refl)

/-- The registers that a lock regained may write. -/
def lockFields : List Fld := [F.OP_LASER_LOCKED, F.OP_STATE_LASER, F.HK_TEC_STAT_FAULT]

/-- The lock shown, and the cause ended. -/
def State.showLock (s : State) : State := (((s.put F.OP_LASER_LOCKED 1).put F.OP_STATE_LASER 0).endConds 0x010E).raise 0x010F wide 0

theorem showLock_shows (s : State) : s.showLock.is F.OP_LASER_LOCKED = true ∧ s.showLock.is F.OP_STATE_LASER = false ∧
    OnlyChanges lockFields [] s s.showLock := by
  have hposting : Posting ((s.put F.OP_LASER_LOCKED 1).put F.OP_STATE_LASER 0) s.showLock := (Posting.endConds _ _).trans (Posting.raise _ _ _ _)
  refine ⟨?_, ?_, ((OnlyChanges.put _ _ _ (by decide)).trans (.put _ _ _ (by decide))).trans hposting.onlyChanges⟩
  · rw [State.is, hposting.get _ (by decide), ← State.is, State.is_put_ne _ _ (by decide), State.is_put_same]
    rfl
  · rw [State.is, hposting.get _ (by decide), ← State.is, State.is_put_same]
    rfl

theorem laserLocked_shows (h : s.is F.OP_LASER_LOCKED = false) : LaserFine (laserLocked s) ∧ OnlyChanges lockFields [] s (laserLocked s) := by
  obtain ⟨hlocked, hcause, honly⟩ := showLock_shows s
  have hrun : laserLocked s = if s.showLock.is F.HK_TEC_STAT_FAULT then
      ((s.showLock.put F.HK_TEC_STAT_FAULT 0).endConds 0x0720).raise 0x0722 wide 0 else s.showLock := if_neg (Bool.eq_false_iff.mp h)
  rw [hrun]
  split
  case isTrue =>
    have hposting : Posting (s.showLock.put F.HK_TEC_STAT_FAULT 0) (((s.showLock.put F.HK_TEC_STAT_FAULT 0).endConds 0x0720).raise 0x0722 wide 0) :=
      (Posting.endConds _ _).trans (Posting.raise _ _ _ _)
    have hended : OnlyChanges [F.HK_TEC_STAT_FAULT] [] s.showLock (((s.showLock.put F.HK_TEC_STAT_FAULT 0).endConds 0x0720).raise 0x0722 wide 0) :=
      (OnlyChanges.put _ _ _ (by decide)).trans hposting.onlyChanges
    refine ⟨⟨(hended.is (by decide) (by decide)).trans hlocked, (hended.is (by decide) (by decide)).trans hcause, ?_⟩,
      honly.trans (hended.mono (by decide) (by decide))⟩
    rw [State.is, hposting.get _ (by decide), ← State.is, State.is_put_same]
    rfl
  case isFalse htec => exact ⟨⟨hlocked, hcause, Bool.eq_false_iff.mpr htec⟩, honly⟩

end

end Sys2Proof.Machine

section
open Sys2Proof Sys2Proof.Machine

/-- Settles O20: the lock is shown, and what a start powers then leaves it; outside a start nothing is powered. -/
theorem laserRegainsLock : Obligations.LaserRegainsLock := by
  intro s t h4 hl
  obtain ⟨w, hw⟩ := exists_eq (a' := (laserLocked (s.advance t)).markStep 7)
  have hrun : laserLockedNow (s.advance t) = w.receiverPower := by
    rw [hw]
    exact if_pos h4
  obtain ⟨hfine, honly⟩ := laserLocked_shows (s := s.advance t) hl
  have hmarked : OnlyChanges [] [.pw] (laserLocked (s.advance t)) w := hw ▸ .pw _ _ (by decide)
  have hw4 : w.domainOn 4 = true := by
    rw [domainOn_congr ((hmarked.1 _ (by decide) (by decide)).trans (honly.1 _ (by decide) (by decide)))]
    exact h4
  have hfine' : LaserFine w.receiverPower := LaserFine.receiverPower (hw ▸ ⟨hfine.locked, hfine.cause, hfine.tec⟩) hw4
  refine ⟨_, rfl, ?_, ?_, ?_, fun hs => .answer (t := t) ?_⟩
  · rw [State.is_answer _ _ (by decide), hrun, hfine'.locked]
  · rw [State.is_answer _ _ (by decide), hrun, hfine'.cause]
  · rw [State.is_answer _ _ (by decide), hrun, hfine'.tec]
  · have hpw : (laserLocked (s.advance t)).pw = s.pw := honly.2 .pw (by decide)
    have hstarting : w.starting = false := by
      rw [hw]
      show (laserLocked (s.advance t)).pw.startAt.isSome = false
      rw [hpw]
      exact hs
    have hidle : w.receiverPower = w := if_pos (.inl (by rw [hstarting]; rfl))
    rw [hrun, hidle]
    exact (honly.mono (fun _ hk => hk) (by decide)).trans (hmarked.mono (by decide) (by decide))

end

/-!
The sample clock and its reference (R104-R107), and the ports and the numbering of an array (R372, R375).
-/

namespace Sys2Proof.Machine

/-! ## Changes of one part -/

section
variable {fs : List Fld} {ps : List Part}

theorem OnlyChanges.tb (s : State) (x : TimeBase) (h : Part.tb ∈ ps) : OnlyChanges fs ps s { s with tb := x } :=
  ⟨fun _ _ _ => rfl, fun p hp => by cases p with | tb => exact absurd h hp | _ => rfl⟩

/-- A free value moves the counter of free values on. -/
theorem OnlyChanges.putFree (s : State) (f : Fld) (hf : f.key ∈ fs.map (·.key)) (h : Part.freeCtr ∈ ps) : OnlyChanges fs ps s (s.putFree f) :=
  have hfree : OnlyChanges fs ps s (s.free f.width).2 :=
    ⟨fun _ _ _ => rfl, fun p hp => by cases p with | freeCtr => exact absurd h hp | _ => rfl⟩
  hfree.trans (.put _ _ _ hf)

end

/-! ## The reference of the sample clock (R104, R105) -/

theorem clkRef_own {s : State} (h : s.get F.FL_STATUS_ID = 0) : s.clkRef = s.get F.TB_STATUS_REF_QUAL := if_pos h

theorem clkRef_source {s : State} (h : s.get F.FL_STATUS_ID ≠ 0) : s.clkRef = if s.portUp (s.get F.FL_STATUS_SRC_PORT) then 2 else 0 := if_neg h

/-- The registers that say which reference the clock has. -/
def refFields : List Fld :=
  [F.FL_STATUS_ID, F.TB_STATUS_REF_QUAL, F.FL_STATUS_SRC_PORT, F.FL_STATUS_UP_LINK, F.FL_STATUS_DOWN_LINK]

theorem clkRef_congr {s u : State} (h : ∀ f ∈ refFields, u.get f = s.get f) : u.clkRef = s.clkRef := by
  rw [State.clkRef, State.clkRef, State.is, State.is, State.is, State.is, h F.FL_STATUS_ID (by decide), h F.TB_STATUS_REF_QUAL (by decide),
    h F.FL_STATUS_SRC_PORT (by decide), h F.FL_STATUS_UP_LINK (by decide), h F.FL_STATUS_DOWN_LINK (by decide)]

theorem clkSteer_onlyChanges (s : State) : OnlyChanges [F.SL_STATUS_REF_SRC] [] s s.clkSteer := .put _ _ _ (by decide)

theorem get_clkSteer (s : State) : s.clkSteer.get F.SL_STATUS_REF_SRC = s.clkRef % 4 := s.get_put_same _ _

theorem clkLocked_refSrc {s : State} (ferr : Int) (h : s.clkRef ≠ 0) : (clkLocked ferr s).get F.SL_STATUS_REF_SRC = s.clkRef % 4 := by
  have hsteer : (s.clkSteer.putS F.SL_CLK_FERR_FERR ferr).get F.SL_STATUS_REF_SRC = s.clkRef % 4 := by
    rw [State.putS, State.get_put_ne _ _ (by decide), get_clkSteer]
  unfold clkLocked
  rw [if_neg h]
  dsimp only
  split
  · exact hsteer
  · rw [State.get_raise _ _ _ _ (by decide), State.get_put_ne _ _ (by decide), hsteer]

/-- REF_SRC has two bits for the reference that the clock locks to. -/
theorem exec_clkLocked_refSrc {s u : State} {t : Nat} {ferr : Int} (hon : s.domainOn 2 = true) (href : s.clkRef ≠ 0)
    (hu : exec (.clkLocked t ferr) s = .next u) : u.get F.SL_STATUS_REF_SRC = s.clkRef % 4 := by
  have hadvance : (s.advance t).clkRef = s.clkRef := clkRef_congr fun _ _ => rfl
  rw [runAt_next hu, State.get_answer _ _ (by decide), inDomain_on (s := s.advance t) hon, clkLocked_refSrc ferr (by rwa [hadvance]), hadvance]

end Sys2Proof.Machine

section
open Sys2Proof Sys2Proof.Machine

/-- Refutes O17: the statement takes every state and has no premise that a field holds no more than its bits, while REF_SRC takes only two bits of
what REF_QUAL holds. With 4 listed for REF_QUAL, which no command puts there, the clock that locks shows 0 in REF_SRC. -/
theorem not_samplingCommands : ¬ Obligations.SamplingCommands := by
  intro h
  obtain ⟨u, hu, -, hsrc, -⟩ := (h { State.reset with regs := [(F.PM_DOMAINS_ON.key, 4), (F.TB_STATUS_REF_QUAL.key, 4)] } 0).1 0
    (by decide) (by decide) (by decide) (by decide) (by decide)
  rw [exec_clkLocked_refSrc (by decide) (by decide) hu] at hsrc
  exact absurd hsrc (by decide)

end

/-!
The ports of an array, its numbering and what a lost source does to clock and time (R105, R357, R372, R375).
-/

namespace Sys2Proof.Machine

/-! ## The clock that loses its reference (R105, R107) -/

/-- The registers that a lost lock may write. -/
def clkFields : List Fld := [F.SL_STATUS_REF_SRC, F.SL_STATUS_CLK_STATE, F.SL_CLK_FERR_FERR]

/-- A locked clock goes to holdover, and one that has not locked yet and has no reference left runs free. -/
theorem clkLost_loses (s : State) : OnlyChanges clkFields [.freeCtr] s s.clkLost ∧ s.clkLost.get F.SL_STATUS_REF_SRC = s.clkRef % 4 ∧
    s.clkLost.get F.SL_STATUS_CLK_STATE = if s.get F.SL_STATUS_CLK_STATE = 1 then 2
      else if s.get F.SL_STATUS_CLK_STATE = 0 ∧ s.clkRef = 0 ∧ s.domainOn 6 = true then 3 else s.get F.SL_STATUS_CLK_STATE := by
  obtain ⟨w, hw⟩ := exists_eq (a' := s.clkSteer)
  have honly : OnlyChanges clkFields [.freeCtr] s w := hw ▸ (clkSteer_onlyChanges s).mono (by decide) (by decide)
  have hsrc : w.get F.SL_STATUS_REF_SRC = s.clkRef % 4 := hw ▸ get_clkSteer s
  have hkeeps : ∀ f : Fld, f.key ≠ F.SL_STATUS_REF_SRC.key → w.get f = s.get f := fun f hf => hw ▸ s.get_put_ne _ hf
  have hstate : w.get F.SL_STATUS_CLK_STATE = s.get F.SL_STATUS_CLK_STATE := hkeeps _ (by decide)
  have href : w.clkRef = s.clkRef := clkRef_congr fun f hf => hkeeps f ((by decide : ∀ f ∈ refFields, f.key ≠ F.SL_STATUS_REF_SRC.key) f hf)
  have hon : w.domainOn 6 = s.domainOn 6 := domainOn_congr (hkeeps _ (by decide)) 6
  have hlost : s.clkLost = if s.get F.SL_STATUS_CLK_STATE = 1 then ((w.put F.SL_STATUS_CLK_STATE 2).putFree F.SL_CLK_FERR_FERR).raise 0x0205 wide 0
      else if s.get F.SL_STATUS_CLK_STATE = 0 ∧ s.clkRef = 0 ∧ s.domainOn 6 = true then w.put F.SL_STATUS_CLK_STATE 3 else w := by
    rw [← hstate, ← href, ← hon, hw]
    rfl
  rw [hlost]
  split
  case isTrue =>
    have hheld : ∀ f : Fld, f.key ≠ F.SL_CLK_FERR_FERR.key → f.key ∉ eventKeys →
        (((w.put F.SL_STATUS_CLK_STATE 2).putFree F.SL_CLK_FERR_FERR).raise 0x0205 wide 0).get f = (w.put F.SL_STATUS_CLK_STATE 2).get f := fun f h he => by
      rw [State.get_raise _ _ _ _ he]
      exact State.get_put_ne _ _ h
    refine ⟨((honly.trans (.put _ _ _ (by decide))).trans (.putFree _ _ (by decide) (by decide))).trans (Posting.raise _ _ _ _).onlyChanges, ?_, ?_⟩
    · rw [hheld _ (by decide) (by decide), State.get_put_ne _ _ (by decide), hsrc]
    · rw [hheld _ (by decide) (by decide), State.get_put_same]
      rfl
  case isFalse =>
    split
    · exact ⟨honly.trans (.put _ _ _ (by decide)), (State.get_put_ne _ _ (by decide)).trans hsrc, State.get_put_same _ _ _⟩
    · exact ⟨honly, hsrc, hstate⟩

/-! ## The time state (R357, R360) -/

theorem slewTo_onlyChanges (s : State) (e : Int) : OnlyChanges [] [.tb] s (s.slewTo e) := .tb _ _ (by decide)

theorem setTime_onlyChanges (s : State) (st : Nat) : OnlyChanges [F.TB_STATUS_TIME_STATE] [.tref] s (s.setTime st) :=
  (OnlyChanges.tref _ _ (by decide)).trans (.put _ _ _ (by decide))

theorem get_setTime (s : State) (st : Nat) : (s.setTime st).get F.TB_STATUS_TIME_STATE = st % 4 := State.get_put_same _ _ _

/-- ALIGNED and RECOVERING become HOLDOVER, and the slew in progress ends. -/
def State.holdTime (s : State) : State :=
  if s.get F.TB_STATUS_TIME_STATE = 1 ∨ s.get F.TB_STATUS_TIME_STATE = 3 then (s.slewTo 0).setTime 2 else s

theorem holdTime_holds (s : State) : OnlyChanges [F.TB_STATUS_TIME_STATE] [.tref, .tb] s s.holdTime ∧ s.holdTime.get F.TB_STATUS_TIME_STATE =
    if s.get F.TB_STATUS_TIME_STATE = 1 ∨ s.get F.TB_STATUS_TIME_STATE = 3 then 2 else s.get F.TB_STATUS_TIME_STATE := by
  unfold State.holdTime
  split
  · exact ⟨((slewTo_onlyChanges s 0).mono (by decide) (by decide)).trans ((setTime_onlyChanges _ 2).mono (by decide) (by decide)), get_setTime _ 2⟩
  · exact ⟨.refl s, rfl⟩

/-! ## Ports (R372, R375) -/

/-- The bit that shows a port's link. -/
abbrev linkField (port : Nat) : Fld := if port = 0 then F.FL_STATUS_UP_LINK else F.FL_STATUS_DOWN_LINK

/-- The bit that says whether a port's delay is valid. -/
abbrev delayField (port : Nat) : Fld := if port = 0 then F.FL_DELAY_UP_VALID else F.FL_DELAY_DOWN_VALID

/-- The bits that show the links of the ports and their delays. -/
def portBits : List Nat := [F.FL_STATUS_UP_LINK.key, F.FL_STATUS_DOWN_LINK.key, F.FL_DELAY_UP_VALID.key, F.FL_DELAY_DOWN_VALID.key]

theorem portBits_not_settled : ∀ k ∈ portBits, k ∉ settleKeys := by decide

theorem linkField_mem (port : Nat) : (linkField port).key ∈ portBits := by
  unfold linkField
  split <;> decide

theorem delayField_mem (port : Nat) : (delayField port).key ∈ portBits := by
  unfold delayField
  split <;> decide

theorem linkField_ne_delayField (p q : Nat) : (linkField p).key ≠ (delayField q).key := by
  unfold linkField delayField
  split <;> split <;> decide

/-- The two ports have a bit each. -/
theorem linkField_other {port : Nat} (h : port < 2) : (linkField (1 - port)).key ≠ (linkField port).key := by
  obtain rfl | rfl : port = 0 ∨ port = 1 := by omega
  · decide
  · decide

theorem State.portUp_eq (s : State) (port : Nat) : s.portUp port = s.is (linkField port) := by
  unfold State.portUp linkField
  split <;> rfl

theorem portUp_congr {s u : State} {port : Nat} (h : u.get (linkField port) = s.get (linkField port)) : u.portUp port = s.portUp port := by
  rw [State.portUp_eq, State.portUp_eq, State.is, h, State.is]

@[simp] theorem State.answer_portUp (s : State) (q : List Instr) (port : Nat) : (s.answer q).portUp port = s.portUp port :=
  portUp_congr (s.get_answer q (portBits_not_settled _ (linkField_mem port)))

/-- A port's link shown and reported. -/
def State.showLink (s : State) (port : Nat) (up : Bool) (code : Nat) : State := (s.setPort port up).raise code (min 1 port) 0

theorem showLink_shows (s : State) (port : Nat) (up : Bool) (code : Nat) :
    OnlyChanges [linkField port] [] s (s.showLink port up code) ∧ (s.showLink port up code).portUp port = up := by
  have hset : s.setPort port up = s.putB (linkField port) up := by
    unfold State.setPort linkField
    split <;> rfl
  have hwidth : 1 ≤ (linkField port).width := by
    unfold linkField
    split <;> decide
  have hkey : (linkField port).key ∉ eventKeys := fun h => portBits_not_settled _ (linkField_mem port) (List.mem_of_mem_take h)
  rw [State.showLink, hset]
  refine ⟨(OnlyChanges.put _ _ _ (by simp)).trans (Posting.raise _ _ _ _).onlyChanges, ?_⟩
  rw [State.portUp_eq, State.is_raise _ _ _ _ hkey, State.is_putB_same _ _ hwidth]

/-- The module's source port is lost: its clock and its time hold. -/
def State.loseSource (s : State) : State :=
  State.holdTime { s.clkLost with fl := { s.clkLost.fl with thetas := [], beyondFrom := none, withinFrom := none } }

/-- The registers that a lost source may write. -/
def sourceFields : List Fld := F.TB_STATUS_TIME_STATE :: clkFields

theorem loseSource_holds (s : State) : OnlyChanges sourceFields [.freeCtr, .fl, .tref, .tb] s s.loseSource ∧
    s.loseSource.get F.SL_STATUS_REF_SRC = s.clkRef % 4 ∧
    s.loseSource.get F.SL_STATUS_CLK_STATE = (if s.get F.SL_STATUS_CLK_STATE = 1 then 2
      else if s.get F.SL_STATUS_CLK_STATE = 0 ∧ s.clkRef = 0 ∧ s.domainOn 6 = true then 3 else s.get F.SL_STATUS_CLK_STATE) ∧
    s.loseSource.get F.TB_STATUS_TIME_STATE =
      if s.get F.TB_STATUS_TIME_STATE = 1 ∨ s.get F.TB_STATUS_TIME_STATE = 3 then 2 else s.get F.TB_STATUS_TIME_STATE := by
  obtain ⟨hclk, hsrc, hstate⟩ := clkLost_loses s
  obtain ⟨htime, hheld⟩ := holdTime_holds { s.clkLost with fl := { s.clkLost.fl with thetas := [], beyondFrom := none, withinFrom := none } }
  refine ⟨((hclk.mono (by decide) (by decide)).trans (.fl _ _ (by decide))).trans (htime.mono (by decide) (by decide)), ?_, ?_, ?_⟩
  · exact (htime.1 _ (by decide) (by decide)).trans hsrc
  · exact (htime.1 _ (by decide) (by decide)).trans hstate
  · refine hheld.trans ?_
    rw [State.get_mk, hclk.1 _ (by decide) (by decide)]

/-- A register beside the bits of the ports reads as before where only such bits change. -/
theorem OnlyChanges.besidePorts {fs : List Fld} {ps : List Part} {s u : State} (h : OnlyChanges fs ps s u) (hfs : ∀ g ∈ fs, g.key ∈ portBits)
    {f : Fld} (hs : f.key ∉ settleKeys) (hf : f.key ∉ portBits) : u.get f = s.get f := by
  refine h.1 f hs (fun hk => ?_)
  obtain ⟨g, hg, hgf⟩ := List.mem_map.mp hk
  exact hf (hgf ▸ hfs g hg)

section
variable (s : State) (t : Nat)

theorem exec_flLinkUp {port : Nat} (hon : s.domainOn 15 = true) (hdown : s.portUp port = false) :
    ∃ u, exec (.flLinkUp t port) s = .next u ∧ u.portUp port = true ∧
      (s.get F.FL_STATUS_ID = 0 → u.get F.SL_STATUS_REF_SRC = s.get F.SL_STATUS_REF_SRC) ∧
      (s.get F.FL_STATUS_ID ≠ 0 → s.get F.FL_STATUS_SRC_PORT = port → u.get F.SL_STATUS_REF_SRC = 2) ∧
      OnlyChanges [linkField port, F.SL_STATUS_REF_SRC] [] s u := by
  obtain ⟨w, hw⟩ := exists_eq (a' := (s.advance t).showLink port true 0x0C01)
  obtain ⟨honly, hup⟩ : OnlyChanges [linkField port] [] (s.advance t) w ∧ w.portUp port = true := hw ▸ showLink_shows _ _ _ _
  have hkeeps : ∀ f : Fld, f.key ∉ settleKeys → f.key ∉ portBits → w.get f = s.get f :=
    fun f => honly.besidePorts (by simpa using linkField_mem port)
  have hid : w.get F.FL_STATUS_ID = s.get F.FL_STATUS_ID := hkeeps _ (by decide) (by decide)
  have hrun : flLinkUp port (s.advance t) = if s.get F.FL_STATUS_ID ≠ 0 then w.clkSteer else w := by
    rw [← hid, hw]
    exact if_neg (by simp [hon, show (s.advance t).portUp port = false from hdown])
  have hframe : OnlyChanges [linkField port, F.SL_STATUS_REF_SRC] [] (s.advance t) w := honly.mono (by simp) (by simp)
  refine ⟨_, rfl, ?_, fun h => ?_, fun h hsrc => ?_, .answer (t := t) ?_⟩ <;> rw [hrun]
  · rw [State.answer_portUp]
    split
    · exact (portUp_congr (State.get_put_ne _ _ fun h => absurd (h ▸ linkField_mem port) (by decide))).trans hup
    · exact hup
  · rw [if_neg (not_not_intro h), State.get_answer _ _ (by decide), hkeeps _ (by decide) (by decide)]
  · have href : w.clkRef = 2 := by
      rw [clkRef_source (by rwa [hid]), hkeeps _ (by decide) (by decide), hsrc, if_pos hup]
    rw [if_pos h, State.get_answer _ _ (by decide), get_clkSteer, href]
  · exact .ite (hframe.trans (.put _ _ _ (by simp))) hframe

/-- A port whose link goes down: its bit and its delay's clear, and the source port of a module 1-7 takes clock and time with it. -/
theorem flLinkDown_loses {s : State} {port : Nat} (hon : s.domainOn 15 = true) (hport : port < 2) (hup : s.portUp port = true) :
    ∃ w, OnlyChanges [linkField port, delayField port] [] s w ∧ w.portUp port = false ∧ w.get (delayField port) = 0 ∧
      flLinkDown port s = if s.get F.FL_STATUS_ID ≠ 0 ∧ s.get F.FL_STATUS_SRC_PORT = port then w.loseSource else w := by
  obtain ⟨v, hv⟩ := exists_eq (a' := s.showLink port false 0x0C02)
  obtain ⟨honly, hdown⟩ : OnlyChanges [linkField port] [] s v ∧ v.portUp port = false := hv ▸ showLink_shows _ _ _ _
  have hframe : OnlyChanges [linkField port, delayField port] [] s (v.put (delayField port) 0) :=
    (honly.mono (by simp) (by simp)).trans (.put _ _ _ (by simp))
  have hkeeps : ∀ f : Fld, f.key ∉ settleKeys → f.key ∉ portBits → (v.put (delayField port) 0).get f = s.get f :=
    fun f => hframe.besidePorts (by simpa using ⟨linkField_mem port, delayField_mem port⟩)
  refine ⟨v.put (delayField port) 0, hframe, ?_, ?_, ?_⟩
  · exact (portUp_congr (State.get_put_ne _ _ (linkField_ne_delayField port port))).trans hdown
  · rw [State.get_put_same, Nat.zero_mod]
  · have hput : (if port = 0 then v.put F.FL_DELAY_UP_VALID 0 else v.put F.FL_DELAY_DOWN_VALID 0) = v.put (delayField port) 0 := by
      unfold delayField
      split <;> rfl
    have hid : (v.put (delayField port) 0).get F.FL_STATUS_ID = s.get F.FL_STATUS_ID := hkeeps _ (by decide) (by decide)
    have hsrc : (v.put (delayField port) 0).get F.FL_STATUS_SRC_PORT = s.get F.FL_STATUS_SRC_PORT := hkeeps _ (by decide) (by decide)
    have hmin : min 1 port = port := by omega
    unfold flLinkDown
    rw [if_neg (by simp [hon, hup])]
    dsimp only
    rw [← State.showLink, ← hv, hput, hid, hsrc, hmin]
    rfl

theorem exec_flLinkDown {port : Nat} (hon : s.domainOn 15 = true) (hport : port < 2) (hup : s.portUp port = true) :
    ∃ u, exec (.flLinkDown t port) s = .next u ∧ u.portUp port = false ∧ u.get (delayField port) = 0 ∧
      u.portUp (1 - port) = s.portUp (1 - port) ∧
      (s.get F.FL_STATUS_ID ≠ 0 → s.get F.FL_STATUS_SRC_PORT = port → u.get F.SL_STATUS_REF_SRC = 0 ∧
        u.get F.TB_STATUS_TIME_STATE = (if s.get F.TB_STATUS_TIME_STATE = 1 ∨ s.get F.TB_STATUS_TIME_STATE = 3 then 2 else s.get F.TB_STATUS_TIME_STATE) ∧
        u.get F.SL_STATUS_CLK_STATE = (if s.get F.SL_STATUS_CLK_STATE = 1 then 2
          else if s.get F.SL_STATUS_CLK_STATE = 0 ∧ s.domainOn 6 = true then 3 else s.get F.SL_STATUS_CLK_STATE)) ∧
      ((s.get F.FL_STATUS_ID = 0 ∨ s.get F.FL_STATUS_SRC_PORT ≠ port) → OnlyChanges [linkField port, delayField port] [] s u) := by
  obtain ⟨w, honly, hdown, hdelay, hrun⟩ := flLinkDown_loses (s := s.advance t) hon hport hup
  have hkeeps : ∀ f : Fld, f.key ∉ settleKeys → f.key ∉ portBits → w.get f = s.get f :=
    fun f => honly.besidePorts (by simpa using ⟨linkField_mem port, delayField_mem port⟩)
  obtain ⟨hlost, hsrc, hstate, htime⟩ := loseSource_holds w
  have hbits : ∀ f : Fld, f.key ∈ portBits → (flLinkDown port (s.advance t)).get f = w.get f := fun f hf => by
    rw [hrun]
    split
    · exact hlost.1 f (portBits_not_settled _ hf) ((by decide : ∀ k ∈ portBits, k ∉ sourceFields.map (·.key)) _ hf)
    · rfl
  refine ⟨_, rfl, ?_, ?_, ?_, fun h hs => ?_, fun h => .answer (t := t) ?_⟩
  · rw [State.answer_portUp, portUp_congr (hbits _ (linkField_mem port)), hdown]
  · rw [State.get_answer _ _ (portBits_not_settled _ (delayField_mem port)), hbits _ (delayField_mem port), hdelay]
  · have hother : w.get (linkField (1 - port)) = s.get (linkField (1 - port)) := by
      refine honly.1 _ (portBits_not_settled _ (linkField_mem _)) ?_
      simpa using ⟨linkField_other hport, linkField_ne_delayField _ _⟩
    rw [State.answer_portUp, portUp_congr ((hbits _ (linkField_mem _)).trans hother)]
  · have href : w.clkRef = 0 := by
      rw [clkRef_source (by rwa [hkeeps _ (by decide) (by decide)]), hkeeps _ (by decide) (by decide), hs, if_neg (by simp [hdown])]
    have hrun' : flLinkDown port (s.advance t) = w.loseSource := hrun.trans (if_pos ⟨h, hs⟩)
    have hon6 : w.domainOn 6 = s.domainOn 6 := domainOn_congr (hkeeps _ (by decide) (by decide)) 6
    refine ⟨?_, ?_, ?_⟩ <;> rw [State.get_answer _ _ (by decide), hrun']
    · rw [hsrc, href]
    · rw [htime, hkeeps _ (by decide) (by decide)]
    · rw [hstate, href, hon6, hkeeps _ (by decide) (by decide)]
      simp only [true_and]
  · rw [hrun, if_neg (fun hboth => h.elim hboth.1 (fun hne => hne hboth.2))]
    exact honly

theorem exec_arrayRetimed {path src : Nat} (hid : s.get F.FL_STATUS_ID ≠ 0) (htop : s.get F.FL_STATUS_TOPOLOGY = 2)
    (hsrc : s.get F.FL_STATUS_SRC_PORT = src) (hlt : src < 2) (hdown : s.portUp src = false) (hup : s.portUp (1 - src) = true) :
    ∃ u, exec (.arrayRetimed t path) s = .next u ∧ u.get F.FL_STATUS_SRC_PORT = 1 - src ∧ u.get F.FL_PATH_D = path % 2 ^ 32 ∧
      u.get F.SL_STATUS_REF_SRC = 2 ∧ OnlyChanges [F.FL_STATUS_SRC_PORT, F.FL_PATH_D, F.SL_STATUS_REF_SRC] [] s u := by
  obtain ⟨w, hw⟩ := exists_eq (a' := (((s.advance t).put F.FL_STATUS_SRC_PORT (1 - src)).put F.FL_PATH_D path).raise 0x0C04 wide 0)
  have hrun : arrayRetimed path (s.advance t) = w.clkSteer := by
    unfold arrayRetimed
    rw [State.get_advance, hsrc, hw]
    exact if_neg (by simp [hid, htop, show (s.advance t).portUp src = false from hdown, show (s.advance t).portUp (1 - src) = true from hup])
  have honly : OnlyChanges [F.FL_STATUS_SRC_PORT, F.FL_PATH_D] [] (s.advance t) w :=
    hw ▸ ((OnlyChanges.put _ _ _ (by decide)).trans (.put _ _ _ (by decide))).trans (Posting.raise _ _ _ _).onlyChanges
  have hport : w.get F.FL_STATUS_SRC_PORT = 1 - src := by
    rw [hw, State.get_raise _ _ _ _ (by decide), State.get_put_ne _ _ (by decide), State.get_put_same]
    exact Nat.mod_eq_of_lt (by show _ < 2; omega)
  have hpath : w.get F.FL_PATH_D = path % 2 ^ 32 := by
    rw [hw, State.get_raise _ _ _ _ (by decide), State.get_put_same]
  have hlink : w.portUp (1 - src) = true := by
    refine (portUp_congr (honly.1 _ (portBits_not_settled _ (linkField_mem _)) ?_)).trans hup
    exact (by decide : ∀ k ∈ portBits, k ∉ [F.FL_STATUS_SRC_PORT, F.FL_PATH_D].map (·.key)) _ (linkField_mem _)
  have href : w.clkRef = 2 := by
    rw [clkRef_source (by rwa [honly.1 _ (by decide) (by decide)]), hport, if_pos hlink]
  refine ⟨_, rfl, ?_, ?_, ?_, .answer (t := t) ?_⟩
  · rw [State.get_answer _ _ (by decide), hrun, (clkSteer_onlyChanges w).1 _ (by decide) (by decide), hport]
  · rw [State.get_answer _ _ (by decide), hrun, (clkSteer_onlyChanges w).1 _ (by decide) (by decide), hpath]
  · rw [State.get_answer _ _ (by decide), hrun, get_clkSteer, href]
  · rw [hrun]
    exact (honly.mono (by decide) (by decide)).trans ((clkSteer_onlyChanges w).mono (by decide) (by decide))

theorem exec_flotisPowerDown {t0 : Nat} (hon : s.domainOn 15 = true) (hstart : s.pw.startAt = some t0) (hlate : t0 + 500 * ms ≤ t)
    (h0 : s.portUp 0 = false) (h1 : s.portUp 1 = false) : ∃ u, exec (.flotisPowerDown t) s = .next u ∧ u.get F.FL_STATUS_TOPOLOGY = 0 ∧
      u.get F.FL_STATUS_COUNT = 0 ∧ u.get F.FL_STATUS_ID = 0 ∧ u.domainOn 15 = false ∧ (∀ d, d < 15 → u.domainOn d = s.domainOn d) ∧
      OnlyChanges [F.FL_STATUS_TOPOLOGY, F.FL_STATUS_COUNT, F.FL_STATUS_ID, F.PM_DOMAINS_ON] [] s u := by
  obtain ⟨w, hw⟩ := exists_eq (a' := (((s.advance t).put F.FL_STATUS_TOPOLOGY 0).put F.FL_STATUS_COUNT 0).put F.FL_STATUS_ID 0)
  have hrun : flotisPowerDown (s.advance t) = w.put F.PM_DOMAINS_ON (w.get F.PM_DOMAINS_ON &&& 0x7FFF) := by
    have hnow : t0 + 500 * ms ≤ max s.now t := le_trans hlate (le_max_right _ _)
    unfold flotisPowerDown
    rw [State.advance_pw, hstart, hw]
    exact if_neg (by simp [hon, hnow, show (s.advance t).portUp 0 = false from h0, show (s.advance t).portUp 1 = false from h1])
  have honly : OnlyChanges [F.FL_STATUS_TOPOLOGY, F.FL_STATUS_COUNT, F.FL_STATUS_ID, F.PM_DOMAINS_ON] [] (s.advance t) w :=
    hw ▸ ((OnlyChanges.put _ _ _ (by decide)).trans (.put _ _ _ (by decide))).trans (.put _ _ _ (by decide))
  have hdomains : ∀ d, d < 16 → ((w.put F.PM_DOMAINS_ON (w.get F.PM_DOMAINS_ON &&& 0x7FFF)).answer s.pending).domainOn d =
      (s.domainOn d && decide (d < 15)) := fun d hd => by
    rw [State.domainOn, State.get_answer _ _ (by decide), State.get_put_same, Nat.testBit_mod_two_pow, Nat.testBit_and,
      show (0x7FFF : Nat) = 2 ^ 15 - 1 from rfl, Nat.testBit_two_pow_sub_one, hw, State.get_put_ne _ _ (by decide), State.get_put_ne _ _ (by decide),
      State.get_put_ne _ _ (by decide), State.get_advance, State.domainOn, decide_eq_true (show d < 16 from hd), Bool.true_and]
  refine ⟨_, rfl, ?_, ?_, ?_, ?_, fun d hd => ?_, .answer (t := t) ?_⟩ <;> rw [hrun]
  · rw [State.get_answer _ _ (by decide), State.get_put_ne _ _ (by decide), hw, State.get_put_ne _ _ (by decide), State.get_put_ne _ _ (by decide),
      State.get_put_same, Nat.zero_mod]
  · rw [State.get_answer _ _ (by decide), State.get_put_ne _ _ (by decide), hw, State.get_put_ne _ _ (by decide), State.get_put_same, Nat.zero_mod]
  · rw [State.get_answer _ _ (by decide), State.get_put_ne _ _ (by decide), hw, State.get_put_same, Nat.zero_mod]
  · rw [hdomains 15 (by decide), decide_eq_false (by decide), Bool.and_false]
  · rw [hdomains d (by omega), decide_eq_true hd, Bool.and_true]
  · exact honly.trans (.put _ _ _ (by decide))

/-- The registers that a numbering writes. -/
def numberFields : List Fld := [F.FL_STATUS_ID, F.FL_STATUS_COUNT, F.FL_STATUS_TOPOLOGY, F.SL_STATUS_REF_SRC]

/-- A module with a place in the array steers its clock to its source unless it is module 0 or locked. -/
def State.takePlace (s : State) (id n top : Nat) : State :=
  let s := (((s.put F.FL_STATUS_ID id).put F.FL_STATUS_COUNT (n - 1)).put F.FL_STATUS_TOPOLOGY top).raise 0x0C03 wide n
  if id ≠ 0 ∧ s.get F.SL_STATUS_CLK_STATE ≠ 1 then s.clkSteer else s

theorem takePlace_shows (s : State) {id n top : Nat} (hid : id < 8) (hn : n ≤ 8) (htop : top < 4) :
    OnlyChanges numberFields [] s (s.takePlace id n top) ∧ (s.takePlace id n top).get F.FL_STATUS_ID = id ∧
    (s.takePlace id n top).get F.FL_STATUS_COUNT = n - 1 ∧ (s.takePlace id n top).get F.FL_STATUS_TOPOLOGY = top := by
  unfold State.takePlace
  extract_lets w
  have honly : OnlyChanges numberFields [] s w :=
    (((OnlyChanges.put _ _ _ (by decide)).trans (.put _ _ _ (by decide))).trans (.put _ _ _ (by decide))).trans (Posting.raise _ _ _ _).onlyChanges
  have hsteer : ∀ f : Fld, f.key ≠ F.SL_STATUS_REF_SRC.key →
      (if id ≠ 0 ∧ w.get F.SL_STATUS_CLK_STATE ≠ 1 then w.clkSteer else w).get f = w.get f := fun f hf => by
    split
    · exact State.get_put_ne _ _ hf
    · rfl
  refine ⟨.ite (honly.trans ((clkSteer_onlyChanges w).mono (by decide) (by decide))) honly, ?_, ?_, ?_⟩ <;>
    rw [hsteer _ (by decide), State.get_raise _ _ _ _ (by decide)]
  · rw [State.get_put_ne _ _ (by decide), State.get_put_ne _ _ (by decide), State.get_put_same]
    exact Nat.mod_eq_of_lt hid
  · rw [State.get_put_ne _ _ (by decide), State.get_put_same]
    exact Nat.mod_eq_of_lt (by show _ < 8; omega)
  · rw [State.get_put_same]
    exact Nat.mod_eq_of_lt htop

theorem exec_arrayNumbering (id count : Nat) (ring : Bool) (hon : s.domainOn 15 = true) (hnum : s.fl.numbered = false) :
    ∃ u, exec (.arrayNumbering t id count ring) s = .next u ∧ u.fl.numbered = true ∧
      (id < 8 → u.get F.FL_STATUS_ID = id ∧ u.get F.FL_STATUS_COUNT = max 1 (min 8 count) - 1 ∧
        u.get F.FL_STATUS_TOPOLOGY = (if ring then 2 else 1)) ∧
      (8 ≤ id → u.get F.FL_STATUS_ID = 0 ∧ u.get F.FL_STATUS_TOPOLOGY = 3) ∧ OnlyChanges numberFields [.fl] s u := by
  obtain ⟨w, hw⟩ := exists_eq (a' := ({ s.advance t with fl := { (s.advance t).fl with numbered := true } } : State))
  have hnumbered : w.fl.numbered = true := by rw [hw]
  have hstart : OnlyChanges numberFields [.fl] (s.advance t) w := hw ▸ .fl _ _ (by decide)
  by_cases hid : id < 8
  · have hrun : arrayNumbering id count ring (s.advance t) = w.takePlace id (max 1 (min 8 count)) (if ring then 2 else 1) := by
      unfold arrayNumbering
      rw [if_neg (by simp [hon, hnum]), ← hw]
      exact if_neg (Nat.not_le.mpr hid)
    obtain ⟨honly, hshown⟩ := takePlace_shows w hid (n := max 1 (min 8 count)) (top := if ring then 2 else 1) (by omega) (by split <;> decide)
    refine ⟨_, rfl, ?_, fun _ => ?_, fun h => absurd hid (by omega), .answer (t := t) ?_⟩ <;> rw [hrun]
    · rw [State.answer_fl, show State.fl _ = w.fl from honly.2 .fl (by decide), hnumbered]
    · rw [State.get_answer _ _ (by decide), State.get_answer _ _ (by decide), State.get_answer _ _ (by decide)]
      exact hshown
    · exact hstart.trans (honly.mono (fun _ h => h) (by decide))
  · have hrun : arrayNumbering id count ring (s.advance t) = ((w.put F.FL_STATUS_TOPOLOGY 3).put F.FL_STATUS_ID 0).raise 0x0C05 wide 0 := by
      unfold arrayNumbering
      rw [if_neg (by simp [hon, hnum]), ← hw]
      exact if_pos (Nat.not_lt.mp hid)
    refine ⟨_, rfl, ?_, fun h => absurd h hid, fun _ => ⟨?_, ?_⟩, .answer (t := t) ?_⟩ <;> rw [hrun]
    · rw [State.answer_fl, State.raise_fl, State.put_fl, State.put_fl, hnumbered]
    · rw [State.get_answer _ _ (by decide), State.get_raise _ _ _ _ (by decide), State.get_put_same, Nat.zero_mod]
    · rw [State.get_answer _ _ (by decide), State.get_raise _ _ _ _ (by decide), State.get_put_ne _ _ (by decide), State.get_put_same]
      rfl
    · exact hstart.trans (((OnlyChanges.put _ _ _ (by decide)).trans (.put _ _ _ (by decide))).trans (Posting.raise _ _ _ _).onlyChanges)

end

end Sys2Proof.Machine

section
open Sys2Proof Sys2Proof.Machine

/-- Settles O44: each clause is a fact of its own about a port that comes up or goes down, the ring's other port, the array's end or its
numbering. -/
theorem arrayPorts : Obligations.ArrayPorts := by
  intro s t
  refine ⟨?up, ?down, ?retimed, ?alone, ?numbered⟩
  case up => exact fun _ hon _ hdown => exec_flLinkUp s t hon hdown
  case down => exact fun _ hon hport hup => exec_flLinkDown s t hon hport hup
  case retimed => exact fun _ _ hid htop hsrc hlt hdown hup => exec_arrayRetimed s t hid htop hsrc hlt hdown hup
  case alone => exact fun _ hon hstart hlate h0 h1 => exec_flotisPowerDown s t hon hstart hlate h0 h1
  case numbered => exact fun id count ring hon hnum => exec_arrayNumbering s t id count ring hon hnum

end

/-!
The module's own references: REF10M and PPS, and the time state that follows them (R105, R357-R361).
-/

namespace Sys2Proof.Machine

/-! ## REF10M (R105, R358) -/

theorem ownRef_iff {s : State} : s.ownRef = true ↔ s.domainOn 2 = true ∧ s.get F.FL_STATUS_ID = 0 := by
  rw [State.ownRef, Bool.and_eq_true, decide_eq_true_eq]

section
variable (s : State) (t : Nat) (hown : s.ownRef = true)
include hown

theorem exec_refQualified (hq : s.is F.TB_STATUS_REF_QUAL = false) : ∃ u, exec (.refQualified t) s = .next u ∧
    u.get F.TB_STATUS_REF_PRESENT = 1 ∧ u.get F.TB_STATUS_REF_QUAL = 1 ∧
    u.get F.SL_STATUS_REF_SRC = (if s.get F.SL_STATUS_CLK_STATE = 1 then s.get F.SL_STATUS_REF_SRC else 1) ∧
    OnlyChanges [F.TB_STATUS_REF_PRESENT, F.TB_STATUS_REF_QUAL, F.SL_STATUS_REF_SRC] [] s u := by
  obtain ⟨w, hw⟩ := exists_eq (a' := (((s.advance t).put F.TB_STATUS_REF_PRESENT 1).put F.TB_STATUS_REF_QUAL 1).raise 0x0B01 wide 0)
  have honly : OnlyChanges [F.TB_STATUS_REF_PRESENT, F.TB_STATUS_REF_QUAL, F.SL_STATUS_REF_SRC] [] (s.advance t) w :=
    hw ▸ ((OnlyChanges.put _ _ _ (by decide)).trans (.put _ _ _ (by decide))).trans (Posting.raise _ _ _ _).onlyChanges
  have hpresent : w.get F.TB_STATUS_REF_PRESENT = 1 := by
    rw [hw, State.get_raise _ _ _ _ (by decide), State.get_put_ne _ _ (by decide), State.get_put_same]
    rfl
  have hqual : w.get F.TB_STATUS_REF_QUAL = 1 := by
    rw [hw, State.get_raise _ _ _ _ (by decide), State.get_put_same]
    rfl
  have hsrc : w.get F.SL_STATUS_REF_SRC = s.get F.SL_STATUS_REF_SRC := by
    rw [hw, State.get_raise _ _ _ _ (by decide), State.get_put_ne _ _ (by decide), State.get_put_ne _ _ (by decide), State.get_advance]
  have hstate : w.get F.SL_STATUS_CLK_STATE = s.get F.SL_STATUS_CLK_STATE := honly.1 _ (by decide) (by decide)
  have href : w.clkRef = 1 := by
    rw [clkRef_own ((honly.1 _ (by decide) (by decide)).trans (ownRef_iff.mp hown).2), hqual]
  have hrun : refQualified (s.advance t) = if s.get F.SL_STATUS_CLK_STATE = 1 then w else w.clkSteer := by
    have hq' : ((s.advance t).put F.TB_STATUS_REF_PRESENT 1).is F.TB_STATUS_REF_QUAL = false := by
      rw [State.is_put_ne _ _ (by decide), State.is_advance, hq]
    unfold refQualified
    rw [if_neg (by simp [show (s.advance t).ownRef = true from hown]), ← hstate, hw]
    exact if_neg (by simp [hq'])
  refine ⟨_, rfl, ?_, ?_, ?_, .answer (t := t) ?_⟩ <;> rw [hrun]
  · rw [State.get_answer _ _ (by decide)]
    split
    · exact hpresent
    · exact ((clkSteer_onlyChanges w).1 _ (by decide) (by decide)).trans hpresent
  · rw [State.get_answer _ _ (by decide)]
    split
    · exact hqual
    · exact ((clkSteer_onlyChanges w).1 _ (by decide) (by decide)).trans hqual
  · rw [State.get_answer _ _ (by decide)]
    split
    · exact hsrc
    · rw [get_clkSteer, href]
  · exact .ite honly (honly.trans ((clkSteer_onlyChanges w).mono (by decide) (by decide)))

theorem exec_refLost {edges : Bool} (hq : s.is F.TB_STATUS_REF_QUAL = true) : ∃ u, exec (.refLost t edges) s = .next u ∧
    u.get F.TB_STATUS_REF_QUAL = 0 ∧ u.is F.TB_STATUS_REF_PRESENT = edges ∧ u.get F.SL_STATUS_REF_SRC = 0 ∧
    u.get F.SL_STATUS_CLK_STATE = (if s.get F.SL_STATUS_CLK_STATE = 1 then 2
      else if s.get F.SL_STATUS_CLK_STATE = 0 ∧ s.domainOn 6 = true then 3 else s.get F.SL_STATUS_CLK_STATE) ∧
    OnlyChanges [F.TB_STATUS_REF_PRESENT, F.TB_STATUS_REF_QUAL, F.SL_STATUS_REF_SRC, F.SL_STATUS_CLK_STATE, F.SL_CLK_FERR_FERR] [.freeCtr] s u := by
  obtain ⟨w, hw⟩ := exists_eq (a' := (((s.advance t).putB F.TB_STATUS_REF_PRESENT edges).put F.TB_STATUS_REF_QUAL 0).raise 0x0B02 wide 0)
  have honly : OnlyChanges [F.TB_STATUS_REF_PRESENT, F.TB_STATUS_REF_QUAL] [] (s.advance t) w :=
    hw ▸ ((OnlyChanges.put _ _ _ (by decide)).trans (.put _ _ _ (by decide))).trans (Posting.raise _ _ _ _).onlyChanges
  have hpresent : w.is F.TB_STATUS_REF_PRESENT = edges := by
    rw [hw, State.is_raise _ _ _ _ (by decide), State.is_put_ne _ _ (by decide), State.is_putB_same _ _ (by decide)]
  have hqual : w.get F.TB_STATUS_REF_QUAL = 0 := by
    rw [hw, State.get_raise _ _ _ _ (by decide), State.get_put_same, Nat.zero_mod]
  have href : w.clkRef = 0 := by
    rw [clkRef_own ((honly.1 _ (by decide) (by decide)).trans (ownRef_iff.mp hown).2), hqual]
  have hon6 : w.domainOn 6 = s.domainOn 6 := domainOn_congr (honly.1 _ (by decide) (by decide)) 6
  have hrun : refLost edges (s.advance t) = w.clkLost := by
    have hq' : ((s.advance t).putB F.TB_STATUS_REF_PRESENT edges).is F.TB_STATUS_REF_QUAL = true := by
      rw [State.is_putB_ne _ _ (by decide), State.is_advance, hq]
    unfold refLost
    rw [if_neg (by simp [show (s.advance t).ownRef = true from hown]), hw]
    exact if_neg (by simp [hq'])
  obtain ⟨hlost, hsrc, hstate⟩ := clkLost_loses w
  refine ⟨_, rfl, ?_, ?_, ?_, ?_, .answer (t := t) ?_⟩ <;> rw [hrun]
  · rw [State.get_answer _ _ (by decide), hlost.1 _ (by decide) (by decide), hqual]
  · rw [State.is_answer _ _ (by decide), hlost.is (by decide) (by decide), hpresent]
  · rw [State.get_answer _ _ (by decide), hsrc, href]
  · rw [State.get_answer _ _ (by decide), hstate, href, hon6, honly.1 _ (by decide) (by decide), State.get_advance]
    simp only [true_and]
  · exact (honly.mono (by decide) (by decide)).trans (hlost.mono (by decide) (by decide))

end

/-! ## What follows an edge of PPS (R359-R361) -/

/-- From `s` to `u` only the qualification of PPS, the time state and the steering change, and the edges noted stand. -/
structure EdgeKept (s u : State) : Prop where
  only : OnlyChanges [F.TB_STATUS_PPS_QUAL, F.TB_STATUS_TIME_STATE] [.tref, .tb, .fl] s u
  now : u.now = s.now
  run : u.tref.run = s.tref.run
  edgeAt : u.tref.edgeAt = s.tref.edgeAt
  lastE : u.tref.lastE = s.tref.lastE

namespace EdgeKept

variable {s u w : State}

theorem refl : EdgeKept s s := ⟨.refl s, rfl, rfl, rfl, rfl⟩

theorem trans (a : EdgeKept s u) (b : EdgeKept u w) : EdgeKept s w :=
  ⟨a.only.trans b.only, b.now.trans a.now, b.run.trans a.run, b.edgeAt.trans a.edgeAt, b.lastE.trans a.lastE⟩

theorem ite {c : Prop} [Decidable c] {a b : State} (ha : EdgeKept s a) (hb : EdgeKept s b) : EdgeKept s (if c then a else b) := by
  split
  · exact ha
  · exact hb

/-- The account of PPS changes beside the edges. -/
theorem tref (h : EdgeKept s w) {x : TimeRef} (hr : x.run = w.tref.run) (ha : x.edgeAt = w.tref.edgeAt) (he : x.lastE = w.tref.lastE) :
    EdgeKept s { w with tref := x } := h.trans ⟨.tref _ _ (by decide), rfl, hr, ha, he⟩

theorem put (h : EdgeKept s w) {f : Fld} {v : Nat} (hf : f.key ∈ [F.TB_STATUS_PPS_QUAL, F.TB_STATUS_TIME_STATE].map (·.key) := by decide) :
    EdgeKept s (w.put f v) := h.trans ⟨.put _ _ _ hf, rfl, rfl, rfl, rfl⟩

theorem raise (h : EdgeKept s w) {code inst val : Nat} : EdgeKept s (w.raise code inst val) :=
  h.trans ⟨(Posting.raise _ _ _ _).onlyChanges, by simp, by simp, by simp, by simp⟩

theorem slewTo (h : EdgeKept s w) {e : Int} : EdgeKept s (w.slewTo e) := h.trans ⟨.tb _ _ (by decide), rfl, rfl, rfl, rfl⟩

theorem setTime (h : EdgeKept s w) {st : Nat} : EdgeKept s (w.setTime st) :=
  h.trans ⟨(setTime_onlyChanges w st).mono (by decide) (by decide), rfl, rfl, rfl, rfl⟩

theorem fl (h : EdgeKept s w) {x : Flotis} : EdgeKept s { w with fl := x } := h.trans ⟨.fl _ _ (by decide), rfl, rfl, rfl, rfl⟩

theorem sendEpoch (h : EdgeKept s w) : EdgeKept s w.sendEpoch := by
  unfold State.sendEpoch
  split
  · exact .ite (.fl h) h
  · exact h

theorem releaseEpoch (h : EdgeKept s w) : EdgeKept s w.releaseEpoch := by
  unfold State.releaseEpoch
  split
  · exact .sendEpoch (.tref h rfl rfl rfl)
  · exact h

theorem startRemoval (h : EdgeKept s w) {e : Int} : EdgeKept s (w.startRemoval e) := by
  unfold State.startRemoval
  extract_lets st tref begun tref' recovering
  have hrecovering : EdgeKept s recovering := .tref (.setTime h) rfl rfl rfl
  exact .ite (.tref h rfl rfl rfl) (.ite (.ite (.slewTo hrecovering) (.tref hrecovering rfl rfl rfl)) h)

theorem qualifyPps (h : EdgeKept s w) : EdgeKept s w.qualifyPps := .ite h (.startRemoval (.raise (.put h)))

theorem losePps (h : EdgeKept s w) : EdgeKept s w.losePps := by
  unfold State.losePps
  extract_lets tref cleared lost held
  have hcleared : EdgeKept s cleared := .tref h rfl rfl rfl
  have hlost : EdgeKept s lost := .raise (.put hcleared)
  have hheld : EdgeKept s held := .ite (.releaseEpoch (.setTime (.slewTo hlost))) hlost
  exact .qualifyPps hheld

theorem steer (h : EdgeKept s w) {e : Int} : EdgeKept s (w.steer e) := by
  unfold State.steer
  extract_lets st tight left tref stepped steered n tref' counted
  have hleft : EdgeKept s left := .setTime (.slewTo h)
  have hsteered : EdgeKept s steered := .ite h (.ite (.slewTo h) (.tref h rfl rfl rfl))
  have hcounted : EdgeKept s counted := .tref hsteered rfl rfl rfl
  exact .ite (.ite (.slewTo h) (.tref hleft rfl rfl rfl)) (.ite (.ite (.raise (.setTime hcounted)) hcounted) h)

end EdgeKept

/-! ## An edge noted, and what it is then (R359) -/

/-- The phase error of an edge at this instant, with IN_COMP taken off. -/
def State.edgeError (s : State) : Int := phaseError (divRound ((s.count s.now : Int) * 10 - s.getS F.TB_PPS_CFG_IN_COMP * 65536) 10)

/-- The run of edges spaced within 1 us of 1 s, with one at this instant, latest first; at most four are kept. -/
def State.edgeRun (s : State) : List Nat :=
  match s.tref.run with
  | p :: _ => if decide (((s.now : Int) - p - (1000 * ms : Nat)).natAbs ≤ us) then s.now :: s.tref.run.take 3 else [s.now]
  | [] => [s.now]

/-- From `s` to `w` an edge is noted. -/
structure EdgeNoted (s w : State) : Prop where
  only : OnlyChanges [F.TB_STATUS_PPS_PRESENT, F.TB_PPS_ERR_E] [.tref] s w
  now : w.now = s.now
  present : w.get F.TB_STATUS_PPS_PRESENT = 1
  error : w.get F.TB_PPS_ERR_E = ((clampI (-2147483647) 2147483647 (divRound (s.edgeError * 10) 65536)) % 4294967296).toNat
  tref : w.tref = { s.tref with run := s.edgeRun, edgeAt := some s.now, lastE := s.edgeError }

/-- One more glitch in a row. -/
def State.countGlitch (s : State) : State := { s with tref := { s.tref with glitches := s.tref.glitches + 1 } }

/-- A good edge ends the run of glitches and releases an epoch that waits. -/
def State.takeGood (s : State) : State := { s with tref := { s.tref with glitches := 0, goodAt := some s.now } }.releaseEpoch

/-- An edge is noted first; then it counts as a glitch, steers, or goes towards the qualification. -/
theorem ppsEdge_notes {s : State} (hown : s.ownRef = true) : ∃ w, EdgeNoted s w ∧ ppsEdge s =
    if s.get F.TB_STATUS_TIME_STATE = 1 ∧ us < s.edgeError.natAbs then
      (if 3 ≤ w.countGlitch.tref.glitches then w.countGlitch.losePps else w.countGlitch)
    else if w.takeGood.is F.TB_STATUS_PPS_QUAL = true then w.takeGood.steer s.edgeError else w.takeGood.qualifyPps := by
  obtain ⟨v, hv⟩ := exists_eq
    (a' := s.put F.TB_PPS_ERR_E ((clampI (-2147483647) 2147483647 (divRound (s.edgeError * 10) 65536)) % 4294967296).toNat)
  obtain ⟨w, hw⟩ := exists_eq (a' := State.put { v with tref := { v.tref with run := s.edgeRun, edgeAt := some v.now, lastE := s.edgeError } }
    F.TB_STATUS_PPS_PRESENT 1)
  have hput : OnlyChanges [F.TB_STATUS_PPS_PRESENT, F.TB_PPS_ERR_E] [.tref] s v := hv ▸ .put _ _ _ (by decide)
  have hnow : v.now = s.now := by rw [hv, State.put_now]
  have hnoted : EdgeNoted s w :=
    { only := hput.trans (hw ▸ (OnlyChanges.tref _ _ (by decide)).trans (.put _ _ _ (by decide)))
      now := by rw [hw, State.put_now, hnow]
      present := by
        rw [hw, State.get_put_same]
        rfl
      error := by
        rw [hw, State.get_put_ne _ _ (by decide), State.get_mk, hv, State.get_put_same]
        exact Nat.mod_eq_of_lt (by show _ < 4294967296; omega)
      tref := by rw [hw, State.put_tref, hnow, hv, State.put_tref] }
  have hstate : w.get F.TB_STATUS_TIME_STATE = s.get F.TB_STATUS_TIME_STATE := hnoted.only.1 _ (by decide) (by decide)
  refine ⟨w, hnoted, ?_⟩
  unfold ppsEdge
  rw [if_neg (by simp [hown]), ← hstate, hw, hv]
  rfl

theorem countGlitch_kept (s : State) : EdgeKept s s.countGlitch := .tref .refl rfl rfl rfl

theorem takeGood_kept (s : State) : EdgeKept s s.takeGood := .releaseEpoch (.tref .refl rfl rfl rfl)

theorem sendEpoch_sends (s : State) : OnlyChanges [] [.fl] s s.sendEpoch ∧ s.sendEpoch.tref = s.tref := by
  unfold State.sendEpoch
  split
  · exact ⟨.ite (.fl _ _ (by decide)) (.refl s), by split <;> rfl⟩
  · exact ⟨.refl s, rfl⟩

/-- An epoch released stands in the account of PPS, and an array's modules hear of it. -/
theorem releaseEpoch_releases (s : State) :
    OnlyChanges [] [.tref, .fl] s s.releaseEpoch ∧ ∃ x, s.releaseEpoch.tref = { s.tref with epoch := x } := by
  unfold State.releaseEpoch
  split
  · next v _ =>
    obtain ⟨honly, htref⟩ := sendEpoch_sends { s with tref := { s.tref with epoch := some (v, false) } }
    exact ⟨(OnlyChanges.tref _ _ (by decide)).trans (honly.mono (by decide) (by decide)), _, htref⟩
  · exact ⟨.refl s, _, rfl⟩

theorem takeGood_takes (s : State) : OnlyChanges [] [.tref, .fl] s s.takeGood ∧
    ∃ x, s.takeGood.tref = { s.tref with glitches := 0, goodAt := some s.now, epoch := x } := by
  obtain ⟨honly, x, htref⟩ := releaseEpoch_releases { s with tref := { s.tref with glitches := 0, goodAt := some s.now } }
  exact ⟨(OnlyChanges.tref _ _ (by decide)).trans honly, x, htref⟩

theorem slewed_congr {s u : State} (h : u.tb = s.tb) (t : Nat) : u.slewed t = s.slewed t := by rw [State.slewed, h, State.slewed]

/-! ## What an edge does (R359, R360) -/

section
variable {s : State} (hown : s.ownRef = true)
include hown

/-- What every edge shows, and that nothing else changes but the steering. -/
theorem ppsEdge_shows : (ppsEdge s).get F.TB_STATUS_PPS_PRESENT = 1 ∧ (ppsEdge s).tref.lastE = s.edgeError ∧
    (ppsEdge s).tref.edgeAt = some s.now ∧
    (ppsEdge s).get F.TB_PPS_ERR_E = ((clampI (-2147483647) 2147483647 (divRound (s.edgeError * 10) 65536)) % 4294967296).toNat ∧
    OnlyChanges [F.TB_STATUS_PPS_PRESENT, F.TB_STATUS_PPS_QUAL, F.TB_STATUS_TIME_STATE, F.TB_PPS_ERR_E] [.tref, .tb, .fl] s (ppsEdge s) := by
  obtain ⟨w, hw, hrun⟩ := ppsEdge_notes hown
  have hkept : EdgeKept w (ppsEdge s) := by
    rw [hrun]
    exact .ite (.ite (.losePps (countGlitch_kept w)) (countGlitch_kept w)) (.ite (.steer (takeGood_kept w)) (.qualifyPps (takeGood_kept w)))
  refine ⟨?_, ?_, ?_, ?_, (hw.only.mono (by decide) (by decide)).trans (hkept.only.mono (by decide) (by decide))⟩
  · rw [hkept.only.1 _ (by decide) (by decide), hw.present]
  · rw [hkept.lastE, hw.tref]
  · rw [hkept.edgeAt, hw.tref]
  · rw [hkept.only.1 _ (by decide) (by decide), hw.error]

/-- In ALIGNED an edge more than 1 us off is a glitch, and unless it is the third in a row nothing else. -/
theorem ppsEdge_glitch (hst : s.get F.TB_STATUS_TIME_STATE = 1) (he : us < s.edgeError.natAbs) (hg : s.tref.glitches < 2) :
    (ppsEdge s).tref.glitches = s.tref.glitches + 1 ∧ (ppsEdge s).tb = s.tb ∧ (ppsEdge s).get F.TB_STATUS_TIME_STATE = 1 ∧
    (ppsEdge s).get F.TB_STATUS_PPS_QUAL = s.get F.TB_STATUS_PPS_QUAL := by
  obtain ⟨w, hw, hrun⟩ := ppsEdge_notes hown
  have hglitches : w.countGlitch.tref.glitches = s.tref.glitches + 1 := by
    rw [State.countGlitch, hw.tref]
  have hcounted : ppsEdge s = w.countGlitch := by rw [hrun, if_pos ⟨hst, he⟩, if_neg (by omega)]
  rw [hcounted]
  refine ⟨hglitches, hw.only.2 .tb (by decide), ?_, hw.only.1 F.TB_STATUS_PPS_QUAL (by decide) (by decide)⟩
  exact (hw.only.1 F.TB_STATUS_TIME_STATE (by decide) (by decide)).trans hst

/-- The state in which a good edge steers the time base, or counts towards the qualification. -/
theorem ppsEdge_good (hgood : s.get F.TB_STATUS_TIME_STATE = 1 → s.edgeError.natAbs ≤ us) : ∃ v x,
    OnlyChanges [F.TB_STATUS_PPS_PRESENT, F.TB_PPS_ERR_E] [.tref, .fl] s v ∧ v.now = s.now ∧
    v.tref = { s.tref with run := s.edgeRun, edgeAt := some s.now, lastE := s.edgeError, glitches := 0, goodAt := some s.now, epoch := x } ∧
    ppsEdge s = if s.is F.TB_STATUS_PPS_QUAL = true then v.steer s.edgeError else v.qualifyPps := by
  obtain ⟨w, hw, hrun⟩ := ppsEdge_notes hown
  obtain ⟨htaken, x, htref⟩ := takeGood_takes w
  have honly : OnlyChanges [F.TB_STATUS_PPS_PRESENT, F.TB_PPS_ERR_E] [.tref, .fl] s w.takeGood :=
    (hw.only.mono (by decide) (by decide)).trans (htaken.mono (by decide) (by decide))
  refine ⟨w.takeGood, x, honly, (takeGood_kept w).now.trans hw.now, by rw [htref, hw.tref, hw.now], ?_⟩
  rw [hrun, if_neg (fun h => absurd (hgood h.1) (Nat.not_le.mpr h.2)), honly.is (by decide) (by decide)]

variable (hq : s.is F.TB_STATUS_PPS_QUAL = true)
include hq

/-- In ALIGNED an edge at most 10 ns off is slewed out. -/
theorem ppsEdge_aligned (hst : s.get F.TB_STATUS_TIME_STATE = 1) (he : s.edgeError.natAbs ≤ 10 * ns) :
    (ppsEdge s).get F.TB_STATUS_TIME_STATE = 1 ∧ (ppsEdge s).tref.glitches = 0 ∧
    (ppsEdge s).tb = ⟨s.tb.off + s.slewed s.now, -s.edgeError, s.now⟩ := by
  have hle : 10 * ns ≤ us := by decide
  obtain ⟨v, x, honly, hnow, htref, hrun⟩ := ppsEdge_good hown (fun _ => le_trans he hle)
  have hvst : v.get F.TB_STATUS_TIME_STATE = 1 := (honly.1 _ (by decide) (by decide)).trans hst
  have htb : v.tb = s.tb := honly.2 .tb (by decide)
  have hslew : ppsEdge s = v.slewTo (-s.edgeError) := by
    rw [hrun, if_pos hq]
    unfold State.steer
    dsimp only
    rw [if_pos hvst, if_pos (decide_eq_true he)]
  rw [hslew]
  refine ⟨hvst, ?_, ?_⟩
  · show v.tref.glitches = 0
    rw [htref]
  · rw [State.slewTo, slewed_congr htb, htb, hnow]

/-- In ALIGNED an edge more than 10 ns and at most 1 us off is slewed out, and the state becomes RECOVERING. -/
theorem ppsEdge_leaves (hst : s.get F.TB_STATUS_TIME_STATE = 1) (he : 10 * ns < s.edgeError.natAbs) (hle : s.edgeError.natAbs ≤ us) :
    (ppsEdge s).get F.TB_STATUS_TIME_STATE = 3 ∧ (ppsEdge s).tref.leftAt = some s.now ∧
    (ppsEdge s).tb = ⟨s.tb.off + s.slewed s.now, -s.edgeError, s.now⟩ := by
  obtain ⟨v, x, honly, hnow, htref, hrun⟩ := ppsEdge_good hown (fun _ => hle)
  have hvst : v.get F.TB_STATUS_TIME_STATE = 1 := (honly.1 _ (by decide) (by decide)).trans hst
  have htb : v.tb = s.tb := honly.2 .tb (by decide)
  obtain ⟨r, hr⟩ := exists_eq (a' := (v.slewTo (-s.edgeError)).setTime 3)
  have hleft : ppsEdge s = { r with tref := { r.tref with small := 0 } } := by
    rw [hrun, if_pos hq, hr]
    unfold State.steer
    dsimp only
    rw [if_pos hvst, if_neg (by simpa using he)]
  rw [hleft, State.get_mk, hr]
  refine ⟨get_setTime _ 3, ?_, ?_⟩
  · show (if 3 = 1 then none else if v.get F.TB_STATUS_TIME_STATE = 1 then some v.now else v.tref.leftAt) = some s.now
    rw [if_neg (by decide), if_pos hvst, hnow]
  · show (v.slewTo (-s.edgeError)).tb = _
    rw [State.slewTo, slewed_congr htb, htb, hnow]

/-- In RECOVERING the third edge in a row at most 10 ns off gives ALIGNED. -/
theorem ppsEdge_realigns (hst : s.get F.TB_STATUS_TIME_STATE = 3) (hs : s.tref.small = 2) (he : s.edgeError.natAbs ≤ 10 * ns) :
    (ppsEdge s).get F.TB_STATUS_TIME_STATE = 1 ∧ (ppsEdge s).tref.leftAt = none := by
  obtain ⟨v, x, honly, hnow, htref, hrun⟩ := ppsEdge_good hown (fun h => absurd (hst.symm.trans h) (by decide))
  have hvst : v.get F.TB_STATUS_TIME_STATE = 3 := (honly.1 _ (by decide) (by decide)).trans hst
  have hsmall : v.tref.small = 2 := by rw [htref, hs]
  have hdone : ∃ r : State, ppsEdge s = (r.setTime 1).raise 0x0B07 wide 0 := by
    rw [hrun, if_pos hq]
    unfold State.steer
    extract_lets st tight left tref stepped steered n tref' counted
    have hsteered : steered.tref.small = 2 := by
      show (if _ then v else if _ then v.slewTo _ else _).tref.small = 2
      split
      · exact hsmall
      · split <;> exact hsmall
    have hn : 3 ≤ n := by
      show 3 ≤ if decide (s.edgeError.natAbs ≤ 10 * ns) = true then steered.tref.small + 1 else 0
      rw [if_pos (decide_eq_true he), hsteered]
    rw [if_neg (by rw [show st = 3 from hvst]; decide), if_pos hvst, if_pos hn]
    exact ⟨_, rfl⟩
  obtain ⟨r, hr⟩ := hdone
  rw [hr]
  refine ⟨?_, ?_⟩
  · rw [State.get_raise _ _ _ _ (by decide), get_setTime]
  · rw [State.raise_tref]
    rfl

omit hq

/-- In FREE the fourth edge in a row qualifies PPS, and the whole error is left for the next second boundary. -/
theorem ppsEdge_qualifies {p q r : Nat} (hnq : s.is F.TB_STATUS_PPS_QUAL = false) (hst : s.get F.TB_STATUS_TIME_STATE = 0)
    (hr : s.tref.run = [p, q, r]) (hp : ((s.now : Int) - p - (1000 * ms : Nat)).natAbs ≤ us) :
    (ppsEdge s).get F.TB_STATUS_PPS_QUAL = 1 ∧ (ppsEdge s).tref.step = some (-s.edgeError) ∧ (ppsEdge s).tb = s.tb ∧
    (ppsEdge s).get F.TB_STATUS_TIME_STATE = 0 := by
  obtain ⟨v, x, honly, hnow, htref, hrun⟩ := ppsEdge_good hown (fun h => absurd (hst.symm.trans h) (by decide))
  have hvnq : v.is F.TB_STATUS_PPS_QUAL = false := (honly.is (by decide) (by decide)).trans hnq
  have hfour : v.tref.run.length = 4 := by
    rw [htref]
    show s.edgeRun.length = 4
    simp only [State.edgeRun, hr, decide_eq_true hp]
    rfl
  obtain ⟨w, hw⟩ := exists_eq (a' := (v.put F.TB_STATUS_PPS_QUAL 1).raise 0x0B03 wide 0)
  have hqual : w.get F.TB_STATUS_PPS_QUAL = 1 := by
    rw [hw, State.get_raise _ _ _ _ (by decide), State.get_put_same]
    rfl
  have hwst : w.get F.TB_STATUS_TIME_STATE = 0 := by
    rw [hw, State.get_raise _ _ _ _ (by decide), State.get_put_ne _ _ (by decide), honly.1 _ (by decide) (by decide), hst]
  have hwtb : w.tb = s.tb := by
    rw [hw, State.raise_tb, State.put_tb]
    exact honly.2 .tb (by decide)
  have hstep : ppsEdge s = { w with tref := { w.tref with step := some (-s.edgeError) } } := by
    have hlast : v.tref.lastE = s.edgeError := by rw [htref]
    rw [hrun, if_neg (by simp [hnq]), State.qualifyPps, if_neg (by simp [hvnq, hfour]), ← hw, hlast, State.startRemoval]
    exact if_pos hwst
  rw [hstep]
  exact ⟨hqual, rfl, hwtb, hwst⟩

end

/-! ## PPS lost (R359) -/

/-- PPS is lost for good where too few edges are in a row to qualify it again. -/
theorem losePps_loses {s : State} (h : s.tref.run.length < 4) : s.losePps.get F.TB_STATUS_PPS_QUAL = 0 ∧ s.losePps.get F.TB_STATUS_TIME_STATE =
    if s.get F.TB_STATUS_TIME_STATE = 1 ∨ s.get F.TB_STATUS_TIME_STATE = 3 then 2 else s.get F.TB_STATUS_TIME_STATE := by
  obtain ⟨w, hw⟩ := exists_eq (a' := (State.put { s with tref := { s.tref with glitches := 0, small := 0, step := none } }
    F.TB_STATUS_PPS_QUAL 0).raise 0x0B04 wide 0)
  obtain ⟨v, hv⟩ := exists_eq (a' := if w.get F.TB_STATUS_TIME_STATE = 1 ∨ w.get F.TB_STATUS_TIME_STATE = 3 then
    ((w.slewTo 0).setTime 2).releaseEpoch else w)
  have hqual : w.get F.TB_STATUS_PPS_QUAL = 0 := by
    rw [hw, State.get_raise _ _ _ _ (by decide), State.get_put_same, Nat.zero_mod]
  have hstate : w.get F.TB_STATUS_TIME_STATE = s.get F.TB_STATUS_TIME_STATE := by
    rw [hw, State.get_raise _ _ _ _ (by decide), State.get_put_ne _ _ (by decide), State.get_mk]
  have hrun : w.tref.run = s.tref.run := by rw [hw, State.raise_tref, State.put_tref]
  have hheld : ∀ f : Fld, f.key ∉ settleKeys → v.get f = w.holdTime.get f := fun f hf => by
    rw [hv, State.holdTime]
    split
    · exact (releaseEpoch_releases _).1.1 f hf (by simp)
    · rfl
  have hvrun : v.tref.run.length < 4 := by
    have hkept : EdgeKept w v := hv ▸ .ite (.releaseEpoch (.setTime (.slewTo .refl))) .refl
    rwa [hkept.run, hrun]
  have hlost : s.losePps = v := by
    rw [hv, hw] at hvrun
    rw [hv, hw]
    exact if_pos (.inr hvrun)
  obtain ⟨honly, htime⟩ := holdTime_holds w
  rw [hlost, hheld _ (by decide), hheld _ (by decide), honly.1 _ (by decide) (by decide), hqual, htime, hstate]
  exact ⟨rfl, rfl⟩

section
variable (s : State) (t : Nat) (hown : s.ownRef = true)
include hown

theorem exec_ppsLost {g : Nat} (hq : s.is F.TB_STATUS_PPS_QUAL = true) (hgood : s.tref.goodAt = some g) (hlate : g + 1100 * ms ≤ t)
    (hrun : s.tref.run.length < 4) : ∃ u, exec (.ppsLost t) s = .next u ∧ u.get F.TB_STATUS_PPS_QUAL = 0 ∧
      u.get F.TB_STATUS_TIME_STATE =
        (if s.get F.TB_STATUS_TIME_STATE = 1 ∨ s.get F.TB_STATUS_TIME_STATE = 3 then 2 else s.get F.TB_STATUS_TIME_STATE) ∧
      OnlyChanges [F.TB_STATUS_PPS_PRESENT, F.TB_STATUS_PPS_QUAL, F.TB_STATUS_TIME_STATE] [.tref, .tb, .fl] s u := by
  have hmissed : ∃ w : State, OnlyChanges [F.TB_STATUS_PPS_PRESENT] [.tref] (s.advance t) w ∧ w.tref.run.length < 4 ∧
      ppsLost (s.advance t) = w.losePps := by
    have hnow : g + 1100 * ms ≤ max s.now t := le_trans hlate (le_max_right _ _)
    unfold ppsLost
    rw [if_neg (by simp [show (s.advance t).ownRef = true from hown])]
    extract_lets late tref w
    have honly : OnlyChanges [F.TB_STATUS_PPS_PRESENT] [.tref] (s.advance t) w :=
      .ite ((OnlyChanges.tref _ _ (by decide)).trans (.put _ _ _ (by decide))) (.refl _)
    have hw : w.tref.goodAt = some g ∧ w.tref.run.length < 4 := by
      show (if _ then _ else _ : State).tref.goodAt = some g ∧ (if _ then _ else _ : State).tref.run.length < 4
      split
      · exact ⟨hgood, Nat.zero_lt_succ 3⟩
      · exact ⟨hgood, hrun⟩
    have hlost : w.is F.TB_STATUS_PPS_QUAL = true := (honly.is (by decide) (by decide)).trans hq
    have hover : late w.tref.goodAt = true := by
      rw [hw.1]
      exact decide_eq_true hnow
    exact ⟨w, honly, hw.2, if_pos ⟨hlost, hover⟩⟩
  obtain ⟨w, honly, hwrun, hlost⟩ := hmissed
  obtain ⟨hqual, htime⟩ := losePps_loses hwrun
  refine ⟨_, rfl, ?_, ?_, .answer (t := t) ?_⟩ <;> rw [hlost]
  · rw [State.get_answer _ _ (by decide), hqual]
  · rw [State.get_answer _ _ (by decide), htime, honly.1 _ (by decide) (by decide), State.get_advance]
  · exact (honly.mono (by decide) (by decide)).trans ((EdgeKept.losePps .refl).only.mono (by decide) (by decide))

end

end Sys2Proof.Machine

section
open Sys2Proof Sys2Proof.Machine

/-- Settles O40: REF10M qualifying and lost, an edge of PPS and PPS lost are facts of their own; an edge is noted first, and then is a glitch, steers
or qualifies. -/
theorem timeReferences : Obligations.TimeReferences := by
  intro s t hown
  refine ⟨?qualified, ?lost, ?edge, ?ppsLost⟩
  case qualified => exact exec_refQualified s t hown
  case lost => exact fun _ hq => exec_refLost s t hown hq
  case ppsLost => exact fun _ hq hgood hlate hrun => exec_ppsLost s t hown hq hgood hlate hrun
  case edge =>
    intro e he
    obtain rfl : e = (s.advance t).edgeError := he
    have hown' : (s.advance t).ownRef = true := hown
    obtain ⟨hpresent, hlast, hat, herror, honly⟩ := ppsEdge_shows hown'
    refine ⟨_, rfl, ?_, ?_, ?_, ?_, fun hst he hg => ?_, fun hq hst he => ?_, fun hq hst he hle => ?_, fun hq hst hs he => ?_,
      fun p q r hnq hst hr hp => ?_, .answer (t := t) honly⟩ <;>
      simp only [State.answer_tref, State.answer_tb, State.get_answer _ _ (show F.TB_STATUS_PPS_PRESENT.key ∉ settleKeys by decide),
        State.get_answer _ _ (show F.TB_STATUS_PPS_QUAL.key ∉ settleKeys by decide),
        State.get_answer _ _ (show F.TB_STATUS_TIME_STATE.key ∉ settleKeys by decide),
        State.get_answer _ _ (show F.TB_PPS_ERR_E.key ∉ settleKeys by decide)]
    · exact hpresent
    · exact hlast
    · exact hat
    · exact herror
    · exact ppsEdge_glitch hown' hst he hg
    · exact ppsEdge_aligned hown' hq hst he
    · exact ppsEdge_leaves hown' hq hst he hle
    · exact ppsEdge_realigns hown' hq hst hs he
    · exact ppsEdge_qualifies hown' hnq hst hr hp

end

/-!
Starts that fail, SAFE_HOLD, and the shutdown that a failing crystal begins in RUN and IDLE (R106, R384, R388-R391, R403).
-/

namespace Sys2Proof.Machine

/-! ## What SAFE_HOLD and a shutdown leave of the registers of start and power -/

/-- The registers that show a failed start, SAFE_HOLD, the domains powered and a shutdown's first step. -/
def powerKeys : List Nat :=
  [F.PM_START_FAILS.key, F.PM_START_HOLD.key, F.PM_STATE_LAST_RESET.key, F.PM_STATE_STATE.key, F.PM_STATE_SHUTTING.key, F.PM_DOMAINS_ON.key,
   F.SB_START_INFO_CAUSE.key, F.SB_STATUS_PHASE.key, F.SB_SHUTDOWN_STEP.key, F.SL_STATUS_CLK_FAIL.key]

/-- Above the blocks of PM_ and SB_ one register alone is among them: SL_STATUS CLK_FAIL. A field of an indexed register lies there by its address. -/
theorem not_powerKey {k : Nat} (h : 5 * 2 ^ 21 ≤ k := by simp; omega) (h2 : k ≠ 10485912 := by simp; omega) : k ∉ powerKeys := by
  simp only [powerKeys, List.mem_cons, List.not_mem_nil, or_false]
  omega

theorem powerKeys_not_settled : ∀ k ∈ powerKeys, k ∉ settleKeys := by decide

/-- From `s` to `u` these registers, the instant and the optical engine's account are kept, and of the power account all but what PD_LASER holds. -/
structure PowerKept (s u : State) : Prop where
  get : ∀ f : Fld, f.key ∈ powerKeys → u.get f = s.get f
  now : u.now = s.now
  opt : u.opt = s.opt
  pw : { u.pw with laserAt := none } = { s.pw with laserAt := none }

namespace PowerKept

variable {s u w : State}

theorem refl : PowerKept s s := ⟨fun _ _ => rfl, rfl, rfl, rfl⟩

theorem trans (a : PowerKept s u) (b : PowerKept u w) : PowerKept s w :=
  ⟨fun f h => (b.get f h).trans (a.get f h), b.now.trans a.now, b.opt.trans a.opt, b.pw.trans a.pw⟩

theorem ite {c : Prop} [Decidable c] {a b : State} (ha : PowerKept s a) (hb : PowerKept s b) : PowerKept s (if c then a else b) := by
  split
  · exact ha
  · exact hb

theorem each {α : Type} {xs : List α} {f : α → State → State} (h : PowerKept s w) (hf : ∀ x v, PowerKept s v → PowerKept s (f x v)) :
    PowerKept s (each xs f w) := by
  unfold Machine.each
  induction xs generalizing w with
  | nil => exact h
  | cons x xs ih => exact ih (hf x w h)

/-- A change beside what is kept. -/
theorem beside {mem freeCtr resp ev sched sw lanes fp secs dfifo built fab recd br sens dram out evt tref fl bt nv lc tb otp pending}
    (h : PowerKept s w) : PowerKept s ⟨w.regs, mem, w.now, freeCtr, resp, ev, sched, w.opt, sw, lanes, fp, secs, dfifo, built, fab, recd, br, sens,
      dram, out, evt, tref, fl, bt, w.pw, nv, lc, tb, otp, pending⟩ := ⟨h.get, h.now, h.opt, h.pw⟩

theorem put (h : PowerKept s w) {f : Fld} {v : Nat} (hf : f.key ∉ powerKeys := by decide) : PowerKept s (w.put f v) :=
  h.trans ⟨fun _ hg => State.get_put_ne _ _ (fun e => hf (e ▸ hg)), rfl, rfl, rfl⟩

theorem putB (h : PowerKept s w) {f : Fld} {b : Bool} (hf : f.key ∉ powerKeys := by decide) : PowerKept s (w.putB f b) := h.put hf

theorem putSat (h : PowerKept s w) {f : Fld} {v : Nat} (hf : f.key ∉ powerKeys := by decide) : PowerKept s (w.putSat f v) := h.put hf

theorem posting (h : PowerKept s w) (hp : Posting w u) : PowerKept s u :=
  h.trans ⟨fun _ hf => hp.quiet.get _ (powerKeys_not_settled _ hf), hp.now, hp.opt, by rw [hp.pw]⟩

theorem raise (h : PowerKept s w) {code inst val : Nat} : PowerKept s (w.raise code inst val) := h.posting (Posting.raise _ _ _ _)

theorem raiseAny (h : PowerKept s w) {code inst val : Nat} : PowerKept s (w.raiseAny code inst val) := by
  obtain ⟨c, hc⟩ := raiseAny_posting w code inst val
  exact posting (.beside h) hc

/-! ### Memory and the platform's regions -/

theorem syncRegions (h : PowerKept s w) : PowerKept s w.syncRegions :=
  .put (.putB (.put (.put (.each h (fun _ _ hv => .put hv not_powerKey)))))

theorem memoryStart (h : PowerKept s w) : PowerKept s w.memoryStart :=
  .syncRegions (.each (.beside h) (fun _ _ hv => .ite (.ite hv (.beside hv)) (.ite hv (.beside hv))))

theorem clampRegions (h : PowerKept s w) : PowerKept s w.clampRegions := .put (.put (.put h))

theorem placeRegions (h : PowerKept s w) : PowerKept s w.placeRegions := by
  unfold State.placeRegions
  extract_lets clamped nb se aux frame side based framed n
  have hclamped : PowerKept s clamped := .clampRegions h
  have hframed : PowerKept s framed := .put (.put (.put (.put (.put hclamped))))
  exact .put (.each hframed (fun _ _ hv => .put hv not_powerKey))

theorem placeBoard (h : PowerKept s w) : PowerKept s w.placeBoard := by
  unfold State.placeBoard
  extract_lets log events emptied shown
  have hshown : PowerKept s shown := .putSat (.put (.put (.beside h)))
  exact .each (f := fun e s => s.post e) hshown (fun e _ hv => hv.posting (Posting.post _ _))

/-! ### The NVM operation that has waited -/

theorem nvRuns (h : PowerKept s w) {cmd result : Nat} : PowerKept s (w.nvRuns cmd result) := .put (.beside h)

theorem nvEnd (h : PowerKept s w) {result : Nat} : PowerKept s (w.nvEnd result) := .raiseAny (.put (.put (.put (.beside h))))

theorem countWrite (h : PowerKept s w) : PowerKept s w.countWrite := .putSat h

theorem nvErase (h : PowerKept s w) : PowerKept s w.nvErase := by
  unfold State.nvErase
  extract_lets b e erased shown
  exact .nvRuns (.countWrite (.ite (.put (.beside h)) (.put (.beside h))))

theorem nvProgram (h : PowerKept s w) : PowerKept s w.nvProgram := .ite (.nvEnd h) (.nvRuns (.countWrite (.beside h)))

theorem nvRead (h : PowerKept s w) : PowerKept s w.nvRead :=
  .ite (.nvEnd h) (.nvRuns (.each h (fun _ _ hv => .put hv not_powerKey)))

theorem nvRaise (h : PowerKept s w) : PowerKept s w.nvRaise := by
  have hraised : ∀ rl, PowerKept s (w.raiseRollback rl).1 := fun rl => by
    unfold State.raiseRollback
    split
    · exact h
    · split
      · exact .raiseAny (.beside h)
      · exact h
  unfold State.nvRaise
  split
  · exact .nvRuns h
  · exact .nvRuns (hraised _)

theorem nvResume (h : PowerKept s w) : PowerKept s w.nvResume := by
  unfold State.nvResume
  split
  · refine .ite ?_ h
    unfold State.nvBegin
    extract_lets nv begun
    have hbegun : PowerKept s begun := .beside h
    split
    · exact .nvErase hbegun
    · exact .nvProgram hbegun
    · exact .nvRuns hbegun
    · exact .nvRead hbegun
    · exact .nvRaise hbegun
  · exact h

/-! ### Lanes, captures and switches that end -/

theorem brHalt (h : PowerKept s w) : PowerKept s w.brHalt := .ite h (.raise (.put (.put (.put (.beside h)))))

theorem setLaneState (h : PowerKept s w) {n st : Nat} : PowerKept s (w.setLaneState n st) :=
  have hput : PowerKept s ((w.put (F.SL_LANE_STATUS_STATE n) st).syncLaneOk) := .put (.put h not_powerKey)
  .ite (.brHalt hput) hput

theorem laneStart (h : PowerKept s w) {n : Nat} : PowerKept s (w.laneStart n) := by
  unfold State.laneStart
  extract_lets cs taken
  exact .setLaneState (.put (.beside h) not_powerKey)

theorem lanesEnable (h : PowerKept s w) : PowerKept s w.lanesEnable :=
  .each h (fun _ _ hv => .ite (.ite (.laneStart hv) hv) (.ite hv (.setLaneState (.beside hv))))

theorem syncLine (h : PowerKept s w) {n : Nat} : PowerKept s (w.syncLine n) := by
  unfold State.syncLine
  extract_lets x shown mask
  have hshown : PowerKept s shown := .put (.put (.put h not_powerKey) not_powerKey) not_powerKey
  exact .put (.put hshown)

theorem writeRecord (h : PowerKept s w) {n : Nat} {c : Capture} {cause : Nat} : PowerKept s (w.writeRecord n c cause) := by
  unfold State.writeRecord
  extract_lets x last post wr empty written noted counted
  have hcounted : PowerKept s counted := .put (.put (.beside (.beside h)) not_powerKey) not_powerKey
  exact .ite (.raise hcounted) hcounted

theorem closeWhere (h : PowerKept s w) {n cause : Nat} {p : Capture → Bool} : PowerKept s (w.closeWhere n cause p) := by
  unfold State.closeWhere
  extract_lets x due order open_ closed y f
  have hclosed : PowerKept s closed := .each (.beside h) (fun _ _ hv => .writeRecord hv)
  exact .ite h (.ite (.beside hclosed) hclosed)

theorem closeAll (h : PowerKept s w) {cause : Nat} : PowerKept s (w.closeAll cause) :=
  .each h (fun _ _ hv => .ite hv (.syncLine (.closeWhere hv)))

theorem abandonSwitch (h : PowerKept s w) : PowerKept s w.abandonSwitch := by
  unfold State.abandonSwitch
  extract_lets lead sw fab abandoned shown
  have hshown : PowerKept s shown := .ite (.put (.put (.beside h))) (.beside h)
  exact .put (.put hshown)

theorem laserOff (h : PowerKept s w) : PowerKept s w.laserOff := by
  unfold State.laserOff
  extract_lets sens pw dark
  have hdark : PowerKept w dark := ⟨fun _ _ => rfl, rfl, rfl, rfl⟩
  exact .put (.put (h.trans hdark))

/-! ### Reading what is kept -/

theorem domainOn (h : PowerKept s w) (d : Nat) : w.domainOn d = s.domainOn d := domainOn_congr (h.get _ (by decide)) d

theorem startAt (h : PowerKept s w) : w.pw.startAt = s.pw.startAt := (congrArg Power.startAt h.pw :)
theorem shut (h : PowerKept s w) : w.pw.shut = s.pw.shut := (congrArg Power.shut h.pw :)
theorem coldDue (h : PowerKept s w) : w.pw.coldDue = s.pw.coldDue := (congrArg Power.coldDue h.pw :)
theorem failedAt (h : PowerKept s w) : w.pw.failedAt = s.pw.failedAt := (congrArg Power.failedAt h.pw :)

end PowerKept

/-! ## Which domains OFF leaves powered -/

theorem foldl_or_testBit (ds : List Nat) (a d : Nat) :
    (ds.foldl (fun a d => a ||| 2 ^ d) a).testBit d = (a.testBit d || decide (d ∈ ds)) := by
  induction ds generalizing a with
  | nil => simp
  | cons x xs ih =>
    rw [List.foldl_cons, ih, Nat.testBit_or, Nat.testBit_two_pow, Bool.or_assoc]
    simp only [List.mem_cons, Bool.decide_or, eq_comm]

/-- The mask of a list of domains has exactly their bits. -/
theorem domainMask_testBit (ds : List Nat) (d : Nat) : (domainMask ds).testBit d = decide (d ∈ ds) := by
  rw [domainMask, foldl_or_testBit, Nat.zero_testBit, Bool.false_or]

theorem goOff_poweredOnly (s : State) (on : List Nat) : (s.goOff on).poweredOnly on := fun d hd => by
  rw [State.domainOn, State.goOff, get_setDomains_on, Nat.testBit_mod_two_pow, domainMask_testBit]
  simp only [show d < F.PM_DOMAINS_ON.width from hd, decide_true, Bool.true_and, decide_eq_true_eq]

/-- Without PD_TX the module is dark. -/
theorem goOff_dark (s : State) {on : List Nat} (h5 : 5 ∉ on) : (s.goOff on).opt.off = true :=
  setDomains_off _ (.inl (by rw [domainMask_testBit, decide_eq_false h5]))

/-- Neither a start nor a shutdown is in progress or due. -/
theorem goOff_ended (s : State) (on : List Nat) :
    (s.goOff on).pw.startAt = none ∧ (s.goOff on).pw.shut = none ∧ (s.goOff on).pw.coldDue = false ∧ (s.goOff on).pw.failedAt = none := by
  obtain ⟨l, tr, hpw⟩ := goOff_pw s on
  rw [hpw]
  exact ⟨rfl, rfl, rfl, rfl⟩

/-- The cause of the last failed start outlives every change of domains (R389). -/
theorem get_goOff_cause (s : State) (on : List Nat) : (s.goOff on).get F.SB_START_INFO_CAUSE = s.get F.SB_START_INFO_CAUSE := by
  rw [State.goOff, get_setDomains _ (by simp [keepsKey]) (by decide) (by decide), State.clearStart, State.get_put_ne _ _ (by decide),
    State.get_put_ne _ _ (by decide), State.get_put_ne _ _ (by decide)]
  rfl

/-! ## Going dark -/

theorem get_lightOff (s : State) {f : Fld} (h : f.key ∉ settleKeys) : s.lightOff.get f = s.get f := (Quiet.syncOptics _).get f h

theorem lightOff_off (s : State) : s.lightOff.opt.off = true := by
  rw [State.lightOff, (Quiet.syncOptics _).opt]

theorem lightOff_domainOn (s : State) (d : Nat) : s.lightOff.domainOn d = s.domainOn d := domainOn_congr (get_lightOff s (by decide)) d

/-! ## A failure counted and shown (R389) -/

/-- The failure counted and shown, and the module dark. -/
def State.countFailure (s : State) (cause : Nat) : State :=
  let fails := min 3 (s.get F.PM_START_FAILS + 1)
  let s := ((s.put F.PM_START_FAILS fails).put F.SB_START_INFO_CAUSE cause).put F.PM_STATE_LAST_RESET (if cause = 8 then 4 else 5)
  (s.raiseAny 0x0D02 wide (cause + 256 * fails)).lightOff

theorem failStart_eq (s : State) (cause : Nat) (tr : Bool) : s.failStart cause tr =
    if min 3 (s.get F.PM_START_FAILS + 1) < 3 then
      { (s.countFailure cause).goOff [0] with pw := { ((s.countFailure cause).goOff [0]).pw with failedAt := some ((s.countFailure cause).goOff [0]).now } }
    else (s.countFailure cause).safeHold tr := rfl

/-- The registers that show a failed start read its cause and the count. -/
structure FailureShown (cause fails : Nat) (s : State) : Prop where
  why : s.get F.SB_START_INFO_CAUSE = cause
  fails : s.get F.PM_START_FAILS = fails
  last : s.get F.PM_STATE_LAST_RESET = if cause = 8 then 4 else 5

theorem get_countFailure (s : State) (cause : Nat) {f : Fld} (h : f.key ∉ settleKeys)
    (hf : f.key ∉ [F.PM_START_FAILS, F.SB_START_INFO_CAUSE, F.PM_STATE_LAST_RESET].map (·.key)) : (s.countFailure cause).get f = s.get f := by
  simp only [List.map_cons, List.map_nil, List.mem_cons, List.not_mem_nil, or_false, not_or] at hf
  obtain ⟨hfails, hwhy, hlast⟩ := hf
  rw [State.countFailure, get_lightOff _ h, State.get_raiseAny _ _ _ _ (fun he => h (List.mem_of_mem_take he)), State.get_put_ne _ _ hlast,
    State.get_put_ne _ _ hwhy, State.get_put_ne _ _ hfails]

theorem countFailure_shown (s : State) {cause : Nat} (hc : cause < 256) :
    FailureShown cause (min 3 (s.get F.PM_START_FAILS + 1)) (s.countFailure cause) := by
  refine ⟨?_, ?_, ?_⟩ <;> rw [State.countFailure, get_lightOff _ (by decide), State.get_raiseAny _ _ _ _ (by decide)]
  · rw [State.get_put_ne _ _ (by decide), State.get_put_same]
    exact Nat.mod_eq_of_lt hc
  · rw [State.get_put_ne _ _ (by decide), State.get_put_ne _ _ (by decide), State.get_put_same]
    exact Nat.mod_eq_of_lt (Nat.lt_succ_of_le (Nat.min_le_left _ _))
  · rw [State.get_put_same]
    split <;> rfl

theorem countFailure_domainOn (s : State) (cause d : Nat) : (s.countFailure cause).domainOn d = s.domainOn d :=
  domainOn_congr (get_countFailure s cause (by decide) (by decide)) d

namespace FailureShown

variable {cause fails : Nat} {s u : State}

theorem goOff (h : FailureShown cause fails s) (h0 : s.domainOn 0 = true) {on : List Nat} (hon : 0 ∈ on) : FailureShown cause fails (s.goOff on) := by
  have hbit : (domainMask on).testBit 0 = true := by rw [domainMask_testBit, decide_eq_true hon]
  exact ⟨(get_goOff_cause s on).trans h.why, (get_goOff (by decide) hbit h0 (by decide)).trans h.fails,
    (get_goOff (by decide) hbit h0 (by decide)).trans h.last⟩

theorem of_kept (h : FailureShown cause fails s) (hk : PowerKept s u) : FailureShown cause fails u :=
  ⟨(hk.get _ (by decide)).trans h.why, (hk.get _ (by decide)).trans h.fails, (hk.get _ (by decide)).trans h.last⟩

theorem put (h : FailureShown cause fails s) {f : Fld} {v : Nat}
    (hf : f.key ∉ [F.SB_START_INFO_CAUSE.key, F.PM_START_FAILS.key, F.PM_STATE_LAST_RESET.key]) : FailureShown cause fails (s.put f v) := by
  simp only [List.mem_cons, List.not_mem_nil, or_false, not_or] at hf
  obtain ⟨hwhy, hfails, hlast⟩ := hf
  exact ⟨(State.get_put_ne _ _ (Ne.symm hwhy)).trans h.why, (State.get_put_ne _ _ (Ne.symm hfails)).trans h.fails,
    (State.get_put_ne _ _ (Ne.symm hlast)).trans h.last⟩

end FailureShown

/-! ## SAFE_HOLD (R391) -/

/-- The domains that SAFE_HOLD powers: PD_FLOTIS stays where a port has a partner, and PD_MEM is powered where its training succeeds. -/
def State.holdDomains (s : State) (tr : Bool) : List Nat :=
  [0, 1, 2, 3, 14] ++ (if s.portUp 0 || s.portUp 1 then s.ifOn 15 else []) ++ (if tr then [13] else [])

theorem mem_holdDomains {s : State} {tr : Bool} {d : Nat} (hd : d ≠ 15) : d ∈ s.holdDomains tr ↔ d ∈ [0, 1, 2, 3, 14] ∨ (d = 13 ∧ tr = true) := by
  have hpartner : d ∉ (if s.portUp 0 || s.portUp 1 then s.ifOn 15 else []) := by
    unfold State.ifOn
    split
    · split
      · simpa using hd
      · exact List.not_mem_nil
    · exact List.not_mem_nil
  have htrained : d ∈ (if tr then [13] else []) ↔ d = 13 ∧ tr = true := by cases tr <;> simp
  rw [State.holdDomains, List.mem_append, List.mem_append, htrained, or_iff_left hpartner]

/-- OFF with the domains of SAFE_HOLD, and the hold shown. -/
def State.showHold (s : State) (tr : Bool) : State :=
  (((s.goOff (s.holdDomains tr)).put F.PM_START_HOLD 1).put F.PM_STATE_STATE 3).put F.SB_STATUS_PHASE 5 |>.put F.SB_STATUS_COMMITTED 0

/-- DRAM, the board and the operation that has waited leave what SAFE_HOLD shows. -/
theorem safeHold_keeps (s : State) (tr : Bool) : PowerKept (s.showHold tr) (s.safeHold tr) := by
  unfold State.safeHold
  extract_lets partner fresh off shown started placed
  have hshown : PowerKept (s.showHold tr) shown := .refl
  have hstarted : PowerKept (s.showHold tr) started := .ite (.memoryStart hshown) hshown
  have hplaced : PowerKept (s.showHold tr) placed := .ite (.placeBoard (.placeRegions (.put hstarted))) hshown
  exact .nvResume (.raiseAny hplaced)

theorem showHold_domainOn (s : State) (tr : Bool) {d : Nat} (hd : d < 15) :
    (s.showHold tr).domainOn d = true ↔ d ∈ [0, 1, 2, 3, 14] ∨ (d = 13 ∧ tr = true) := by
  rw [State.showHold, State.domainOn_put _ _ _ (by decide), State.domainOn_put _ _ _ (by decide), State.domainOn_put _ _ _ (by decide),
    State.domainOn_put _ _ _ (by decide), goOff_poweredOnly s _ d (by omega), mem_holdDomains (by omega)]

theorem get_showHold (s : State) (tr : Bool) : (s.showHold tr).get F.PM_STATE_STATE = 3 ∧ (s.showHold tr).get F.PM_START_HOLD = 1 := by
  constructor <;> rw [State.showHold, State.get_put_ne _ _ (by decide), State.get_put_ne _ _ (by decide)]
  · rw [State.get_put_same]
    rfl
  · rw [State.get_put_ne _ _ (by decide), State.get_put_same]
    rfl

theorem showHold_pw (s : State) (tr : Bool) : (s.showHold tr).pw = (s.goOff (s.holdDomains tr)).pw := by simp only [State.showHold, State.put_pw]

theorem showHold_opt (s : State) (tr : Bool) : (s.showHold tr).opt = (s.goOff (s.holdDomains tr)).opt := by simp only [State.showHold, State.put_opt]

/-- SAFE_HOLD ends the start in progress, and no cold start is due. -/
theorem safeHold_ended (s : State) (tr : Bool) : ((s.safeHold tr).pw.startAt = none ∧ (s.safeHold tr).pw.shut = none ∧
    (s.safeHold tr).pw.coldDue = false) ∧ (s.safeHold tr).pw.failedAt = none := by
  have hkept := safeHold_keeps s tr
  obtain ⟨hstart, hshut, hdue, hat⟩ := goOff_ended s (s.holdDomains tr)
  rw [hkept.startAt, hkept.shut, hkept.coldDue, hkept.failedAt, showHold_pw]
  exact ⟨⟨hstart, hshut, hdue⟩, hat⟩

theorem safeHold_dark (s : State) (tr : Bool) : (s.safeHold tr).opt.off = true := by
  rw [(safeHold_keeps s tr).opt, showHold_opt]
  exact goOff_dark s (fun h => absurd ((mem_holdDomains (by decide)).1 h) (by simp))

theorem get_safeHold (s : State) (tr : Bool) : (s.safeHold tr).get F.PM_STATE_STATE = 3 ∧ (s.safeHold tr).get F.PM_START_HOLD = 1 := by
  rw [(safeHold_keeps s tr).get _ (by decide), (safeHold_keeps s tr).get _ (by decide)]
  exact get_showHold s tr

/-- What shows the failure lasts into SAFE_HOLD. -/
theorem FailureShown.safeHold {cause fails : Nat} {s : State} (h : FailureShown cause fails s) (h0 : s.domainOn 0 = true) (tr : Bool) :
    FailureShown cause fails (s.safeHold tr) :=
  have hoff : FailureShown cause fails (s.goOff (s.holdDomains tr)) := h.goOff h0 ((mem_holdDomains (by decide)).2 (.inl (by decide)))
  have hstate : FailureShown cause fails (((s.goOff (s.holdDomains tr)).put F.PM_START_HOLD 1).put F.PM_STATE_STATE 3) :=
    .put (.put hoff (by decide)) (by decide)
  .of_kept (.put (.put hstate (by decide)) (by decide)) (safeHold_keeps s tr)

/-- The domains of SAFE_HOLD. -/
theorem safeHold_domains (s : State) (tr : Bool) : (∀ d ∈ [0, 1, 2, 3, 14], (s.safeHold tr).domainOn d = true) ∧
    (∀ d ∈ [4, 5, 6, 7, 8, 9, 10, 11, 12], (s.safeHold tr).domainOn d = false) ∧ (s.safeHold tr).domainOn 13 = tr := by
  have hon : ∀ d < 15, (s.safeHold tr).domainOn d = true ↔ d ∈ [0, 1, 2, 3, 14] ∨ (d = 13 ∧ tr = true) := fun d hd => by
    rw [(safeHold_keeps s tr).domainOn, showHold_domainOn s tr hd]
  refine ⟨fun d hd => (hon d (by revert d; decide)).2 (.inl hd), fun d hd => ?_, Bool.eq_iff_iff.2 ((hon 13 (by decide)).trans (by simp))⟩
  have hrange : d < 15 ∧ d ∉ [0, 1, 2, 3, 14] ∧ d ≠ 13 := by revert d; decide
  obtain ⟨hlt, hnot, hne⟩ := hrange
  rw [Bool.eq_false_iff, Ne, hon d hlt]
  exact not_or.2 ⟨hnot, fun h => hne h.1⟩

/-! ## A start fails (R388-R391) -/

section
variable {cause : Nat} {tr : Bool} {s s' u v : State}

/-- A failed start is counted on from what is shown before it. -/
theorem FailedStart.of_fails (h : FailedStart cause tr s' u) (hf : s'.get F.PM_START_FAILS = s.get F.PM_START_FAILS) : FailedStart cause tr s u :=
  { h with fails := hf ▸ h.fails, again := hf ▸ h.again, hold := hf ▸ h.hold }

/-- Settling the answer leaves a failed start as it is, dark. -/
theorem FailedStart.answer (h : FailedStart cause tr s u) (hoff : u.opt.off = true) (q : List Instr) : FailedStart cause tr s (u.answer q) := by
  have hget : ∀ f : Fld, f.key ∈ powerKeys → (u.answer q).get f = u.get f := fun f hf => State.get_answer _ _ (powerKeys_not_settled _ hf)
  have hon : ∀ d, (u.answer q).domainOn d = u.domainOn d := fun d => domainOn_congr (hget _ (by decide)) d
  refine ⟨(hget _ (by decide)).trans h.why, (hget _ (by decide)).trans h.fails, (hget _ (by decide)).trans h.last, opticalState_off ?_, ?_,
    fun hf => ?_, fun hf => ?_⟩
  · rw [State.answer_off, hoff]
  · rw [State.answer_pw]
    exact h.ended
  · obtain ⟨hstate, hat, honly⟩ := h.again hf
    rw [hget _ (by decide), State.answer_pw, State.answer_now]
    exact ⟨hstate, hat, fun d hd => by rw [hon]; exact honly d hd⟩
  · rw [hget _ (by decide), hget _ (by decide), State.answer_pw]
    simpa only [hon] using h.hold hf

theorem failStart_again (h0 : v.domainOn 0 = true) (hc : cause < 256) (hf : v.get F.PM_START_FAILS < 2) :
    FailedStart cause tr v (v.failStart cause tr) ∧ (v.failStart cause tr).opt.off = true := by
  obtain ⟨w, hw⟩ := exists_eq (a' := (v.countFailure cause).goOff [0])
  have hrun : v.failStart cause tr = { w with pw := { w.pw with failedAt := some w.now } } := by
    rw [failStart_eq, if_pos (by omega), hw]
  have h0' : (v.countFailure cause).domainOn 0 = true := (countFailure_domainOn v cause 0).trans h0
  have hshown : FailureShown cause (min 3 (v.get F.PM_START_FAILS + 1)) w := hw ▸ (countFailure_shown v hc).goOff h0' (by decide)
  have hoff : w.opt.off = true := hw ▸ goOff_dark _ (by decide)
  obtain ⟨hstart, hshut, hdue, -⟩ : w.pw.startAt = none ∧ w.pw.shut = none ∧ w.pw.coldDue = false ∧ w.pw.failedAt = none := hw ▸ goOff_ended _ _
  have hstate : w.get F.PM_STATE_STATE = 0 := hw ▸ goOff_state (by decide) h0'
  have honly : w.poweredOnly [0] := hw ▸ goOff_poweredOnly _ _
  rw [hrun]
  exact ⟨⟨hshown.why, hshown.fails, hshown.last, opticalState_off hoff, ⟨hstart, hshut, hdue⟩, fun _ => ⟨hstate, rfl, honly⟩, fun h => by omega⟩, hoff⟩

theorem failStart_hold (h0 : v.domainOn 0 = true) (hc : cause < 256) (hf : 2 ≤ v.get F.PM_START_FAILS) :
    FailedStart cause tr v (v.failStart cause tr) ∧ (v.failStart cause tr).opt.off = true := by
  obtain ⟨c, hcount⟩ := exists_eq (a' := v.countFailure cause)
  have hrun : v.failStart cause tr = c.safeHold tr := by rw [failStart_eq, if_neg (by omega), hcount]
  have h0' : c.domainOn 0 = true := hcount ▸ (countFailure_domainOn v cause 0).trans h0
  have hshown : FailureShown cause (min 3 (v.get F.PM_START_FAILS + 1)) (c.safeHold tr) := (hcount ▸ countFailure_shown v hc).safeHold h0' tr
  have hoff := safeHold_dark c tr
  obtain ⟨hended, hat⟩ := safeHold_ended c tr
  obtain ⟨hstate, hhold⟩ := get_safeHold c tr
  have hdomains := safeHold_domains c tr
  rw [hrun]
  exact ⟨⟨hshown.why, hshown.fails, hshown.last, opticalState_off hoff, hended, fun h => by omega, fun _ => ⟨hstate, hhold, hat, hdomains⟩⟩, hoff⟩

/-- A command that fails a start answers with a failed start, counted on from the state that it found. -/
theorem failStart_next {t : Nat} {f : State → State} (hrun : f (s.advance t) = v.failStart cause tr) (h0 : v.domainOn 0 = true)
    (hf : v.get F.PM_START_FAILS = s.get F.PM_START_FAILS) (hc : cause < 256) : ∃ u, runAt t s f = .next u ∧ FailedStart cause tr s u := by
  refine ⟨_, rfl, ?_⟩
  rw [hrun]
  rcases Nat.lt_or_ge (v.get F.PM_START_FAILS) 2 with hlt | hge
  · obtain ⟨hfailed, hoff⟩ := failStart_again (tr := tr) h0 hc hlt
    exact (hfailed.of_fails hf).answer hoff _
  · obtain ⟨hfailed, hoff⟩ := failStart_hold (tr := tr) h0 hc hge
    exact (hfailed.of_fails hf).answer hoff _

end

/-! ## What a start shows before it fails (R384, R388) -/

/-- The crystal's failure shown (R106). -/
def State.showCrystal (s : State) : State := (s.put F.SL_STATUS_CLK_FAIL 1).raiseAny 0x0207 wide 0

theorem showCrystal_onlyChanges (s : State) : OnlyChanges [F.SL_STATUS_CLK_FAIL] [.freeCtr] s s.showCrystal :=
  (OnlyChanges.put _ _ _ (by decide)).trans (.raiseAny _ _ _ _ (by decide))

/-- What changes neither the count of failures nor the domains leaves a start as ready to fail as before. -/
theorem OnlyChanges.readyToFail {fs : List Fld} {ps : List Part} {s u : State} (h : OnlyChanges fs ps s u) (h0 : s.domainOn 0 = true)
    (hf : F.PM_DOMAINS_ON.key ∉ fs.map (·.key) ∧ F.PM_START_FAILS.key ∉ fs.map (·.key)) :
    u.domainOn 0 = true ∧ u.get F.PM_START_FAILS = s.get F.PM_START_FAILS :=
  ⟨(domainOn_congr (h.1 _ (by decide) hf.1) 0).trans h0, h.1 _ (by decide) hf.2⟩

/-- The attempt counted keeps PD_AON and the count of failures. -/
theorem startCount_readyToFail {s : State} (h0 : s.domainOn 0 = true) :
    s.startCount.domainOn 0 = true ∧ s.startCount.get F.PM_START_FAILS = s.get F.PM_START_FAILS := by
  have h0' : s.countAttempt.domainOn 0 = true := (domainOn_congr (get_countAttempt s (by decide)) 0).trans h0
  have hon : s.beginStart.domainOn 0 = true := by
    rw [State.domainOn, (get_beginStart h0).1]
    decide
  obtain ⟨hready, hfails⟩ := (startCount_counts s).1.readyToFail hon (by decide)
  refine ⟨hready, hfails.trans ?_⟩
  rw [State.beginStart, State.get_mk, State.get_put_ne _ _ (by decide), State.get_put_ne _ _ (by decide), State.get_put_ne _ _ (by decide),
    get_goOff (by decide) (by decide) h0' (by decide), get_countAttempt s (by decide)]

/-- PD_RXB brought to the timetable keeps PD_AON and the count of failures. -/
theorem rxbSet_readyToFail {s : State} (h0 : s.domainOn 0 = true) :
    s.rxbSet.domainOn 0 = true ∧ s.rxbSet.get F.PM_START_FAILS = s.get F.PM_START_FAILS := by
  unfold State.rxbSet
  split
  · exact ⟨h0, rfl⟩
  · have hkept : PowerKept _ (s.setDomains (s.get F.PM_DOMAINS_ON ^^^ 128) (s.get F.PM_DOMAINS_RETAINED)).lanesEnable := .lanesEnable .refl
    have hbit : (s.get F.PM_DOMAINS_ON ^^^ 128).testBit 0 = true := by
      rw [Nat.testBit_xor, show (s.get F.PM_DOMAINS_ON).testBit 0 = true from h0]
      decide
    constructor
    · rw [hkept.domainOn, State.domainOn, get_setDomains_on, Nat.testBit_mod_two_pow, hbit]
      decide
    · rw [hkept.get _ (by decide), get_setDomains_block _ (d := 0) (by decide) hbit h0 (by decide) (by decide)]

theorem get_needCold (s : State) (f : Fld) : s.needCold.get f = s.get f := rfl

/-! ## The causes of a failed start (R388, R389) -/

section
variable (s : State) (t : Nat) {tr : Bool} (h0 : s.domainOn 0 = true)
include h0

theorem exec_coldStart_noCrystal {mode cap : Nat} {bad : List Nat} (hd : s.pw.coldDue = true) (hs : s.pw.supplies = true)
    (hp : s.pw.pfwLow = false) : ∃ u, exec (.coldStart t mode cap false bad tr) s = .next u ∧ FailedStart 5 tr s u := by
  have hrun : coldStart mode cap false bad tr (s.advance t) = (s.advance t).startCount.showCrystal.failStart 5 tr := by
    unfold coldStart
    rw [if_neg (by simp [hd, hs, hp])]
    rfl
  obtain ⟨hcounted, hcount⟩ := startCount_readyToFail (s := s.advance t) h0
  obtain ⟨hready, hfails⟩ := (showCrystal_onlyChanges _).readyToFail hcounted (by decide)
  exact failStart_next hrun hready (hfails.trans hcount) (by decide)

theorem exec_coldStart_noNvm {cap : Nat} {bad : List Nat} (hd : s.pw.coldDue = true) (hs : s.pw.supplies = true)
    (hp : s.pw.pfwLow = false) (hh : s.is F.PM_START_HOLD = false) :
    ∃ u, exec (.coldStart t 0 cap true bad tr) s = .next u ∧ FailedStart 1 tr s u := by
  have hhold : (s.advance t).startCount.is F.PM_START_HOLD = false := by
    obtain ⟨-, -, -, -, hbegin⟩ := get_beginStart (s := s.advance t) h0
    rw [State.is, (startCount_counts _).1.1 _ (by decide) (by decide), hbegin]
    exact hh
  have hrun : coldStart 0 cap true bad tr (s.advance t) = (s.advance t).startCount.failStart 1 tr := by
    unfold coldStart
    rw [if_neg (by simp [hd, hs, hp])]
    extract_lets counted mib nvm
    rw [if_neg (by decide), if_pos rfl]
    exact if_neg (by rw [show counted.is F.PM_START_HOLD = false from hhold]; decide)
  obtain ⟨hready, hfails⟩ := startCount_readyToFail (s := s.advance t) h0
  exact failStart_next hrun hready hfails (by decide)

theorem exec_slotVerified_none {a b : Option Image} {bad : List Nat} (hs : s.starting = true) (hd : s.stepDone 0 = false)
    (hp : s.get F.SB_STATUS_PHASE ≠ 0) (hh : s.is F.PM_START_HOLD = false) (hb : s.bestSlot a b = none) :
    ∃ u, exec (.slotVerified t a b bad tr) s = .next u ∧ FailedStart 2 tr s u := by
  obtain ⟨v, hv⟩ := exists_eq (a' := (s.advance t).showSlots a b)
  have honly : OnlyChanges slotFields [.freeCtr] (s.advance t) v := hv ▸ showSlots_onlyChanges _ a b
  have hhold : v.is F.PM_START_HOLD = false := by
    rw [State.is, honly.1 _ (by decide) (by decide)]
    exact hh
  have hbest : v.bestSlot a b = none :=
    (bestSlot_congr (s := s.advance t) (honly.1 _ (by decide) (by decide)) (honly.2 .otp (by decide)) a b).trans hb
  have hcond : ¬((!(s.advance t).starting) = true ∨ (s.advance t).stepDone 0 = true ∨ (s.advance t).get F.SB_STATUS_PHASE = 0) := by
    rw [show (s.advance t).starting = true from hs, show (s.advance t).stepDone 0 = false from hd, State.get_advance]
    simpa using hp
  have hrun : slotVerified a b bad tr (s.advance t) = v.failStart 2 tr := by
    rw [slotVerified, if_neg hcond]
    simp only [← hv, hbest, hhold, Bool.false_eq_true, if_false]
  obtain ⟨hready, hfails⟩ := honly.readyToFail h0 (by decide)
  exact failStart_next hrun hready hfails (by decide)

theorem exec_dramTrained_fails {temp : Int} {bands : List Nat} (hs : s.starting = true) (hon : s.domainOn 13 = true) (hd : s.stepDone 2 = false) :
    ∃ u, exec (.dramTrained t false temp bands tr) s = .next u ∧ FailedStart 4 tr s u := by
  have hcond : ¬((!(s.advance t).starting) = true ∨ (!(s.advance t).domainOn 13) = true ∨ (s.advance t).stepDone 2 = true) := by
    rw [show (s.advance t).starting = true from hs, show (s.advance t).domainOn 13 = true from hon, show (s.advance t).stepDone 2 = false from hd]
    decide
  have hrun : dramTrained false temp bands tr (s.advance t) = (s.advance t).failStart 4 tr := by
    rw [dramTrained, if_neg hcond]
    rfl
  exact failStart_next (v := s.advance t) hrun h0 rfl (by decide)

theorem exec_engineCodeLoaded_none (hs : s.starting = true) (hi : s.pw.image.isSome = true) (h1 : s.stepDone 1 = false)
    (h13 : s.domainOn 13 = true) (h3 : s.stepDone 3 = true) (htt : s.chooseTimetable.pw.tt = none) :
    ∃ u, exec (.engineCodeLoaded t tr) s = .next u ∧ FailedStart 3 tr s u := by
  obtain ⟨v, hv⟩ := exists_eq (a' := s.chooseTimetable.advance t)
  have hchoose : (s.advance t).chooseTimetable = v := hv ▸ chooseTimetable_advance s t
  have hget : ∀ f, v.get f = s.get f := fun f => by rw [hv, State.get_advance, chooseTimetable_get]
  obtain ⟨⟨l, tr', hpw⟩, -⟩ := rxbSet_keeps v
  have hnone : v.rxbSet.pw.tt.isNone = true := by
    rw [hpw, hv, Option.isNone_iff_eq_none]
    exact htt
  have hcond : ¬((!(s.advance t).starting) = true ∨ (s.advance t).pw.image.isNone = true ∨ (s.advance t).stepDone 1 = true ∨
      (!(s.advance t).domainOn 13) = true ∨ ((s.advance t).coldForms = true ∧ (!(s.advance t).stepDone 3) = true)) := by
    rw [show (s.advance t).starting = true from hs, show (s.advance t).stepDone 1 = false from h1, show (s.advance t).domainOn 13 = true from h13,
      show (s.advance t).stepDone 3 = true from h3, State.advance_pw, ← Option.not_isSome, hi]
    simp
  have hrun : engineCodeLoaded tr (s.advance t) = v.rxbSet.failStart 3 tr := by
    rw [engineCodeLoaded, if_neg hcond, hchoose]
    exact if_pos hnone
  obtain ⟨hready, hfails⟩ := rxbSet_readyToFail (s := v) ((domainOn_congr (hget _) 0).trans h0)
  exact failStart_next hrun hready (hfails.trans (hget _)) (by decide)

theorem exec_startTimeout_laser {a l : Nat} (ha : s.pw.startAt = some a) (hl : s.pw.laserAt = some l) (ht : l + 10000 * ms ≤ t)
    (h7 : s.stepDone 7 = false) : ∃ u, exec (.startTimeout t tr) s = .next u ∧ FailedStart 6 tr s u := by
  have hrun : startTimeout tr (s.advance t) = (s.advance t).failStart 6 tr := by
    rw [startTimeout, State.advance_pw, ha, hl]
    refine if_pos ?_
    rw [Bool.and_eq_true, decide_eq_true_eq, State.advance_now]
    exact ⟨by omega, congrArg not h7⟩
  exact failStart_next (v := s.advance t) hrun h0 rfl (by decide)

theorem exec_startTimeout_commit {a : Nat} (ha : s.pw.startAt = some a) (h7 : s.stepDone 7 = true ∨ s.pw.laserAt = none) (ht : a + 30000 * ms ≤ t) :
    ∃ u, exec (.startTimeout t tr) s = .next u ∧ FailedStart 7 tr s u := by
  have hlaser : (match s.pw.laserAt with
      | some l => decide ((s.advance t).now ≥ l + 10000 * ms) && !(s.advance t).stepDone 7
      | none => false) = false := by
    split
    next l hl =>
      rw [show (s.advance t).stepDone 7 = true from h7.resolve_right (by rw [hl]; exact nofun)]
      exact Bool.and_false _
    next => rfl
  have hrun : startTimeout tr (s.advance t) = (s.advance t).failStart 7 tr := by
    rw [startTimeout, State.advance_pw, ha]
    refine (if_neg (fun h => Bool.false_ne_true (hlaser.symm.trans h))).trans (if_pos ?_)
    rw [State.advance_now]
    omega
  exact failStart_next (v := s.advance t) hrun h0 rfl (by decide)

/-! ## The watchdog (R388, R389) -/

theorem exec_watchdogExpiry_early (h2 : s.domainOn 2 = true) (hn : s.pw.settled = false) :
    ∃ u, exec (.watchdogExpiry t tr) s = .next u ∧ FailedStart 8 tr s u := by
  have hrun : watchdogExpiry tr (s.advance t) = (s.advance t).failStart 8 tr := by
    rw [watchdogExpiry, show (s.advance t).domainOn 2 = true from h2, State.advance_pw, hn]
    rfl
  exact failStart_next (v := s.advance t) hrun h0 rfl (by decide)

theorem exec_watchdogExpiry_settled (h2 : s.domainOn 2 = true) (hn : s.pw.settled = true) :
    ∃ u, exec (.watchdogExpiry t tr) s = .next u ∧ u.get F.PM_STATE_STATE = 0 ∧ u.get F.PM_STATE_LAST_RESET = 4 ∧ u.pw.coldDue = true ∧
    u.get F.PM_START_FAILS = s.get F.PM_START_FAILS ∧ u.opticalState = 0 ∧ u.poweredOnly [0] := by
  obtain ⟨l, hl⟩ := exists_eq (a' := (s.advance t).lightOff)
  obtain ⟨w, hw⟩ := exists_eq (a' := l.goOff [0])
  have hrun : watchdogExpiry tr (s.advance t) = (w.put F.PM_STATE_LAST_RESET 4).needCold := by
    rw [watchdogExpiry, show (s.advance t).domainOn 2 = true from h2, State.advance_pw, hn, hw, hl]
    rfl
  have h0' : l.domainOn 0 = true := by
    rw [hl, lightOff_domainOn]
    exact h0
  have hfails : w.get F.PM_START_FAILS = s.get F.PM_START_FAILS := by
    rw [hw, get_goOff (by decide) (by decide) h0' (by decide), hl, get_lightOff _ (by decide), State.get_advance]
  have hget : ∀ f : Fld, f.key ∉ settleKeys → f.key ≠ F.PM_STATE_LAST_RESET.key →
      ((w.put F.PM_STATE_LAST_RESET 4).needCold.answer s.pending).get f = w.get f := fun f hq hf => by
    rw [State.get_answer _ _ hq, get_needCold, State.get_put_ne _ _ hf]
  refine ⟨_, rfl, ?_, ?_, ?_, ?_, opticalState_off ?_, fun d hd => ?_⟩ <;> rw [hrun]
  · rw [hget _ (by decide) (by decide), hw, goOff_state (by decide) h0']
  · rw [State.get_answer _ _ (by decide), get_needCold, State.get_put_same]
    rfl
  · rw [State.answer_pw]
    rfl
  · rw [hget _ (by decide) (by decide), hfails]
  · rw [State.answer_off]
    exact hw ▸ goOff_dark l (by decide)
  · rw [domainOn_congr (hget _ (by decide) (by decide)), hw]
    exact goOff_poweredOnly l [0] d hd

end

/-! ## The crystal fails (R106, R388, R403) -/

/-- From `s` to `u` the built-in test alone changes its account, and its OPEN flag stays. -/
structure Replans (s u : State) : Prop where
  eq : ∃ b : Bist, u = { s with bt := b } ∧ b.open_ = s.bt.open_

namespace Replans

variable {s u w : State}

theorem refl : Replans s s := ⟨s.bt, rfl, rfl⟩

theorem trans (a : Replans s u) (b : Replans u w) : Replans s w := by
  obtain ⟨x, rfl, hx⟩ := a.eq
  obtain ⟨y, rfl, hy⟩ := b.eq
  exact ⟨y, rfl, hy.trans hx⟩

theorem ite {c : Prop} [Decidable c] {a b : State} (ha : Replans s a) (hb : Replans s b) : Replans s (if c then a else b) := by
  split
  · exact ha
  · exact hb

theorem each {α : Type} {xs : List α} {f : α → State → State} (h : Replans s w) (hf : ∀ x v, Replans s v → Replans s (f x v)) :
    Replans s (each xs f w) := by
  unfold Machine.each
  induction xs generalizing w with
  | nil => exact h
  | cons x xs ih => exact ih (hf x w h)

theorem modWork (h : Replans s w) {f : Journal → Journal} : Replans s (w.modWork f) := h.trans ⟨_, rfl, rfl⟩

theorem modUnit (h : Replans s w) {n : Nat} {f : UnitRes → UnitRes} : Replans s (w.modUnit n f) := .modWork h

theorem addFail (h : Replans s w) {n cause bit addr : Nat} : Replans s (w.addFail n cause bit addr) := .ite h (.modWork (.modUnit h))

theorem makePlan (h : Replans s w) {budget : Nat} : Replans s (w.makePlan budget) := by
  have hnoted : Replans s w.noteWithdrawn := .each h (fun _ _ hv => .ite hv (.addFail (.modUnit hv)))
  refine .each hnoted (fun l v hv => ?_)
  dsimp only
  exact .ite (.modWork hv) ((modWork hv).trans ⟨_, rfl, rfl⟩)

theorem kept (h : Replans s u) : PowerKept s u := by
  obtain ⟨b, rfl, -⟩ := h.eq
  exact .beside .refl

theorem sw (h : Replans s u) : u.sw = s.sw := by
  obtain ⟨b, rfl, -⟩ := h.eq
  rfl

theorem opened (h : Replans s u) : u.bt.open_ = s.bt.open_ := by
  obtain ⟨b, rfl, hb⟩ := h.eq
  exact hb

end Replans

theorem abandonSwitch_sw (s : State) : s.abandonSwitch.sw.lead = none ∧ s.abandonSwitch.sw.queued = none := by
  unfold State.abandonSwitch
  extract_lets lead sw fab abandoned shown
  have hshown : shown.sw = abandoned.sw := by
    dsimp only [shown]
    split <;> simp only [State.put_sw]
  rw [State.put_sw, State.put_sw, hshown]
  exact ⟨rfl, rfl⟩

/-- The acceptance of a shutdown shown (R403). -/
def State.showShutdown (s : State) (target : Nat) : State :=
  (((s.raiseAny 0x0D04 wide target).put F.PM_STATE_SHUTTING 1).put F.SB_STATUS_PHASE 4).put F.SB_SHUTDOWN_STEP 1

theorem get_showShutdown (s : State) (target : Nat) : (s.showShutdown target).get F.PM_STATE_SHUTTING = 1 ∧
    (s.showShutdown target).get F.SB_STATUS_PHASE = 4 ∧ (s.showShutdown target).get F.SB_SHUTDOWN_STEP = 1 ∧
    (s.showShutdown target).get F.SL_STATUS_CLK_FAIL = s.get F.SL_STATUS_CLK_FAIL := by
  refine ⟨?_, ?_, ?_, ?_⟩ <;> rw [State.showShutdown]
  · rw [State.get_put_ne _ _ (by decide), State.get_put_ne _ _ (by decide), State.get_put_same]
    rfl
  · rw [State.get_put_ne _ _ (by decide), State.get_put_same]
    rfl
  · rw [State.get_put_same]
    rfl
  · rw [State.get_put_ne _ _ (by decide), State.get_put_ne _ _ (by decide), State.get_put_ne _ _ (by decide), State.get_raiseAny _ _ _ _ (by decide)]

theorem laserOff_sw (s : State) : s.laserOff.sw = s.sw := by simp only [State.laserOff, State.put_sw]

theorem laserOff_bt (s : State) : s.laserOff.bt = s.bt := by simp only [State.laserOff, State.put_bt]

/-- The OPEN flag set, and nothing planned yet (R426). -/
def State.raiseOpen (s : State) : State := { s with bt := { s.bt with open_ := true, plan := [], testFrom := none, testEnd := none } }

theorem raiseOpen_sw (s : State) : s.raiseOpen.sw = s.sw := rfl

theorem raiseOpen_open (s : State) : s.raiseOpen.bt.open_ = true := rfl

theorem raiseOpen_keeps (s : State) : PowerKept s s.raiseOpen := .beside .refl

/-- What is under way ends: the light, the captures and the switch; and the OPEN flag is set. -/
def State.stopPaths (s : State) : State := (s.lightOff.closeAll 5).abandonSwitch.raiseOpen

theorem stopPaths_keeps (s : State) : PowerKept s.lightOff s.stopPaths :=
  have hstopped : PowerKept s.lightOff (s.lightOff.closeAll 5).abandonSwitch := .abandonSwitch (.closeAll .refl)
  hstopped.trans (raiseOpen_keeps _)

theorem stopPaths_sw (s : State) : s.stopPaths.sw.lead = none ∧ s.stopPaths.sw.queued = none := by
  rw [State.stopPaths, raiseOpen_sw]
  exact abandonSwitch_sw (s.lightOff.closeAll 5)

theorem stopPaths_open (s : State) : s.stopPaths.bt.open_ = true := by rw [State.stopPaths, raiseOpen_open]

theorem beginShutdown_off (s : State) (then_ : Nat) (emergency : Bool) : ∃ w, Replans (s.showShutdown 3).stopPaths.laserOff w ∧
    s.beginShutdown 3 then_ emergency = { w with pw := { w.pw with shut := some ⟨3, then_, emergency, 1, w.now⟩ } } := by
  unfold State.beginShutdown
  extract_lets told shown closed bt opened planned pw
  have hshown : shown = s.showShutdown 3 := rfl
  clear_value shown
  have hclosed : closed = (shown.lightOff.closeAll 5).abandonSwitch := rfl
  clear_value closed
  have hopened : opened = closed.raiseOpen := rfl
  have hplanned : planned = opened.laserOff.makePlan (opened.get F.SB_SHUTDOWN_BUDGET * 1000) := if_pos rfl
  clear_value opened planned
  refine ⟨planned, ?_, rfl⟩
  rw [hplanned, hopened, hclosed, hshown]
  exact .makePlan .refl

/-- A shutdown to OFF, once its answer is settled: the light out, the captures closed and the switch of timetables abandoned. -/
theorem beginShutdown_begun (s : State) (then_ : Nat) (emergency : Bool) (q : List Instr) :
    ShutdownBegun 3 then_ emergency ((s.beginShutdown 3 then_ emergency).answer q) ∧
    ((s.beginShutdown 3 then_ emergency).answer q).get F.SL_STATUS_CLK_FAIL = s.get F.SL_STATUS_CLK_FAIL := by
  obtain ⟨w, hplan, hrun⟩ := beginShutdown_off s then_ emergency
  obtain ⟨hshut, hphase, hstep, hclk⟩ := get_showShutdown s 3
  have hkept : PowerKept (s.showShutdown 3).lightOff w := (PowerKept.laserOff (stopPaths_keeps _)).trans hplan.kept
  have hopen : w.bt.open_ = true := by rw [hplan.opened, laserOff_bt, stopPaths_open]
  have hsw : w.sw = (s.showShutdown 3).stopPaths.sw := by rw [hplan.sw, laserOff_sw]
  have hget : ∀ f : Fld, f.key ∈ powerKeys →
      ((s.beginShutdown 3 then_ emergency).answer q).get f = (s.showShutdown 3).get f := fun f hf => by
    rw [State.get_answer _ _ (powerKeys_not_settled _ hf), hrun, State.get_mk, hkept.get f hf, get_lightOff _ (powerKeys_not_settled _ hf)]
  refine ⟨⟨?_, ?_, ?_, ?_, opticalState_off ?_, ?_, ?_⟩, (hget _ (by decide)).trans hclk⟩
  · rw [State.answer_pw, State.answer_now, hrun]
  · rw [hget _ (by decide), hshut]
  · rw [hget _ (by decide), hphase]
  · rw [hget _ (by decide), hstep]
  · rw [State.answer_off, hrun]
    exact (congrArg Optics.off hkept.opt).trans (lightOff_off _)
  · rw [State.answer_bt, hrun, hopen]
  · rw [State.answer_sw, hrun, hsw]
    exact stopPaths_sw _

section
variable (s : State) (t : Nat) {tr : Bool} (h2 : s.domainOn 2 = true)
include h2

theorem clkFail_on : clkFail tr s = if s.showCrystal.starting then s.showCrystal.failStart 5 tr else s.showCrystal.forceOff false := by
  rw [clkFail, h2]
  rfl

theorem exec_clkFail_starting (h0 : s.domainOn 0 = true) (hs : s.starting = true) :
    ∃ u, exec (.clkFail t tr) s = .next u ∧ FailedStart 5 tr s u := by
  have honly := showCrystal_onlyChanges (s.advance t)
  have hstarting : (s.advance t).showCrystal.starting = true := by
    rw [State.starting, honly.2 .pw (by decide)]
    exact hs
  have hrun : clkFail tr (s.advance t) = (s.advance t).showCrystal.failStart 5 tr := by
    rw [clkFail_on (s.advance t) h2, if_pos hstarting]
  obtain ⟨hready, hfails⟩ := honly.readyToFail h0 (by decide)
  exact failStart_next hrun hready hfails (by decide)

theorem exec_clkFail_working (hs : s.starting = false) (hd : s.pw.shut = none) (h1 : s.domainOn 1 = true) (hw : s.working = true) :
    ∃ u, exec (.clkFail t tr) s = .next u ∧ ShutdownBegun 3 4 false u ∧ u.get F.SL_STATUS_CLK_FAIL = 1 := by
  obtain ⟨v, hv⟩ := exists_eq (a' := (s.advance t).showCrystal)
  have honly : OnlyChanges [F.SL_STATUS_CLK_FAIL] [.freeCtr] (s.advance t) v := hv ▸ showCrystal_onlyChanges _
  have hpw : v.pw = s.pw := honly.2 .pw (by decide)
  have hworking : v.working = true := by
    rw [State.working, honly.1 _ (by decide) (by decide)]
    exact hw
  have hon : v.domainOn 1 = true := (domainOn_congr (honly.1 _ (by decide) (by decide)) 1).trans h1
  have hclk : v.get F.SL_STATUS_CLK_FAIL = 1 := by
    rw [hv, State.showCrystal, State.get_raiseAny _ _ _ _ (by decide), State.get_put_same]
    rfl
  have hrun : clkFail tr (s.advance t) =
      State.beginShutdown { v with pw := { v.pw with held := none, startAt := none } } 3 4 false := by
    rw [clkFail_on (s.advance t) h2, ← hv, if_neg (by rw [State.starting, hpw]; exact ne_true_of_eq_false hs), State.forceOff,
      if_neg (by rw [hpw, hd]; decide), if_pos (by rw [hon, hworking, Bool.or_true]; rfl)]
  obtain ⟨hbegun, hfail⟩ := beginShutdown_begun { v with pw := { v.pw with held := none, startAt := none } } 4 false s.pending
  refine ⟨_, rfl, ?_⟩
  rw [hrun]
  exact ⟨hbegun, hfail.trans hclk⟩

end
end Sys2Proof.Machine

section
open Sys2Proof Sys2Proof.Machine

/-- Settles O54: each cause of a failed start, the settled watchdog and the crystal's failure by the rule of its command. -/
theorem startsFail : Obligations.StartsFail := by
  unfold Obligations.StartsFail
  intro s t tr h0
  refine ⟨?crystal, ?nvm, ?slots, ?dram, ?timetable, ?laser, ?commit, ?early, ?settled, ?starting, ?working⟩
  case crystal => exact fun _ _ _ hd hs hp => exec_coldStart_noCrystal s t h0 hd hs hp
  case nvm => exact fun _ _ hd hs hp hh => exec_coldStart_noNvm s t h0 hd hs hp hh
  case slots => exact fun _ _ _ hs hd hp hh hb => exec_slotVerified_none s t h0 hs hd hp hh hb
  case dram => exact fun _ _ hs hon hd => exec_dramTrained_fails s t h0 hs hon hd
  case timetable => exact fun hs hi h1 h13 h3 htt => exec_engineCodeLoaded_none s t h0 hs hi h1 h13 h3 htt
  case laser => exact fun _ _ ha hl ht h7 => exec_startTimeout_laser s t h0 ha hl ht h7
  case commit => exact fun _ ha h7 ht => exec_startTimeout_commit s t h0 ha h7 ht
  case early => exact fun h2 hn => exec_watchdogExpiry_early s t h0 h2 hn
  case settled => exact fun h2 hn => exec_watchdogExpiry_settled s t h0 h2 hn
  case starting => exact fun h2 hs => exec_clkFail_starting s t h2 h0 hs
  case working => exact fun h2 hs hd h1 hw => exec_clkFail_working s t h2 hs hd h1 hw

end

/-!
The reference interferometer, the segments that leave the front pipeline, and the readback copy of a profile (R121, R133-R136, R140, R183).
-/

namespace Sys2Proof.Machine

/-! ## Changes of one part -/

section
variable {fs : List Fld} {ps : List Part}

theorem OnlyChanges.mem (s : State) (x : List Host.Cell) (h : Part.mem ∈ ps) : OnlyChanges fs ps s { s with mem := x } :=
  ⟨fun _ _ _ => rfl, fun p hp => by cases p with | mem => exact absurd h hp | _ => rfl⟩

theorem OnlyChanges.freeCtr (s : State) (x : Nat) (h : Part.freeCtr ∈ ps) : OnlyChanges fs ps s { s with freeCtr := x } :=
  ⟨fun _ _ _ => rfl, fun p hp => by cases p with | freeCtr => exact absurd h hp | _ => rfl⟩

theorem OnlyChanges.fp (s : State) (x : FrontPipe) (h : Part.fp ∈ ps) : OnlyChanges fs ps s { s with fp := x } :=
  ⟨fun _ _ _ => rfl, fun p hp => by cases p with | fp => exact absurd h hp | _ => rfl⟩

theorem OnlyChanges.dram (s : State) (x : Dram) (h : Part.dram ∈ ps) : OnlyChanges fs ps s { s with dram := x } :=
  ⟨fun _ _ _ => rfl, fun p hp => by cases p with | dram => exact absurd h hp | _ => rfl⟩

end

/-! ## An access to DRAM (R291-R298, R308-R314) -/

section
variable (s : State)

/-- A system address lies in one of the four channels. -/
theorem chanOf_lt (a : Nat) : (s.chanOf a).1 < 4 := by
  have hchannels : s.channels = 2 ∨ s.channels = 4 := by unfold State.channels; split <;> simp
  show a / s.grain % s.channels < 4
  rcases hchannels with h | h <;> rw [h] <;> omega

theorem openRow_onlyChanges (b r : Nat) : OnlyChanges dramFields [.mem, .dram] s (s.openRow b r) := by
  have hopened : OnlyChanges dramFields [.mem, .dram] s { s with dram := { s.dram with open_ := kvSet 0 s.dram.open_ b (r + 1) } } :=
    .dram _ _ (by decide)
  exact .ite (.refl s) (hopened.trans
    (.ite ((OnlyChanges.dram _ _ (by decide)).trans (.bump _ _ _ _ (by decide) (by decide))) (.dram _ _ (by decide))))

theorem openAt_onlyChanges (c x : Nat) : OnlyChanges dramFields [.mem, .dram] s (s.openAt c x) := openRow_onlyChanges s _ _

theorem openWord_onlyChanges (c x : Nat) : OnlyChanges dramFields [.mem, .dram] s (s.openWord c x) := by
  unfold State.openWord
  extract_lets opened line checked
  have hopened : OnlyChanges dramFields [.mem, .dram] s opened := openAt_onlyChanges s c x
  have hchecked : OnlyChanges dramFields [.mem, .dram] opened checked := .ite (.refl _) (openAt_onlyChanges _ _ _)
  exact (hopened.trans hchecked).trans (.dram _ _ (by decide))

theorem storeWord_onlyChanges (w d diff : Nat) : OnlyChanges dramFields [.mem, .dram] s (s.storeWord w d diff) :=
  (OnlyChanges.mem _ _ (by decide)).trans (.mem _ _ (by decide))

theorem addSuspect_onlyChanges (x : Suspect) : OnlyChanges dramFields [.mem, .dram] s (s.addSuspect x) :=
  .ite (.dram _ _ (by decide))
    (((OnlyChanges.dram _ _ (by decide)).trans (.bump _ _ _ _ (by decide) (by decide))).trans (Posting.raiseLimited _ _ _ _ _ _).onlyChanges)

theorem countCorrection_onlyChanges {c : Nat} (hc : c < 4) : OnlyChanges dramFields [.mem, .dram] s (s.countCorrection c) := by
  have hcount : (F.EC_CORR_COUNT c).key ∈ dramFields.map (·.key) := by interval_cases c <;> decide
  exact OnlyChanges.trans (.ite ((OnlyChanges.put _ _ _ hcount).trans (.put _ _ _ (by decide))) (.put _ _ _ hcount))
    (Posting.raiseLimited _ _ _ _ _ _).onlyChanges

theorem demandRead_onlyChanges (w : Nat) : OnlyChanges dramFields [.mem, .dram] s (s.demandRead w).2.2 := by
  have hopened := openWord_onlyChanges s (s.chanOf (8 * w)).1 (s.chanOf (8 * w)).2
  unfold State.demandRead
  dsimp only
  split
  · exact hopened
  · exact hopened
  · exact ((hopened.trans (countCorrection_onlyChanges _ (chanOf_lt s _))).trans (storeWord_onlyChanges _ _ _ _)).trans
      (.ite (.refl _) (addSuspect_onlyChanges _ _))

/-- A word that a port without a Brillouin bin finds uncorrectable (R298). -/
theorem uncorrectable_onlyChanges {r : MemReq} (hbin : r.bin = none) : OnlyChanges dramFields [.mem, .dram] s (s.uncorrectable r) := by
  unfold State.uncorrectable
  extract_lets counted
  have hcounted : OnlyChanges dramFields [.mem, .dram] s counted :=
    (OnlyChanges.bump _ _ _ _ (by decide) (by decide)).trans (Posting.raiseLimited _ _ _ _ _ _).onlyChanges
  rw [hbin]
  exact hcounted.trans (.ite (.dram _ _ (by decide)) (.refl _))

theorem readWords_onlyChanges {r : MemReq} (hbin : r.bin = none) (n w : Nat) : OnlyChanges dramFields [.mem, .dram] s (s.readWords r n w).2.2 := by
  induction n generalizing s w with
  | zero => exact .refl s
  | succ n ih => exact ((demandRead_onlyChanges s w).trans (.ite (uncorrectable_onlyChanges _ hbin) (.refl _))).trans (ih _ _)

theorem writeWords_onlyChanges (n a : Nat) (bs : List (BitVec 8)) : OnlyChanges dramFields [.mem, .dram] s (s.writeWords n a bs) := by
  induction n generalizing s a bs with
  | zero => exact .refl s
  | succ n ih =>
    unfold State.writeWords
    extract_lets w o part written
    have hwritten : OnlyChanges dramFields [.mem, .dram] s written :=
      .ite ((openWord_onlyChanges s _ _).trans (storeWord_onlyChanges _ _ _ _))
        (((demandRead_onlyChanges s w).trans (.ite (.bump _ _ _ _ (by decide) (by decide)) (.refl _))).trans (storeWord_onlyChanges _ _ _ _))
    exact .ite (.refl s) (hwritten.trans (ih _ _ _))

end

/-! ## The word and the copy of a profile (R140) -/

section
variable (s : State)

theorem pickBytes_zero (be : Nat) : pickBytes be 0 = 0 := by simp [pickBytes]

theorem ampWord_onlyChanges (a : Option Int) (faded : Bool) : OnlyChanges [] [.freeCtr] s (s.ampWord a faded).2 := by
  cases a with
  | some x => exact .refl s
  | none => exact .freeCtr _ _ (by decide)

theorem profileBytes_onlyChanges (xs : List (Option Int × Bool)) : OnlyChanges [] [.freeCtr] s (s.profileBytes xs).2 := by
  induction xs generalizing s with
  | nil => exact .refl s
  | cons x xs ih => exact (ampWord_onlyChanges s x.1 x.2).trans (ih _)

/-- Without FREEZE the word is that of the bin as it stands, with no access to DRAM. -/
theorem profWord_live (h : s.is F.FP_PROF_SEL_FREEZE = false) : OnlyChanges [] [.freeCtr] s s.profWord.2 := by
  unfold State.profWord
  extract_lets b g p
  rw [if_neg (by rw [h]; decide)]
  split
  · exact ampWord_onlyChanges s _ _
  · exact .refl s

/-- While the copy is asked for and not complete, the word is 0. -/
theorem profWord_waits (h : s.is F.FP_PROF_SEL_FREEZE = true) (hf : s.is F.FP_PROF_SEL_FROZEN = false) : s.profWord = (0, s) := by
  unfold State.profWord
  extract_lets b g p
  rw [if_pos h, if_neg (by rw [hf]; simp)]

theorem profWord_onlyChanges : OnlyChanges dramFields [.freeCtr, .mem, .dram] s s.profWord.2 := by
  cases hfreeze : s.is F.FP_PROF_SEL_FREEZE with
  | false => exact (profWord_live s hfreeze).mono (by decide) (by decide)
  | true =>
    unfold State.profWord
    extract_lets b g p a
    have hread := readWords_onlyChanges s (r := ⟨0, false, a, 4, [], s.now, false, none⟩) rfl 1 (a / 8)
    rw [if_pos hfreeze]
    dsimp only
    split
    · exact hread.mono (fun _ => id) (by decide)
    · exact .refl s

end

/-! ## Segments (R133, R134, R183, R184) -/

/-- The registers that a segment's way into the store may write. -/
def storeFields : List Fld :=
  [F.FB_STATUS_OVERRUN, F.FB_DISCARDS_COUNT, F.FB_CNT_SAT_DISC_SAT, F.FB_STORE_FILL_FILL, F.FB_STORE_FILL_PEAK]

section
variable (s : State)

theorem makeRoom_onlyChanges (need n : Nat) : OnlyChanges storeFields [.fab] s (s.makeRoom need n) := by
  induction n generalizing s with
  | zero => exact .refl s
  | succ n ih =>
    unfold State.makeRoom
    split
    · exact .refl s
    · split
      · exact .refl s
      · exact (((OnlyChanges.fab _ _ (by decide)).trans
          (.ite (.refl _) ((OnlyChanges.put _ _ _ (by decide)).trans (Posting.raise _ _ _ _).onlyChanges))).trans
          (.bump _ _ _ _ (by decide) (by decide))).trans (ih _)

theorem syncStore_onlyChanges : OnlyChanges storeFields [.fab] s s.syncStore :=
  ((OnlyChanges.fab _ _ (by decide)).trans (.put _ _ _ (by decide))).trans (.put _ _ _ (by decide))

theorem storeSegment_onlyChanges (x : Segment) (epoch : Nat) : OnlyChanges storeFields [.fab] s (s.storeSegment x epoch) :=
  ((makeRoom_onlyChanges s _ _).trans (.fab _ _ (by decide))).trans (syncStore_onlyChanges _)

/-- Whatever an overrun discards, the segment stored is the newest. -/
theorem storeSegment_newest (x : Segment) (epoch : Nat) : (s.storeSegment x epoch).fab.store.getLast? = some (x, epoch) :=
  List.getLast?_concat

theorem countSegment_onlyChanges (x : Segment) : OnlyChanges [F.FP_FADE_COUNT_COUNT, F.FP_CNT_SAT_FADE_SAT] [.fp] s (s.countSegment x) :=
  (OnlyChanges.fp _ _ (by decide)).trans (.bump _ _ _ _ (by decide) (by decide))

theorem countSegment_fp (x : Segment) :
    (s.countSegment x).fp = { s.fp with chans := s.fp.chans + x.codes.length, segs := s.fp.segs + 1 } :=
  State.bump_fp _ _ _ _

end

/-! ### The recorder's side of a segment (R224-R237) -/

/-- Between the two states no part differs but the recorder and the memory. Registers are not compared. -/
def RecorderOnly (s u : State) : Prop := ∀ p : Part, p ∉ [Part.recd, .mem] → p.same s u

namespace RecorderOnly

variable {s u w : State}

theorem refl : RecorderOnly s s := fun p _ => p.same_refl s

theorem ite {c : Prop} [Decidable c] {a b : State} (ha : RecorderOnly s a) (hb : RecorderOnly s b) : RecorderOnly s (if c then a else b) := by
  split
  · exact ha
  · exact hb

theorem each {α : Type} {xs : List α} {f : α → State → State} (h : RecorderOnly s w)
    (hf : ∀ x v, RecorderOnly s v → RecorderOnly s (f x v)) : RecorderOnly s (each xs f w) := by
  unfold Machine.each
  induction xs generalizing w with
  | nil => exact h
  | cons x xs ih => exact ih (hf x w h)

/-- A change of registers, of the recorder or of memory. -/
theorem within {regs mem ev recd} (h : RecorderOnly s w) :
    RecorderOnly s ⟨regs, mem, w.now, w.freeCtr, w.resp, ev, w.sched, w.opt, w.sw, w.lanes, w.fp, w.secs, w.dfifo, w.built, w.fab, recd, w.br,
      w.sens, w.dram, w.out, w.evt, w.tref, w.fl, w.bt, w.pw, w.nv, w.lc, w.tb, w.otp, w.pending⟩ :=
  fun p hp => Part.same_trans (h p hp) (by
    cases p with
    | recd => exact absurd (by decide) hp
    | mem => exact absurd (by decide) hp
    | _ => rfl)

theorem posting (h : RecorderOnly s w) (hp : Posting w u) : RecorderOnly s u :=
  fun p hk => Part.same_trans (h p hk) ((hp.onlyChanges (fs := []) (ps := [])).2 p List.not_mem_nil)

theorem put (h : RecorderOnly s w) {f : Fld} {v : Nat} : RecorderOnly s (w.put f v) := .within h

theorem raise (h : RecorderOnly s w) {code inst val : Nat} : RecorderOnly s (w.raise code inst val) := h.posting (Posting.raise _ _ _ _)

theorem bump (h : RecorderOnly s w) {c k : Fld} {n : Nat} : RecorderOnly s (w.bump c k n) := .ite (.put (.put h)) (.put h)

theorem setLine (h : RecorderOnly s w) {n : Nat} {x : Line} : RecorderOnly s (w.setLine n x) := .within h

theorem modLine (h : RecorderOnly s w) {n : Nat} {f : Line → Line} : RecorderOnly s (w.modLine n f) := .within h

theorem syncLine (h : RecorderOnly s w) {n : Nat} : RecorderOnly s (w.syncLine n) := .put (.put (.put (.put (.put h))))

theorem retarget (h : RecorderOnly s w) : RecorderOnly s w.retarget := .put (.put (.within h))

theorem writeRecord (h : RecorderOnly s w) {n : Nat} {c : Capture} {cause : Nat} : RecorderOnly s (w.writeRecord n c cause) :=
  have hcounted := RecorderOnly.put (.put (.setLine (.within h)))
  .ite (.raise hcounted) hcounted

theorem closeWhere (h : RecorderOnly s w) {n cause : Nat} {p : Capture → Bool} : RecorderOnly s (w.closeWhere n cause p) := by
  unfold State.closeWhere
  extract_lets x due order left closed y f
  have hclosed : RecorderOnly s closed := .each (.setLine h) (fun _ _ hv => .writeRecord hv)
  exact .ite h (.ite (.setLine hclosed) hclosed)

theorem blockLine (h : RecorderOnly s w) {n : Nat} : RecorderOnly s (w.blockLine n) := .ite h (.raise (.modLine (.closeWhere h)))

theorem checkBlocked (h : RecorderOnly s w) {n : Nat} : RecorderOnly s (w.checkBlocked n) := .ite (.blockLine h) h

theorem leaveBlocked (h : RecorderOnly s w) {n : Nat} : RecorderOnly s (w.leaveBlocked n) := .ite (.raise (.modLine h)) h

theorem lineOff (h : RecorderOnly s w) {n : Nat} : RecorderOnly s (w.lineOff n) := .retarget (.modLine (.leaveBlocked (.closeWhere h)))

theorem storeRow (h : RecorderOnly s w) {ln : Nat} {p : PartRow} {a : Int} {n : Nat} : RecorderOnly s (w.storeRow ln p a n) := .setLine (.within h)

theorem readyTriggers (h : RecorderOnly s w) {n : Nat} : RecorderOnly s (w.readyTriggers n) := .setLine h

theorem lineInput (h : RecorderOnly s w) {ln : Nat} {p : PartRow} {a : Int} {n : Nat} {full : Bool} :
    RecorderOnly s (w.lineInput ln p a n full) := by
  unfold State.lineInput
  extract_lets policed filled rated off x rate stored
  have hrated : RecorderOnly s rated := .modLine (.modLine (.modLine h))
  have hoff : RecorderOnly s off := .ite (.lineOff hrated) hrated
  have hstored : RecorderOnly s stored :=
    .ite hoff (.ite (.modLine (.posting (.bump hoff) (Posting.raiseLimited _ _ _ _ _ _))) (.ite (.blockLine hoff) (.storeRow hoff)))
  exact .syncLine (.readyTriggers (.checkBlocked (.closeWhere (.modLine hstored))))

theorem lineSegment (h : RecorderOnly s w) {seg : Segment} {full : Bool} {ln : Nat} : RecorderOnly s (w.lineSegment seg full ln) := by
  unfold State.lineSegment
  extract_lets first count old p st
  exact .ite h (.ite (.lineInput (.modLine h)) (.modLine h))

theorem advanceStream (h : RecorderOnly s w) {seg : Segment} : RecorderOnly s (w.advanceStream seg) := .ite h (.within h)

theorem recordSegment (h : RecorderOnly s w) {seg : Segment} {full : Bool} : RecorderOnly s (w.recordSegment seg full) :=
  .each (.advanceStream h) (fun _ _ hv => .lineSegment hv)

end RecorderOnly

/-! ## The commands -/

section
variable {s : State} (t : Nat)

theorem riLost_shows (mean : Int) (hon : s.domainOn 8 = true) (hok : s.is F.FP_STATUS_RI_OK = true) :
    ∃ u, exec (.riLost t mean) s = .next u ∧ u.is F.FP_STATUS_RI_OK = false ∧ u.fp = { s.fp with riMean := mean } ∧
      OnlyChanges [F.FP_STATUS_RI_OK] [.fp] s u := by
  have hrun : inDomain 8 (riLost mean) (s.advance t) =
      (({ s.advance t with fp := { s.fp with riMean := mean } }).put F.FP_STATUS_RI_OK 0).raise 0x0306 wide 0 :=
    (inDomain_on (s := s.advance t) hon).trans (if_pos hok)
  refine ⟨_, rfl, ?_, ?_, .answer (t := t) ?_⟩ <;> rw [hrun]
  · rw [State.is_answer _ _ (by decide), State.is_raise _ _ _ _ (by decide), State.is_put_same]
    rfl
  · rw [State.answer_fp, State.raise_fp, State.put_fp]
  · exact ((OnlyChanges.fp _ _ (by decide)).trans (.put _ _ _ (by decide))).trans (Posting.raise _ _ _ _).onlyChanges

theorem riOk_shows (hon : s.domainOn 8 = true) :
    ∃ u, exec (.riOk t) s = .next u ∧ u.is F.FP_STATUS_RI_OK = true ∧ OnlyChanges [F.FP_STATUS_RI_OK] [] s u := by
  have hrun : inDomain 8 riOk (s.advance t) = riOk (s.advance t) := inDomain_on hon
  refine ⟨_, rfl, ?_, .answer (t := t) ?_⟩ <;> rw [hrun, riOk]
  · rw [State.is_answer _ _ (by decide)]
    split
    · assumption
    · rw [State.is_raise _ _ _ _ (by decide), State.is_endConds _ _ (by decide), State.is_put_same]
      rfl
  · exact .ite (.refl _) (((OnlyChanges.put _ _ _ (by decide)).trans (Posting.endConds _ _).onlyChanges).trans (Posting.raise _ _ _ _).onlyChanges)

/-! ### The segment that leaves (R134, R183) -/

section
variable {g sect i ep : Nat} {full : Bool} {x : Segment} {rest : List (Segment × Nat)} (hx : takeSegment g s.fp.queue = some ((x, ep), rest))
include hx

theorem segmentEmit_emits (hsect : x.section_ = sect) (hfirst : x.first = 1024 * i) :
    ∃ u, exec (.segmentEmit t g sect i full) s = .next u ∧ u.fab.store.getLast? = some (x, ep) ∧
      u.fp = { s.fp with queue := rest, chans := s.fp.chans + x.codes.length, segs := s.fp.segs + 1 } ∧ u.otp = s.otp ∧
      u.sw = s.sw ∧ u.opt.off = s.opt.off := by
  obtain ⟨v, hv⟩ := exists_eq (a' := State.countSegment { s.advance t with fp := { s.fp with queue := rest } } x)
  have hcounted : OnlyChanges [F.FP_FADE_COUNT_COUNT, F.FP_CNT_SAT_FADE_SAT] [.fp] (s.advance t) v :=
    hv ▸ (OnlyChanges.fp _ _ (by decide)).trans (countSegment_onlyChanges _ _)
  have hstored := storeSegment_onlyChanges v x ep
  have hrecorded : RecorderOnly (v.storeSegment x ep) ((v.storeSegment x ep).recordSegment x full) := .recordSegment .refl
  have hrun : segmentEmit g sect i full (s.advance t) = (v.storeSegment x ep).recordSegment x full := by
    rw [segmentEmit, State.advance_fp, hx, hv]
    exact if_neg (by simp [hsect, hfirst])
  have hkept (p : Part) (h : p ∉ [Part.fp, .fab, .recd, .mem]) :
      p.same (s.advance t) ((v.storeSegment x ep).recordSegment x full) := by
    simp only [List.mem_cons, List.not_mem_nil, or_false, not_or] at h
    obtain ⟨hfp, hfab, hrecd, hmem⟩ := h
    exact Part.same_trans (Part.same_trans (hcounted.2 p (by simp [hfp])) (hstored.2 p (by simp [hfab]))) (hrecorded p (by simp [hrecd, hmem]))
  have hfab : ((v.storeSegment x ep).recordSegment x full).fab = (v.storeSegment x ep).fab := hrecorded .fab (by decide)
  have hfp : ((v.storeSegment x ep).recordSegment x full).fp = v.fp := (hrecorded .fp (by decide)).trans (hstored.2 .fp (by decide))
  have hopt := hkept .opt (by decide)
  refine ⟨_, rfl, ?_, ?_, ?_, ?_, ?_⟩ <;> rw [hrun]
  · rw [State.answer_fab, hfab]
    exact storeSegment_newest v x ep
  · rw [State.answer_fp, hfp, hv, countSegment_fp]
  · rw [State.answer_otp]
    exact hkept .otp (by decide)
  · rw [State.answer_sw]
    exact hkept .sw (by decide)
  · rw [State.answer_optics (·.off), show State.opt _ = _ from hopt]
    rfl

theorem segmentEmit_otherSegment (hother : x.section_ ≠ sect ∨ x.first ≠ 1024 * i) :
    ∃ u, exec (.segmentEmit t g sect i full) s = .next u ∧ OnlyChanges [] [] s u := by
  have hrun : segmentEmit g sect i full (s.advance t) = s.advance t := by
    rw [segmentEmit, State.advance_fp, hx]
    exact if_pos hother
  refine ⟨_, rfl, .answer (t := t) ?_⟩
  rw [hrun]
  exact .refl _

end

/-! ### The copy (R140) -/

/-- FP_PROF_SEL as written: group, FREEZE and BIN. -/
def State.selectProfile (s : State) (v : Nat) : State :=
  ((s.put F.FP_PROF_SEL_GROUP (v / 2 ^ 28 % 16)).put F.FP_PROF_SEL_FREEZE (v / 2 ^ 27 % 2)).put F.FP_PROF_SEL_BIN v

/-- The copy and its tag released. -/
def State.releaseCopy (s : State) : State :=
  let s := ((s.put F.FP_PROF_SEL_FROZEN 0).put F.FP_PROF_TAG_SEQ 0).put F.FP_PROF_SWEEP_COUNT 0
  { s with fp := { s.fp with copy := [], copyOf := none, copyLen := 0 } }

theorem releaseCopy_onlyChanges (s : State) :
    OnlyChanges [F.FP_PROF_SEL_FROZEN, F.FP_PROF_TAG_SEQ, F.FP_PROF_SWEEP_COUNT] [.fp] s s.releaseCopy :=
  (((OnlyChanges.put _ _ _ (by decide)).trans (.put _ _ _ (by decide))).trans (.put _ _ _ (by decide))).trans (.fp _ _ (by decide))

/-- A write to FP_PROF_SEL goes beyond the selection by a release alone. -/
theorem profileFreeze_onlyChanges (s : State) (v : Nat) :
    OnlyChanges [F.FP_PROF_SEL_FROZEN, F.FP_PROF_TAG_SEQ, F.FP_PROF_SWEEP_COUNT] [.fp] (s.selectProfile v) (profileFreeze v s) :=
  .ite (releaseCopy_onlyChanges _) (.refl _)

/-- FREEZE = 0 and a new request release the copy. -/
theorem profileFreeze_releases {s : State} {v : Nat}
    (h : v / 2 ^ 27 % 2 = 0 ∨ s.is F.FP_PROF_SEL_FREEZE = false ∨ v / 2 ^ 28 % 16 ≠ s.get F.FP_PROF_SEL_GROUP) :
    profileFreeze v s = (s.selectProfile v).releaseCopy := by
  rcases Nat.mod_two_eq_zero_or_one (v / 2 ^ 27) with hbit | hbit
  · exact if_pos (.inl hbit)
  · refine if_pos (.inr ⟨hbit, (h.resolve_left (by omega)).imp_left fun hfreeze => ?_⟩)
    rw [hfreeze]
    rfl

theorem selectProfile_onlyChanges (s : State) (v : Nat) :
    OnlyChanges [F.FP_PROF_SEL_GROUP, F.FP_PROF_SEL_FREEZE, F.FP_PROF_SEL_BIN] [] s (s.selectProfile v) :=
  ((OnlyChanges.put _ _ _ (by decide)).trans (.put _ _ _ (by decide))).trans (.put _ _ _ (by decide))

theorem get_selectProfile (s : State) (v : Nat) : (s.selectProfile v).get F.FP_PROF_SEL_GROUP = v / 2 ^ 28 % 16 ∧
    (s.selectProfile v).get F.FP_PROF_SEL_FREEZE = v / 2 ^ 27 % 2 ∧
    (s.selectProfile v).get F.FP_PROF_SEL_BIN = v % 2 ^ F.FP_PROF_SEL_BIN.width := by
  refine ⟨?_, ?_, State.get_put_same _ _ _⟩
  · rw [State.selectProfile, State.get_put_ne _ _ (by decide), State.get_put_ne _ _ (by decide), State.get_put_same]
    exact Nat.mod_mod _ _
  · rw [State.selectProfile, State.get_put_ne _ _ (by decide), State.get_put_same]
    exact Nat.mod_mod _ _

theorem get_releaseCopy (s : State) : s.releaseCopy.get F.FP_PROF_SEL_FROZEN = 0 ∧ s.releaseCopy.get F.FP_PROF_TAG_SEQ = 0 ∧
    s.releaseCopy.get F.FP_PROF_SWEEP_COUNT = 0 := by
  refine ⟨?_, ?_, ?_⟩ <;> rw [State.releaseCopy, State.get_mk]
  · rw [State.get_put_ne _ _ (by decide), State.get_put_ne _ _ (by decide), State.get_put_same]
    rfl
  · rw [State.get_put_ne _ _ (by decide), State.get_put_same]
    rfl
  · rw [State.get_put_same]
    rfl

theorem profileFreeze_selects (v : Nat) (hon : s.domainOn 8 = true) :
    ∃ u, exec (.profileFreeze t v) s = .next u ∧ u.get F.FP_PROF_SEL_GROUP = v / 2 ^ 28 % 16 ∧
      u.get F.FP_PROF_SEL_FREEZE = v / 2 ^ 27 % 2 ∧ u.get F.FP_PROF_SEL_BIN = v % 2 ^ F.FP_PROF_SEL_BIN.width ∧
      (v / 2 ^ 27 % 2 = 0 ∨ s.is F.FP_PROF_SEL_FREEZE = false ∨ v / 2 ^ 28 % 16 ≠ s.get F.FP_PROF_SEL_GROUP →
        u.get F.FP_PROF_SEL_FROZEN = 0 ∧ u.get F.FP_PROF_TAG_SEQ = 0 ∧ u.get F.FP_PROF_SWEEP_COUNT = 0) ∧
      OnlyChanges [F.FP_PROF_SEL_GROUP, F.FP_PROF_SEL_FREEZE, F.FP_PROF_SEL_BIN, F.FP_PROF_SEL_FROZEN, F.FP_PROF_TAG_SEQ, F.FP_PROF_SWEEP_COUNT]
        [.fp] s u := by
  have hrun : access 0x60300 (profileFreeze v) (s.advance t) = profileFreeze v (s.advance t) :=
    access_on (addr := 0x60300) (s := s.advance t) hon
  have hselected := selectProfile_onlyChanges (s.advance t) v
  have hreleased := profileFreeze_onlyChanges (s.advance t) v
  obtain ⟨hgroup, hfreeze, hbin⟩ := get_selectProfile (s.advance t) v
  refine ⟨_, rfl, ?_, ?_, ?_, fun hrelease => ?_, .answer (t := t) ?_⟩ <;> rw [hrun]
  · rw [State.get_answer _ _ (by decide), hreleased.1 _ (by decide) (by decide), hgroup]
  · rw [State.get_answer _ _ (by decide), hreleased.1 _ (by decide) (by decide), hfreeze]
  · rw [State.get_answer _ _ (by decide), hreleased.1 _ (by decide) (by decide), hbin]
  · rw [profileFreeze_releases (s := s.advance t) hrelease, State.get_answer _ _ (by decide), State.get_answer _ _ (by decide),
      State.get_answer _ _ (by decide)]
    exact get_releaseCopy _
  · exact (hselected.mono (by decide) (by decide)).trans (hreleased.mono (by decide) (by decide))

/-- The copy complete: its bins stand in DRAM, and none is left to write. -/
def State.storeCopy (s : State) : State :=
  let bytes := s.profileBytes s.fp.copy
  let u := bytes.2.writeWords (bytes.1.length / 8 + 2) bytes.2.copyArea bytes.1
  { u with fp := { u.fp with copy := [], copyLen := u.fp.copy.length } }

theorem storeCopy_onlyChanges (s : State) : OnlyChanges dramFields [.fp, .mem, .dram, .freeCtr] s s.storeCopy :=
  (((profileBytes_onlyChanges s s.fp.copy).mono (by decide) (by decide)).trans
    ((writeWords_onlyChanges _ _ _ _).mono (fun _ => id) (by decide))).trans (.fp _ _ (by decide))

theorem storeCopy_fp (s : State) : s.storeCopy.fp = { s.fp with copy := [], copyLen := s.fp.copy.length } := by
  have hbytes : (s.profileBytes s.fp.copy).2.fp = s.fp := (profileBytes_onlyChanges s s.fp.copy).2 .fp (by decide)
  have hwords (n a : Nat) (bs : List (BitVec 8)) : ((s.profileBytes s.fp.copy).2.writeWords n a bs).fp = (s.profileBytes s.fp.copy).2.fp :=
    (writeWords_onlyChanges _ n a bs).2 .fp (by decide)
  rw [State.storeCopy, hwords, hbytes]

theorem profileFrozen_completes {seq sweep : Nat} (hfreeze : s.is F.FP_PROF_SEL_FREEZE = true) (hfrozen : s.is F.FP_PROF_SEL_FROZEN = false)
    (hcopy : s.fp.copyOf = some (seq, sweep)) :
    ∃ u, exec (.profileFrozen t) s = .next u ∧ u.is F.FP_PROF_SEL_FROZEN = true ∧
      u.get F.FP_PROF_TAG_SEQ = seq % 2 ^ F.FP_PROF_TAG_SEQ.width ∧ u.get F.FP_PROF_SWEEP_COUNT = sweep % 2 ^ F.FP_PROF_SWEEP_COUNT.width ∧
      u.fp = { s.fp with copy := [], copyLen := s.fp.copy.length } ∧
      OnlyChanges ([F.FP_PROF_SEL_FROZEN, F.FP_PROF_TAG_SEQ, F.FP_PROF_SWEEP_COUNT] ++ dramFields) [.fp, .mem, .dram, .freeCtr] s u := by
  have hrun : profileFrozen (s.advance t) =
      (((s.advance t).storeCopy.put F.FP_PROF_SEL_FROZEN 1).put F.FP_PROF_TAG_SEQ seq).put F.FP_PROF_SWEEP_COUNT sweep := by
    rw [profileFrozen, State.advance_fp, hcopy]
    exact if_pos ⟨hfreeze, by rw [State.is_advance, hfrozen]; rfl⟩
  refine ⟨_, rfl, ?_, ?_, ?_, ?_, .answer (t := t) ?_⟩ <;> rw [hrun]
  · rw [State.is_answer _ _ (by decide), State.is_put_ne _ _ (by decide), State.is_put_ne _ _ (by decide), State.is_put_same]
    rfl
  · rw [State.get_answer _ _ (by decide), State.get_put_ne _ _ (by decide), State.get_put_same]
  · rw [State.get_answer _ _ (by decide), State.get_put_same]
  · rw [State.answer_fp]
    exact storeCopy_fp _
  · exact ((((storeCopy_onlyChanges _).mono (by decide) (by decide)).trans (.put _ _ _ (by decide))).trans (.put _ _ _ (by decide))).trans
      (.put _ _ _ (by decide))

/-! ### Reads of the selected bin (R140) -/

theorem fpProfDataRead_answers (r : ReadAt) (hon : s.domainOn 8 = true) :
    ∃ u, exec (.fpProfDataRead r) s = .next u ∧ u.resp = [pickBytes r.be (s.advance r.at_).profWord.1] ∧
      u.get F.FP_PROF_SEL_BIN = (s.get F.FP_PROF_SEL_BIN + 1) % 2 ^ F.FP_PROF_SEL_BIN.width ∧
      OnlyChanges (F.FP_PROF_SEL_BIN :: dramFields) [.resp, .freeCtr, .mem, .dram] s u ∧
      (s.is F.FP_PROF_SEL_FREEZE = false → OnlyChanges [F.FP_PROF_SEL_BIN] [.resp, .freeCtr] s u) ∧
      (s.is F.FP_PROF_SEL_FREEZE = true → s.is F.FP_PROF_SEL_FROZEN = false → u.resp = [0] ∧ OnlyChanges [F.FP_PROF_SEL_BIN] [.resp] s u) := by
  obtain ⟨w, hw⟩ := exists_eq (a' := (s.advance r.at_).profWord)
  have hrun : readBytes r.be (access 0x60304 profDataRead) (s.advance r.at_) =
      { w.2.bumpWrap F.FP_PROF_SEL_BIN 1 with resp := [pickBytes r.be w.1] } := by
    rw [readBytes, access_on (addr := 0x60304) (s := s.advance r.at_) hon, hw]
    rfl
  have hread : OnlyChanges [F.FP_PROF_SEL_BIN] [.resp] w.2 (readBytes r.be (access 0x60304 profDataRead) (s.advance r.at_)) := by
    rw [hrun]
    exact (OnlyChanges.put _ _ _ (by decide)).trans ((OnlyChanges.resp _ _).mono (by decide) (by decide))
  have hword : OnlyChanges dramFields [.freeCtr, .mem, .dram] (s.advance r.at_) w.2 := hw ▸ profWord_onlyChanges _
  refine ⟨_, rfl, ?_, ?_, ?_, fun hfreeze => ?_, fun hfreeze hfrozen => ⟨?_, ?_⟩⟩
  · rw [State.answer_resp, hrun, hw]
  · rw [State.get_answer _ _ (by decide), hrun, State.get_mk, State.get_bumpWrap_same, hword.1 _ (by decide) (by decide), State.get_advance]
  · exact .answer (t := r.at_) ((hword.mono (by decide) (by decide)).trans (hread.mono (by decide) (by decide)))
  · have hlive : OnlyChanges [] [.freeCtr] (s.advance r.at_) w.2 := hw ▸ profWord_live _ hfreeze
    exact .answer (t := r.at_) ((hlive.mono (by decide) (by decide)).trans (hread.mono (fun _ => id) (by decide)))
  · rw [State.answer_resp, hrun, hw, profWord_waits (s.advance r.at_) hfreeze hfrozen, pickBytes_zero]
  · have hsame : w.2 = s.advance r.at_ := by rw [hw, profWord_waits (s.advance r.at_) hfreeze hfrozen]
    exact .answer (t := r.at_) (hsame ▸ hread)

end

end Sys2Proof.Machine

section
open Sys2Proof Sys2Proof.Machine

/-- Settles O18: each command by the rule of its effect; the accesses to DRAM stay within the frame of the memory controller. -/
theorem pipelineReadback : Obligations.PipelineReadback := by
  unfold Obligations.PipelineReadback
  intro s t
  refine ⟨?lost, ?ok, ?segment, ?select, ?frozen, ?read⟩
  case lost => exact fun mean hon hok => riLost_shows t mean hon hok
  case ok => exact fun hon => riOk_shows t hon
  case segment => exact fun _ _ _ _ _ _ _ hx => ⟨segmentEmit_emits t hx, segmentEmit_otherSegment t hx⟩
  case select => exact fun v hon => profileFreeze_selects t v hon
  case frozen => exact fun _ _ hfreeze hfrozen hcopy => profileFrozen_completes t hfreeze hfrozen hcopy
  case read => exact fun r hon => fpProfDataRead_answers r hon

end

/-!
The detection FIFO's consumption index, the records that end a storm, and the alarm readback (R164-R166, R169).
-/

namespace Sys2Proof.Machine

/-! ## Changes of one part -/

section
variable {fs : List Fld} {ps : List Part}

theorem OnlyChanges.secs (s : State) (x : List (Nat × Section)) (h : Part.secs ∈ ps) : OnlyChanges fs ps s { s with secs := x } :=
  ⟨fun _ _ _ => rfl, fun p hp => by cases p with | secs => exact absurd h hp | _ => rfl⟩

theorem OnlyChanges.dfifo (s : State) (x : List (Nat × DetRecord)) (h : Part.dfifo ∈ ps) : OnlyChanges fs ps s { s with dfifo := x } :=
  ⟨fun _ _ _ => rfl, fun p hp => by cases p with | dfifo => exact absurd h hp | _ => rfl⟩

end

/-! ## The end of a storm (R165) -/

/-- The registers that a record in the FIFO and the end of a storm may write, the counts of each section among them. -/
def stormFields : List Fld :=
  [F.BS_DFIFO_WR_COUNT, F.BS_DFIFO_STAT_OCCUPANCY, F.BS_DFIFO_STAT_STORM] ++
    (List.range 256).flatMap (fun k => [F.BS_DET_EVTS_COUNT k, F.BS_SAT_EVT_SAT k])

/-- RD is the host's: no record and no end of a storm writes it. -/
theorem rdCount_not_stormField : F.BS_DFIFO_RD_COUNT.key ∉ stormFields.map (·.key) := by
  simp only [stormFields, List.mem_map, List.mem_append, List.mem_flatMap, List.mem_range, List.mem_cons, List.not_mem_nil, or_false]
  rintro ⟨f, (rfl | rfl | rfl) | ⟨k, -, rfl | rfl⟩, hkey⟩ <;> simp at hkey <;> omega

section
variable (s : State)

theorem syncDfifo_onlyChanges : OnlyChanges [F.BS_DFIFO_STAT_OCCUPANCY] [] s s.syncDfifo := .put _ _ _ (by decide)

theorem dfifoPut_onlyChanges {k : Nat} (hk : k < 256) (r : DetRecord) : OnlyChanges stormFields [.dfifo] s (s.dfifoPut k r) := by
  have hcount (f : Fld) (hf : f ∈ [F.BS_DET_EVTS_COUNT k, F.BS_SAT_EVT_SAT k]) : f.key ∈ stormFields.map (·.key) :=
    List.mem_map_of_mem (List.mem_append_right _ (List.mem_flatMap.mpr ⟨k, List.mem_range.mpr hk, hf⟩))
  unfold State.dfifoPut
  extract_lets wr empty stored shown counted
  have hshown : OnlyChanges stormFields [.dfifo] s shown :=
    ((OnlyChanges.dfifo _ _ (by decide)).trans (.put _ _ _ (by decide))).trans (.put _ _ _ (by decide))
  have hcounted : OnlyChanges stormFields [.dfifo] s counted := hshown.trans (.bump _ _ _ _ (hcount _ (by simp)) (hcount _ (by simp)))
  exact .ite (hcounted.trans (Posting.raise _ _ _ _).onlyChanges) hcounted

theorem stormEnd_onlyChanges : OnlyChanges stormFields [.secs, .dfifo] s s.stormEnd := by
  unfold State.stormEnd
  extract_lets recorded
  have hrecorded : OnlyChanges stormFields [.secs, .dfifo] s recorded := .each_mem (fun k hk v => by
    split
    · exact ((dfifoPut_onlyChanges v (List.mem_range.mp hk) _).mono (fun _ => id) (by decide)).trans (.secs _ _ (by decide))
    · exact .refl v) s
  exact .ite ((hrecorded.trans (.put _ _ _ (by decide))).trans (Posting.raise _ _ _ _).onlyChanges) (.refl s)

/-- Without a storm there is none to end. -/
theorem stormEnd_noStorm (h : s.is F.BS_DFIFO_STAT_STORM = false) : s.stormEnd = s := if_neg (by simp [h])

end

/-! ## The consumption index (R166) -/

/-- The state after RD has moved, before an end of a storm that the move may bring. -/
def State.consumeTo (s : State) (v : Nat) : State := (s.put F.BS_DFIFO_RD_COUNT v).syncDfifo

section
variable (s : State) (t v : Nat)

theorem dfifoRdWrite_taken (h : indexOk (s.get F.BS_DFIFO_WR_COUNT) (s.get F.BS_DFIFO_RD_COUNT) (v % 2 ^ 32) = true) :
    dfifoRdWrite v s = (s.consumeTo v).stormEnd := if_pos h

theorem dfifoRdWrite_refused (h : indexOk (s.get F.BS_DFIFO_WR_COUNT) (s.get F.BS_DFIFO_RD_COUNT) (v % 2 ^ 32) = false) :
    dfifoRdWrite v s = s.put F.BS_DFIFO_STAT_RD_ERR 1 := if_neg (ne_true_of_eq_false h)

theorem consumeTo_rd : (s.consumeTo v).get F.BS_DFIFO_RD_COUNT = v % 2 ^ 32 := by
  rw [State.consumeTo, (syncDfifo_onlyChanges _).1 _ (by decide) (by decide), State.get_put_same]

theorem consumeTo_onlyChanges : OnlyChanges [F.BS_DFIFO_RD_COUNT, F.BS_DFIFO_STAT_OCCUPANCY] [] s (s.consumeTo v) :=
  (OnlyChanges.put _ _ _ (by decide)).trans (.put _ _ _ (by decide))

theorem bsDfifoRdWrite_moves (hon : s.domainOn 8 = true)
    (hok : indexOk (s.get F.BS_DFIFO_WR_COUNT) (s.get F.BS_DFIFO_RD_COUNT) (v % 2 ^ 32) = true) :
    ∃ u, exec (.bsDfifoRdWrite t v) s = .next u ∧ u.get F.BS_DFIFO_RD_COUNT = v % 2 ^ 32 ∧
      (s.is F.BS_DFIFO_STAT_STORM = false → OnlyChanges [F.BS_DFIFO_RD_COUNT, F.BS_DFIFO_STAT_OCCUPANCY] [] s u) := by
  have hrun : access 0x70018 (dfifoRdWrite v) (s.advance t) = ((s.advance t).consumeTo v).stormEnd :=
    (access_on (addr := 0x70018) (s := s.advance t) hon).trans (dfifoRdWrite_taken (s.advance t) v hok)
  have hmoved := consumeTo_onlyChanges (s.advance t) v
  refine ⟨_, rfl, ?_, fun hcalm => .answer (t := t) ?_⟩ <;> rw [hrun]
  · rw [State.get_answer _ _ (by decide), (stormEnd_onlyChanges _).1 _ (by decide) rdCount_not_stormField, consumeTo_rd]
  · rwa [stormEnd_noStorm _ ((hmoved.is (by decide) (by decide)).trans hcalm)]

theorem bsDfifoRdWrite_refused (hon : s.domainOn 8 = true)
    (hok : indexOk (s.get F.BS_DFIFO_WR_COUNT) (s.get F.BS_DFIFO_RD_COUNT) (v % 2 ^ 32) = false) :
    ∃ u, exec (.bsDfifoRdWrite t v) s = .next u ∧ u.get F.BS_DFIFO_STAT_RD_ERR = 1 ∧ OnlyChanges [F.BS_DFIFO_STAT_RD_ERR] [] s u := by
  have hrun : access 0x70018 (dfifoRdWrite v) (s.advance t) = (s.advance t).put F.BS_DFIFO_STAT_RD_ERR 1 :=
    (access_on (addr := 0x70018) (s := s.advance t) hon).trans (dfifoRdWrite_refused (s.advance t) v hok)
  refine ⟨_, rfl, ?_, .answer (t := t) ?_⟩ <;> rw [hrun]
  · rw [State.get_answer _ _ (by decide), State.get_put_same]
    rfl
  · exact .put _ _ _ (by decide)

end

/-! ## The alarm readback (R169) -/

section
variable (s : State)

/-- A section that the timetable does not have shows no alarm. -/
theorem alarmWord_absent (h : s.get F.BS_COUNT_SECTIONS ≤ s.get F.BS_ALARM_SEL_SECTION) : s.alarmWord = 0 := if_pos (.inl h)

theorem bsAlarmDataRead_answers (r : ReadAt) (hon : s.domainOn 8 = true) :
    ∃ u, exec (.bsAlarmDataRead r) s = .next u ∧ u.resp = [pickBytes r.be s.alarmWord] ∧
      u.get F.BS_ALARM_SEL_WORD = (s.get F.BS_ALARM_SEL_WORD + 1) % 2 ^ F.BS_ALARM_SEL_WORD.width ∧
      OnlyChanges [F.BS_ALARM_SEL_WORD] [.resp] s u := by
  have hrun : readBytes r.be (access 0x7002C alarmDataRead) (s.advance r.at_) =
      { (s.advance r.at_).bumpWrap F.BS_ALARM_SEL_WORD 1 with resp := [pickBytes r.be (s.advance r.at_).alarmWord] } := by
    rw [readBytes, access_on (addr := 0x7002C) (s := s.advance r.at_) hon]
    rfl
  refine ⟨_, rfl, ?_, ?_, .answer (t := r.at_) ?_⟩ <;> rw [hrun]
  · rw [State.answer_resp]
    rfl
  · rw [State.get_answer _ _ (by decide), State.get_mk]
    exact State.get_bumpWrap_same _ _ _
  · exact (OnlyChanges.put _ _ _ (by decide)).trans ((OnlyChanges.resp _ _).mono (by decide) (by decide))

end

end Sys2Proof.Machine

section
open Sys2Proof Sys2Proof.Machine

/-- Settles O24: a valid index moves RD, which no end of a storm writes back; any other sets RD_ERR; a read answers the word and advances WORD. -/
theorem sectionReadback : Obligations.SectionReadback := by
  unfold Obligations.SectionReadback
  intro s t v hon
  refine ⟨fun hok => ?moved, fun hok => bsDfifoRdWrite_refused s t v hon hok, fun r => ?read⟩
  case moved =>
    obtain ⟨u, hu, hrd, hcalm⟩ := bsDfifoRdWrite_moves s t v hon hok
    exact ⟨u, hu, hrd, fun h => ⟨(hcalm h).1 _ (by decide) (by decide), (hcalm h).2 .mem (by decide)⟩⟩
  case read =>
    obtain ⟨u, hu, hresp, hword, honly⟩ := bsAlarmDataRead_answers s r hon
    exact ⟨u, hu, hresp, fun habsent => by rw [hresp, alarmWord_absent s habsent, pickBytes_zero], hword, honly⟩

end

/-!
The registers that follow the engines, the tracks and the jobs (R173, R175, R186, R195, R196), and the retirement of a job (R181, R182).
-/

namespace Sys2Proof.Machine

/-! ## The registers that follow the engines, the tracks and the jobs -/

/-- The registers of a yard that follow its engines, its tracks and its jobs (R173, R186, R195, R196). -/
def yardFields (y : Nat) : List Fld :=
  [F.YD_STATUS_WD_MASK y, F.YD_STATUS_AV_MASK y, F.YD_STATUS_QUAD y, F.YD_STATUS_HOME y, F.YD_TRACKS_COUNT y, F.YD_LOAD_PLAN y,
   F.YD_QUEUE_QUEUED y, F.YD_QUEUE_PEAK y]

/-- Those of the 12 yards and of the fabric as a whole (R175). -/
def fabricFields : List Fld :=
  [F.FB_ENGINES_PRESENT, F.FB_ENGINES_WITHDRAWN, F.FB_QUAD_HOMES, F.FB_JOBS_INFLIGHT, F.FB_JOBS_PEAK] ++ (List.range 12).flatMap yardFields

theorem faultsCount_not_fabricField : F.FB_FAULTS_COUNT.key ∉ fabricFields.map (·.key) := by decide

/-- The registers of a yard's single engines lie behind those of the yard. -/
theorem engineField_not_fabricField {y i b : Nat} (hi : i < 8) (hb : b < 32) :
    32 * (0x80100 + 65536 * y + 4 * i) + b ∉ fabricFields.map (·.key) := by
  simp only [fabricFields, yardFields, List.mem_map, List.mem_append, List.mem_flatMap, List.mem_range, List.mem_cons, List.not_mem_nil, or_false]
  rintro ⟨f, (rfl | rfl | rfl | rfl | rfl) | ⟨z, hz, rfl | rfl | rfl | rfl | rfl | rfl | rfl | rfl⟩, hkey⟩ <;> simp at hkey <;> omega

theorem engineField_not_settleKey (y : Nat) {i b : Nat} (hi : i < 8) (hb : b < 32) :
    32 * (0x80100 + 65536 * y + 4 * i) + b ∉ settleKeys := by
  simp [settleKeys]
  omega

/-- A step for each yard that writes registers of that yard. -/
theorem eachYard_onlyChanges {g : Nat → State → State} (hg : ∀ y v, OnlyChanges (yardFields y) [] v (g y v)) (s : State) :
    OnlyChanges fabricFields [] s (each (List.range 12) g s) :=
  .each_mem (fun y hy v => (hg y v).mono
    (fun _ hk => by
      obtain ⟨f, hf, rfl⟩ := List.mem_map.mp hk
      exact List.mem_map_of_mem (List.mem_append_right _ (List.mem_flatMap.mpr ⟨y, hy, hf⟩)))
    (fun _ => id)) s

section
variable (s : State)

theorem syncEngines_onlyChanges : OnlyChanges fabricFields [] s s.syncEngines := by
  unfold State.syncEngines
  extract_lets mask masked n
  have hmasked : OnlyChanges fabricFields [] s masked := eachYard_onlyChanges (fun y v =>
    ((OnlyChanges.put _ _ _ (by simp [yardFields])).trans (.put _ _ _ (by simp [yardFields]))).trans (.put _ _ _ (by simp [yardFields]))) s
  exact (hmasked.trans (.put _ _ _ (by decide))).trans (.put _ _ _ (by decide))

theorem syncTracks_onlyChanges : OnlyChanges fabricFields [] s s.syncTracks := by
  unfold State.syncTracks
  extract_lets ts tl planned
  have hplanned : OnlyChanges fabricFields [] s planned := eachYard_onlyChanges (fun y v =>
    ((OnlyChanges.put _ _ _ (by simp [yardFields])).trans (.put _ _ _ (by simp [yardFields]))).trans (.put _ _ _ (by simp [yardFields]))) s
  exact hplanned.trans (.put _ _ _ (by decide))

/-- A yard's queue as its jobs give it. -/
def State.showQueue (y : Nat) (s : State) : State :=
  let q := s.fab.jobs.countP (fun j => j.yard == y && !j.done)
  (s.putSat (F.YD_QUEUE_QUEUED y) q).putSat (F.YD_QUEUE_PEAK y) (max q (s.get (F.YD_QUEUE_PEAK y)))

theorem showQueue_onlyChanges (y : Nat) : OnlyChanges (yardFields y) [] s (s.showQueue y) :=
  (OnlyChanges.put _ (F.YD_QUEUE_QUEUED y) _ (by simp [yardFields])).trans (.put _ (F.YD_QUEUE_PEAK y) _ (by simp [yardFields]))

/-- The jobs in flight counted, and since when they are as many as may be. -/
def State.countJobs (s : State) : State :=
  let n := s.fab.jobs.length
  let u := (s.putSat F.FB_JOBS_INFLIGHT n).putSat F.FB_JOBS_PEAK (max n (s.get F.FB_JOBS_PEAK))
  { u with fab := { u.fab with stopped := if n ≥ 512 then some (u.fab.stopped.getD u.now) else none } }

theorem countJobs_onlyChanges : OnlyChanges fabricFields [.fab] s s.countJobs :=
  ((OnlyChanges.put _ F.FB_JOBS_INFLIGHT _ (by decide)).trans (.put _ F.FB_JOBS_PEAK _ (by decide))).trans (.fab _ _ (by decide))

theorem syncJobs_eq : s.syncJobs = each (List.range 12) State.showQueue s.countJobs := rfl

theorem syncQueues_onlyChanges : OnlyChanges fabricFields [] s (each (List.range 12) State.showQueue s) :=
  eachYard_onlyChanges (fun y v => showQueue_onlyChanges v y) s

theorem syncJobs_onlyChanges : OnlyChanges fabricFields [.fab] s s.syncJobs :=
  (countJobs_onlyChanges s).trans ((syncQueues_onlyChanges _).mono (fun _ => id) (by decide))

theorem syncJobs_engines : s.syncJobs.fab.engines = s.fab.engines := by
  rw [syncJobs_eq, show (each _ _ _).fab = s.countJobs.fab from (syncQueues_onlyChanges s.countJobs).2 .fab (by decide)]
  rfl

end

/-! ## Retirement (R179, R181, R182, R298) -/

/-- What the results of a job that retires leave behind (R179, R182, R298). -/
def State.takeResults (s : State) (j : Job) (ue : Bool) : State :=
  if j.faulted then s else if ue then s.resultLost else if j.stepped then s.steppedJob j else s.sectionJob j.seg j.epoch j.levels j.shed

/-- The job taken out of those in flight and counted in FB_DONE. -/
def State.countRetired (s : State) (j : Job) : State :=
  ({ s with fab := { s.fab with jobs := s.fab.jobs.filter (fun i => i.tag != j.tag) } }.bump F.FB_DONE_COUNT F.FB_CNT_SAT_DONE_SAT 1).syncJobs

theorem countRetired_counts (s : State) (j : Job) :
    (s.countRetired j).get F.FB_DONE_COUNT = min (s.get F.FB_DONE_COUNT + 1) (2 ^ F.FB_DONE_COUNT.width - 1) := by
  rw [State.countRetired, (syncJobs_onlyChanges _).1 _ (by decide) (by decide), State.get_bump_same _ _ (by decide), State.get_mk]

section
variable {s : State} {k : Nat} {j : Job} (ue : Bool) (hhead : s.headJob k = some j) (hdone : j.done = true)
  (hwaits : s.earlierWaits j.seg = false) (hblocked : s.is F.CX_STATUS_BLOCKED = false)
include hhead hdone hwaits hblocked

theorem jobRetire_retires : jobRetire k ue s = if j.epoch < ((s.takeResults j ue).countRetired j).sw.epochs then
    ((s.takeResults j ue).countRetired j).powerQuads else (s.takeResults j ue).countRetired j := by
  simp only [jobRetire, hhead, hdone, hwaits, hblocked]
  rfl

/-- A job retires with one more in FB_DONE than its results have left there. -/
theorem jobRetire_counts :
    (jobRetire k ue s).get F.FB_DONE_COUNT = min ((s.takeResults j ue).get F.FB_DONE_COUNT + 1) (2 ^ F.FB_DONE_COUNT.width - 1) := by
  rw [jobRetire_retires ue hhead hdone hwaits hblocked]
  split
  · rw [State.powerQuads, State.get_put_ne _ _ (by decide), State.get_put_ne _ _ (by decide), countRetired_counts]
  · exact countRetired_counts _ _

end

/-- The registers of section k lie 128 bytes apart from 0x78000 on, so that those of a section 6400 would be those of the fabric. -/
theorem filledCount_6400 : F.BS_FILLED_COUNT 6400 = F.FB_DONE_COUNT := rfl

/-- A job of such a section with one channel, whose input is the second: the first is missing. -/
def lateJob : Job :=
  { tag := 0, seg := ⟨6400, 0, 0, 0, 0, 0, 0, 0, [0], [false], [false], 0⟩, epoch := 0, yard := 0, levels := [], shed := 0, queued := 0,
    ended := 1, stepped := true, index := 1 }

/-- The reset state with that job in flight. -/
def lateState : State := { State.reset with fab := { jobs := [lateJob] } }

/-- The missing input is filled and counted (R143). -/
theorem lateJob_fills : ((lateState.advance 0).takeResults lateJob false).get (F.BS_FILLED_COUNT 6400) = 1 := by decide

end Sys2Proof.Machine

section
open Sys2Proof Sys2Proof.Machine

/-- Refutes O21: the clause of retirement takes every number of a section and has no premise that it is one of the 256 of R133, and the registers of
a section beyond run into those of the fabric. FB_DONE counts the job of section 6400 and, as that section's count of filled inputs, the input that
the job fills: it goes from 0 to 2. A SEGMENT_EMIT of such a section is no well-formed command. -/
theorem not_fabricMovesJobs : ¬ Obligations.FabricMovesJobs := by
  intro h
  obtain ⟨-, -, -, -, hretire, -⟩ := h lateState 0
  obtain ⟨u, hu, -, hdone⟩ := hretire 6400 lateJob (by decide) (by decide) (by decide) (by decide) false
  rw [runAt_next hu, State.get_answer _ _ (by decide), jobRetire_counts (j := lateJob) false (by decide) (by decide) (by decide) (by decide),
    ← filledCount_6400, lateJob_fills] at hdone
  exact absurd hdone (by decide)

end

/-!
The end of a share and the faults that end it (R178-R180, R203, R206, R221), and the control flow of the engines (R210, R211).
-/

namespace Sys2Proof.Machine

/-! ## A share fault and the end of a share (R178-R180, R203) -/

section
variable (s : State) (e c : Nat)

theorem withdrawEngine_onlyChanges :
    OnlyChanges (F.YD_ENG_STATE (e / 8) (e % 8) :: fabricFields) [] s (s.withdrawEngine e) := by
  unfold State.withdrawEngine
  split
  · exact .refl s
  · have hsync := ((syncEngines_onlyChanges (s.put (F.YD_ENG_STATE (e / 8) (e % 8)) 3)).trans (syncTracks_onlyChanges _)).mono
      (gs := F.YD_ENG_STATE (e / 8) (e % 8) :: fabricFields) (fun _ => List.mem_cons_of_mem _) (fun _ => id)
    exact ((OnlyChanges.put _ _ _ List.mem_cons_self).trans hsync).trans (Posting.raise _ _ _ _).onlyChanges

/-- The fault counted in FB_FAULTS and noted with the instant, unless the word was known to be uncorrectable before (R319). -/
def State.countFault : State :=
  let s := (s.bump F.FB_FAULTS_COUNT F.FB_CNT_SAT_FAULT_SAT 1).raise 0x0404 wide 0
  { s with fab := { s.fab with faultAt := kvSet [] s.fab.faultAt e (if c < 8 then s.now :: s.recentFaults e else s.recentFaults e) } }

/-- The fault shown by its engine's register. -/
def State.showFault : State :=
  (s.put (F.YD_ENG_LAST_FAULT (e / 8) (e % 8)) (c % 8)).putSat (F.YD_ENG_FAULTS_1S (e / 8) (e % 8)) (kvGet [] s.fab.faultAt e).length

/-- A fault is counted and shown, and the third within 1 s withdraws the engine. -/
theorem engineFault_eq : s.engineFault e c = ((s.countFault e c).showFault e c).when
    (decide (3 ≤ (kvGet [] (s.countFault e c).fab.faultAt e).length)) (fun u => u.withdrawEngine e) := by
  simp [State.engineFault, State.countFault, State.showFault, State.when]

theorem engineFault_engines : (s.engineFault e c).fab.engines = s.fab.engines := by
  have hshown : ((s.countFault e c).showFault e c).fab.engines = s.fab.engines := by
    simp [State.showFault, State.countFault]
  rw [engineFault_eq]
  unfold State.when
  split
  · rwa [show (State.withdrawEngine _ e).fab = _ from (withdrawEngine_onlyChanges _ e).2 .fab (by decide)]
  · exact hshown

/-- What the fault shows stays when the engine is withdrawn, but for the engine's state. -/
theorem get_engineFault {f : Fld} (hs : f.key ∉ settleKeys) (hf : f.key ∉ fabricFields.map (·.key))
    (he : f.key ≠ (F.YD_ENG_STATE (e / 8) (e % 8)).key) : (s.engineFault e c).get f = ((s.countFault e c).showFault e c).get f := by
  rw [engineFault_eq]
  unfold State.when
  split
  · exact (withdrawEngine_onlyChanges _ e).1 f hs (List.not_mem_cons_of_ne_of_not_mem he hf)
  · rfl

theorem engineFault_lastFault : (s.engineFault e c).get (F.YD_ENG_LAST_FAULT (e / 8) (e % 8)) = c % 8 := by
  have hi : e % 8 < 8 := Nat.mod_lt _ (by decide)
  rw [get_engineFault s e c (engineField_not_settleKey _ hi (by decide)) (engineField_not_fabricField hi (by decide)) (by simp),
    State.showFault, State.get_putSat_ne _ _ (by simp), State.get_put_same]
  exact Nat.mod_mod _ _

theorem engineFault_counts :
    (s.engineFault e c).get F.FB_FAULTS_COUNT = min (s.get F.FB_FAULTS_COUNT + 1) (2 ^ F.FB_FAULTS_COUNT.width - 1) := by
  rw [get_engineFault s e c (by decide) faultsCount_not_fabricField (by simp; omega), State.showFault,
    State.get_putSat_ne _ _ (by simp; omega), State.get_put_ne _ _ (by simp; omega), State.countFault, State.get_mk,
    State.get_raise _ _ _ _ (by decide), State.get_bump_same _ _ (by decide)]

end

/-- Engine e shown idle where it was shown busy. -/
def State.showIdle (s : State) (e : Nat) : State :=
  if s.get (F.YD_ENG_STATE (e / 8) (e % 8)) = 1 then s.put (F.YD_ENG_STATE (e / 8) (e % 8)) 0 else s

/-- A job whose shares have all ended without a fault leaves its index with its track. -/
def State.noteTrack (s : State) (tag : Nat) : State :=
  match s.job tag with
  | some j => if j.done ∧ !j.faulted then
      s.modTrack j.seg.section_ (j.seg.first / 1024) (fun t =>
        { t with next := some ((j.index + 1) % 2 ^ 32), epoch := j.epoch, halved := decide (j.shed ≥ 3), start := j.start })
    else s
  | none => s

/-- The share of engine e taken off it, and its end noted with its job. -/
def State.closeShare (s : State) (e : Nat) (r : ShareRun) (faulted : Bool) : State :=
  let x := s.eng e
  let s := ((((s.countBusy e r.start).dropFft e).setEng e x.leave).showIdle e)
  (s.modJob r.tag (fun j => { j with ended := j.ended + 1, faulted := j.faulted || faulted,
                                     outs := if faulted then j.outs else j.outs ++ [x.out] })).noteTrack r.tag

section
variable {s : State} {e : Nat} {r : ShareRun}

theorem endShare_normal (h : (s.eng e).run = some r) : s.endShare e none = (s.closeShare e r false).syncJobs := by
  simp only [State.endShare, h]
  rfl

theorem endShare_fault (h : (s.eng e).run = some r) (c : Nat) : s.endShare e (some c) = ((s.closeShare e r true).engineFault e c).syncJobs := by
  simp only [State.endShare, h]
  rfl

@[simp] theorem noteTrack_regs (s : State) (tag : Nat) : (s.noteTrack tag).regs = s.regs := by
  unfold State.noteTrack
  split
  · split <;> rfl
  · rfl

@[simp] theorem noteTrack_engines (s : State) (tag : Nat) : (s.noteTrack tag).fab.engines = s.fab.engines := by
  unfold State.noteTrack
  split
  · split <;> rfl
  · rfl

theorem showIdle_onlyChanges (s : State) (e : Nat) : OnlyChanges [F.YD_ENG_STATE (e / 8) (e % 8)] [] s (s.showIdle e) :=
  .ite (.put _ _ _ List.mem_cons_self) (.refl s)

theorem showIdle_regs {u : State} (h : u.regs = s.regs) : (u.showIdle e).regs = (s.showIdle e).regs := by
  unfold State.showIdle
  rw [State.get_congr h]
  split
  · simp only [State.put, h]
  · exact h

theorem closeShare_regs (b : Bool) : (s.closeShare e r b).regs = (s.showIdle e).regs := by
  rw [State.closeShare, noteTrack_regs]
  exact showIdle_regs (u := ((s.countBusy e r.start).dropFft e).setEng e (s.eng e).leave) rfl

theorem get_closeShare (b : Bool) (f : Fld) : (s.closeShare e r b).get f = (s.showIdle e).get f := State.get_congr (closeShare_regs b) f

theorem closeShare_eng (b : Bool) : (s.closeShare e r b).eng e = (s.eng e).leave := by
  rw [State.closeShare, State.eng, noteTrack_engines]
  show ((((s.countBusy e r.start).dropFft e).setEng e (s.eng e).leave).showIdle e).eng e = _
  rw [State.eng, (showIdle_onlyChanges _ e).2 .fab (by decide)]
  exact State.eng_setEng_same _ _ _

theorem syncJobs_eng (s : State) (e : Nat) : s.syncJobs.eng e = s.eng e := by rw [State.eng, syncJobs_engines, State.eng]

theorem engineFault_eng (s : State) (e c i : Nat) : (s.engineFault e c).eng i = s.eng i := by rw [State.eng, engineFault_engines, State.eng]

/-- The share that a fault ends leaves its engine, shows its fault and counts in FB_FAULTS (R179). -/
structure ShareFaulted (e c : Nat) (s u : State) : Prop where
  run : (u.eng e).run = none
  shown : u.get (F.YD_ENG_LAST_FAULT (e / 8) (e % 8)) = c % 8
  counted : u.get F.FB_FAULTS_COUNT = min (s.get F.FB_FAULTS_COUNT + 1) (2 ^ F.FB_FAULTS_COUNT.width - 1)

theorem endShare_faulted (h : (s.eng e).run = some r) (c : Nat) : ShareFaulted e c s (s.endShare e (some c)) := by
  have hi : e % 8 < 8 := Nat.mod_lt _ (by decide)
  rw [endShare_fault h]
  constructor
  · rw [syncJobs_eng, engineFault_eng, closeShare_eng]
    rfl
  · rw [(syncJobs_onlyChanges _).1 _ (engineField_not_settleKey _ hi (by decide)) (engineField_not_fabricField hi (by decide)),
      engineFault_lastFault]
  · rw [(syncJobs_onlyChanges _).1 _ (by decide) faultsCount_not_fabricField, engineFault_counts, get_closeShare,
      (showIdle_onlyChanges s e).1 _ (by decide) (by simp; omega)]

theorem ShareFaulted.answer {c : Nat} {u w : State} (h : ShareFaulted e c s u) (hw : w.get F.FB_FAULTS_COUNT = s.get F.FB_FAULTS_COUNT)
    (q : List Instr) : ShareFaulted e c w (u.answer q) := by
  have hi : e % 8 < 8 := Nat.mod_lt _ (by decide)
  exact ⟨by rw [State.eng_answer, h.run], by rw [State.get_answer _ _ (engineField_not_settleKey _ hi (by decide)), h.shown],
    by rw [State.get_answer _ _ (by decide), h.counted, hw]⟩

/-- A share that ends normally leaves its engine idle and counts no fault (R203). -/
theorem endShare_ends (h : (s.eng e).run = some r) : ((s.endShare e none).eng e).run = none ∧
    (s.endShare e none).get F.FB_FAULTS_COUNT = s.get F.FB_FAULTS_COUNT ∧
    (s.endShare e none).get (F.YD_ENG_STATE (e / 8) (e % 8)) =
      if s.get (F.YD_ENG_STATE (e / 8) (e % 8)) = 1 then 0 else s.get (F.YD_ENG_STATE (e / 8) (e % 8)) := by
  have hi : e % 8 < 8 := Nat.mod_lt _ (by decide)
  rw [endShare_normal h]
  refine ⟨?_, ?_, ?_⟩
  · rw [syncJobs_eng, closeShare_eng]
    rfl
  · rw [(syncJobs_onlyChanges _).1 _ (by decide) faultsCount_not_fabricField, get_closeShare,
      (showIdle_onlyChanges s e).1 _ (by decide) (by simp; omega)]
  · rw [(syncJobs_onlyChanges _).1 _ (engineField_not_settleKey _ hi (by decide)) (engineField_not_fabricField hi (by decide)), get_closeShare,
      State.showIdle]
    split
    · exact State.get_put_same _ _ _
    · rfl

end

/-! ## How an instruction of a ready engine ends -/

theorem run_eq (s : State) (f : State → State) : run s f = .next ((f s).answer s.pending) := by rw [run, runAt_eq, advance_self]

/-- Engine e out of its delay slot, as it stands while its instruction acts (R210). -/
abbrev State.unslot (s : State) (e : Nat) : State := s.modEng e (fun x => { x with slot := none })

theorem unslot_eng {s : State} {e : Nat} (hs : (s.eng e).slot = none) : (s.unslot e).eng e = s.eng e := by
  rw [State.eng_modEng_same, ← hs]

/-- The word after a repeat is the same in a delay slot. -/
theorem followerBarred_unslot (s : State) (e : Nat) : (s.unslot e).followerBarred e = s.followerBarred e := by
  unfold State.followerBarred
  rw [State.eng_modEng_same]
  rfl

theorem State.engineReady.runs {s : State} {e : Nat} (h : s.engineReady e) : ∃ r, (s.eng e).run = some r := by
  obtain ⟨-, -, r, -, -, hrun, -⟩ := h
  exact ⟨r, hrun⟩

theorem unslot_runs {s : State} {e : Nat} {r : ShareRun} (h : (s.eng e).run = some r) : ((s.unslot e).eng e).run = some r := by
  rw [State.eng_modEng_same, h]

section
variable {s : State} {e : Nat} {op : EOp} {ue : Bool} (h : s.engineReady e)
include h

/-- An instruction with a fault and no effect before it ends the share. -/
theorem engineStep_faulted {c : Nat} (hb : (s.eng e).slot = none ∨ opBarred op = false) (ho : ∀ z, openBit op z = (false, z))
    (he : opEffect (s.unslot e) e ue false op = .fault c (s.unslot e)) :
    ∃ u, run s (engineStep e op ue) = .next u ∧ ShareFaulted e c s u := by
  obtain ⟨r, hrun⟩ := h.runs
  refine ⟨_, run_eq _ _, ?_⟩
  rw [engineStep_ready h hb (ho _), he]
  exact (endShare_faulted (unslot_runs hrun) c).answer (w := s) rfl _

/-- An instruction barred from delay slots ends the share with fault 2 in one (R210). -/
theorem engineStep_barred (hs : (s.eng e).slot ≠ none) (hb : opBarred op = true) :
    ∃ u, run s (engineStep e op ue) = .next u ∧ ShareFaulted e 2 s u := by
  obtain ⟨-, hfetch, r, l, hd, hrun, hl, -, -, hwait, -⟩ := h
  obtain ⟨tag, idx, first, count, start, lay, hdr⟩ := r
  obtain rfl : lay = some l := hl
  refine ⟨_, run_eq _ _, ?_⟩
  have hstep : engineStep e op ue s = s.endShare e (some 2) := by
    simp [engineStep, hrun, hwait, hfetch, hb, Option.isSome_iff_ne_none.mpr hs]
  rw [hstep]
  exact (endShare_faulted hrun 2).answer rfl _

/-- An instruction outside a delay slot that only changes registers of its engine. -/
theorem engineStep_changes {f : Eng → Eng} (hs : (s.eng e).slot = none) (ho : ∀ z, openBit op z = (false, z))
    (he : opEffect (s.unslot e) e ue false op = regs (s.unslot e) e f) (hrun : ∀ x, (f x).run = x.run) (hpc : ∀ x, (f x).pc = x.pc) :
    ∃ u, run s (engineStep e op ue) = .next u ∧
      u.eng e = { (if opUncounted op then f (s.eng e) else (f (s.eng e)).tick) with pc := ((s.eng e).pc + 1) % 4096 } ∧ OnlyEngine e [] s u := by
  obtain ⟨r, hr⟩ := h.runs
  have hstep := engineStep_ok h (.inl hs) (ho _) (he.trans rfl) (by simp [hrun, hr])
  refine ⟨_, run_eq _ _, ?_, .answer ?_⟩
  · rw [State.eng_answer, hstep, State.advancePc, State.eng_modEng_same, State.eng_modEng_same, State.eng_modEng_same, unslot_eng hs, hs]
    have htick : (f (s.eng e)).tick.pc = (s.eng e).pc := hpc _
    cases opUncounted op <;> simp [pastSlot, hpc, htick]
  · rw [hstep]
    exact (((modEng_onlyEngine s e _ []).trans (modEng_onlyEngine _ e _ [])).trans (modEng_onlyEngine _ e _ [])).trans (modEng_onlyEngine _ e _ [])

/-- NOP passes, in a delay slot too (R220). -/
theorem engineStep_nop : ∃ u, run s (engineStep e .nop false) = .next u ∧ u.eng e = (s.eng e).passes ∧ OnlyEngine e [] s u := by
  obtain ⟨r, hr⟩ := h.runs
  have hstep := engineStep_ok h (op := .nop) (ue := false) (.inr rfl) rfl rfl (by simp [hr])
  refine ⟨_, run_eq _ _, ?_, .answer ?_⟩
  · rw [State.eng_answer, hstep, State.advancePc, State.eng_modEng_same, State.eng_modEng_same, State.eng_modEng_same]
    rfl
  · rw [hstep]
    exact ((modEng_onlyEngine s e _ []).trans (modEng_onlyEngine _ e _ [])).trans (modEng_onlyEngine _ e _ [])

/-- EXIT with neither a transform nor a transfer outstanding ends the share (R203). -/
theorem exitShare_ends (hs : (s.eng e).slot = none) (hfb : (s.eng e).fb = false) (hx : (s.eng e).xfer = none) :
    exitShare e s = (s.unslot e).endShare e none := by
  obtain ⟨r, hr⟩ := h.runs
  have heffect : opEffect (s.unslot e) e false false .exit = .ok ((s.unslot e).endShare e none) := by
    simp [opEffect, unslot_eng hs, hfb, hx]
  have hends := endShare_ends (unslot_runs hr)
  have hstep : engineStep e .exit false s = (s.unslot e).endShare e none := by
    rw [engineStep_ready h (.inl hs) rfl, heffect]
    simp [hends.1]
  obtain ⟨-, -, ⟨tag, idx, first, count, start, lay, hdr⟩, l, -, hrun, rfl, -⟩ := h
  rw [exitShare, hrun]
  exact hstep

end

/-! ## Fetching (R204, R206, R221) -/

section
variable {s : State} {e : Nat} {r : ShareRun} {l : ShareLayout} {h : ProgHeader}

theorem fetchOk_eq (hrun : (s.eng e).run = some r) (hl : r.layout = some l) (hh : r.hdr = some h) :
    (s.eng e).fetchOk = inWords (s.eng e).pc l.code h.codeWords := by
  obtain ⟨tag, idx, first, count, start, lay, hdr⟩ := r
  obtain rfl : lay = some l := hl
  obtain rfl : hdr = some h := hh
  rw [Eng.fetchOk, hrun]

/-- Outside the program the fetch is fault 1; within it, fault 4 for a word that stands uncorrectable, and else fault 2. -/
theorem fetchFault_codes (hrun : (s.eng e).run = some r) (hl : r.layout = some l) (hh : r.hdr = some h) {c : Nat}
    (hc : s.fetchFault e = some c) : (inWords (s.eng e).pc l.code h.codeWords = false → c = 1) ∧
      (inWords (s.eng e).pc l.code h.codeWords = true → c % 8 = 4 ∨ c = 2) := by
  rw [State.fetchFault, fetchOk_eq hrun hl hh] at hc
  refine ⟨fun hout => ?_, fun hin => ?_⟩
  · simpa [hout, eq_comm] using hc
  · rw [if_neg (by simp [hin])] at hc
    split at hc
    · left
      obtain rfl := Option.some.inj hc
      rfl
    · right
      split at hc
      · exact (Option.some.inj hc).symm
      · cases hc

/-- A fault of the fetch ends the share, whatever the instruction. -/
theorem engineStep_fetchFault (hrun : (s.eng e).run = some r) (hl : r.layout = some l) (hwait : (s.eng e).wait = none) {c : Nat}
    (hc : s.fetchFault e = some c) (op : EOp) (ue : Bool) : ∃ u, run s (engineStep e op ue) = .next u ∧ ShareFaulted e c s u := by
  obtain ⟨tag, idx, first, count, start, lay, hdr⟩ := r
  obtain rfl : lay = some l := hl
  refine ⟨_, run_eq _ _, ?_⟩
  have hstep : engineStep e op ue s = s.endShare e (some c) := by simp [engineStep, hrun, hwait, hc]
  rw [hstep]
  exact (endShare_faulted hrun c).answer rfl _

end

/-! ## A data register written, as the next instruction sees it (R209) -/

theorem Cell.read_settle_write (c : Cell) (ic : Nat) (v : Int) : ((c.write ic 1 1 v).settle (ic + 1)).read (ic + 1) false = v := by
  simp [Cell.settle, Cell.write, Cell.read]

theorem dv_tick_putD (x : Eng) (d : RegNo) (v : Nat) : (x.putD d 1 v).tick.dv d = v % 65536 := by
  simp only [Eng.dv, Eng.tick, Eng.putD, wrCell, kvGet_map_settle, kvGet_kvSet_same, Cell.read_settle_write]
  rfl

/-! ## Branches and repeats outside a delay slot (R210, R211) -/

section
variable {s : State} {e : Nat} (h : s.engineReady e) (hs : (s.eng e).slot = none)
include h hs

theorem br_branches (c : BitVec 4) (tg : BitVec 12) {b : Bool} (hc : condHolds (s.eng e).flg c.toNat = some b) :
    ∃ u, exec (.br e c tg) s = .next u ∧ u.eng e = { (s.eng e).passes with slot := some (if b then some tg.toNat else none) } ∧ OnlyEngine e [] s u := by
  have heffect : opEffect (s.unslot e) e false false (.br c tg) =
      regs (s.unslot e) e (fun x => { x with slot := some (if b then some tg.toNat else none) }) := by simp [opEffect, unslot_eng hs, hc]
  obtain ⟨u, hu, heng, honly⟩ := engineStep_changes h hs (fun _ => rfl) heffect (fun _ => rfl) (fun _ => rfl)
  refine ⟨u, hu, heng.trans ?_, honly⟩
  rw [Eng.passes, hs]
  rfl

theorem br_noCondition (tg : BitVec 12) : ∃ u, exec (.br e 15 tg) s = .next u ∧ ShareFaulted e 2 s u :=
  engineStep_faulted h (.inl hs) (fun _ => rfl) rfl

theorem call_branches (tg : BitVec 12) (hlen : (s.eng e).stack.length < 8) : ∃ u, exec (.call e tg) s = .next u ∧
    u.eng e = { (s.eng e).passes with slot := some (some tg.toNat), stack := ((s.eng e).pc + 2) % 4096 :: (s.eng e).stack } ∧
    OnlyEngine e [] s u := by
  have heffect : opEffect (s.unslot e) e false false (.call tg) =
      regs (s.unslot e) e (fun x => { x with stack := (x.pc + 2) % 4096 :: x.stack, slot := some (some tg.toNat) }) :=
    if_neg (by rw [unslot_eng hs]; omega)
  obtain ⟨u, hu, heng, honly⟩ := engineStep_changes h hs (fun _ => rfl) heffect (fun _ => rfl) (fun _ => rfl)
  refine ⟨u, hu, heng.trans ?_, honly⟩
  rw [Eng.passes, hs]
  rfl

theorem call_tooDeep (tg : BitVec 12) (hlen : (s.eng e).stack.length = 8) : ∃ u, exec (.call e tg) s = .next u ∧ ShareFaulted e 2 s u :=
  engineStep_faulted h (.inl hs) (fun _ => rfl) (if_pos (by rw [unslot_eng hs]; omega))

theorem ret_returns {a : Nat} {rest : List Nat} (hstack : (s.eng e).stack = a :: rest) : ∃ u, exec (.ret e) s = .next u ∧
    u.eng e = { (s.eng e).passes with slot := some (some a), stack := rest } ∧ OnlyEngine e [] s u := by
  have heffect : opEffect (s.unslot e) e false false .ret = regs (s.unslot e) e (fun x => { x with stack := rest, slot := some (some a) }) := by
    simp [opEffect, unslot_eng hs, hstack]
  obtain ⟨u, hu, heng, honly⟩ := engineStep_changes h hs (fun _ => rfl) heffect (fun _ => rfl) (fun _ => rfl)
  refine ⟨u, hu, heng.trans ?_, honly⟩
  rw [Eng.passes, hs]
  rfl

theorem ret_withoutCall (hstack : (s.eng e).stack = []) : ∃ u, exec (.ret e) s = .next u ∧ ShareFaulted e 2 s u :=
  engineStep_faulted h (.inl hs) (fun _ => rfl) (by simp [opEffect, unslot_eng hs, hstack])

theorem dbnz_counts (d : RegNo) (tg : BitVec 12) : ∃ u, exec (.dbnz e d tg) s = .next u ∧
    (u.eng e).dv d = ((s.eng e).dv d + 65535) % 65536 ∧
    (u.eng e).slot = some (if ((s.eng e).dv d + 65535) % 65536 ≠ 0 then some tg.toNat else none) ∧
    u.eng e = { (s.eng e).passes with d := (u.eng e).d, slot := (u.eng e).slot } ∧ OnlyEngine e [] s u := by
  obtain ⟨u, hu, heng, honly⟩ := engineStep_changes (op := .dbnz d tg) (ue := false) h hs (fun _ => rfl) rfl (fun _ => rfl) (fun _ => rfl)
  refine ⟨u, hu, ?_, ?_, ?_, honly⟩
  · have hread : (u.eng e).dv d = ((s.eng e).putD d 1 (((s.eng e).dv d + 65535) % 65536)).tick.dv d := by
      rw [heng]
      rfl
    rw [hread, dv_tick_putD, Nat.mod_mod]
  · rw [heng]
    rfl
  · rw [heng, Eng.passes, hs]
    rfl

theorem rpt_repeats (n : BitVec 13) (h0 : n.toNat ≠ 0) (hn : n.toNat ≤ 4096) (hf : s.followerBarred e = false) :
    ∃ u, exec (.rpt e n) s = .next u ∧
      u.eng e = { (s.eng e) with rep := some n.toNat, lc := n.toNat, pc := ((s.eng e).pc + 1) % 4096 } ∧ OnlyEngine e [] s u := by
  have heffect : opEffect (s.unslot e) e false false (.rpt n) =
      regs (s.unslot e) e (fun y => { y with rep := some n.toNat, lc := n.toNat }) := by
    simp [opEffect, followerBarred_unslot, hf, h0, hn]
  exact engineStep_changes h hs (fun _ => rfl) heffect (fun _ => rfl) (fun _ => rfl)

theorem rpt_outOfRange (n : BitVec 13) (hn : n.toNat = 0 ∨ 4096 < n.toNat ∨ s.followerBarred e = true) :
    ∃ u, exec (.rpt e n) s = .next u ∧ ShareFaulted e 2 s u :=
  engineStep_faulted h (.inl hs) (fun _ => rfl) (if_pos (by rwa [followerBarred_unslot]))

theorem rptd_repeats (x : RegNo) (hn : (s.eng e).dv x ≤ 4096) (hf : s.followerBarred e = false) :
    ∃ u, exec (.rptd e x) s = .next u ∧
      u.eng e = { (s.eng e) with rep := some ((s.eng e).dv x), lc := (s.eng e).dv x, pc := ((s.eng e).pc + 1) % 4096 } ∧
      OnlyEngine e [] s u := by
  have heffect : opEffect (s.unslot e) e false false (.rptd x) =
      regs (s.unslot e) e (fun y => { y with rep := some ((s.eng e).dv x), lc := (s.eng e).dv x }) := by
    simp [opEffect, followerBarred_unslot, hf, unslot_eng hs, hn]
  exact engineStep_changes h hs (fun _ => rfl) heffect (fun _ => rfl) (fun _ => rfl)

theorem exit_ends (t : Nat) (hfb : (s.eng e).fb = false) (hx : (s.eng e).xfer = none) : ∃ u, exec (.exit t e) s = .next u ∧
    (u.eng e).run = none ∧ u.get F.FB_FAULTS_COUNT = s.get F.FB_FAULTS_COUNT ∧
    u.get (F.YD_ENG_STATE (e / 8) (e % 8)) =
      if s.get (F.YD_ENG_STATE (e / 8) (e % 8)) = 1 then 0 else s.get (F.YD_ENG_STATE (e / 8) (e % 8)) := by
  obtain ⟨r, hr⟩ := h.runs
  have hready : (s.advance t).engineReady e := h
  obtain ⟨hrun, hcount, hstate⟩ := endShare_ends (unslot_runs (s := s.advance t) hr)
  refine ⟨_, rfl, ?_, ?_, ?_⟩ <;> rw [exitShare_ends hready hs hfb hx]
  · rw [State.eng_answer, hrun]
  · rw [State.get_answer _ _ (by decide), hcount]
    rfl
  · rw [State.get_answer _ _ (engineField_not_settleKey _ (Nat.mod_lt _ (by decide)) (by decide)), hstate]
    rfl

end

/-- Of a share that a fault has ended, what most clauses about faults say. -/
theorem faulted_shows {s : State} {e c : Nat} {o : Outcome} (h : ∃ u, o = .next u ∧ ShareFaulted e c s u) :
    ∃ u, o = .next u ∧ (u.eng e).run = none ∧ u.get (F.YD_ENG_LAST_FAULT (e / 8) (e % 8)) = c % 8 := by
  obtain ⟨u, hu, hf⟩ := h
  exact ⟨u, hu, hf.run, hf.shown⟩

/-- A load in a mode that there is not, or with an offset where its mode has none, ends the share (R207, R221). -/
theorem ld_noMode {s : State} {e : Nat} (h : s.engineReady e) (d x : RegNo) {mode : BitVec 3} {off : BitVec 12}
    (hm : 5 ≤ mode.toNat ∨ (mode.toNat ≤ 3 ∧ off ≠ 0)) : ∃ u, exec (.ld e d x mode off false) s = .next u ∧ ShareFaulted e 2 s u := by
  have hea : ((s.unslot e).eng e).ea x mode.toNat off.toNat = none := by
    rcases hm with hm | ⟨hm, hoff⟩
    · simp [Eng.ea, show ¬ mode.toNat ≤ 3 by omega, show mode.toNat ≠ 4 by omega]
    · have hoff : off.toNat ≠ 0 := fun h0 => hoff (BitVec.eq_of_toNat_eq h0)
      simp [Eng.ea, hm, hoff]
  exact engineStep_faulted h (.inr rfl) (fun _ => rfl) (by simp only [opEffect, loadD, hea])

end Sys2Proof.Machine

section
open Sys2Proof Sys2Proof.Machine

/-- Settles O27: outside a delay slot each branch, repeat and EXIT is a fact of its own, and every fault ends the share in the same way. -/
theorem engineControlFlow : Obligations.EngineControlFlow := by
  unfold Obligations.EngineControlFlow
  intro s e h d x c tg n
  refine ⟨?nop, fun hs => ⟨?br, ?call, ?ret, ?dbnz, ?rpt, ?rptd, ?exit, ?noCondition, ?tooDeep, ?withoutCall, ?outOfRange⟩, ?barred, ?noMode, ?fetch⟩
  case nop => exact engineStep_nop h
  case br => exact fun _ hc => br_branches h hs c tg hc
  case call => exact fun hlen => call_branches h hs tg hlen
  case ret => exact fun _ _ hstack => ret_returns h hs hstack
  case dbnz => exact dbnz_counts h hs d tg
  case rpt => exact fun h0 hn hf => rpt_repeats h hs n h0 hn hf
  case rptd => exact fun hn hf => rptd_repeats h hs x hn hf
  case exit => exact fun t hfb hx => exit_ends h hs t hfb hx
  case noCondition =>
    rintro rfl
    exact faulted_shows (br_noCondition h hs tg)
  case tooDeep => exact fun hlen => faulted_shows (call_tooDeep h hs tg hlen)
  case withoutCall => exact fun hstack => faulted_shows (ret_withoutCall h hs hstack)
  case outOfRange => exact fun hn => faulted_shows (rpt_outOfRange h hs n hn)
  case barred =>
    intro hs
    obtain ⟨u, hu, hf⟩ := engineStep_barred (op := .br c tg) (ue := false) h hs rfl
    exact ⟨u, hu, hf.run, hf.shown, hf.counted⟩
  case noMode => exact fun mode off hm => faulted_shows (ld_noMode h d x hm)
  case fetch =>
    intro z r l hd c hrun hl hh hc hwait
    obtain ⟨hout, hin⟩ := fetchFault_codes hrun hl hh hc
    exact ⟨hout, hin, faulted_shows (engineStep_fetchFault hrun hl hwait hc .nop false)⟩

end

/-!
An instruction of a ready engine that passes: what the engine holds afterwards and what readers see there (R199, R209, R210), and the 16-bit,
accumulator, address and status instructions (R200, R207, R208, R220).
-/

namespace Sys2Proof.Machine

/-! ## Registers once the instruction is counted (R209) -/

/-- The engine outside its delay slot, as its instruction finds it. -/
abbrev Eng.unslotted (x : Eng) : Eng := { x with slot := none }

/-- The engine with its instruction counted and the program counter moved on, by way of the delay slot it stood in (R209, R210). -/
def Eng.counted (x : Eng) (slot : Option (Option Nat)) : Eng := { x.tick with pc := pastSlot slot x.pc }

theorem Eng.passes_eq (x : Eng) : x.passes = x.unslotted.counted x.slot := rfl

section
variable (x : Eng) (slot : Option (Option Nat))

@[simp] theorem counted_ic : (x.counted slot).ic = x.ic + 1 := rfl
@[simp] theorem counted_flg : (x.counted slot).flg = x.flg := rfl
@[simp] theorem counted_aca : (x.counted slot).aca = x.aca.settle (x.ic + 1) := rfl
@[simp] theorem counted_acb : (x.counted slot).acb = x.acb.settle (x.ic + 1) := rfl

@[simp] theorem kvGet_counted_d (k : Nat) : kvGet {} (x.counted slot).d k = (kvGet {} x.d k).settle (x.ic + 1) := kvGet_map_settle _ _ _
@[simp] theorem kvGet_counted_a (k : Nat) : kvGet {} (x.counted slot).a k = (kvGet {} x.a k).settle (x.ic + 1) := kvGet_map_settle _ _ _
@[simp] theorem kvGet_counted_m (k : Nat) : kvGet {} (x.counted slot).m k = (kvGet {} x.m k).settle (x.ic + 1) := kvGet_map_settle _ _ _

end

/-- A register's cell after a write to it, and to another register. -/
@[simp] theorem kvGet_wrCell_same (m : List (Nat × Cell)) (r ic d1 d2 : Nat) (v : Int) :
    kvGet {} (wrCell m r ic d1 d2 v) r = (kvGet {} m r).write ic d1 d2 v := kvGet_kvSet_same _ _ _ _

theorem kvGet_wrCell_ne (m : List (Nat × Cell)) {r k : Nat} (ic d1 d2 : Nat) (v : Int) (h : k ≠ r) :
    kvGet {} (wrCell m r ic d1 d2 v) k = kvGet {} m k := kvGet_kvSet_ne _ _ _ _ h

/-- Settling leaves a write of the last three instructions in the log. -/
theorem settle_write (c : Cell) {ic n : Nat} (d1 d2 : Nat) (v : Int) (h : n < ic + 4) :
    (c.write ic d1 d2 v).settle n = (c.settle n).write ic d1 d2 v := by
  simp [Cell.settle, Cell.write, show ¬ ic + 4 ≤ n by omega, h]

/-- A recent write as a reader `k` instructions later sees it. -/
theorem read_write_after (c : Cell) {ic n d1 d2 : Nat} (v : Int) {second : Bool} (h : ic + (if second then d2 else d1) ≤ n) :
    (c.write ic d1 d2 v).read n second = v := by
  simp [Cell.read, Cell.write, h]

theorem regNo_toNat_ne {r z : RegNo} (h : z ≠ r) : z.toNat ≠ r.toNat := fun e => h (BitVec.eq_of_toNat_eq e)

/-! ## An instruction that passes -/

/-- An instruction that may stand in a delay slot, is counted, and draws no free value. -/
structure PlainOp (op : EOp) : Prop where
  allowed : opBarred op = false
  counted : opUncounted op = false
  closed : ∀ z, openBit op z = (false, z)

/-- The answer to an instruction of engine e that has brought about `z`. -/
def State.passed (s : State) (e : Nat) (z : State) : State :=
  ((z.modEng e Eng.tick).advancePc e (s.eng e).slot).answer s.pending

section
variable (s : State) (e : Nat) (z : State)

@[simp] theorem passed_eng : (s.passed e z).eng e = (z.eng e).counted (s.eng e).slot := by
  rw [State.passed, State.eng_answer, State.advancePc, State.eng_modEng_same, State.eng_modEng_same]
  rfl

theorem passed_fab : (s.passed e z).fab = { z.fab with engines := (s.passed e z).fab.engines } := by
  rw [State.passed, State.answer_fab]
  rfl

@[simp] theorem passed_mem : (s.passed e z).mem = z.mem := by
  rw [State.passed, State.answer_mem]
  rfl

end

section
variable {s z : State} {e : Nat} {ps : List Part}

theorem OnlyEngine.passed (h : OnlyEngine e ps s z) : OnlyEngine e ps s (s.passed e z) :=
  ((h.trans (modEng_onlyEngine _ e _ ps)).trans (modEng_onlyEngine _ e _ ps)).answer

theorem OnlyChanges.passed {fs : List Fld} (hfab : Part.fab ∈ ps) (h : OnlyChanges fs ps s z) : OnlyChanges fs ps s (s.passed e z) :=
  .answer (t := s.now) (by
    rw [advance_self]
    exact h.trans (.trans (.fab _ _ hfab) (.fab _ _ hfab)))

end

section
variable {s : State} {e : Nat} {op : EOp} {ue : Bool} (h : s.engineReady e)
include h

/-- An instruction whose effect `z` leaves the share running is counted and passes. -/
theorem engineStep_passes {o : Bool} {s1 z : State} (hb : opBarred op = false) (hc : opUncounted op = false)
    (ho : openBit op (s.unslot e) = (o, s1)) (he : opEffect s1 e ue o op = .ok z) (hr : (z.eng e).run = (s.eng e).run) :
    run s (engineStep e op ue) = .next (s.passed e z) := by
  obtain ⟨r, hrun⟩ := h.runs
  rw [run_eq, engineStep_ok h (.inr hb) ho he (by rw [hr, hrun]; rfl), hc]
  rfl

theorem engineStep_plain {z : State} (hp : PlainOp op) (he : opEffect (s.unslot e) e ue false op = .ok z)
    (hr : (z.eng e).run = (s.eng e).run) : run s (engineStep e op ue) = .next (s.passed e z) :=
  engineStep_passes h hp.allowed hp.counted (hp.closed _) he hr

/-- An instruction that brings its own engine to `y` and changes nothing else. -/
theorem engineStep_sets {f : Eng → Eng} {y : Eng} (hp : PlainOp op) (he : opEffect (s.unslot e) e ue false op = regs (s.unslot e) e f)
    (hy : f (s.eng e).unslotted = y) (hr : y.run = (s.eng e).run) :
    ∃ u, run s (engineStep e op ue) = .next u ∧ u.eng e = y.counted (s.eng e).slot ∧ OnlyEngine e [] s u := by
  have heng : ((s.unslot e).modEng e f).eng e = y := by rw [State.eng_modEng_same, State.eng_modEng_same, hy]
  refine ⟨_, engineStep_plain h hp he (by rw [heng, hr]), by rw [passed_eng, heng], ?_⟩
  exact ((modEng_onlyEngine s e _ []).trans (modEng_onlyEngine _ e _ [])).passed

end

/-! ## Results in a data register, an accumulator and an address register (R209) -/

section
variable {s u : State} {e : Nat} {ps : List Part}

theorem writesD_of_eng {d : RegNo} {v w flg : Nat} (hw : v % 65536 = w)
    (heng : u.eng e = ({ (s.eng e).unslotted.putD d 1 v with flg := flg } : Eng).counted (s.eng e).slot) (honly : OnlyEngine e ps s u) :
    WritesD e ps d w flg s u := by
  subst hw
  refine ⟨?_, fun r hr => ?_, ?_, honly⟩ <;> rw [heng]
  · simp [Eng.dv, Eng.putD, settle_write, read_write_after]
    rfl
  · simp [Eng.dv, Eng.putD, kvGet_wrCell_ne _ _ _ _ _ (regNo_toNat_ne hr), Eng.passes_eq]
  · rfl

theorem writesA_of_eng {r : RegNo} {v : Nat} (heng : u.eng e = ((s.eng e).unslotted.putA r v).counted (s.eng e).slot)
    (honly : OnlyEngine e [] s u) : WritesA e r (v % 2 ^ 18) s u := by
  refine ⟨?_, ?_, fun z hz => ?_, ?_, honly⟩ <;> rw [heng]
  · simp [Eng.aval, Eng.putA, settle_write, read_write_after]
    rfl
  · simp [Eng.addr, Eng.putA, settle_write, read_write_after, Eng.passes_eq]
    rfl
  · simp [Eng.aval, Eng.addr, Eng.putA, kvGet_wrCell_ne _ _ _ _ _ (regNo_toNat_ne hz), Eng.passes_eq]
  · rfl

theorem writesAcc_of_eng {b : Bool} {v : Int} {flg : Nat}
    (heng : u.eng e = ({ (s.eng e).unslotted.putAcc b v with flg := flg } : Eng).counted (s.eng e).slot) (honly : OnlyEngine e [] s u) :
    WritesAcc e b v flg s u := by
  refine ⟨?_, ?_, ?_, honly⟩ <;> rw [heng]
  · cases b <;> simp [Eng.acc, Eng.putAcc, settle_write, read_write_after]
  · cases b <;> simp [Eng.acc, Eng.putAcc, settle_write, read_write_after, Eng.passes_eq]
  · cases b <;> rfl

end

section
variable {s : State} {e : Nat} {op : EOp} {ue : Bool} (h : s.engineReady e)
include h

/-- An instruction that writes `v` to Dd for the next instruction and leaves FLG at `flg`. -/
theorem engineStep_writesD {f : Eng → Eng} {d : RegNo} {v w flg : Nat} (he : opEffect (s.unslot e) e ue false op = regs (s.unslot e) e f)
    (hf : f (s.eng e).unslotted = { (s.eng e).unslotted.putD d 1 v with flg := flg }) (hw : v % 65536 = w)
    (hp : PlainOp op := by exact ⟨rfl, rfl, fun _ => rfl⟩) :
    ∃ u, run s (engineStep e op ue) = .next u ∧ WritesD e [] d w flg s u := by
  obtain ⟨u, hu, heng, honly⟩ := engineStep_sets h hp he hf rfl
  exact ⟨u, hu, writesD_of_eng hw heng honly⟩

theorem engineStep_writesA {f : Eng → Eng} {r : RegNo} {v w : Nat} (he : opEffect (s.unslot e) e ue false op = regs (s.unslot e) e f)
    (hf : f (s.eng e).unslotted = (s.eng e).unslotted.putA r v) (hw : v % 2 ^ 18 = w)
    (hp : PlainOp op := by exact ⟨rfl, rfl, fun _ => rfl⟩) :
    ∃ u, run s (engineStep e op ue) = .next u ∧ WritesA e r w s u := by
  subst hw
  obtain ⟨u, hu, heng, honly⟩ := engineStep_sets h hp he hf rfl
  exact ⟨u, hu, writesA_of_eng heng honly⟩

theorem engineStep_writesAcc {f : Eng → Eng} {b : Bool} {v : Int} {flg : Nat} (he : opEffect (s.unslot e) e ue false op = regs (s.unslot e) e f)
    (hf : f (s.eng e).unslotted = { (s.eng e).unslotted.putAcc b v with flg := flg })
    (hp : PlainOp op := by exact ⟨rfl, rfl, fun _ => rfl⟩) :
    ∃ u, run s (engineStep e op ue) = .next u ∧ WritesAcc e b v flg s u := by
  obtain ⟨u, hu, heng, honly⟩ := engineStep_sets h hp he hf (by cases b <;> rfl)
  exact ⟨u, hu, writesAcc_of_eng heng honly⟩

/-- An instruction that sets FLG alone. -/
theorem engineStep_setsFlg {f : Eng → Eng} {flg : Nat} (he : opEffect (s.unslot e) e ue false op = regs (s.unslot e) e f)
    (hf : f (s.eng e).unslotted = { (s.eng e).unslotted with flg := flg })
    (hp : PlainOp op := by exact ⟨rfl, rfl, fun _ => rfl⟩) :
    ∃ u, run s (engineStep e op ue) = .next u ∧ u.eng e = { (s.eng e).passes with flg := flg } ∧ OnlyEngine e [] s u :=
  engineStep_sets h hp he hf rfl

end

/-! ## The 16-bit instructions (R200, R220) -/

theorem pat16_mod (v : Int) : pat16 v % 65536 = pat16 v := by
  unfold pat16
  omega

theorem signed16_range (v : Nat) : -32768 ≤ signed16 v ∧ signed16 v ≤ 32767 := by
  simp only [signed16]
  split <;> omega

/-- A value that is not below the range of 16 bits is limited from above only. -/
theorem sat16_eq_min {v : Int} (h : -32768 ≤ v) : sat16 v = min 32767 v := by
  simp only [sat16, satBits, clampI]
  norm_num
  split <;> omega

section
variable {s : State} {e : Nat} (h : s.engineReady e)
include h

/-- A shift draws what C takes after a shift by 0, and else writes its result and flags. -/
theorem engineStep_shifts {op : EOp} {d x : RegNo} {kind n w : Nat} (hb : opBarred op = false) (hc : opUncounted op = false)
    (ho : ∀ z, openBit op z = ((z.free 1).1 == 1, (z.free 1).2))
    (he : ∀ z o, opEffect z e false o op = regs z e (fun y => y.alu d (alu16Shift kind (y.dv x) n o)))
    (hw : ∀ o, (alu16Shift kind ((s.eng e).dv x) n o).1 % 65536 = w) :
    ∃ u o, run s (engineStep e op false) = .next u ∧
      WritesD e [.freeCtr] d w ((alu16Shift kind ((s.eng e).dv x) n o).2.apply (s.eng e).flg) s u := by
  have heng : ((s.unslot e).free 1).2.eng e = (s.eng e).unslotted := by
    rw [State.eng, State.free_fab]
    exact State.eng_modEng_same s e _
  have honly : OnlyEngine e [.freeCtr] (s.unslot e) ((s.unslot e).free 1).2 := ⟨.freeCtr _ _ (by decide), rfl, fun _ _ => rfl⟩
  refine ⟨_, ((s.unslot e).free 1).1 == 1, engineStep_passes h hb hc (ho _) (he _ _) ?_,
    writesD_of_eng (hw (((s.unslot e).free 1).1 == 1)) ?_ (.passed ?_)⟩
  · rw [State.eng_modEng_same, heng]
    rfl
  · rw [passed_eng, State.eng_modEng_same, heng]
    rfl
  · exact ((modEng_onlyEngine s e _ _).trans honly).trans (modEng_onlyEngine _ e _ _)

end

end Sys2Proof.Machine

section
open Sys2Proof Sys2Proof.Machine

/-- Settles O25: each instruction sets its own engine's registers alone, and the shifts draw a free value besides. -/
theorem engineArithmetic : Obligations.EngineArithmetic := by
  unfold Obligations.EngineArithmetic
  rintro s e h d x y i n a b f rfl rfl rfl
  refine ⟨?add, ?sub, ?adds, ?subs, ?and, ?or, ?xor, fun m hm => ?min, fun m hm => ?max, ?cmp, ?mov, ?abs, ?neg, ?ldi, ?addi, ?cmpi, ?shl, ?shr,
    ?asr, ?shls⟩
  case add => exact engineStep_writesD h rfl rfl (Nat.mod_mod _ _)
  case sub => exact engineStep_writesD h rfl rfl (Nat.mod_mod _ _)
  case adds => exact engineStep_writesD h rfl rfl (pat16_mod _)
  case subs => exact engineStep_writesD h rfl rfl (pat16_mod _)
  case and => exact engineStep_writesD h rfl rfl rfl
  case or => exact engineStep_writesD h rfl rfl rfl
  case xor => exact engineStep_writesD h rfl rfl rfl
  case min => subst hm; exact engineStep_writesD h rfl rfl rfl
  case max => subst hm; exact engineStep_writesD h rfl rfl rfl
  case cmp => exact engineStep_setsFlg h rfl rfl
  case mov => exact engineStep_writesD h rfl rfl rfl
  case abs => exact engineStep_writesD h rfl rfl (by rw [← sat16_eq_min (by omega)]; exact pat16_mod _)
  case neg =>
    have hrange := signed16_range ((s.eng e).dv x)
    exact engineStep_writesD h rfl rfl (by rw [← sat16_eq_min (by omega)]; exact pat16_mod _)
  case ldi => exact engineStep_writesD h rfl rfl (Nat.mod_eq_of_lt i.isLt)
  case addi => exact engineStep_writesD h rfl rfl (Nat.mod_mod _ _)
  case cmpi => exact engineStep_setsFlg h rfl rfl
  case shl => exact engineStep_shifts h rfl rfl (fun _ => rfl) (fun _ _ => rfl) (fun _ => Nat.mod_mod _ _)
  case shr => exact engineStep_shifts h rfl rfl (fun _ => rfl) (fun _ _ => rfl) (fun _ => rfl)
  case asr => exact engineStep_shifts h rfl rfl (fun _ => rfl) (fun _ _ => rfl) (fun _ => pat16_mod _)
  case shls => exact engineStep_writesD h rfl rfl (pat16_mod _)

end

namespace Sys2Proof.Machine

/-! ## Flags and modifiers (R200, R208) -/

/-- A bit that is set taken away leaves the bits above it. -/
theorem sub_two_pow_div {n b : Nat} (h : n.testBit b = true) : (n - 2 ^ b) / 2 ^ (b + 1) = n / 2 ^ (b + 1) := by
  have hodd : n / 2 ^ b % 2 = 1 := by simpa [Nat.testBit_eq_decide_div_mod_eq] using h
  have hdiv := Nat.div_eq_sub_div (Nat.two_pow_pos b) (Nat.ge_two_pow_of_testBit h)
  rw [pow_succ, ← Nat.div_div_eq_div_mul, ← Nat.div_div_eq_div_mul]
  omega

theorem testBit_sub_two_pow {n b : Nat} (h : n.testBit b = true) (j : Nat) : (n - 2 ^ b).testBit j = (decide (j ≠ b) && n.testBit j) := by
  have hle := Nat.ge_two_pow_of_testBit h
  have hn : n = 2 ^ b + (n - 2 ^ b) := by omega
  rcases Nat.lt_trichotomy j b with hj | rfl | hj
  · rw [hn, Nat.testBit_two_pow_add_gt hj, ← hn]
    simp [Nat.ne_of_lt hj]
  · rw [hn, Nat.testBit_two_pow_add_eq] at h
    simpa using h
  · obtain ⟨k, rfl⟩ := Nat.exists_eq_add_of_le hj
    have hk := congrArg (Nat.testBit · k) (sub_two_pow_div h)
    simp only [Nat.testBit_div_two_pow] at hk
    rw [Nat.add_comm, hk]
    simp
    omega

/-- Setting a flag gives its bit and leaves every other. -/
theorem testBit_setFlag (flg b j : Nat) (v : Bool) : (setFlag flg b v).testBit j = if j = b then v else flg.testBit j := by
  unfold setFlag
  cases v with
  | true =>
    rw [if_pos rfl, Nat.testBit_or]
    by_cases hj : j = b
    · simp [hj]
    · simp [hj, Nat.testBit_two_pow_of_ne (Ne.symm hj)]
  | false =>
    rw [if_neg Bool.false_ne_true]
    by_cases hset : flg.testBit b = true
    · rw [if_pos hset, testBit_sub_two_pow hset]
      by_cases hj : j = b <;> simp [hj]
    · rw [if_neg hset]
      by_cases hj : j = b <;> simp [hj, hset]

theorem testBit_setQuality (flg q j : Nat) :
    (setQuality flg q).testBit j = if 8 ≤ j ∧ j < 11 then q.testBit (j - 8) else flg.testBit j := by
  simp only [setQuality, testBit_setFlag, flgQF, flgQB, flgQS]
  by_cases hj : 8 ≤ j ∧ j < 11
  · obtain ⟨h8, h11⟩ := hj
    interval_cases j <;> simp
  · simp [hj, show j ≠ 8 by omega, show j ≠ 9 by omega, show j ≠ 10 by omega]

theorem aluRmsq_lt (v : Int) (t : Nat) : (aluRmsq v t).1 < 65536 := by
  simp only [aluRmsq]
  split <;> omega

section
variable {s : State} {e : Nat} {op : EOp} {ue : Bool} (h : s.engineReady e)
include h

/-- A modifier written is seen by the second following instruction (R209). -/
theorem engineStep_writesM {f : Eng → Eng} {k v : Nat} (he : opEffect (s.unslot e) e ue false op = regs (s.unslot e) e f)
    (hf : f (s.eng e).unslotted = (s.eng e).unslotted.putM k v) (hp : PlainOp op := by exact ⟨rfl, rfl, fun _ => rfl⟩) :
    ∃ u, run s (engineStep e op ue) = .next u ∧ (u.eng e).passes.mv k = v % 2 ^ 29 ∧
      u.eng e = { (s.eng e).passes with m := (u.eng e).m } ∧ OnlyEngine e [] s u := by
  obtain ⟨u, hu, heng, honly⟩ := engineStep_sets h hp he hf rfl
  refine ⟨u, hu, ?_, ?_, honly⟩ <;> rw [heng]
  · simp [Eng.mv, Eng.putM, settle_write, read_write_after, Eng.passes_eq]
    rfl
  · rfl

end

end Sys2Proof.Machine

section
open Sys2Proof Sys2Proof.Machine

/-- Settles O26: each instruction sets its own engine's registers alone; those whose operand may be out of range have it in range here. -/
theorem engineAccumulators : Obligations.EngineAccumulators := by
  unfold Obligations.EngineAccumulators
  rintro s e h d x r b sh k a f v rfl rfl rfl
  refine ⟨fun hsh => ?acld, fun w hw => ?acsh, fun w hw => ?acadd, fun hsh => ?rnd, fun hsh => ?acx, ?rmsq, ?log2, fun i => ?mova, ?adda, ?movda,
    fun i => ?movmo, fun i h1 h4096 => ?movmm, ?lc, ?flg, ?movtf, fun q => ?setq⟩
  case acld => exact engineStep_writesAcc h (if_neg (by omega)) (by cases b <;> rfl)
  case acsh =>
    subst hw
    exact engineStep_writesAcc h rfl rfl
  case acadd =>
    subst hw
    exact engineStep_writesAcc h rfl rfl
  case rnd => exact engineStep_writesD h (if_neg (by omega)) rfl (pat16_mod _)
  case acx =>
    refine engineStep_writesD h (if_neg (by omega)) rfl ?_
    have hfield : sh.toNat = 0 ∨ sh.toNat = 1 ∨ sh.toNat = 2 := by omega
    rcases hfield with hk | hk | hk <;> simp [hk, pat16_mod] <;> rfl
  case rmsq => exact engineStep_writesD h rfl rfl (Nat.mod_eq_of_lt (aluRmsq_lt _ _))
  case log2 => exact engineStep_writesD h rfl rfl rfl
  case mova => exact engineStep_writesA h rfl rfl (Nat.mod_eq_of_lt i.isLt)
  case adda => exact engineStep_writesA h rfl rfl rfl
  case movda => exact engineStep_writesD h rfl rfl rfl
  case movmo => exact engineStep_writesM h rfl rfl
  case movmm => exact engineStep_writesM h (if_neg (by omega)) rfl
  case lc => exact engineStep_writesD h rfl rfl rfl
  case flg => exact engineStep_writesD h rfl rfl rfl
  case movtf => exact engineStep_setsFlg h rfl rfl
  case setq =>
    obtain ⟨u, hu, heng, honly⟩ := engineStep_setsFlg h (op := .setq q) (ue := false) rfl rfl
    have hflg : (u.eng e).flg = setQuality (s.eng e).flg q.toNat := by rw [heng]
    refine ⟨u, hu, fun j hj => ?_, fun j hj => ?_, by rw [hflg]; exact heng, honly⟩ <;> rw [hflg, testBit_setQuality]
    · rw [if_pos (by omega), Nat.add_sub_cancel_left]
      rfl
    · rw [if_neg (by omega)]

end

/-!
Loads and stores of an engine (R204-R207, R209, R319).
-/

namespace Sys2Proof.Machine

/-! ## Post-modification (R207, R208) -/

/-- Where post-modification by kind takes Ar, if it moves it: +1, −1 or +OFS under the MOD of its pair. -/
def Eng.stepTo (x : Eng) (r : RegNo) (kind : Nat) : Option Nat :=
  let m := x.mv (r.toNat % 4)
  match kind with
  | 1 => some (advance (x.addr r) (m / 65536) 1)
  | 2 => some (advance (x.addr r) (m / 65536) (-1))
  | 3 => some (advance (x.addr r) (m / 65536) (signed16 m))
  | _ => none

/-- The cell of Ar after post-modification by kind. -/
def Eng.stepCell (x : Eng) (r : RegNo) (kind : Nat) : Cell :=
  (x.stepTo r kind).elim (kvGet {} x.a r.toNat) (fun v => (kvGet {} x.a r.toNat).write x.ic 1 1 (v % 2 ^ 18 : Nat))

section
variable (x : Eng) (r : RegNo) (kind : Nat)

theorem postMod_eq : x.postMod r kind = (x.stepTo r kind).elim x (x.modA r) := by
  match kind with
  | 0 | 1 | 2 | 3 | _ + 4 => rfl

theorem stepped_eq : x.stepped r kind = (x.stepTo r kind).elim (x.passes.addr r) (· % 2 ^ 18) := by
  match kind with
  | 0 | 1 | 2 | 3 | _ + 4 => rfl

/-- The delay slot and the scratch words written play no part in it. -/
theorem stepped_unslotted (w : List (Nat × Bool)) : { x.unslotted with written := w }.stepped r kind = x.stepped r kind := by
  match kind with
  | 0 | 1 | 2 | 3 | _ + 4 => rfl

theorem postMod_eq_a : x.postMod r kind = { x with a := (x.postMod r kind).a } := by
  rw [postMod_eq]
  cases x.stepTo r kind <;> rfl

theorem kvGet_postMod_same : kvGet {} (x.postMod r kind).a r.toNat = x.stepCell r kind := by
  rw [postMod_eq, Eng.stepCell]
  cases x.stepTo r kind
  · rfl
  · exact kvGet_wrCell_same _ _ _ _ _ _

theorem kvGet_postMod_ne {z : RegNo} (hz : z ≠ r) : kvGet {} (x.postMod r kind).a z.toNat = kvGet {} x.a z.toNat := by
  rw [postMod_eq]
  cases x.stepTo r kind
  · rfl
  · exact kvGet_wrCell_ne _ _ _ _ _ (regNo_toNat_ne hz)

end

/-- What Ar holds for the next instruction when its cell is the one that post-modification leaves. -/
theorem addr_counted_stepCell {x y : Eng} {r : RegNo} {kind : Nat} (hic : y.ic = x.ic) (hcell : kvGet {} y.a r.toNat = x.stepCell r kind)
    (slot : Option (Option Nat)) : (y.counted slot).addr r = x.stepped r kind := by
  rw [Eng.addr, kvGet_counted_a, hcell, stepped_eq, Eng.stepCell, counted_ic, hic]
  cases x.stepTo r kind with
  | none => simp [Eng.addr, Eng.passes_eq]
  | some v =>
    simp [settle_write, read_write_after]
    rfl

/-- A register whose cell the instruction leaves reads as after any that passes. -/
theorem dv_counted_congr {x y : Eng} {z : RegNo} (hic : y.ic = x.ic) (hcell : kvGet {} y.d z.toNat = kvGet {} x.d z.toNat)
    (slot : Option (Option Nat)) : (y.counted slot).dv z = x.passes.dv z := by
  simp [Eng.dv, Eng.passes_eq, hic, hcell]

theorem addr_counted_congr {x y : Eng} {z : RegNo} (hic : y.ic = x.ic) (hcell : kvGet {} y.a z.toNat = kvGet {} x.a z.toNat)
    (slot : Option (Option Nat)) : (y.counted slot).addr z = x.passes.addr z := by
  simp [Eng.addr, Eng.passes_eq, hic, hcell]

/-- What a load has written is seen by the second following instruction (R209). -/
theorem dv_passes_loaded {y : Eng} {d : RegNo} {c : Cell} {v : Nat} (hcell : kvGet {} y.d d.toNat = c.write y.ic 2 2 (v % 65536 : Nat))
    (slot : Option (Option Nat)) : (y.counted slot).passes.dv d = v % 65536 := by
  simp [Eng.dv, Eng.passes_eq, hcell, settle_write, read_write_after]
  rfl

/-! ## What an access depends on (R204-R206, R218) -/

/-- Nothing that decides engine e's accesses differs, but for the scratch words written. -/
structure SameAccess (e : Nat) (s z : State) : Prop where
  run : (z.eng e).run = (s.eng e).run
  fb : (z.eng e).fb = (s.eng e).fb
  xfer : (z.eng e).xfer = (s.eng e).xfer
  jobs : z.fab.jobs = s.fab.jobs

theorem SameAccess.trans {e : Nat} {s z w : State} (h : SameAccess e s z) (hw : SameAccess e z w) : SameAccess e s w :=
  ⟨hw.run.trans h.run, hw.fb.trans h.fb, hw.xfer.trans h.xfer, hw.jobs.trans h.jobs⟩

section
variable {s z : State} {e : Nat} (h : SameAccess e s z)
include h

theorem SameAccess.segWords : z.segWords (z.eng e) = s.segWords (s.eng e) := by
  have hjob : z.job = s.job := by
    funext tag
    unfold State.job
    rw [h.jobs]
  rw [State.segWords, State.segWords, h.run, hjob]

theorem SameAccess.permits {write : Bool} (hw : write = true ∨ (z.eng e).written = (s.eng e).written) (p : Place) :
    (z.eng e).permits (z.segWords (z.eng e)) write p = (s.eng e).permits (s.segWords (s.eng e)) write p := by
  rw [h.segWords]
  cases p with
  | yard w => simp only [Eng.permits, h.run, h.fb]
  | loc xm w =>
    rcases hw with rfl | hw
    · simp only [Eng.permits, h.run, Bool.true_or]
    · simp only [Eng.permits, h.run, hw]

theorem SameAccess.inTransfer (p : Place) : (z.eng e).inTransfer p = (s.eng e).inTransfer p := by
  cases p <;> simp only [Eng.inTransfer, h.xfer]

end

/-- A number in memory depends on the memory alone. -/
theorem rdLE_congr {s z : State} (hmem : z.mem = s.mem) (a n : Nat) : z.rdLE a n = s.rdLE a n := by
  induction n generalizing a with
  | zero => rfl
  | succ n ih => rw [State.rdLE, State.rdLE, ih, State.rdByte, State.rdByte, hmem]

theorem dataRead_congr {s z : State} {e : Nat} (honly : OnlyEngine e [] s z) (h : SameAccess e s z)
    (hw : (z.eng e).written = (s.eng e).written) (r : RegNo) (a : Nat) (ue : Bool) : z.dataRead e r a ue = s.dataRead e r a ue := by
  have hbad : z.isBad = s.isBad := by
    funext b
    rw [State.isBad, honly.2.1]
    rfl
  simp only [State.dataRead, h.permits (.inr hw), h.inTransfer, hbad, rdLE_congr (honly.1.2 .mem (by decide))]

theorem unslot_sameAccess (s : State) (e : Nat) : SameAccess e s (s.unslot e) := by
  refine ⟨?_, ?_, ?_, rfl⟩ <;> rw [State.eng_modEng_same]

theorem dataRead_unslot (s : State) (e : Nat) (r : RegNo) (a : Nat) (ue : Bool) : (s.unslot e).dataRead e r a ue = s.dataRead e r a ue :=
  dataRead_congr (modEng_onlyEngine _ _ _ _) (unslot_sameAccess s e) (by rw [State.eng_modEng_same]) _ _ _

theorem ea_unslot (s : State) (e : Nat) (r : RegNo) (mode off : Nat) : ((s.unslot e).eng e).ea r mode off = (s.eng e).ea r mode off := by
  rw [State.eng_modEng_same]
  rfl

/-! ## Loads (R205, R209, R219) -/

/-- Dd loaded with `v`, seen by the second following instruction, and Ar post-modified: LD and each parallel move. -/
def Eng.load (x : Eng) (d r : RegNo) (kind v : Nat) : Eng := (x.putD d 2 v).postMod r kind

theorem load_eq (x : Eng) (d r : RegNo) (kind v : Nat) : x.load d r kind v = { x.putD d 2 v with a := (x.load d r kind v).a } :=
  postMod_eq_a _ _ _

section
variable (x : Eng) (d r : RegNo) (kind v : Nat)

theorem load_d : (x.load d r kind v).d = (x.putD d 2 v).d := by rw [load_eq]
theorem load_ic : (x.load d r kind v).ic = x.ic := by rw [load_eq]; rfl

theorem kvGet_load_d_same : kvGet {} (x.load d r kind v).d d.toNat = (kvGet {} x.d d.toNat).write x.ic 2 2 (v % 65536 : Nat) := by
  rw [load_d]
  exact kvGet_wrCell_same _ _ _ _ _ _

theorem kvGet_load_d_ne {z : RegNo} (hz : z ≠ d) : kvGet {} (x.load d r kind v).d z.toNat = kvGet {} x.d z.toNat := by
  rw [load_d]
  exact kvGet_wrCell_ne _ _ _ _ _ (regNo_toNat_ne hz)

theorem kvGet_load_a_same : kvGet {} (x.load d r kind v).a r.toNat = x.stepCell r kind := kvGet_postMod_same _ _ _

theorem kvGet_load_a_ne {z : RegNo} (hz : z ≠ r) : kvGet {} (x.load d r kind v).a z.toNat = kvGet {} x.a z.toNat := kvGet_postMod_ne _ _ _ hz

end

section
variable {z : State} {e mode off kind ea : Nat} {d a : RegNo} {ue : Bool} (hea : (z.eng e).ea a mode off = some ea)
include hea

theorem loadD_reads {v : Nat} (hread : z.dataRead e a ea ue = some (.ok v)) :
    loadD z e d a mode off kind ue = regs z e (fun x => x.load d a kind v) := by
  simp only [loadD, hea, hread]
  rfl

theorem loadD_faults {c : Nat} (hread : z.dataRead e a ea ue = some (.error c)) :
    loadD z e d a mode off kind ue = .fault c (z.faultRead e a ea c) := by
  simp only [loadD, hea, hread]

theorem loadA_reads {lo hi : Nat} {x : RegNo} (hmode : mode = 0 ∨ mode = 4) (hlo : z.dataRead e a ea ue = some (.ok lo))
    (hhi : z.dataRead e a (nextWord ea) ue = some (.ok hi)) :
    loadA z e x a mode off ue = regs z e (fun y => y.putA x (lo + hi % 4 * 65536)) := by
  rw [loadA, if_neg (by omega)]
  simp only [hea, hlo, hhi]

end

section
variable {s : State} {e : Nat} (h : s.engineReady e) {d r : RegNo} {mode : BitVec 3} {off : BitVec 12} {ea : Nat}
  (hea : (s.eng e).ea r mode.toNat off.toNat = some ea)
include h hea

theorem ld_loads {v : Nat} (hread : s.dataRead e r ea false = some (.ok v)) : ∃ u, exec (.ld e d r mode off false) s = .next u ∧
    (u.eng e).passes.dv d = v % 65536 ∧ (∀ z, z ≠ d → (u.eng e).dv z = (s.eng e).passes.dv z) ∧
    (u.eng e).addr r = (s.eng e).stepped r (if mode.toNat ≤ 3 then mode.toNat else 0) ∧
    (∀ z, z ≠ r → (u.eng e).addr z = (s.eng e).passes.addr z) ∧ u.eng e = { (s.eng e).passes with d := (u.eng e).d, a := (u.eng e).a } ∧
    OnlyEngine e [] s u := by
  obtain ⟨u, hu, heng, honly⟩ := engineStep_sets h (op := .ld d r mode off) (ue := false) ⟨rfl, rfl, fun _ => rfl⟩
    (loadD_reads ((ea_unslot _ _ _ _ _).trans hea) ((dataRead_unslot _ _ _ _ _).trans hread)) rfl (by rw [load_eq]; rfl)
  refine ⟨u, hu, ?_, fun z hz => ?_, ?_, fun z hz => ?_, ?_, honly⟩ <;> rw [heng]
  · exact dv_passes_loaded ((kvGet_load_d_same _ _ _ _ _).trans (by rw [load_ic])) _
  · exact dv_counted_congr (load_ic _ _ _ _ _) (kvGet_load_d_ne _ _ _ _ _ hz) _
  · rw [← stepped_unslotted _ _ _ (s.eng e).written]
    exact addr_counted_stepCell (load_ic _ _ _ _ _) (kvGet_load_a_same _ _ _ _ _) _
  · exact addr_counted_congr (load_ic _ _ _ _ _) (kvGet_load_a_ne _ _ _ _ _ hz) _
  · rw [load_eq]
    rfl

/-- LDA brings the two words of an address register (R220). -/
theorem lda_loads {x : RegNo} {lo hi : Nat} (hmode : mode.toNat = 0 ∨ mode.toNat = 4) (hlo : s.dataRead e r ea false = some (.ok lo))
    (hhi : s.dataRead e r (nextWord ea) false = some (.ok hi)) :
    ∃ u, exec (.lda e x r mode off false) s = .next u ∧ WritesA e x ((lo + hi % 4 * 65536) % 2 ^ 18) s u :=
  engineStep_writesA h (op := .lda x r mode off) (ue := false)
    (loadA_reads ((ea_unslot _ _ _ _ _).trans hea) hmode ((dataRead_unslot _ _ _ _ _).trans hlo) ((dataRead_unslot _ _ _ _ _).trans hhi)) rfl rfl

end

/-! ## Reads that end the share (R179, R206, R319) -/

/-- What an uncorrectable word sets off leaves every engine as it is. -/
theorem faultRead_engines (s : State) (e : Nat) (r : RegNo) (a c : Nat) : (s.faultRead e r a c).fab.engines = s.fab.engines := by
  unfold State.faultRead
  split
  · rfl
  · split
    · rfl
    · dsimp only
      split
      · rfl
      · split
        · split <;> rfl
        · rfl

/-- An instruction that finds a fault ends the share, whatever it has done to the rest before. -/
theorem engineStep_faultedIn {s z : State} {e c : Nat} {op : EOp} {ue : Bool} (h : s.engineReady e) (hp : PlainOp op)
    (he : opEffect (s.unslot e) e ue false op = .fault c z) (hz : z.fab.engines = (s.unslot e).fab.engines) :
    ∃ u, run s (engineStep e op ue) = .next u ∧ (u.eng e).run = none ∧ u.get (F.YD_ENG_LAST_FAULT (e / 8) (e % 8)) = c % 8 := by
  obtain ⟨r, hrun⟩ := h.runs
  have hzrun : (z.eng e).run = some r := by
    rw [State.eng, hz]
    exact unslot_runs hrun
  refine faulted_shows (s := z) ⟨_, run_eq _ _, ?_⟩
  rw [engineStep_ready h (.inr hp.allowed) (hp.closed _), he]
  exact (endShare_faulted hzrun c).answer (w := z) rfl _

theorem ld_faults {s : State} {e : Nat} (h : s.engineReady e) {d r : RegNo} {mode : BitVec 3} {off : BitVec 12} {ea c : Nat} {ue : Bool}
    (hea : (s.eng e).ea r mode.toNat off.toNat = some ea) (hread : s.dataRead e r ea ue = some (.error c)) :
    ∃ u, exec (.ld e d r mode off ue) s = .next u ∧ (u.eng e).run = none ∧ u.get (F.YD_ENG_LAST_FAULT (e / 8) (e % 8)) = c % 8 :=
  engineStep_faultedIn h (op := .ld d r mode off) ⟨rfl, rfl, fun _ => rfl⟩
    (loadD_faults ((ea_unslot _ _ _ _ _).trans hea) ((dataRead_unslot _ _ _ _ _).trans hread)) (faultRead_engines _ _ _ _ _)

/-! ## A word stored (R204-R206) -/

theorem bad_filter_of_isBad {s : State} {a : Nat} (h : s.isBad a = false) : s.fab.bad.filter (fun b => b.1 != a) = s.fab.bad := by
  refine List.filter_eq_self.mpr (fun b hb => ?_)
  simp only [State.isBad, List.any_eq_false] at h
  simpa using h b hb

/-- A word written takes its address from those that stand uncorrectable. -/
theorem wrWord_eq (s : State) (a v : Nat) :
    s.wrWord a v = { s.wrLE a 2 (v % 65536) with fab := { s.fab with bad := s.fab.bad.filter (fun b => b.1 != a) } } := by
  unfold State.wrWord
  extract_lets w
  split
  · rfl
  · next hnone =>
    have hgood : s.isBad a = false := Bool.eq_false_iff.mpr hnone
    rw [bad_filter_of_isBad hgood]
    rfl

section
variable (s : State) (a v : Nat)

theorem wrWord_isBad : (s.wrWord a v).isBad a = false := by
  rw [wrWord_eq, State.isBad]
  simp

theorem wrWord_bad (h : s.isBad a = false) : (s.wrWord a v).fab.bad = s.fab.bad := by
  rw [wrWord_eq]
  exact bad_filter_of_isBad h

theorem leBytes_word : leBytes (v % 65536) 2 = [BitVec.ofNat 8 v, BitVec.ofNat 8 (v / 256)] := by
  have hlow : BitVec.ofNat 8 (v % 65536) = BitVec.ofNat 8 v := BitVec.eq_of_toNat_eq (by simp)
  have hhigh : BitVec.ofNat 8 (v % 65536 / 256) = BitVec.ofNat 8 (v / 256) := BitVec.eq_of_toNat_eq (by simp; omega)
  rw [leBytes, leBytes, leBytes, hlow, hhigh]

/-- The two bytes of the word are written, and no other (R6). -/
theorem wrWord_rdByte (b : Nat) : (s.wrWord a v).rdByte b =
    if b = a then BitVec.ofNat 8 v else if b = a + 1 then BitVec.ofNat 8 (v / 256) else s.rdByte b := by
  have hmem : (s.wrWord a v).rdByte b = (s.wrBytes a [BitVec.ofNat 8 v, BitVec.ofNat 8 (v / 256)]).rdByte b := by
    rw [wrWord_eq, ← leBytes_word]
    rfl
  rw [hmem]
  by_cases hin : a ≤ b ∧ b < a + 2
  · rw [State.rdByte_wrBytes_in s a [BitVec.ofNat 8 v, BitVec.ofNat 8 (v / 256)] b hin.1 hin.2]
    have hb : b = a ∨ b = a + 1 := by omega
    rcases hb with rfl | rfl <;> simp
  · rw [if_neg (by omega), if_neg (by omega)]
    exact State.rdByte_wrBytes_out _ _ _ _ (by simp only [List.length_cons, List.length_nil]; omega)

/-- A word of two bytes reads as the number that they hold. -/
theorem rdLE_word {n : Nat} (hlow : s.rdByte a = BitVec.ofNat 8 n) (hhigh : s.rdByte (a + 1) = BitVec.ofNat 8 (n / 256)) :
    s.rdLE a 2 = n % 65536 := by
  simp only [State.rdLE, hlow, hhigh, BitVec.toNat_ofNat]
  omega

end

/-- The scratch word of engine e that a write has filled is marked so (R206). -/
def State.markWritten (s : State) (e : Nat) : Place → State
  | .loc xm w => s.modEng e (fun x => { x with written := kvSet false x.written (scratchKey xm w) true })
  | .yard _ => s

/-- A word stored by engine e at a place of its memories. -/
def State.storeAt (s : State) (e : Nat) (p : Place) (v : Nat) : State := (s.wrWord (p.byte e) v).markWritten e p

section
variable (s : State) (e : Nat) (p : Place) (v : Nat)

theorem markWritten_eq : s.markWritten e p = { s with fab := { s.fab with engines := (s.markWritten e p).fab.engines } } := by
  cases p <;> rfl

theorem markWritten_eng : (s.markWritten e p).eng e = { s.eng e with written := ((s.markWritten e p).eng e).written } := by
  cases p with
  | loc xm w => rw [State.markWritten, State.eng_modEng_same]
  | yard w => rfl

theorem markWritten_onlyEngine (ps : List Part) : OnlyEngine e ps s (s.markWritten e p) := by
  cases p with
  | loc xm w => exact modEng_onlyEngine _ _ _ _
  | yard w => exact ⟨.refl s, rfl, fun _ _ => rfl⟩

theorem wrWord_eng (a i : Nat) : (s.wrWord a v).eng i = s.eng i := by
  rw [wrWord_eq]
  rfl

theorem wrWord_onlyChanges (a : Nat) : OnlyChanges [] [.fab, .mem] s (s.wrWord a v) := by
  rw [wrWord_eq]
  exact (OnlyChanges.mem s _ (by decide)).trans (.fab _ _ (by decide))

/-- A store to a word that stands without an error touches its memory and its engine alone. -/
theorem wrWord_onlyEngine {a : Nat} (h : s.isBad a = false) : OnlyEngine e [.mem] s (s.wrWord a v) := by
  refine ⟨wrWord_onlyChanges s v a, ?_, fun _ _ => wrWord_eng _ _ _ _⟩
  rw [wrWord_eq, bad_filter_of_isBad h]

theorem storeAt_eng : (s.storeAt e p v).eng e = { s.eng e with written := ((s.storeAt e p v).eng e).written } := by
  rw [State.storeAt, markWritten_eng, wrWord_eng]

theorem storeAt_bad : (s.storeAt e p v).fab.bad = (s.wrWord (p.byte e) v).fab.bad := by
  rw [State.storeAt, markWritten_eq]

theorem storeAt_rdByte (b : Nat) : (s.storeAt e p v).rdByte b = (s.wrWord (p.byte e) v).rdByte b := by
  rw [State.storeAt, markWritten_eq]
  rfl

theorem storeAt_jobs : (s.storeAt e p v).fab.jobs = s.fab.jobs := by
  rw [State.storeAt, markWritten_eq, wrWord_eq]

theorem storeAt_onlyChanges : OnlyChanges [] [.fab, .mem] s (s.storeAt e p v) :=
  (wrWord_onlyChanges _ _ _).trans (markWritten_onlyEngine _ _ _ _).1

theorem storeAt_onlyEngine (h : s.isBad (p.byte e) = false) : OnlyEngine e [.mem] s (s.storeAt e p v) :=
  (wrWord_onlyEngine _ _ _ h).trans (markWritten_onlyEngine _ _ _ _)

theorem storeAt_sameAccess : SameAccess e s (s.storeAt e p v) := by
  refine ⟨?_, ?_, ?_, storeAt_jobs s e p v⟩ <;> rw [storeAt_eng]

end

/-- A write that the protection permits and no transfer holds back stores its word (R206, R218). -/
theorem dataWrite_stores {s z : State} {e : Nat} {r : RegNo} {a v : Nat} {p : Place} (hsame : SameAccess e s z) (hp : placeOf r a = some p)
    (hperm : (s.eng e).permits (s.segWords (s.eng e)) true p = true) (htr : (s.eng e).inTransfer p = false) :
    z.dataWrite e r a v = some (.ok (z.storeAt e p v)) := by
  rw [← hsame.permits (.inl rfl)] at hperm
  rw [← hsame.inTransfer] at htr
  simp only [State.dataWrite, hp, hperm, htr]
  cases p <;> rfl

section
variable {z w : State} {e mode off ea : Nat} {x a : RegNo} (hea : (z.eng e).ea a mode off = some ea)
include hea

theorem storeD_stores {kind : Nat} (hw : z.dataWrite e a ea ((z.eng e).dv x) = some (.ok w)) :
    storeD z e x a mode off kind = .ok (w.modEng e (fun y => y.postMod a kind)) := by
  simp only [storeD, hea, hw]
  rfl

/-- The second address stays a name here: unfolded, it would be computed each time that a write to it is compared with another. -/
theorem storeA_stores {w1 : State} {v second : Nat} (hmode : mode = 0 ∨ mode = 4) (hv : (z.eng e).aval x = v) (hnext : nextWord ea = second)
    (hlow : z.dataWrite e a ea (v % 65536) = some (.ok w1)) (hhigh : w1.dataWrite e a second (v / 65536) = some (.ok w)) :
    storeA z e x a mode off = .ok w := by
  rw [storeA, if_neg (by omega), hea]
  dsimp only
  rw [hv, hnext, hlow]
  dsimp only
  rw [hhigh]

end

section
variable (s : State) (e : Nat) (z : State)

@[simp] theorem passed_isBad (a : Nat) : (s.passed e z).isBad a = z.isBad a := by
  rw [State.isBad, passed_fab]
  rfl

@[simp] theorem passed_rdByte (a : Nat) : (s.passed e z).rdByte a = z.rdByte a := by rw [State.rdByte, passed_mem, State.rdByte]

end

/-- The byte address of a word is even. -/
theorem place_byte_even (e : Nat) (p : Place) : p.byte e % 2 = 0 := by
  cases p with
  | yard w =>
    simp only [Place.byte, yardAddr, spaceYard]
    omega
  | loc xm w =>
    simp only [Place.byte, localAddr, spaceEngine]
    split <;> omega

/-- The two words of an address register stored (R220). -/
def State.storePair (s : State) (e : Nat) (p q : Place) (v : Nat) : State := (s.storeAt e p (v % 65536)).storeAt e q (v / 65536)

section
variable {s : State} {e : Nat} {p q : Place} (v : Nat)

theorem storePair_rdByte (a : Nat) : (s.storePair e p q v).rdByte a =
    if a = q.byte e then BitVec.ofNat 8 (v / 65536) else if a = q.byte e + 1 then BitVec.ofNat 8 (v / 65536 / 256) else
    if a = p.byte e then BitVec.ofNat 8 (v % 65536) else if a = p.byte e + 1 then BitVec.ofNat 8 (v % 65536 / 256) else s.rdByte a := by
  rw [State.storePair, storeAt_rdByte, wrWord_rdByte, storeAt_rdByte, wrWord_rdByte]

/-- Two words apart are stored each in its own place. -/
theorem storePair_words (hne : q.byte e ≠ p.byte e) : (s.storePair e p q v).rdLE (p.byte e) 2 = v % 65536 ∧
    (s.storePair e p q v).rdLE (q.byte e) 2 = v / 65536 % 65536 := by
  have hevenp := place_byte_even e p
  have hevenq := place_byte_even e q
  constructor
  · rw [rdLE_word (s.storePair e p q v) (p.byte e) (n := v % 65536), Nat.mod_mod]
    · rw [storePair_rdByte, if_neg (by omega), if_neg (by omega), if_pos rfl]
    · rw [storePair_rdByte, if_neg (by omega), if_neg (by omega), if_neg (by omega), if_pos rfl]
  · apply rdLE_word
    · rw [storePair_rdByte, if_pos rfl]
    · rw [storePair_rdByte, if_neg (by omega), if_pos rfl]

theorem storePair_onlyEngine (hbadp : s.isBad (p.byte e) = false) (hbadq : s.isBad (q.byte e) = false) :
    OnlyEngine e [.mem] s (s.storePair e p q v) := by
  have hgood : (s.storeAt e p (v % 65536)).isBad (q.byte e) = false := by
    rw [State.isBad, storeAt_bad, wrWord_bad _ _ _ hbadp]
    exact hbadq
  exact (storeAt_onlyEngine _ _ _ _ hbadp).trans (storeAt_onlyEngine _ _ _ _ hgood)

end

section
variable {s : State} {e : Nat} (h : s.engineReady e) {x r : RegNo} {mode : BitVec 3} {off : BitVec 12} {ea : Nat}
  (hea : (s.eng e).ea r mode.toNat off.toNat = some ea)
include h hea

/-- ST stores the low 16 bits of a register, and the word stands uncorrectable no longer (R205, R220). -/
theorem st_stores {p : Place} (hp : placeOf r ea = some p) (hperm : (s.eng e).permits (s.segWords (s.eng e)) true p = true)
    (htr : (s.eng e).inTransfer p = false) :
    ∃ u, exec (.st e x r mode off) s = .next u ∧ u.isBad (p.byte e) = false ∧
    (∀ a, u.rdByte a = if a = p.byte e then BitVec.ofNat 8 ((s.eng e).dv x) else
      if a = p.byte e + 1 then BitVec.ofNat 8 ((s.eng e).dv x / 256) else s.rdByte a) ∧
    (u.eng e).addr r = (s.eng e).stepped r (if mode.toNat ≤ 3 then mode.toNat else 0) ∧
    u.eng e = { (s.eng e).passes with a := (u.eng e).a, written := (u.eng e).written } ∧ OnlyChanges [] [.fab, .mem] s u ∧
    (s.isBad (p.byte e) = false → OnlyEngine e [.mem] s u) := by
  have hdv : ((s.unslot e).eng e).dv x = (s.eng e).dv x := by
    rw [State.eng_modEng_same]
    rfl
  obtain ⟨z, hz⟩ : ∃ z, z = (s.unslot e).storeAt e p ((s.eng e).dv x) := ⟨_, rfl⟩
  have hstored : (s.unslot e).dataWrite e r ea (((s.unslot e).eng e).dv x) = some (.ok z) := by
    rw [hdv, hz]
    exact dataWrite_stores (unslot_sameAccess s e) hp hperm htr
  obtain ⟨w, hw⟩ : ∃ w, z.eng e = { (s.eng e).unslotted with written := w } :=
    ⟨_, by rw [hz, storeAt_eng, State.eng_modEng_same]⟩
  have heffect : opEffect (s.unslot e) e false false (.st x r mode off) =
      .ok (z.modEng e (fun y => y.postMod r (if mode.toNat ≤ 3 then mode.toNat else 0))) :=
    storeD_stores ((ea_unslot _ _ _ _ _).trans hea) hstored
  have heng : (s.passed e (z.modEng e (fun y => y.postMod r (if mode.toNat ≤ 3 then mode.toNat else 0)))).eng e =
      (({ (s.eng e).unslotted with written := w } : Eng).postMod r (if mode.toNat ≤ 3 then mode.toNat else 0)).counted (s.eng e).slot := by
    rw [passed_eng, State.eng_modEng_same, hw]
  refine ⟨_, engineStep_plain h ⟨rfl, rfl, fun _ => rfl⟩ heffect ?_, ?_, fun a => ?_, ?_, ?_, ?_, fun hbad => ?_⟩
  · rw [State.eng_modEng_same, hw, postMod_eq_a]
  · rw [passed_isBad, hz]
    exact (congrArg (List.any · _) (storeAt_bad _ _ _ _)).trans (wrWord_isBad _ _ _)
  · rw [passed_rdByte, hz]
    exact (storeAt_rdByte _ _ _ _ _).trans (wrWord_rdByte _ _ _ _)
  · rw [heng, ← stepped_unslotted _ _ _ w]
    exact addr_counted_stepCell (by rw [postMod_eq_a]) (kvGet_postMod_same _ _ _) _
  · rw [heng, postMod_eq_a]
    rfl
  · refine .passed (by decide) ?_
    rw [hz]
    exact ((modEng_onlyChanges s e _ _).trans (storeAt_onlyChanges _ _ _ _)).trans (modEng_onlyChanges _ e _ _)
  · refine .passed ?_
    rw [hz]
    exact ((modEng_onlyEngine s e _ _).trans (storeAt_onlyEngine _ _ _ _ hbad)).trans (modEng_onlyEngine _ e _ _)

/-- STA stores the two words of an address register (R220). -/
theorem sta_stores {p q : Place} {v : Nat} (hmode : mode.toNat = 0 ∨ mode.toNat = 4) (hp : placeOf r ea = some p)
    (hq : placeOf r (nextWord ea) = some q) (hv : v = (s.eng e).aval x) (hpermp : (s.eng e).permits (s.segWords (s.eng e)) true p = true)
    (hpermq : (s.eng e).permits (s.segWords (s.eng e)) true q = true) (htrp : (s.eng e).inTransfer p = false)
    (htrq : (s.eng e).inTransfer q = false) (hne : q.byte e ≠ p.byte e) (hbadp : s.isBad (p.byte e) = false)
    (hbadq : s.isBad (q.byte e) = false) :
    ∃ u, exec (.sta e x r mode off) s = .next u ∧ u.rdLE (p.byte e) 2 = v % 65536 ∧ u.rdLE (q.byte e) 2 = v / 65536 % 65536 ∧
    (∀ a, a ≠ p.byte e → a ≠ p.byte e + 1 → a ≠ q.byte e → a ≠ q.byte e + 1 → u.rdByte a = s.rdByte a) ∧
    OnlyEngine e [.mem] s u := by
  have haval : ((s.unslot e).eng e).aval x = v := by
    rw [State.eng_modEng_same, hv]
    rfl
  have hunslot := unslot_sameAccess s e
  have hstored := storeAt_sameAccess (s.unslot e) e p (v % 65536)
  have hlow : (s.unslot e).dataWrite e r ea (v % 65536) = some (.ok ((s.unslot e).storeAt e p (v % 65536))) :=
    dataWrite_stores hunslot hp hpermp htrp
  have hhigh : ((s.unslot e).storeAt e p (v % 65536)).dataWrite e r (nextWord ea) (v / 65536) = some (.ok ((s.unslot e).storePair e p q v)) :=
    dataWrite_stores (hunslot.trans hstored) hq hpermq htrq
  have heffect : opEffect (s.unslot e) e false false (.sta x r mode off) = .ok ((s.unslot e).storePair e p q v) :=
    storeA_stores ((ea_unslot _ _ _ _ _).trans hea) hmode haval rfl hlow hhigh
  have hrun := ((hunslot.trans hstored).trans (storeAt_sameAccess _ e q (v / 65536))).run
  obtain ⟨hwordp, hwordq⟩ := storePair_words (s := s.unslot e) v hne
  refine ⟨_, engineStep_plain h ⟨rfl, rfl, fun _ => rfl⟩ heffect hrun, ?_, ?_, fun a h1 h2 h3 h4 => ?_, .passed ?_⟩
  · rw [rdLE_congr (passed_mem _ _ _), hwordp]
  · rw [rdLE_congr (passed_mem _ _ _), hwordq]
  · rw [passed_rdByte, storePair_rdByte, if_neg h3, if_neg h4, if_neg h1, if_neg h2]
    rfl
  · exact (modEng_onlyEngine s e _ _).trans (storePair_onlyEngine (s := s.unslot e) v hbadp hbadq)

end

end Sys2Proof.Machine

section
open Sys2Proof Sys2Proof.Machine

/-- Settles O28: each load and store by the rule of its access; a read that is refused ends the share with its fault. -/
theorem engineMemory : Obligations.EngineMemory := by
  unfold Obligations.EngineMemory
  intro s e h d x r mode off ea hea
  refine ⟨?ld, ?st, ?lda, ?sta, ?met, ?known, ?forbidden⟩
  case ld => exact fun v hread => ld_loads h hea hread
  case st => exact fun p hp hperm htr => st_stores h hea hp hperm htr
  case lda => exact fun lo hi hmode hlo hhi => lda_loads h hea hmode hlo hhi
  case sta =>
    exact fun p q v hmode hp hq hv hpermp hpermq htrp htrq hne hbadp hbadq =>
      sta_stores h hea hmode hp hq hv hpermp hpermq htrp htrq hne hbadp hbadq
  case met => exact ld_faults h hea
  case known => exact ld_faults h hea
  case forbidden => exact ld_faults h hea

end

/-!
The multiply instructions of an engine with their parallel moves (R209, R219, R220).
-/

namespace Sys2Proof.Machine

/-! ## A parallel move (R219) -/

/-- A parallel move where it is enabled. -/
def Eng.loadIf (x : Eng) (en : Bool) (d r : RegNo) (kind v : Nat) : Eng := if en then x.load d r kind v else x

section
variable (x : Eng) (en : Bool) (d r : RegNo) (kind v : Nat)

/-- A parallel move leaves everything but data and address registers. -/
theorem loadIf_eq : x.loadIf en d r kind v = { x with d := (x.loadIf en d r kind v).d, a := (x.loadIf en d r kind v).a } := by
  unfold Eng.loadIf
  split
  · rw [load_eq]
    rfl
  · rfl

theorem loadIf_ic : (x.loadIf en d r kind v).ic = x.ic := by rw [loadIf_eq]

theorem kvGet_loadIf_d_same : kvGet {} (x.loadIf true d r kind v).d d.toNat = (kvGet {} x.d d.toNat).write x.ic 2 2 (v % 65536 : Nat) :=
  kvGet_load_d_same _ _ _ _ _

theorem kvGet_loadIf_d_ne {z : RegNo} (hz : en = false ∨ z ≠ d) : kvGet {} (x.loadIf en d r kind v).d z.toNat = kvGet {} x.d z.toNat := by
  unfold Eng.loadIf
  split
  · next hen => exact kvGet_load_d_ne _ _ _ _ _ (hz.resolve_left (by simp [hen]))
  · rfl

theorem kvGet_loadIf_a_same : kvGet {} (x.loadIf true d r kind v).a r.toNat = x.stepCell r kind := kvGet_load_a_same _ _ _ _ _

theorem kvGet_loadIf_a_ne {z : RegNo} (hz : z ≠ r) : kvGet {} (x.loadIf en d r kind v).a z.toNat = kvGet {} x.a z.toNat := by
  unfold Eng.loadIf
  split
  · exact kvGet_load_a_ne _ _ _ _ _ hz
  · rfl

end

/-- Post-modification of Ar depends on its own cell, on the modifiers and on the instruction count. -/
theorem stepCell_congr {x y : Eng} {r : RegNo} (hic : y.ic = x.ic) (hm : y.m = x.m) (ha : kvGet {} y.a r.toNat = kvGet {} x.a r.toNat)
    (kind : Nat) : y.stepCell r kind = x.stepCell r kind := by
  have haddr : y.addr r = x.addr r := by rw [Eng.addr, Eng.addr, ha, hic]
  have hmv : y.mv = x.mv := by
    funext k
    rw [Eng.mv, Eng.mv, hm, hic]
  simp only [Eng.stepCell, Eng.stepTo, haddr, hmv, ha, hic]

/-! ## Both parallel moves, X before Y (R219) -/

/-- The address register of an X move. -/
abbrev xReg (m : Moves) : RegNo := BitVec.ofNat 3 m.ax.toNat

/-- The address register of a Y move. -/
abbrev yReg (m : Moves) : RegNo := BitVec.ofNat 3 (4 + m.ay.toNat)

/-- X moves go through A0–A3 and Y moves through A4–A7. -/
theorem xReg_ne_yReg (m : Moves) : xReg m ≠ yReg m := by
  intro h
  have h := congrArg BitVec.toNat h
  simp at h
  omega

/-- An engine after the enabled moves, which have brought `vx` and `vy`. -/
def Eng.loads (x : Eng) (m : Moves) (vx vy : Nat) : Eng := (x.loadIf m.ex m.dx (xReg m) m.mx.toNat vx).loadIf m.ey m.dy (yReg m) m.my.toNat vy

/-- The moves' reads, on an engine in state `s`. -/
structure MovesRead (s : State) (e : Nat) (m : Moves) (ue : Bool) (vx vy : Nat) : Prop where
  x : m.ex = true → s.dataRead e (xReg m) ((s.eng e).addr (xReg m)) ue = some (.ok vx)
  y : m.ey = true → s.dataRead e (yReg m) ((s.eng e).addr (yReg m)) ue = some (.ok vy)

section
variable (x : Eng) (m : Moves) (vx vy : Nat)

theorem loads_eq : x.loads m vx vy = { x with d := (x.loads m vx vy).d, a := (x.loads m vx vy).a } := by
  rw [Eng.loads, loadIf_eq, loadIf_eq]

theorem loads_ic : (x.loads m vx vy).ic = x.ic := by rw [loads_eq]

theorem kvGet_loads_d_x (hx : m.ex = true) (hy : m.ey = false ∨ m.dy ≠ m.dx) :
    kvGet {} (x.loads m vx vy).d m.dx.toNat = (kvGet {} x.d m.dx.toNat).write x.ic 2 2 (vx % 65536 : Nat) := by
  rw [Eng.loads, kvGet_loadIf_d_ne _ _ _ _ _ _ (hy.imp_right Ne.symm), hx, kvGet_loadIf_d_same]

theorem kvGet_loads_d_y (hy : m.ey = true) : ∃ c, kvGet {} (x.loads m vx vy).d m.dy.toNat = Cell.write c x.ic 2 2 (vy % 65536 : Nat) := by
  rw [Eng.loads, hy, kvGet_loadIf_d_same, loadIf_ic]
  exact ⟨_, rfl⟩

theorem kvGet_loads_d_ne {z : RegNo} (hx : m.ex = false ∨ z ≠ m.dx) (hy : m.ey = false ∨ z ≠ m.dy) :
    kvGet {} (x.loads m vx vy).d z.toNat = kvGet {} x.d z.toNat := by
  rw [Eng.loads, kvGet_loadIf_d_ne _ _ _ _ _ _ hy, kvGet_loadIf_d_ne _ _ _ _ _ _ hx]

theorem kvGet_loads_a_x (hx : m.ex = true) : kvGet {} (x.loads m vx vy).a (xReg m).toNat = x.stepCell (xReg m) m.mx.toNat := by
  rw [Eng.loads, kvGet_loadIf_a_ne _ _ _ _ _ _ (xReg_ne_yReg m), hx, kvGet_loadIf_a_same]

theorem kvGet_loads_a_y (hy : m.ey = true) : kvGet {} (x.loads m vx vy).a (yReg m).toNat = x.stepCell (yReg m) m.my.toNat := by
  rw [Eng.loads, hy, kvGet_loadIf_a_same]
  exact stepCell_congr (loadIf_ic _ _ _ _ _ _) (by rw [loadIf_eq]) (kvGet_loadIf_a_ne _ _ _ _ _ _ (xReg_ne_yReg m).symm) _

end

/-! ## The moves carried out (R205, R219) -/

section
variable {z : State} {e : Nat} {ue : Bool}

/-- One move, where it is enabled, loads the word that it reads. -/
theorem loadIf_moves {en : Bool} {d r : RegNo} {kind v : Nat} (hread : en = true → z.dataRead e r ((z.eng e).addr r) ue = some (.ok v)) :
    ∃ w, (if en then loadD z e d r 0 0 kind ue else .ok z) = .ok w ∧ w.eng e = (z.eng e).loadIf en d r kind v ∧ OnlyEngine e [] z w := by
  cases en with
  | false => exact ⟨z, rfl, rfl, .refl z, rfl, fun _ _ => rfl⟩
  | true =>
    have hea : (z.eng e).ea r 0 0 = some ((z.eng e).addr r) := rfl
    exact ⟨_, (if_pos rfl).trans (loadD_reads hea (hread rfl)), State.eng_modEng_same _ _ _, modEng_onlyEngine _ _ _ _⟩

/-- A move changes nothing that decides an access. -/
theorem loadIf_sameAccess {w : State} {en : Bool} {d r : RegNo} {kind v : Nat} (heng : w.eng e = (z.eng e).loadIf en d r kind v)
    (honly : OnlyEngine e [] z w) : SameAccess e z w := by
  refine ⟨?_, ?_, ?_, by rw [honly.2.1]⟩ <;> rw [heng, loadIf_eq]

theorem moves_loads {m : Moves} {vx vy : Nat} (hread : MovesRead z e m ue vx vy) :
    ∃ w, moves z e m ue = .ok w ∧ w.eng e = (z.eng e).loads m vx vy ∧ OnlyEngine e [] z w := by
  obtain ⟨w1, hx, hengx, honlyx⟩ := loadIf_moves (d := m.dx) (kind := m.mx.toNat) hread.x
  have hready : m.ey = true → w1.dataRead e (yReg m) ((w1.eng e).addr (yReg m)) ue = some (.ok vy) := fun hey => by
    have haddr : (w1.eng e).addr (yReg m) = (z.eng e).addr (yReg m) := by
      rw [hengx, Eng.addr, Eng.addr, kvGet_loadIf_a_ne _ _ _ _ _ _ (xReg_ne_yReg m).symm, loadIf_ic]
    rw [haddr, dataRead_congr honlyx (loadIf_sameAccess hengx honlyx) (by rw [hengx, loadIf_eq])]
    exact hread.y hey
  obtain ⟨w, hy, hengy, honlyy⟩ := loadIf_moves (d := m.dy) (kind := m.my.toNat) hready
  refine ⟨w, ?_, by rw [hengy, hengx]; rfl, honlyx.trans honlyy⟩
  cases hex : m.ex with
  | false =>
    obtain rfl : z = w1 := by simpa [hex] using hx
    simpa [moves, hex] using hy
  | true =>
    rw [hex, if_pos rfl] at hx
    simp only [moves, hex, if_true, hx]
    exact hy

end

/-! ## The multiply instructions (R219, R220) -/

/-- The enabled moves of an instruction that passes, as later instructions see them (R209), and what the instruction leaves alone. -/
structure MovesMade (e : Nat) (m : Moves) (vx vy : Nat) (s u : State) : Prop where
  x : m.ex = true → (m.ey = false ∨ m.dy ≠ m.dx) → (u.eng e).passes.dv m.dx = vx % 65536
  y : m.ey = true → (u.eng e).passes.dv m.dy = vy % 65536
  stepX : m.ex = true → (u.eng e).addr (xReg m) = (s.eng e).stepped (xReg m) m.mx.toNat
  stepY : m.ey = true → (u.eng e).addr (yReg m) = (s.eng e).stepped (yReg m) m.my.toNat
  others : ∀ z, (m.ex = false ∨ z ≠ m.dx) → (m.ey = false ∨ z ≠ m.dy) → (u.eng e).dv z = (s.eng e).passes.dv z
  eng : u.eng e = { (s.eng e).passes with d := (u.eng e).d, a := (u.eng e).a, aca := (u.eng e).aca, acb := (u.eng e).acb, flg := (u.eng e).flg }
  only : OnlyEngine e [] s u

/-- An engine with other accumulators and flags, as its moves find it. -/
abbrev Eng.withAcc (x : Eng) (a b : Cell) (flg : Nat) : Eng := { x.unslotted with aca := a, acb := b, flg := flg }

theorem stepped_withAcc (x : Eng) (a b : Cell) (flg : Nat) (r : RegNo) (kind : Nat) : (x.withAcc a b flg).stepped r kind = x.stepped r kind := by
  rw [stepped_eq, stepped_eq]
  rfl

section
variable {s : State} {e : Nat} {ue : Bool} {m : Moves} {vx vy : Nat}

theorem movesMade_of_eng {u : State} {a b : Cell} {flg : Nat} (heng : u.eng e = (((s.eng e).withAcc a b flg).loads m vx vy).counted (s.eng e).slot)
    (honly : OnlyEngine e [] s u) : MovesMade e m vx vy s u := by
  constructor
  case x =>
    intro hx hy
    rw [heng]
    exact dv_passes_loaded ((kvGet_loads_d_x _ _ _ _ hx hy).trans (by rw [loads_ic])) _
  case y =>
    intro hy
    obtain ⟨c, hc⟩ := kvGet_loads_d_y ((s.eng e).withAcc a b flg) m vx vy hy
    rw [heng]
    exact dv_passes_loaded (hc.trans (by rw [loads_ic])) _
  case stepX =>
    intro hx
    rw [heng, ← stepped_withAcc _ a b flg]
    exact addr_counted_stepCell (loads_ic _ _ _ _) (kvGet_loads_a_x _ _ _ _ hx) _
  case stepY =>
    intro hy
    rw [heng, ← stepped_withAcc _ a b flg]
    exact addr_counted_stepCell (loads_ic _ _ _ _) (kvGet_loads_a_y _ _ _ _ hy) _
  case others =>
    intro z hx hy
    rw [heng]
    exact dv_counted_congr (loads_ic _ _ _ _) (kvGet_loads_d_ne _ _ _ _ hx hy) _
  case eng =>
    rw [heng, loads_eq]
    rfl
  case only => exact honly

/-- An instruction that brings its accumulators and flags about and then makes its moves. -/
theorem engineStep_moves {op : EOp} {z : State} {a b : Cell} {flg : Nat} (h : s.engineReady e) (hp : PlainOp op)
    (he : opEffect (s.unslot e) e ue false op = moves z e m ue) (heng : z.eng e = (s.eng e).withAcc a b flg) (honly : OnlyEngine e [] s z)
    (hread : MovesRead s e m ue vx vy) :
    ∃ u, run s (engineStep e op ue) = .next u ∧ u.eng e = (((s.eng e).withAcc a b flg).loads m vx vy).counted (s.eng e).slot ∧
      OnlyEngine e [] s u := by
  have hsame : SameAccess e s z := by
    refine ⟨?_, ?_, ?_, by rw [honly.2.1]⟩ <;> rw [heng]
  have hreads : MovesRead z e m ue vx vy := by
    constructor <;> intro hen <;> rw [dataRead_congr honly hsame (by rw [heng]), heng]
    · exact hread.x hen
    · exact hread.y hen
  obtain ⟨w, hw, hweng, hwonly⟩ := moves_loads hreads
  refine ⟨_, engineStep_plain h hp (he.trans hw) ?_, ?_, (honly.trans hwonly).passed⟩
  · rw [hweng, loads_eq, heng]
  · rw [passed_eng, hweng, heng]

theorem formatM_eq (z : State) (f : Eng → Eng) : formatM z e m ue f = moves (z.modEng e f) e m ue := by
  unfold formatM
  cases moves (z.modEng e f) e m ue <;> rfl

/-- A multiply instruction writes its accumulator from the operands before the moves (R209, R220). -/
theorem engineStep_multiplies {op : EOp} {f : Eng → Eng} {b : Bool} {v : Int} {flg : Nat} (h : s.engineReady e) (hread : MovesRead s e m ue vx vy)
    (he : opEffect (s.unslot e) e ue false op = formatM (s.unslot e) e m ue f)
    (hf : f (s.eng e).unslotted = { (s.eng e).unslotted.putAcc b v with flg := flg }) (hp : PlainOp op := by exact ⟨rfl, rfl, fun _ => rfl⟩) :
    ∃ u, run s (engineStep e op ue) = .next u ∧ ((u.eng e).acc b false = v ∧ (u.eng e).passes.acc b true = v ∧
      (u.eng e).acc (!b) false = (s.eng e).passes.acc (!b) false ∧ (u.eng e).flg = flg) ∧ MovesMade e m vx vy s u := by
  obtain ⟨x, hx⟩ : ∃ x, x = (s.eng e).unslotted.putAcc b v := ⟨_, rfl⟩
  have heng : ((s.unslot e).modEng e f).eng e = (s.eng e).withAcc x.aca x.acb flg := by
    rw [State.eng_modEng_same, State.eng_modEng_same, hf, hx]
    cases b <;> rfl
  obtain ⟨u, hu, hueng, honly⟩ := engineStep_moves h hp (he.trans (formatM_eq _ _)) heng
    ((modEng_onlyEngine s e _ _).trans (modEng_onlyEngine _ e _ _)) hread
  refine ⟨u, hu, ⟨?_, ?_, ?_, ?_⟩, movesMade_of_eng hueng honly⟩ <;> rw [hueng, loads_eq, hx]
  · cases b <;> simp [Eng.acc, Eng.putAcc, settle_write, read_write_after]
  · cases b <;> simp [Eng.acc, Eng.putAcc, settle_write, read_write_after, Eng.passes_eq]
  · cases b <;> simp [Eng.acc, Eng.putAcc, Eng.passes_eq]
  · rfl

/-- MOVP makes its moves alone (R219). -/
theorem movp_moves (h : s.engineReady e) (hread : MovesRead s e m ue vx vy) : ∃ u, exec (.movp e m ue) s = .next u ∧
    ((u.eng e).aca = (s.eng e).passes.aca ∧ (u.eng e).acb = (s.eng e).passes.acb ∧ (u.eng e).flg = (s.eng e).flg) ∧
    MovesMade e m vx vy s u := by
  obtain ⟨u, hu, heng, honly⟩ := engineStep_moves (op := .movp m) h ⟨rfl, rfl, fun _ => rfl⟩ rfl (State.eng_modEng_same _ _ _)
    (modEng_onlyEngine _ _ _ _) hread
  refine ⟨u, hu, ?_, movesMade_of_eng heng honly⟩
  rw [heng, loads_eq]
  exact ⟨rfl, rfl, rfl⟩

end

end Sys2Proof.Machine

section
open Sys2Proof Sys2Proof.Machine

/-- Settles O29: the accumulator and the flags are as the operands give them, and then the moves are made, X before Y. -/
theorem engineMultiplies : Obligations.EngineMultiplies := by
  unfold Obligations.EngineMultiplies
  rintro s e h b ue x y rx ry m vx vy f p acc rfl rfl rfl hx hy rfl rfl i v g hi
  have hread : MovesRead s e m ue vx vy := ⟨hx, hy⟩
  have hmade : ∃ u, exec i s = .next u ∧
      (if i = .movp e m ue then (u.eng e).aca = (s.eng e).passes.aca ∧ (u.eng e).acb = (s.eng e).passes.acb ∧ (u.eng e).flg = (s.eng e).flg
       else (u.eng e).acc b false = v ∧ (u.eng e).passes.acc b true = v ∧ (u.eng e).acc (!b) false = (s.eng e).passes.acc (!b) false ∧
         (u.eng e).flg = g) ∧ MovesMade e m vx vy s u := by
    rcases hi with ⟨rfl, rfl, rfl⟩ | ⟨rfl, rfl, rfl⟩ | ⟨rfl, rfl, rfl⟩ | ⟨rfl, rfl, rfl⟩ | rfl
    case inl =>
      simp only [reduceCtorEq, if_false]
      exact engineStep_multiplies (op := .clr b m) h hread rfl (by cases b <;> rfl)
    case inr.inl =>
      simp only [reduceCtorEq, if_false]
      exact engineStep_multiplies (op := .mpy b x y m) h hread rfl (by cases b <;> rfl)
    case inr.inr.inl =>
      simp only [reduceCtorEq, if_false]
      exact engineStep_multiplies (op := .mac b x y m) h hread rfl rfl
    case inr.inr.inr.inl =>
      simp only [reduceCtorEq, if_false]
      exact engineStep_multiplies (op := .msu b x y m) h hread rfl rfl
    case inr.inr.inr.inr =>
      simp only [if_true]
      exact movp_moves h hread
  obtain ⟨u, hu, hacc, hmoves⟩ := hmade
  exact ⟨u, hu, hacc, hmoves.x, hmoves.y, hmoves.stepX, hmoves.stepY, hmoves.others, hmoves.eng, hmoves.only⟩

end

/-!
Results, transforms and transfers of an engine (R212-R214, R216-R218).
-/

namespace Sys2Proof.Machine

/-! ## Results, and instructions that wait (R212-R214, R216, R218) -/

section
variable {s : State} {e : Nat} (h : s.engineReady e)
include h

/-- An instruction whose unit is busy stands as the one that waits, in its delay slot still. -/
theorem engineStep_waits {op : EOp} {ue : Bool} (he : opEffect (s.unslot e) e ue false op = .wait)
    (hp : PlainOp op := by exact ⟨rfl, rfl, fun _ => rfl⟩) :
    ∃ u, run s (engineStep e op ue) = .next u ∧ u.eng e = { s.eng e with wait := some (op, ue) } ∧ OnlyEngine e [] s u := by
  have hstep : engineStep e op ue s = (s.unslot e).modEng e (fun y => { y with slot := (s.eng e).slot, wait := some (op, ue) }) := by
    rw [engineStep_ready h (.inr hp.allowed) (hp.closed _), he]
  refine ⟨_, run_eq _ _, ?_, .answer ?_⟩ <;> rw [hstep]
  · rw [State.eng_answer, State.eng_modEng_same, State.eng_modEng_same]
  · exact (modEng_onlyEngine s e _ _).trans (modEng_onlyEngine _ e _ _)

theorem setch_sets {x : RegNo} {r : ShareRun} (hrun : (s.eng e).run = some r) (hx : (s.eng e).dv x < r.count) :
    ∃ u, exec (.setch e x) s = .next u ∧ u.eng e = { (s.eng e).passes with cursor := (s.eng e).dv x } ∧ OnlyEngine e [] s u := by
  have hdv : ((s.unslot e).eng e).dv x = (s.eng e).dv x := by
    rw [State.eng_modEng_same]
    rfl
  have heffect : opEffect (s.unslot e) e false false (.setch x) = regs (s.unslot e) e (fun y => { y with cursor := y.dv x }) := by
    simp only [opEffect, unslot_runs hrun, hdv]
    rw [if_neg (by simpa using hx)]
  exact engineStep_sets h ⟨rfl, rfl, fun _ => rfl⟩ heffect rfl rfl

theorem put_appends {pr : BitVec 3} (pv : BitVec 4) (x : RegNo) (h1 : 1 ≤ pr.toNat) (h5 : pr.toNat ≤ 5) :
    ∃ u q, exec (.put e pr pv x) s = .next u ∧
      u.eng e = { (s.eng e).passes with out := { (s.eng e).out with puts := (s.eng e).out.puts ++ [q] } } ∧
      q.ch = (s.eng e).cursor ∧ q.p = pr.toNat ∧ q.v = pv.toNat ∧ q.val = signed16 ((s.eng e).dv x) ∧ q.qf = (s.eng e).flg.testBit 8 ∧
      q.qb = (s.eng e).flg.testBit 9 ∧ q.qs = (s.eng e).flg.testBit 10 ∧ OnlyEngine e [] s u := by
  obtain ⟨u, hu, heng, honly⟩ := engineStep_sets h (op := .put pr pv x) (ue := false) ⟨rfl, rfl, fun _ => rfl⟩ (if_neg (by omega)) rfl rfl
  exact ⟨u, _, hu, heng, rfl, rfl, rfl, rfl, rfl, rfl, rfl, honly⟩

theorem trn_appends (x l : RegNo) {k : BitVec 2} (tx : BitVec 2) (hk : k.toNat ≠ 3) : ∃ u q, exec (.trn e x l k tx) s = .next u ∧
    u.eng e = { (s.eng e).passes with out := { (s.eng e).out with trns := (s.eng e).out.trns ++ [q] } } ∧
    q.ch = (s.eng e).cursor ∧ q.k = k.toNat ∧ q.x = tx.toNat ∧ q.val = (s.eng e).dv x ∧ q.level = (s.eng e).dv l ∧ OnlyEngine e [] s u := by
  obtain ⟨u, hu, heng, honly⟩ := engineStep_sets h (op := .trn x l k tx) (ue := false) ⟨rfl, rfl, fun _ => rfl⟩ (if_neg hk) rfl rfl
  exact ⟨u, _, hu, heng, rfl, rfl, rfl, rfl, rfl, honly⟩

theorem palr_sets (pal : Bool) : ∃ u, exec (.palr e pal) s = .next u ∧
    u.eng e = { (s.eng e).passes with out := { (s.eng e).out with palr := some (if pal then 1 else 0) } } ∧ OnlyEngine e [] s u :=
  engineStep_sets h (op := .palr pal) (ue := false) ⟨rfl, rfl, fun _ => rfl⟩ rfl rfl rfl

theorem fout_sets : ∃ u, exec (.fout e) s = .next u ∧
    u.eng e = { (s.eng e).passes with out := { (s.eng e).out with fout := true } } ∧ OnlyEngine e [] s u :=
  engineStep_sets h (op := .fout) (ue := false) ⟨rfl, rfl, fun _ => rfl⟩ rfl rfl rfl

/-- FFTW without a transform outstanding returns the scaling count, and with one waits (R216). -/
theorem fftw_returns (d : RegNo) (hfb : (s.eng e).fb = false) :
    ∃ u, exec (.fftw e d) s = .next u ∧ WritesD e [] d ((s.eng e).scal % 65536) (s.eng e).flg s u :=
  engineStep_writesD h (op := .fftw d) (ue := false) (if_neg (by rw [State.eng_modEng_same]; simp [hfb])) rfl rfl

theorem fftw_waits (d : RegNo) (hfb : (s.eng e).fb = true) :
    ∃ u, exec (.fftw e d) s = .next u ∧ u.eng e = { s.eng e with wait := some (.fftw d, false) } ∧ OnlyEngine e [] s u := by
  have heffect : opEffect (s.unslot e) e false false (.fftw d) = .wait := if_pos (by rw [State.eng_modEng_same]; exact hfb)
  exact engineStep_waits h heffect

/-- DMAW without a transfer outstanding passes, and with one waits (R218). -/
theorem dmaw_passes (hx : (s.eng e).xfer = none) : ∃ u, exec (.dmaw e) s = .next u ∧ u.eng e = (s.eng e).passes ∧ OnlyEngine e [] s u := by
  have heffect : opEffect (s.unslot e) e false false .dmaw = .ok (s.unslot e) := if_neg (by rw [State.eng_modEng_same]; simp [hx])
  refine ⟨_, engineStep_plain h ⟨rfl, rfl, fun _ => rfl⟩ heffect (by rw [State.eng_modEng_same]), ?_, (modEng_onlyEngine _ _ _ _).passed⟩
  rw [passed_eng, State.eng_modEng_same, Eng.passes_eq]

theorem dmaw_waits (hx : (s.eng e).xfer ≠ none) :
    ∃ u, exec (.dmaw e) s = .next u ∧ u.eng e = { s.eng e with wait := some (.dmaw, false) } ∧ OnlyEngine e [] s u := by
  have heffect : opEffect (s.unslot e) e false false .dmaw = .wait :=
    if_pos (by rw [State.eng_modEng_same]; exact Option.isSome_iff_ne_none.mpr hx)
  exact engineStep_waits h heffect

end

/-! ## Transfers between DRAM and an engine's memories (R218) -/

/-- The transfer that FILL or SPILL begins: its end in DRAM behind the share's state there, its local end at the address in Aa. -/
def Eng.transfer (x : Eng) (r : ShareRun) (l : ShareLayout) (h : ProgHeader) (spill : Bool) (a m n : RegNo) : Transfer :=
  ⟨spill, l.dram + 2 * (r.first * h.ext + 16 * x.dv m), decide (x.addr a / 2 ^ 17 % 2 = 1), x.addr a % 2 ^ 17, decide (a.toNat < 4), x.dv n⟩

/-- The scratch words of an engine that count as written once the transfer has begun: those that a FILL brings are (R206). -/
def Transfer.marks (t : Transfer) (w : List (Nat × Bool)) : List (Nat × Bool) :=
  if t.yard ∨ t.spill then w else (List.range t.n).foldl (fun w i => kvSet false w (scratchKey t.xmem (t.word + i)) true) w

/-- The engine once that transfer has begun. -/
def Eng.begins (x : Eng) (t : Transfer) : Eng := { x with xfer := some t, written := t.marks x.written }

theorem SameAccess.rangeOk {s z : State} {e : Nat} (h : SameAccess e s z) (hw : (z.eng e).written = (s.eng e).written) (r : RegNo) (a n : Nat)
    (write : Bool) : z.rangeOk e r a n write = s.rangeOk e r a n write := by
  simp only [State.rangeOk, h.permits (.inr hw)]

section
variable {z : State} {e : Nat} {x : Eng} {r : ShareRun} {l : ShareLayout} {h : ProgHeader} {spill : Bool} {a m n : RegNo}
  (heng : z.eng e = x) (hrun : x.run = some r) (hl : r.layout = some l) (hh : r.hdr = some h) (hx : x.xfer = none)
  (h1 : 1 ≤ x.dv n) (h4096 : x.dv n ≤ 4096) (hfit : 16 * x.dv m + x.dv n ≤ r.count * h.ext)
  (hrange : z.rangeOk e a (x.addr a) (x.dv n) (!spill) = true)
  (hgood : spill = true → ∀ i p, i < x.dv n → placeOf a (x.addr a + i) = some p → z.isBad (p.byte e) = false)
include heng hrun hl hh hx h1 h4096 hfit hrange hgood

/-- A transfer of a permitted range begins, and marks the scratch words that it will fill. -/
theorem transferStart_begins : transferStart z e spill a m n false =
    regs z e (fun y => y.begins (x.transfer r l h spill a m n)) := by
  subst heng
  obtain ⟨tag, idx, first, count, start, lay, hdr⟩ := r
  obtain rfl : lay = some l := hl
  obtain rfl : hdr = some h := hh
  unfold transferStart
  dsimp only
  rw [if_neg (by simp [hx]), if_neg (by omega), if_neg (by omega), hrun]
  dsimp only
  rw [if_neg (by rw [hrange]; simp only [Bool.not_true, Bool.false_eq_true, or_false]; dsimp only at hfit; omega), if_neg ?_, if_neg (by simp)]
  · rfl
  · rintro ⟨hspill, hany⟩
    obtain ⟨i, hi, hbad⟩ := List.any_eq_true.mp hany
    cases hp : placeOf a ((z.eng e).addr a + i) with
    | none => simp [hp] at hbad
    | some p =>
      rw [hp] at hbad
      exact absurd hbad (by simp [hgood hspill i p (List.mem_range.mp hi) hp])

end

section
variable {s : State} {e : Nat} (hready : s.engineReady e) {r : ShareRun} {l : ShareLayout} {h : ProgHeader} {a m n : RegNo}
  (hrun : (s.eng e).run = some r) (hl : r.layout = some l) (hh : r.hdr = some h) (hx : (s.eng e).xfer = none)
  (h1 : 1 ≤ (s.eng e).dv n) (h4096 : (s.eng e).dv n ≤ 4096) (hfit : 16 * (s.eng e).dv m + (s.eng e).dv n ≤ r.count * h.ext)
include hready hrun hl hh hx h1 h4096 hfit

/-- FILL and SPILL of a permitted range begin their transfer and pass. -/
theorem transfer_begins {op : EOp} {spill : Bool} (hop : ∀ z, opEffect z e false false op = transferStart z e spill a m n false) (hp : PlainOp op)
    (hrange : s.rangeOk e a ((s.eng e).addr a) ((s.eng e).dv n) (!spill) = true)
    (hgood : spill = true → ∀ i p, i < (s.eng e).dv n → placeOf a ((s.eng e).addr a + i) = some p → s.isBad (p.byte e) = false) :
    ∃ u t, run s (engineStep e op false) = .next u ∧ (u.eng e).xfer = some t ∧ t.spill = spill ∧
      t.n = (s.eng e).dv n ∧ t.dram = l.dram + 2 * (r.first * h.ext + 16 * (s.eng e).dv m) ∧ t.word = (s.eng e).addr a % 2 ^ 17 ∧
      u.eng e = { (s.eng e).passes with xfer := some t, written := (u.eng e).written } ∧ OnlyEngine e [] s u := by
  have hsame := unslot_sameAccess s e
  have heng : (s.unslot e).eng e = (s.eng e).unslotted := State.eng_modEng_same _ _ _
  have hbegins := transferStart_begins heng hrun hl hh hx h1 h4096 hfit ((hsame.rangeOk (by rw [heng]) _ _ _ _).trans hrange) hgood
  obtain ⟨u, hu, hueng, honly⟩ := engineStep_sets hready hp ((hop _).trans hbegins) rfl rfl
  exact ⟨u, _, hu, by rw [hueng]; rfl, rfl, rfl, rfl, rfl, by rw [hueng]; rfl, honly⟩

end

/-! ## The FFT unit (R216, R217) -/

@[simp] theorem fftUnit_setFft (s : State) (y : Nat) (u : FftUnit) : (s.setFft y u).fftUnit y = u := kvGet_kvSet_same _ _ _ _

theorem fftUnit_passed (s : State) (e : Nat) (z : State) (y : Nat) : (s.passed e z).fftUnit y = z.fftUnit y := by
  rw [State.fftUnit, passed_fab]
  rfl

theorem fftUnit_answer (s : State) (q : List Instr) (y : Nat) : (s.answer q).fftUnit y = s.fftUnit y := by
  rw [State.fftUnit, State.answer_fab]
  rfl

/-- A transform submitted by engine e, which has FB set until it is complete (R216). -/
def State.submitFft (s : State) (e : Nat) (q : FftReq) : State :=
  (s.setFft (e / 8) { s.fftUnit (e / 8) with queue := (s.fftUnit (e / 8)).queue ++ [q] }).modEng e (fun x => { x with fb := true })

section
variable (s : State) (e : Nat) (q : FftReq)

theorem submitFft_eng : (s.submitFft e q).eng e = { s.eng e with fb := true } := State.eng_modEng_same _ _ _

theorem submitFft_fftUnit :
    (s.submitFft e q).fftUnit (e / 8) = { s.fftUnit (e / 8) with queue := (s.fftUnit (e / 8)).queue ++ [q] } := fftUnit_setFft _ _ _

end

/-- FFTS of 2² to 2¹² values within the share's window. -/
theorem fftSubmit_submits {z : State} {e : Nat} {x : Eng} {r : ShareRun} {l : ShareLayout} {h : ProgHeader} {a d : RegNo} (inv hann : Bool)
    (heng : z.eng e = x) (hrun : x.run = some r) (hl : r.layout = some l) (hh : r.hdr = some h) (hfb : x.fb = false) (h2 : 2 ≤ x.dv d)
    (h12 : x.dv d ≤ 12) (hyard : x.addr a / 2 ^ 17 % 2 = 1) (hfrom : l.fft ≤ x.addr a % 2 ^ 17)
    (hto : x.addr a % 2 ^ 17 + 2 * 2 ^ x.dv d ≤ l.fft + h.fftWindow) :
    fftSubmit z e a d inv hann = .ok (z.submitFft e ⟨e % 8, x.addr a % 2 ^ 17, x.dv d, inv, hann, 0, []⟩) := by
  subst heng
  obtain ⟨tag, idx, first, count, start, lay, hdr⟩ := r
  obtain rfl : lay = some l := hl
  obtain rfl : hdr = some h := hh
  unfold fftSubmit
  dsimp only
  rw [if_neg (by simp [hfb]), if_neg (by omega), hrun]
  dsimp only
  rw [if_pos ⟨hyard, hfrom, hto⟩]
  rfl

theorem ffts_submits {s : State} {e : Nat} (hready : s.engineReady e) {a x : RegNo} (inv hann : Bool) {r : ShareRun} {l : ShareLayout}
    {h : ProgHeader} (hrun : (s.eng e).run = some r) (hl : r.layout = some l) (hh : r.hdr = some h) (hfb : (s.eng e).fb = false)
    (h2 : 2 ≤ (s.eng e).dv x) (h12 : (s.eng e).dv x ≤ 12) (hyard : (s.eng e).addr a / 2 ^ 17 % 2 = 1) (hfrom : l.fft ≤ (s.eng e).addr a % 2 ^ 17)
    (hto : (s.eng e).addr a % 2 ^ 17 + 2 * 2 ^ (s.eng e).dv x ≤ l.fft + h.fftWindow) :
    ∃ u, exec (.ffts e a x inv hann) s = .next u ∧ u.eng e = { (s.eng e).passes with fb := true } ∧
      (u.fftUnit (e / 8)).queue = (s.fftUnit (e / 8)).queue ++ [⟨e % 8, (s.eng e).addr a % 2 ^ 17, (s.eng e).dv x, inv, hann, 0, []⟩] ∧
      (u.fftUnit (e / 8)).busy = (s.fftUnit (e / 8)).busy := by
  have heng : (s.unslot e).eng e = (s.eng e).unslotted := State.eng_modEng_same _ _ _
  have heffect := fftSubmit_submits inv hann heng hrun hl hh hfb h2 h12 hyard hfrom hto
  refine ⟨_, engineStep_plain (op := .ffts a x inv hann) hready ⟨rfl, rfl, fun _ => rfl⟩ heffect (by rw [submitFft_eng, heng]), ?_, ?_, ?_⟩
  · rw [passed_eng, submitFft_eng, heng]
    rfl
  · rw [fftUnit_passed, submitFft_fftUnit]
    rfl
  · rw [fftUnit_passed, submitFft_fftUnit]
    rfl

/-! ## The unit at work (R216, R217, R251) -/

theorem OnlyChanges.br {fs : List Fld} {ps : List Part} (s : State) (x : Bril) (h : Part.br ∈ ps) : OnlyChanges fs ps s { s with br := x } :=
  ⟨fun _ _ _ => rfl, fun p hp => by cases p with | br => exact absurd h hp | _ => rfl⟩

theorem OnlyChanges.setFft {fs : List Fld} {ps : List Part} (s : State) (y : Nat) (u : FftUnit) (h : Part.fab ∈ ps) :
    OnlyChanges fs ps s (s.setFft y u) := .fab s _ h

/-- The unit of a yard takes its oldest request (R217). -/
theorem fftTransformStart_takes {s : State} {y : Nat} {r : FftReq} {rest : List FftReq} (hidle : (s.fftUnit y).busy = none)
    (hqueue : (s.fftUnit y).queue = r :: rest) : ∃ u, exec (.fftTransformStart y) s = .next u ∧ (u.fftUnit y).busy = some r ∧
    (u.fftUnit y).queue = rest ∧ OnlyChanges [] [.fab] s u := by
  have htakes : fftStart y s = s.setFft y { queue := rest, busy := some r } := by simp only [fftStart, hidle, hqueue]
  refine ⟨_, run_eq _ _, ?_, ?_, .answer (t := s.now) ?_⟩
  · rw [fftUnit_answer, htakes, fftUnit_setFft]
  · rw [fftUnit_answer, htakes, fftUnit_setFft]
  · rw [advance_self, htakes]
    exact .setFft _ _ _ (by decide)

/-- The unit of a yard with the transform that it serves done. -/
def State.freeUnit (s : State) (y : Nat) : State := s.setFft y { s.fftUnit y with busy := none }

theorem freeUnit_fftUnit (s : State) (y : Nat) :
    ((s.freeUnit y).fftUnit y).busy = none ∧ ((s.freeUnit y).fftUnit y).queue = (s.fftUnit y).queue := by
  rw [State.freeUnit, fftUnit_setFft]
  exact ⟨rfl, rfl⟩

/-- Free words are drawn from the free-value counter alone. -/
theorem freeWords_state (s : State) (n : Nat) : (s.freeWords n).2 = { s with freeCtr := s.freeCtr + n } := by
  induction n generalizing s with
  | zero => rfl
  | succ n ih =>
    refine (ih _).trans ?_
    simp only [Nat.add_assoc, Nat.add_comm 1 n]

/-- Words written to yard memory change the memory, and may clear words from those that stand uncorrectable. -/
theorem wrYard_onlyChanges (s : State) (y w : Nat) (vs : List Nat) : OnlyChanges [] [.fab, .mem] s (s.wrYard y w vs) := by
  induction vs generalizing s w with
  | nil => exact .refl s
  | cons v vs ih => exact (wrWord_onlyChanges s v _).trans (ih _ _)

theorem wrYard_fab (s : State) (y w : Nat) (vs : List Nat) : (s.wrYard y w vs).fab = { s.fab with bad := (s.wrYard y w vs).fab.bad } := by
  induction vs generalizing s w with
  | nil => rfl
  | cons v vs ih =>
    rw [State.wrYard, ih, wrWord_eq]

theorem resume_idle {s : State} {e : Nat} (h : (s.eng e).wait = none) : s.resume e = s := by
  simp only [State.resume, h]

theorem rdCpx_congr {s z : State} (hmem : z.mem = s.mem) (y w n : Nat) : z.rdCpx y w n = s.rdCpx y w n := by
  simp only [State.rdCpx, rdLE_congr hmem]

/-- The result of a transform that engine i has submitted, as the unit puts it back in place. -/
def State.putSpectrum (s : State) (y : Nat) (r : FftReq) : State :=
  let (zs, _, ovf) := fftOf r.log2n r.inv r.hann (s.rdCpx y r.word (2 ^ r.log2n))
  let ws := zs.flatMap (fun z => [pat16 z.1, pat16 z.2])
  let (ws, s) := if ovf then s.freeWords (2 * 2 ^ r.log2n) else (ws, s)
  s.wrYard y r.word ws

/-- It writes words to yard memory, which are free where a component has left 16 bits (log entry 1). -/
theorem putSpectrum_writes (s : State) (y : Nat) (r : FftReq) : ∃ c vs, s.putSpectrum y r = State.wrYard { s with freeCtr := c } y r.word vs := by
  unfold State.putSpectrum
  obtain ⟨zs, k, ovf⟩ := fftOf r.log2n r.inv r.hann (s.rdCpx y r.word (2 ^ r.log2n))
  cases ovf with
  | true => exact ⟨_, _, congrArg (State.wrYard · y r.word _) (freeWords_state _ _)⟩
  | false => exact ⟨s.freeCtr, _, rfl⟩

theorem putSpectrum_onlyChanges (s : State) (y : Nat) (r : FftReq) : OnlyChanges [] [.fab, .mem, .freeCtr] s (s.putSpectrum y r) := by
  obtain ⟨c, vs, hput⟩ := putSpectrum_writes s y r
  rw [hput]
  exact (OnlyChanges.freeCtr s c (by decide)).trans ((wrYard_onlyChanges _ _ _ _).mono (fun _ => id) (by decide))

theorem putSpectrum_fab (s : State) (y : Nat) (r : FftReq) : (s.putSpectrum y r).fab = { s.fab with bad := (s.putSpectrum y r).fab.bad } := by
  obtain ⟨c, vs, hput⟩ := putSpectrum_writes s y r
  rw [hput, wrYard_fab]

theorem fftDone_engine {s : State} {y : Nat} {r : FftReq} (hbusy : (s.fftUnit y).busy = some r) (h8 : r.eng < 8) :
    fftDone y s = (((s.freeUnit y).putSpectrum y r).modEng (8 * y + r.eng)
      (fun x => { x with fb := false, scal := (fftOf r.log2n r.inv r.hann (s.rdCpx y r.word (2 ^ r.log2n))).2.1 })).resume (8 * y + r.eng) := by
  simp only [fftDone, hbusy]
  rw [if_neg (by omega)]
  rfl

/-- A transform of an engine completes: FB is cleared and the engine holds the scaling count (R216). -/
theorem fftTransformDone_engine {s : State} (t : Nat) {y : Nat} {r : FftReq} (hbusy : (s.fftUnit y).busy = some r) (h8 : r.eng < 8)
    (hwait : (s.eng (8 * y + r.eng)).wait = none) : ∃ u, exec (.fftTransformDone t y) s = .next u ∧ (u.fftUnit y).busy = none ∧
    (u.fftUnit y).queue = (s.fftUnit y).queue ∧ (u.eng (8 * y + r.eng)).fb = false ∧
    (u.eng (8 * y + r.eng)).scal = (fftOf r.log2n r.inv r.hann (s.rdCpx y r.word (2 ^ r.log2n))).2.1 ∧
    OnlyChanges [] [.fab, .mem, .freeCtr] s u := by
  obtain ⟨z, hz⟩ : ∃ z, z = ((s.advance t).freeUnit y).putSpectrum y r := ⟨_, rfl⟩
  have heng : z.eng (8 * y + r.eng) = s.eng (8 * y + r.eng) := by
    rw [hz, State.eng, putSpectrum_fab]
    rfl
  have hunit : z.fftUnit y = ((s.advance t).freeUnit y).fftUnit y := by
    rw [hz, State.fftUnit, putSpectrum_fab]
    rfl
  obtain ⟨hfree, hqueue⟩ := freeUnit_fftUnit (s.advance t) y
  have hdone : fftDone y (s.advance t) = z.modEng (8 * y + r.eng)
      (fun x => { x with fb := false, scal := (fftOf r.log2n r.inv r.hann (s.rdCpx y r.word (2 ^ r.log2n))).2.1 }) := by
    rw [fftDone_engine (s := s.advance t) hbusy h8, hz, rdCpx_congr (State.advance_mem s t)]
    refine resume_idle ?_
    rw [State.eng_modEng_same, ← hwait, ← heng, hz]
  refine ⟨_, rfl, ?_, ?_, ?_, ?_, .answer (t := t) ?_⟩
  · rw [fftUnit_answer, hdone]
    exact (congrArg FftUnit.busy hunit).trans hfree
  · rw [fftUnit_answer, hdone]
    exact (congrArg FftUnit.queue hunit).trans hqueue
  · rw [State.eng_answer, hdone, State.eng_modEng_same]
  · rw [State.eng_answer, hdone, State.eng_modEng_same]
  · rw [hdone, hz]
    exact ((OnlyChanges.setFft _ _ _ (by decide)).trans (putSpectrum_onlyChanges _ _ _)).trans (.fab _ _ (by decide))

/-- The profile being formed takes a bin that it still waits for (R251). -/
theorem takeSpectrum_takes {s : State} {r : FftReq} {j : BrJob} (hseq : r.seq ≠ []) (hjob : s.br.job = some j)
    (hleft : j.left.contains r.bin = true) : ∃ c re, s.takeSpectrum r = { s with freeCtr := c, br := { s.br with job := some { j with
      left := j.left.filter (· ≠ r.bin), points := (r.bin, ((fftOf r.log2n r.inv r.hann r.seq).2.1, re)) :: j.points } } } := by
  unfold State.takeSpectrum
  rw [hjob]
  dsimp only
  rw [if_neg (by rw [hleft]; simp [hseq])]
  obtain ⟨zs, k, ovf⟩ := fftOf r.log2n r.inv r.hann r.seq
  cases ovf with
  | true =>
    have hdrawn := freeWords_state s (2 ^ r.log2n)
    dsimp only [if_true]
    generalize s.freeWords (2 ^ r.log2n) = drawn at hdrawn ⊢
    obtain ⟨ws, w⟩ := drawn
    obtain rfl : w = _ := hdrawn
    exact ⟨_, _, rfl⟩
  | false => exact ⟨s.freeCtr, _, rfl⟩

/-- A transform of the Brillouin channel completes for the profile that waits for its bin (R216, R251). -/
theorem fftTransformDone_profile {s : State} (t : Nat) {y : Nat} {r : FftReq} {j : BrJob} (hbusy : (s.fftUnit y).busy = some r) (h8 : 8 ≤ r.eng)
    (hseq : r.seq ≠ []) (hjob : s.br.job = some j) (hleft : j.left.contains r.bin = true) :
    ∃ u i, exec (.fftTransformDone t y) s = .next u ∧ (u.fftUnit y).busy = none ∧ (u.fftUnit y).queue = (s.fftUnit y).queue ∧
    u.br.job = some i ∧ i.left = j.left.filter (· ≠ r.bin) ∧ (kvGet (0, []) i.points r.bin).1 = (fftOf r.log2n r.inv r.hann r.seq).2.1 ∧
    OnlyChanges [] [.fab, .br, .freeCtr] s u := by
  have hdone : fftDone y (s.advance t) = ((s.advance t).freeUnit y).takeSpectrum r := by
    have hadvanced : ((s.advance t).fftUnit y).busy = some r := hbusy
    simp only [fftDone, hadvanced]
    rw [if_pos h8]
    rfl
  obtain ⟨hfree, hqueue⟩ := freeUnit_fftUnit (s.advance t) y
  obtain ⟨c, re, htakes⟩ := takeSpectrum_takes (s := (s.advance t).freeUnit y) hseq hjob hleft
  rw [htakes] at hdone
  refine ⟨_, { j with left := j.left.filter (· ≠ r.bin), points := (r.bin, ((fftOf r.log2n r.inv r.hann r.seq).2.1, re)) :: j.points }, rfl,
    ?_, ?_, ?_, rfl, ?_, .answer (t := t) ?_⟩
  · rw [fftUnit_answer, hdone]
    exact hfree
  · rw [fftUnit_answer, hdone]
    exact hqueue
  · rw [State.answer_br, hdone]
  · simp [kvGet]
  · rw [hdone]
    have hfreed : OnlyChanges [] [.fab, .br, .freeCtr] (s.advance t) ((s.advance t).freeUnit y) := .setFft _ _ _ (by decide)
    exact hfreed.trans ((OnlyChanges.freeCtr _ c (by decide)).trans (.br _ _ (by decide)))

/-! ## A transfer completes (R218, R296-R298) -/

/-- What the copy of a transfer may change: the memory and the memory controller, and of the fabric all but its engines. -/
structure CopyOnly (s u : State) : Prop where
  changes : OnlyChanges dramFields [.fab, .mem, .dram] s u
  engines : u.fab.engines = s.fab.engines

namespace CopyOnly

variable {s u w : State}

theorem refl (s : State) : CopyOnly s s := ⟨.refl s, rfl⟩

theorem trans (h : CopyOnly s u) (k : CopyOnly u w) : CopyOnly s w := ⟨h.changes.trans k.changes, k.engines.trans h.engines⟩

theorem ite {c : Prop} [Decidable c] {a b : State} (ha : CopyOnly s a) (hb : CopyOnly s b) : CopyOnly s (if c then a else b) := by
  split
  · exact ha
  · exact hb

theorem each {α : Type} {xs : List α} {f : α → State → State} (hf : ∀ x v, CopyOnly v (f x v)) (s : State) :
    CopyOnly s (Machine.each xs f s) := by
  unfold Machine.each
  induction xs generalizing s with
  | nil => exact .refl s
  | cons x xs ih => exact (hf x s).trans (ih _)

/-- What stays within the memory controller. -/
theorem ofMemory (h : OnlyChanges dramFields [.mem, .dram] s u) : CopyOnly s u :=
  ⟨h.mono (fun _ => id) (by decide), congrArg Fabric.engines (h.2 .fab (by decide))⟩

theorem wrWord (s : State) (a v : Nat) : CopyOnly s (s.wrWord a v) :=
  ⟨(wrWord_onlyChanges s v a).mono (by decide) (by decide), by rw [wrWord_eq]⟩

theorem markBad (s : State) (a : Nat) (code : Bool) : CopyOnly s (s.markBad a code) := ⟨.fab _ _ (by decide), rfl⟩

theorem fillRead (s : State) (w : Nat) : CopyOnly s (s.fillRead w).2.2 := by
  have hread := demandRead_onlyChanges s w
  unfold State.fillRead
  generalize s.demandRead w = word at hread ⊢
  obtain ⟨d, ue, v⟩ := word
  have hreported : OnlyChanges dramFields [.mem, .dram] v ((v.bump F.EC_UE_COUNT F.EC_CNT_SAT_UE_SAT 1).raisePerSecond 0x0902 3 0) :=
    (OnlyChanges.bump _ _ _ _ (by decide) (by decide)).trans (Posting.raiseLimited _ _ _ _ _ _).onlyChanges
  exact .ofMemory (hread.trans (.ite hreported (.refl v)))

theorem fillWords (s : State) (e : Nat) (t : Transfer) : CopyOnly s (s.fillWords e t) := by
  unfold State.fillWords
  refine each (fun k v => ?_) s
  have hread := fillRead v (t.dram / 8 + k)
  generalize v.fillRead (t.dram / 8 + k) = word at hread ⊢
  obtain ⟨d, ue, w⟩ := word
  refine hread.trans (each (fun h w => ?_) w)
  exact .ite (.refl w) ((wrWord _ _ _).trans (.ite (markBad _ _ _) (.refl _)))

/-- The copy of a transfer, in either direction. -/
theorem copyTransfer (s : State) (e : Nat) (t : Transfer) : CopyOnly s (s.copyTransfer e t) :=
  .ite (.ofMemory (writeWords_onlyChanges _ _ _ _)) (.fillWords _ _ _)

end CopyOnly

/-- The outstanding transfer of an engine completes: its words are copied, and no other engine changes (R218). -/
theorem transferDone_copies {s : State} {e : Nat} (t : Nat) {x : Transfer} (hx : (s.eng e).xfer = some x) (hwait : (s.eng e).wait = none) :
    ∃ u, exec (.transferDone t e) s = .next u ∧ (u.eng e).xfer = none ∧ (∀ i, i ≠ e → u.eng i = s.eng i) ∧
    u.mem = ((s.advance t).copyTransfer e x).mem ∧ OnlyChanges dramFields [.fab, .mem, .dram] s u := by
  have hcopy := CopyOnly.copyTransfer (s.advance t) e x
  have heng : ∀ i, ((s.advance t).copyTransfer e x).eng i = s.eng i := fun i => by
    rw [State.eng, hcopy.engines]
    rfl
  have hdone : transferDone e (s.advance t) = ((s.advance t).copyTransfer e x).modEng e (fun y => { y with xfer := none }) := by
    simp only [transferDone, State.eng_advance, hx]
    refine resume_idle ?_
    rw [State.eng_modEng_same, ← hwait, ← heng e]
  refine ⟨_, rfl, ?_, fun i hi => ?_, ?_, .answer (t := t) ?_⟩
  · rw [State.eng_answer, hdone, State.eng_modEng_same]
  · rw [State.eng_answer, hdone, State.eng_modEng_ne _ _ hi, heng]
  · rw [State.answer_mem, hdone]
    rfl
  · rw [hdone]
    exact hcopy.changes.trans (.fab _ _ (by decide))

end Sys2Proof.Machine

section
open Sys2Proof Sys2Proof.Machine

/-- Settles O30: each instruction by the rule of its unit, and each unit by what it completes. -/
theorem engineUnits : Obligations.EngineUnits := by
  unfold Obligations.EngineUnits
  intro s e
  refine ⟨fun h d x l a m n pr pv k tx pal inv hann => ⟨?setch, ?put, ?trn, ?palr, ?fout, ?ffts, ?fftw, ?fftwWaits, ?transfers,
    ?dmawWaits, ?dmaw⟩, ?start, ?engine, ?profile, ?transferDone⟩
  case setch => exact fun r hrun hx => setch_sets h hrun hx
  case put => exact fun h1 h5 => put_appends h pv x h1 h5
  case trn => exact fun hk => trn_appends h x l tx hk
  case palr => exact palr_sets h pal
  case fout => exact fout_sets h
  case ffts =>
    rintro r ly hd w ad hrun hl hh hfb rfl h2 h12 rfl hyard hfrom hto
    exact ffts_submits h inv hann hrun hl hh hfb h2 h12 hyard hfrom hto
  case fftw => exact fun hfb => fftw_returns h d hfb
  case fftwWaits => exact fun hfb => fftw_waits h d hfb
  case transfers =>
    intro r ly hd hrun hl hh hx h1 h4096 hfit
    constructor
    · exact fun hrange => transfer_begins h hrun hl hh hx h1 h4096 hfit (op := .fill a m n) (fun _ => rfl) ⟨rfl, rfl, fun _ => rfl⟩ hrange nofun
    · exact fun hrange hgood => transfer_begins h hrun hl hh hx h1 h4096 hfit (op := .spill a m n) (fun _ => rfl) ⟨rfl, rfl, fun _ => rfl⟩ hrange
        (fun _ => hgood)
  case dmawWaits => exact fun hx => dmaw_waits h hx
  case dmaw => exact fun hx => dmaw_passes h hx
  case start => exact fun y r rest hidle hqueue => fftTransformStart_takes hidle hqueue
  case engine => exact fun t y r hbusy h8 hwait => fftTransformDone_engine t hbusy h8 hwait
  case profile => exact fun t y r j hbusy h8 hseq hjob hleft => fftTransformDone_profile t hbusy h8 hseq hjob hleft
  case transferDone => exact fun t x hx hwait => transferDone_copies t hx hwait

end

/-!
A trigger on a capture line whose fill start awaits its first input (R226, R227, R230).
-/

namespace Sys2Proof.Machine

/-! ## Reads of a line -/

@[simp] theorem State.line_setLine_same (s : State) (n : Nat) (x : Line) : (s.setLine n x).line n = x := kvGet_kvSet_same _ _ _ _

@[simp] theorem State.line_modLine_same (s : State) (n : Nat) (f : Line → Line) : (s.modLine n f).line n = f (s.line n) := State.line_setLine_same _ _ _

/-- A line reads the recorder only. -/
theorem State.line_congr {s u : State} (h : u.recd = s.recd) (n : Nat) : u.line n = s.line n := by rw [State.line, h, State.line]

@[simp] theorem State.line_advance (s : State) (t n : Nat) : (s.advance t).line n = s.line n := rfl

@[simp] theorem State.line_answer (s : State) (q : List Instr) (n : Nat) : (s.answer q).line n = s.line n := State.line_congr (State.answer_recd s q) n

@[simp] theorem State.line_syncLine (s : State) (m n : Nat) : (s.syncLine m).line n = s.line n := rfl

@[simp] theorem State.line_raise (s : State) (code inst val n : Nat) : (s.raise code inst val).line n = s.line n :=
  State.line_congr (State.raise_recd s code inst val) n

@[simp] theorem State.line_bump (s : State) (c k : Fld) (m n : Nat) : (s.bump c k m).line n = s.line n := State.line_congr (State.bump_recd s c k m) n

/-! ## Lines without an open capture -/

section
variable {s : State} {n : Nat} (hcaps : (s.line n).caps = [])
include hcaps

theorem closeWhere_of_no_caps (cause : Nat) (p : Capture → Bool) : s.closeWhere n cause p = s := by simp [State.closeWhere, hcaps]

theorem ignoreTrigger_caps : ((s.ignoreTrigger n).line n).caps = [] := by simpa [State.ignoreTrigger] using hcaps

/-- A line that becomes BLOCKED has nothing to close. -/
theorem blockLine_caps : ((s.blockLine n).line n).caps = [] := by
  unfold State.blockLine
  split
  · exact hcaps
  · simpa [closeWhere_of_no_caps hcaps] using hcaps

theorem checkBlocked_caps : ((s.checkBlocked n).line n).caps = [] := by
  unfold State.checkBlocked
  dsimp only
  split
  · exact blockLine_caps hcaps
  · exact hcaps

/-- Until the first input after arming or after BLOCKED there is no fill start, and a trigger is ignored (R230). -/
theorem processTrigger_of_fresh (hfresh : (s.line n).fresh.isSome = true) (x : Trig) (i : Int) : s.processTrigger n x i = s.ignoreTrigger n := by
  by_cases hblocked : (s.line n).blocked = true <;> simp [State.processTrigger, hcaps, hfresh, hblocked]

end

/-! ## The command -/

section
variable {s : State} {n : Nat} {x : Trig}

/-- The one trigger of a line, once ready, is the one processed (R228). -/
theorem triggerProcess_single {tm : Nat} {i : Int} (hn : n < 16) (htrigs : (s.line n).trigs = [x]) (hready : x.ready = some (tm, i)) :
    triggerProcess n s = (((s.setLine n { s.line n with trigs := [] }).processTrigger n x i).checkBlocked n).syncLine n := by
  simp [triggerProcess, htrigs, hready, Nat.not_le.mpr hn]

/-- A trigger processed before the fill start of its line opens no capture (R230). -/
theorem triggerProcess_caps_of_fresh {tm : Nat} {i : Int} (hn : n < 16) (htrigs : (s.line n).trigs = [x]) (hready : x.ready = some (tm, i))
    (hcaps : (s.line n).caps = []) (hfresh : (s.line n).fresh.isSome = true) : ((triggerProcess n s).line n).caps = [] := by
  have hcaps' : ((s.setLine n { s.line n with trigs := [] }).line n).caps = [] := by rw [State.line_setLine_same, hcaps]
  rw [triggerProcess_single hn htrigs hready, processTrigger_of_fresh hcaps' (by rw [State.line_setLine_same, hfresh]), State.line_syncLine]
  exact checkBlocked_caps (ignoreTrigger_caps hcaps')

theorem exec_triggerProcess_caps_of_fresh {u : State} {t tm : Nat} {i : Int} (hn : n < 16) (htrigs : (s.line n).trigs = [x])
    (hready : x.ready = some (tm, i)) (hcaps : (s.line n).caps = []) (hfresh : (s.line n).fresh.isSome = true)
    (hu : exec (.triggerProcess t n) s = .next u) : (u.line n).caps = [] := by
  rw [runAt_next hu, State.line_answer]
  exact triggerProcess_caps_of_fresh (s := s.advance t) hn htrigs hready hcaps hfresh

end

/-! ## A line armed again -/

/-- Line 0 is OFF, with room in its ring and a window of 5 inputs before and 10 from the trigger; its section's latest input was input 5. -/
def offLineState : State :=
  { (((State.reset.put F.PM_DOMAINS_ON 0xFFFF).put (F.EV_RING_MIB 0) 1).put (F.EV_PRE_INPUTS 0) 5).put (F.EV_POST_INPUTS 0) 10 with
    recd := { lines := [(0, { last := some (5, 0) })] } }

/-- The host arms that line and triggers it before the next input. -/
def rearmedState : State := hostTrigger 1 (arm 0 offLineState)

theorem rearmed_line : rearmedState.line 0 =
    { trigs := [⟨3, 0, some (0, 5)⟩], last := some (5, 0), armed := true, fresh := some 0 } := by decide

end Sys2Proof.Machine

section
open Sys2Proof Sys2Proof.Machine

/-- Refutes O23: the clause of a trigger that opens a capture asks only that the window not begin before the fill start last noted, and has no premise
that this fill start is in force. On a line armed again it is still that of the earlier arming: by R230 the fill start is the first input after the
arming, which has yet to come, so that the host's trigger on the input before it is ignored. -/
theorem not_recorderCommands : ¬ Obligations.RecorderCommands := by
  intro h
  obtain ⟨-, hprocess, -⟩ := h rearmedState 0
  obtain ⟨hopens, -⟩ := hprocess 0 3 0 5 5 0 0 (by decide) (by rw [rearmed_line])
  obtain ⟨u, c, hu, hcaps, -⟩ := hopens (by rw [rearmed_line]) (by rw [rearmed_line]) (by decide) (by decide) (by rw [rearmed_line]) (by decide)
  have hnone : (u.line 0).caps = [] := exec_triggerProcess_caps_of_fresh (by decide) (by rw [rearmed_line]) rfl (by rw [rearmed_line])
    (by rw [rearmed_line]; rfl) hu
  exact absurd (hnone.symm.trans hcaps) (List.cons_ne_nil c []).symm

end

/-!
The Brillouin channel: baselines, blocks, profiles, the synthesiser and the readback of a spectrum (R247-R249, R251, R257, R258, R261, R263, R264).
-/

namespace Sys2Proof.Machine

/-! ## An access to DRAM leaves the instant -/

namespace SameNow

variable {s w u : State}

theorem posting (h : SameNow s w) (hp : Posting w u) : SameNow s u := ⟨hp.now.trans h.now⟩

theorem ite {c : Prop} [Decidable c] {a b : State} (ha : SameNow s a) (hb : SameNow s b) : SameNow s (if c then a else b) := by
  split
  · exact ha
  · exact hb

theorem bump (h : SameNow s w) {c k : Fld} {n : Nat} : SameNow s (w.bump c k n) := .ite (.put (.put h)) (.put h)

theorem openRow (h : SameNow s w) {b r : Nat} : SameNow s (w.openRow b r) :=
  .ite h (.ite (.bump (.record (.record h))) (.record (.record h)))

theorem openWord (h : SameNow s w) {c x : Nat} : SameNow s (w.openWord c x) := by
  have hopened : SameNow s (w.openAt c x) := .openRow h
  exact .record (.ite hopened (.openRow hopened))

theorem storeWord (h : SameNow s w) {a d diff : Nat} : SameNow s (w.storeWord a d diff) := .record (.record h)

theorem addSuspect (h : SameNow s w) {x : Suspect} : SameNow s (w.addSuspect x) :=
  .ite (.record h) (.posting (.bump (.record h)) (Posting.raiseLimited _ _ _ _ _ _))

theorem countCorrection (h : SameNow s w) {c : Nat} : SameNow s (w.countCorrection c) :=
  .posting (.ite (.put (.put h)) (.put h)) (Posting.raiseLimited _ _ _ _ _ _)

theorem demandRead (h : SameNow s w) {a : Nat} : SameNow s (w.demandRead a).2.2 := by
  have hopened := h.openWord (c := (w.chanOf (8 * a)).1) (x := (w.chanOf (8 * a)).2)
  unfold State.demandRead
  dsimp only
  split
  · exact hopened
  · exact hopened
  · exact .ite (.storeWord (.countCorrection hopened)) (.addSuspect (.storeWord (.countCorrection hopened)))

theorem uncorrectable (h : SameNow s w) {r : MemReq} : SameNow s (w.uncorrectable r) := by
  unfold State.uncorrectable
  extract_lets counted
  have hcounted : SameNow s counted := .posting (.bump h) (Posting.raiseLimited _ _ _ _ _ _)
  split
  · exact .record hcounted
  · split
    · exact .ite (.record hcounted) hcounted
    · exact hcounted

theorem readWords {r : MemReq} {n a : Nat} (h : SameNow s w) : SameNow s (w.readWords r n a).2.2 := by
  induction n generalizing w a with
  | zero => exact h
  | succ n ih => exact ih (.ite (.uncorrectable (.demandRead h)) (.demandRead h))

theorem writeWords {n a : Nat} {bs : List (BitVec 8)} (h : SameNow s w) : SameNow s (w.writeWords n a bs) := by
  induction n generalizing w a bs with
  | zero => exact h
  | succ n ih => exact .ite h (ih (.ite (.storeWord (.openWord h)) (.storeWord (.ite (.bump (.demandRead h)) (.demandRead h)))))

end SameNow

/-! ## The lag records (R247, R298) -/

/-- What work on the lag records may change: memory and its controller, at one instant. -/
structure AtRecords (s u : State) : Prop where
  changes : OnlyChanges dramFields [.mem, .dram] s u
  now : SameNow s u

namespace AtRecords

variable {s u w : State}

theorem refl (s : State) : AtRecords s s := ⟨.refl s, .refl⟩

theorem trans (h : AtRecords s u) (k : AtRecords u w) : AtRecords s w := ⟨h.changes.trans k.changes, ⟨k.now.now.trans h.now.now⟩⟩

theorem ite {c : Prop} [Decidable c] {a b : State} (ha : AtRecords s a) (hb : AtRecords s b) : AtRecords s (if c then a else b) := by
  split
  · exact ha
  · exact hb

theorem br (h : AtRecords s u) : u.br = s.br := h.changes.2 .br (by decide)

variable (s)

theorem readWords {r : MemReq} (hbin : r.bin = none) (n w : Nat) : AtRecords s (s.readWords r n w).2.2 :=
  ⟨readWords_onlyChanges s hbin n w, .readWords .refl⟩

theorem readRecord (slot i : Nat) : AtRecords s (s.readRecord slot i).2.2 := by
  unfold State.readRecord
  extract_lets a
  have hread : AtRecords s (s.readWords ⟨4, false, a, 256, [], s.now, false, none⟩ 32 (a / 8)).2.2 := .readWords s rfl _ _
  generalize s.readWords _ 32 (a / 8) = read at hread ⊢
  exact hread

theorem writeLags (slot i : Nat) (ls : List Cpx) : AtRecords s (s.writeLags slot i ls) := ⟨writeWords_onlyChanges s _ _ _, .writeWords .refl⟩

/-- A record is read unless nothing has been flushed to it. -/
theorem recordUnlessEmpty (ls : List Cpx) (c : Prop) [Decidable c] (slot i : Nat) :
    AtRecords s (if c then (ls, false, s) else s.readRecord slot i).2.2 := by
  split
  · exact .refl s
  · exact .readRecord s slot i

theorem flushFrom (x : LagSum) (n i : Nat) : AtRecords s (s.flushFrom x n i).2 := by
  induction n generalizing s x i with
  | zero => exact .refl s
  | succ n ih => exact ((recordUnlessEmpty s [] (x.flushes = 0) x.slot i).trans (.writeLags _ _ _ _)).trans (ih _ _ _)

theorem flushLags (x : LagSum) : AtRecords s (s.flushLags x).2 := by
  unfold State.flushLags
  split
  · exact .refl s
  · exact .flushFrom s x _ 0

theorem readSums (x : LagSum) (n i : Nat) : AtRecords s (s.readSums x n i).2.2 := by
  induction n generalizing s i with
  | zero => exact .refl s
  | succ n ih => exact ((recordUnlessEmpty s _ (x.flushes = 0) x.slot i).trans (.ite (.writeLags _ _ _ _) (.refl _))).trans (ih _ _)

theorem sumBlocks (nb : Nat) (bs : List BrBlock) : AtRecords s (s.sumBlocks nb bs).2.2 := by
  induction bs generalizing s with
  | nil => exact .refl s
  | cons b bs ih =>
    have hread : AtRecords s (if b.n = 0 then (([], [], s) : List (List Cpx) × List Nat × State) else s.readSums b.sum nb 0).2.2 := by
      split
      · exact .refl s
      · exact .readSums s b.sum nb 0
    exact hread.trans (ih _)

end AtRecords

/-- Nothing of a flushed sum is left on the die. -/
theorem flushFrom_die (s : State) (x : LagSum) (n i : Nat) : (s.flushFrom x n i).1.dieN = 0 ∧ (s.flushFrom x n i).1.die = [] := by
  induction n generalizing s x i with
  | zero => exact ⟨rfl, rfl⟩
  | succ n ih => exact ih _ _ _

theorem flushLags_die (s : State) (x : LagSum) :
    (s.flushLags x).1.dieN = 0 ∧ (s.flushLags x).1.die = if x.dieN = 0 then x.die else [] := by
  unfold State.flushLags
  split
  case isTrue h => exact ⟨h, rfl⟩
  case isFalse => exact flushFrom_die s x _ 0

/-! ## A baseline at its end (R249) -/

/-- The baseline `b` is the one held from now on. -/
def State.holdBase (s : State) (b : BrBase) : State :=
  ({ (s.put F.BR_STATUS_REBASING 0).put F.BR_STATUS_BASE_VALID 1 with
    br := { s.br with base := some b, basing := none, baseAt := s.now } } : State).raise 0x0601 wide 0

/-- The blocks open at the end of the baseline of a restart. -/
def State.openAfterBase (s : State) : State := if s.get F.BR_STATUS_STATE = 1 then s.brOpen else s

section
variable (s : State)

theorem holdBase_br (b : BrBase) : (s.holdBase b).br = { s.br with base := some b, basing := none, baseAt := s.now } := State.raise_br _ _ _ _

theorem holdBase_valid (b : BrBase) : (s.holdBase b).get F.BR_STATUS_REBASING = 0 ∧ (s.holdBase b).get F.BR_STATUS_BASE_VALID = 1 := by
  rw [State.holdBase, State.get_raise _ _ _ _ (by decide), State.get_raise _ _ _ _ (by decide)]
  exact ⟨(State.get_put_ne (s.put F.BR_STATUS_REBASING 0) (f := F.BR_STATUS_BASE_VALID) 1 (by decide)).trans (State.get_put_same s _ 0),
    State.get_put_same (s.put F.BR_STATUS_REBASING 0) F.BR_STATUS_BASE_VALID 1⟩

theorem holdBase_onlyChanges (b : BrBase) : OnlyChanges [F.BR_STATUS_REBASING, F.BR_STATUS_BASE_VALID] [.br] s (s.holdBase b) :=
  (((OnlyChanges.put _ _ _ (by decide)).trans (.put _ _ _ (by decide))).trans (.br _ _ (by decide))).trans (Posting.raise _ _ _ _).onlyChanges

theorem brOpen_onlyChanges : OnlyChanges [F.BR_STATUS_STATE] [.br] s s.brOpen := (OnlyChanges.put _ _ _ (by decide)).trans (.br _ _ (by decide))

theorem openAfterBase_onlyChanges : OnlyChanges [F.BR_STATUS_STATE] [.br] s s.openAfterBase := .ite (brOpen_onlyChanges s) (.refl s)

theorem openAfterBase_state :
    s.openAfterBase.get F.BR_STATUS_STATE = if s.get F.BR_STATUS_STATE = 1 then 2 else s.get F.BR_STATUS_STATE := by
  unfold State.openAfterBase
  split
  · exact State.get_put_same s F.BR_STATUS_STATE 2
  · rfl

/-- That the blocks open leaves the baselines as they are. -/
theorem openAfterBase_baselines :
    s.openAfterBase.br.base = s.br.base ∧ s.openAfterBase.br.basing = s.br.basing ∧ s.openAfterBase.br.baseAt = s.br.baseAt := by
  unfold State.openAfterBase
  split <;> exact ⟨rfl, rfl, rfl⟩

end

section
variable {s : State} {start : Nat} {b : BrBase}

/-- The lags of the baseline go to its records, and it is held with the CRC of them. -/
theorem baselineComplete_eq (hbasing : s.br.basing = some (start, b)) (htime : start + s.get F.BR_BASE_BASE_S * (1000 * ms) ≤ s.now) :
    ∃ crc, baselineComplete s =
      ((s.flushLags b.sum).2.holdBase { b with sum := (s.flushLags b.sum).1, crc := crc }).openAfterBase := by
  unfold baselineComplete
  rw [hbasing]
  dsimp only
  rw [if_neg (Nat.not_lt.mpr htime)]
  exact ⟨_, rfl⟩

theorem baselineComplete_completes (t : Nat) (hbasing : s.br.basing = some (start, b))
    (htime : start + s.get F.BR_BASE_BASE_S * (1000 * ms) ≤ max s.now t) : ∃ u, exec (.baselineComplete t) s = .next u ∧
    u.get F.BR_STATUS_REBASING = 0 ∧ u.get F.BR_STATUS_BASE_VALID = 1 ∧ u.br.base.map (fun c => (c.n, c.sig, c.key)) = some (b.n, b.sig, b.key) ∧
    u.br.base.map (fun c => (c.sum.dieN, c.sum.die)) = some (0, if b.sum.dieN = 0 then b.sum.die else []) ∧ u.br.basing = none ∧
    u.br.baseAt = max s.now t ∧
    u.get F.BR_STATUS_STATE = (if s.get F.BR_STATUS_STATE = 1 then 2 else s.get F.BR_STATUS_STATE) ∧
    OnlyChanges ([F.BR_STATUS_REBASING, F.BR_STATUS_BASE_VALID, F.BR_STATUS_STATE] ++ dramFields) [.br, .mem, .dram] s u := by
  obtain ⟨crc, hrun⟩ := baselineComplete_eq (s := s.advance t) hbasing htime
  have hflush := AtRecords.flushLags (s.advance t) b.sum
  obtain ⟨hdieN, hdie⟩ := flushLags_die (s.advance t) b.sum
  generalize (s.advance t).flushLags b.sum = flushed at hrun hflush hdieN hdie
  obtain ⟨x, v⟩ := flushed
  obtain ⟨hbase, hbasing', hbaseAt⟩ := openAfterBase_baselines (v.holdBase { b with sum := x, crc := crc })
  obtain ⟨hrebasing, hvalid⟩ := holdBase_valid v { b with sum := x, crc := crc }
  have hheld := holdBase_onlyChanges v { b with sum := x, crc := crc }
  have hopened := openAfterBase_onlyChanges (v.holdBase { b with sum := x, crc := crc })
  rw [holdBase_br] at hbase hbasing' hbaseAt
  refine ⟨_, rfl, ?rebasing, ?valid, ?base, ?die, ?basing, ?at_, ?state, .answer (t := t) ?frame⟩ <;> rw [hrun]
  case rebasing => rw [State.get_answer _ _ (by decide), hopened.1 _ (by decide) (by decide), hrebasing]
  case valid => rw [State.get_answer _ _ (by decide), hopened.1 _ (by decide) (by decide), hvalid]
  case base => rw [State.answer_br, hbase]; rfl
  case die => rw [State.answer_br, hbase, ← hdie, ← hdieN]; rfl
  case basing => rw [State.answer_br, hbasing']
  case at_ => rw [State.answer_br, hbaseAt]; exact hflush.now.now
  case state =>
    have hstate : (v.holdBase { b with sum := x, crc := crc }).get F.BR_STATUS_STATE = s.get F.BR_STATUS_STATE :=
      (hheld.1 _ (by decide) (by decide)).trans (hflush.changes.1 _ (by decide) (by decide))
    rw [State.get_answer _ _ (by decide), openAfterBase_state, hstate]
  case frame =>
    exact ((hflush.changes.mono (by decide) (by decide)).trans (hheld.mono (by decide) (by decide))).trans (hopened.mono (by decide) (by decide))

end

/-! ## A baseline that begins (R248, R249) -/

section
variable {s : State}

theorem brRebase_onlyChanges (s : State) (i : Nat) : OnlyChanges [F.BR_STATUS_REBASING] [.br] s (s.brRebase i) :=
  (OnlyChanges.put _ _ _ (by decide)).trans (.br _ _ (by decide))

theorem baselinePeriodic_rebases (hperiod : s.get F.BR_BASE_PERIOD ≠ 0) (hstate : s.get F.BR_STATUS_STATE = 2 ∨ s.get F.BR_STATUS_STATE = 3)
    (hbasing : s.br.basing = none) (htime : s.br.baseAt + s.get F.BR_BASE_PERIOD * 60 * (1000 * ms) ≤ s.now) :
    baselinePeriodic s = s.brRebase s.sweepIndex :=
  if_pos ⟨hperiod, hstate, by rw [hbasing]; rfl, htime⟩

theorem brRebase_rebasing (s : State) (i : Nat) : (s.brRebase i).get F.BR_STATUS_REBASING = 1 := State.get_put_same s F.BR_STATUS_REBASING 1

/-- The baseline begun is empty, and of the two areas it takes the one that the baseline held does not use. -/
theorem brRebase_begins (s : State) (i : Nat) : ∃ b, (s.brRebase i).br = { s.br with basing := some (s.now, b), skipFrom := none } ∧ b.n = 0 ∧
    b.sig = none ∧ b.key = s.brKey i ∧ b.sum.dieN = 0 ∧ b.sum.flushes = 0 ∧ ∀ c, s.br.base = some c → c.sum.slot ≤ 1 → b.sum.slot ≠ c.sum.slot := by
  refine ⟨_, rfl, rfl, rfl, rfl, rfl, rfl, fun c hbase hslot => ?_⟩
  rw [hbase]
  show 1 - c.sum.slot ≠ c.sum.slot
  omega

theorem baselinePeriodic_begins (t : Nat) (hperiod : s.get F.BR_BASE_PERIOD ≠ 0)
    (hstate : s.get F.BR_STATUS_STATE = 2 ∨ s.get F.BR_STATUS_STATE = 3) (hbasing : s.br.basing = none)
    (htime : s.br.baseAt + s.get F.BR_BASE_PERIOD * 60 * (1000 * ms) ≤ max s.now t) : ∃ u, exec (.baselinePeriodic t) s = .next u ∧
    u.get F.BR_STATUS_REBASING = 1 ∧ (∃ b, u.br = { s.br with basing := some (max s.now t, b), skipFrom := none } ∧ b.n = 0 ∧ b.sig = none ∧
      b.key = s.brKey s.sweepIndex ∧ b.sum.dieN = 0 ∧ b.sum.flushes = 0 ∧ ∀ c, s.br.base = some c → c.sum.slot ≤ 1 → b.sum.slot ≠ c.sum.slot) ∧
    OnlyChanges [F.BR_STATUS_REBASING] [.br] s u := by
  have hrun := baselinePeriodic_rebases (s := s.advance t) hperiod hstate hbasing htime
  refine ⟨_, rfl, ?_, ?_, .answer (t := t) ?_⟩ <;> rw [hrun]
  · rw [State.get_answer _ _ (by decide), brRebase_rebasing]
  · rw [State.answer_br]
    exact brRebase_begins (s.advance t) s.sweepIndex
  · exact brRebase_onlyChanges _ _

theorem baselineSignature_begins (t : Nat) {t0 : Nat} (hskip : s.br.skipFrom = some t0) (hbasing : s.br.basing = none)
    (htime : t0 + 60 * (1000 * ms) ≤ max s.now t) : ∃ u, exec (.baselineSignature t) s = .next u ∧
    u.get F.BR_STATUS_REBASING = 1 ∧ u.get F.BR_STATUS_SKIPPING = 0 ∧ u.br.skipFrom = none ∧ u.br.basing.isSome = true ∧
    OnlyChanges [F.BR_STATUS_REBASING, F.BR_STATUS_SKIPPING] [.br] s u := by
  have hrun : baselineSignature (s.advance t) = ((s.advance t).put F.BR_STATUS_SKIPPING 0).brRebase s.sweepIndex := by
    simp only [baselineSignature, State.advance_br, hskip]
    exact if_pos ⟨by rw [hbasing]; rfl, htime⟩
  have hrebased := brRebase_onlyChanges ((s.advance t).put F.BR_STATUS_SKIPPING 0) s.sweepIndex
  refine ⟨_, rfl, ?_, ?_, ?_, ?_, .answer (t := t) ?_⟩ <;> rw [hrun]
  · rw [State.get_answer _ _ (by decide), brRebase_rebasing]
  · rw [State.get_answer _ _ (by decide), hrebased.1 _ (by decide) (by decide), State.get_put_same]
    rfl
  · rw [State.answer_br]
    rfl
  · rw [State.answer_br]
    rfl
  · exact (OnlyChanges.put _ _ _ (by decide)).trans (hrebased.mono (by decide) (by decide))

end

/-! ## The profile that begins to be formed (R251, R257) -/

section
variable (s : State)

theorem brSequences_onlyChanges (n nBase k : Nat) (r rb : List (List Cpx)) : OnlyChanges [] [.freeCtr] s (s.brSequences n nBase k r rb).2 := by
  induction k generalizing s r rb with
  | zero => exact .refl s
  | succ k ih =>
    have hdrawn : OnlyChanges [] [.freeCtr] s (s.freeWords 32).2 := by
      rw [freeWords_state]
      exact .freeCtr _ _ (by decide)
    by_cases hempty : nBase = 0
    · simp only [State.brSequences, if_pos hempty]
      exact hdrawn.trans (ih _ _ _)
    · simp only [State.brSequences, if_neg hempty]
      exact ih _ _ _

/-- The records are summed and the transforms submitted; the profile then waits for every bin. -/
theorem brForm_forms (b : BrBase) : ∃ v j, s.brForm b = { v with br := { v.br with job := some j } } ∧
    OnlyChanges dramFields [.fab, .mem, .dram, .freeCtr] s v ∧ j.blocks = s.br.blocks ∧ j.left = List.range (s.get F.BR_BINS_NB) ∧ j.points = [] := by
  refine ⟨_, _, rfl, ?_, rfl, rfl, rfl⟩
  have hdropped : OnlyChanges dramFields [.fab, .mem, .dram, .freeCtr] s { s with fab := s.fab.dropSpectra } := .fab _ _ (by decide)
  have hblocks := hdropped.trans ((AtRecords.sumBlocks _ (s.get F.BR_BINS_NB) s.br.blocks).changes.mono (fun _ => id) (by decide))
  have hbase := hblocks.trans ((AtRecords.readSums _ b.sum (s.get F.BR_BINS_NB) 0).changes.mono (fun _ => id) (by decide))
  exact (hbase.trans ((brSequences_onlyChanges _ _ _ _ _ _).mono (by decide) (by decide))).trans (.fab _ _ (by decide))

end

/-! ## A block at its end (R257) -/

/-- The block in progress, its sum flushed as `x`, joins the blocks held, and the next one opens. -/
def State.shiftBlocks (s : State) (x : LagSum) : State :=
  let reading := s.rtdReading (s.get F.BR_COIL_CFG_RTD)
  let all := s.br.blocks ++ [{ s.br.block with sum := x, coil := reading.1, coilBad := reading.2 }]
  { s with br := { s.br with blocks := all.drop (all.length - s.brFull),
                             block := { sum := { slot := 2 + (s.br.k + 1) % (s.brFull + 1) } }, k := s.br.k + 1 } }

/-- The blocks held span 20 s and hold the launches of 20 s, and one launch at least. -/
def State.profileDue (s : State) : Bool :=
  let n := s.br.blocks.foldl (fun a b => a + b.n) 0
  decide (s.br.blocks.length * s.brUpd ≥ 20 * (1000 * ms)) && decide (n * s.every * s.period ≥ 20 * (1000 * ms)) && decide (n > 0)

/-- The profile of the blocks held begins to be formed where it is due and a baseline is held. -/
def State.formDue (s : State) : State := if s.profileDue then s.br.base.elim s s.brForm else s

section
variable (s : State)

theorem shiftBlocks_length (x : LagSum) : (s.shiftBlocks x).br.blocks.length = min (s.br.blocks.length + 1) s.brFull := by
  simp only [State.shiftBlocks, List.length_drop, List.length_append, List.length_singleton]
  omega

/-- A profile has one block at least, so that the block just closed is among those held. -/
theorem shiftBlocks_last (x : LagSum) : ((s.shiftBlocks x).br.blocks.getLast?).map (·.n) = some s.br.block.n := by
  have hfull : 1 ≤ s.brFull := Nat.le_max_left _ _
  simp only [State.shiftBlocks, List.getLast?_drop, List.length_append, List.length_singleton, List.getLast?_concat]
  rw [if_neg (by omega)]
  rfl

theorem shiftBlocks_onlyChanges (x : LagSum) : OnlyChanges [] [.br] s (s.shiftBlocks x) := .br _ _ (by decide)

theorem formDue_begins {b : BrBase} (hdue : s.profileDue = true) (hbase : s.br.base = some b) : s.formDue = s.brForm b := by
  rw [State.formDue, if_pos hdue, hbase, Option.elim_some]

theorem formDue_waits (h : ∀ b, s.profileDue = true → s.br.base = some b → False) : s.formDue = s := by
  unfold State.formDue
  split
  case isTrue hdue =>
    cases hbase : s.br.base with
    | none => rw [Option.elim_none]
    | some b => exact (h b hdue hbase).elim
  case isFalse => rfl

/-- Whether or not a profile begins, of the channel's account nothing but the profile changes. -/
theorem formDue_changes : (∃ o, s.formDue.br = { s.br with job := o }) ∧
    OnlyChanges dramFields [.br, .fab, .mem, .dram, .freeCtr] s s.formDue := by
  by_cases h : ∃ b, s.profileDue = true ∧ s.br.base = some b
  · obtain ⟨b, hdue, hbase⟩ := h
    obtain ⟨v, j, hform, hchanges, -⟩ := brForm_forms s b
    have hbr : v.br = s.br := hchanges.2 .br (by decide)
    rw [formDue_begins s hdue hbase, hform]
    exact ⟨⟨some j, by rw [hbr]⟩, (hchanges.mono (fun _ => id) (by decide)).trans (.br _ _ (by decide))⟩
  · rw [formDue_waits s fun b hdue hbase => h ⟨b, hdue, hbase⟩]
    exact ⟨⟨s.br.job, rfl⟩, .refl s⟩

theorem formDue_forms (hdue : s.profileDue = true) (hbase : s.br.base.isSome = true) :
    ∃ j, s.formDue.br.job = some j ∧ j.blocks = s.br.blocks ∧ j.left = List.range (s.get F.BR_BINS_NB) ∧ j.points = [] := by
  obtain ⟨b, hb⟩ := Option.isSome_iff_exists.mp hbase
  obtain ⟨v, j, hform, -, hj⟩ := brForm_forms s b
  exact ⟨j, by rw [formDue_begins s hdue hb, hform], hj⟩

variable {s}

/-- UPD and T stay abstract while the matches are opened: as numbers of ticks the kernel would count them down. -/
theorem blockClose_eq (hstate : s.get F.BR_STATUS_STATE = 2 ∨ s.get F.BR_STATUS_STATE = 3)
    (htime : s.br.tB + (s.br.k + 1) * s.brUpd ≤ s.now) :
    blockClose s = ((s.flushLags s.br.block.sum).2.shiftBlocks (s.flushLags s.br.block.sum).1).formDue := by
  unfold blockClose
  extract_lets state
  rw [if_neg (by omega)]
  obtain ⟨upd, hupd⟩ : ∃ upd, upd = State.brUpd := ⟨_, rfl⟩
  obtain ⟨period, hperiod⟩ : ∃ period, period = State.period := ⟨_, rfl⟩
  generalize s.flushLags s.br.block.sum = flushed
  obtain ⟨x, v⟩ := flushed
  rw [← hupd, ← hperiod]
  dsimp only
  rw [hupd, hperiod]
  split
  · next b hdue hbase => exact (formDue_begins (v.shiftBlocks x) hdue hbase).symm
  · next h => exact (formDue_waits (v.shiftBlocks x) h).symm

theorem profileDue_iff : s.profileDue = true ↔ 20 * (1000 * ms) ≤ s.br.blocks.length * s.brUpd ∧
    20 * (1000 * ms) ≤ s.br.blocks.foldl (fun a b => a + b.n) 0 * s.every * s.period ∧ 0 < s.br.blocks.foldl (fun a b => a + b.n) 0 := by
  simp [State.profileDue, and_assoc]

/-- The channel's settings and the launch grid are read from registers that no access to DRAM writes. -/
theorem AtRecords.settings {u : State} (h : AtRecords s u) : u.brFull = s.brFull ∧ u.brUpd = s.brUpd ∧ u.every = s.every ∧ u.period = s.period ∧
    u.get F.BR_BINS_NB = s.get F.BR_BINS_NB := by
  have hacc := h.changes.1 F.BR_ACC_ACC (by decide) (by decide)
  have hupd := h.changes.1 F.BR_ACC_UPD (by decide) (by decide)
  have hevery := h.changes.1 F.TT_BRIL_EVERY (by decide) (by decide)
  have hperiod := h.changes.1 F.TT_SWEEP_PERIOD_T (by decide) (by decide)
  simp only [State.brFull, State.brUpd, State.every, State.period, hacc, hupd, hevery, hperiod, true_and]
  exact h.changes.1 _ (by decide) (by decide)

theorem blockClose_closes (t : Nat) (hstate : s.get F.BR_STATUS_STATE = 2 ∨ s.get F.BR_STATUS_STATE = 3)
    (htime : s.br.tB + (s.br.k + 1) * s.brUpd ≤ max s.now t) : ∃ u, exec (.blockClose t) s = .next u ∧
    u.br.k = s.br.k + 1 ∧ u.br.block = { sum := { slot := 2 + (s.br.k + 1) % (s.brFull + 1) } } ∧
    u.br.blocks.length = min (s.br.blocks.length + 1) s.brFull ∧ (u.br.blocks.getLast?).map (·.n) = some s.br.block.n ∧
    (s.br.base.isSome = true → 20 * (1000 * ms) ≤ u.br.blocks.length * s.brUpd →
      20 * (1000 * ms) ≤ u.br.blocks.foldl (fun a b => a + b.n) 0 * s.every * s.period → 0 < u.br.blocks.foldl (fun a b => a + b.n) 0 →
      ∃ j, u.br.job = some j ∧ j.blocks = u.br.blocks ∧ j.left = List.range (s.get F.BR_BINS_NB) ∧ j.points = []) ∧
    OnlyChanges dramFields [.br, .fab, .mem, .dram, .freeCtr] s u := by
  have hrun := blockClose_eq (s := s.advance t) hstate htime
  have hflush := AtRecords.flushLags (s.advance t) s.br.block.sum
  rw [State.advance_br] at hrun
  generalize (s.advance t).flushLags s.br.block.sum = flushed at hrun hflush
  obtain ⟨x, v⟩ := flushed
  have hbr : v.br = s.br := hflush.br
  obtain ⟨hfull, hupd, hevery, hperiod, hbins⟩ := hflush.settings
  obtain ⟨⟨job, hjob⟩, hform⟩ := formDue_changes (v.shiftBlocks x)
  refine ⟨_, rfl, ?k, ?block, ?length, ?last, ?profile, .answer (t := t) ?frame⟩ <;> rw [hrun]
  case k => rw [State.answer_br, hjob, ← hbr]; rfl
  case block =>
    rw [State.answer_br, hjob, ← hbr]
    exact congrArg (fun full => ({ sum := { slot := 2 + (v.br.k + 1) % (full + 1) } } : BrBlock)) hfull
  case length => rw [State.answer_br, hjob, ← hbr]; exact (shiftBlocks_length v x).trans (congrArg _ hfull)
  case last => rw [State.answer_br, hjob, ← hbr]; exact shiftBlocks_last v x
  case profile =>
    rw [State.answer_br]
    intro hbase hspan hlaunches hany
    have hblocks : (v.shiftBlocks x).formDue.br.blocks = (v.shiftBlocks x).br.blocks := by rw [hjob]
    rw [hblocks] at hspan hlaunches hany ⊢
    have hdue : (v.shiftBlocks x).profileDue = true := profileDue_iff.mpr
      ⟨hspan.trans_eq (congrArg _ hupd.symm), hlaunches.trans_eq (congrArg₂ (_ * · * ·) hevery.symm hperiod.symm), hany⟩
    obtain ⟨j, hforms, hheld, hleft, hpoints⟩ := formDue_forms _ hdue (by rw [← hbase, ← hbr]; rfl)
    exact ⟨j, hforms, hheld, hleft.trans (congrArg List.range hbins), hpoints⟩
  case frame =>
    exact ((hflush.changes.mono (fun _ => id) (by decide)).trans ((shiftBlocks_onlyChanges v x).mono (by decide) (by decide))).trans hform

end

/-! ## The profile issued (R254, R257, R258) -/

theorem OnlyChanges.built {fs : List Fld} {ps : List Part} (s : State) (x : List Frame) (h : Part.built ∈ ps) :
    OnlyChanges fs ps s { s with built := x } :=
  ⟨fun _ _ _ => rfl, fun p hp => by cases p with | built => exact absurd h hp | _ => rfl⟩

/-- From `s` to `u` the profile's anchor is found or held: of the channel's account nothing else changes. -/
structure Anchors (s u : State) : Prop where
  changes : OnlyChanges [F.BR_STATUS_ANCHOR_HELD] [.br] s u
  anchor : ∃ a, u.br = { s.br with anchor := a }

namespace Anchors

variable {s u w : State}

theorem refl (s : State) : Anchors s s := ⟨.refl s, s.br.anchor, rfl⟩

theorem trans (h : Anchors s u) (k : Anchors u w) : Anchors s w := by
  obtain ⟨b, hb⟩ := h.anchor
  obtain ⟨c, hc⟩ := k.anchor
  exact ⟨h.changes.trans k.changes, c, by rw [hc, hb]⟩

theorem ite {c : Prop} [Decidable c] {a b : State} (ha : Anchors s a) (hb : Anchors s b) : Anchors s (if c then a else b) := by
  split
  · exact ha
  · exact hb

theorem mark (s : State) (held : Bool) : Anchors s (s.putB F.BR_STATUS_ANCHOR_HELD held) := ⟨.put _ _ _ (by decide), s.br.anchor, rfl⟩

theorem set (s : State) (a : Option Nat) : Anchors s { s with br := { s.br with anchor := a } } := ⟨.br _ _ (by decide), a, rfl⟩

theorem raise (s : State) (code inst val : Nat) : Anchors s (s.raise code inst val) :=
  ⟨(Posting.raise _ _ _ _).onlyChanges, s.br.anchor, State.raise_br _ _ _ _⟩

end Anchors

/-- From `s` to `u` frames of stream 256 and product 16 are issued, of one profile each. -/
structure Issues (s u : State) : Prop where
  changes : OnlyChanges [F.BR_FRAME_SEQ_NEXT] [.built] s u
  frames : ∃ fs, u.built = s.built ++ fs ∧ ∀ f, f ∈ fs → f.stream = 256 ∧ f.product = 16 ∧ f.samples = 1

namespace Issues

variable {s u w : State}

theorem refl (s : State) : Issues s s := ⟨.refl s, [], (List.append_nil _).symm, nofun⟩

theorem trans (h : Issues s u) (k : Issues u w) : Issues s w := by
  obtain ⟨fs, hfs, hf⟩ := h.frames
  obtain ⟨gs, hgs, hg⟩ := k.frames
  exact ⟨h.changes.trans k.changes, fs ++ gs, by rw [hgs, hfs, List.append_assoc],
    fun f hmem => (List.mem_append.mp hmem).elim (hf f) (hg f)⟩

theorem each {α : Type} {xs : List α} {f : α → State → State} (hf : ∀ x v, Issues v (f x v)) (s : State) : Issues s (Machine.each xs f s) := by
  unfold Machine.each
  induction xs generalizing s with
  | nil => exact .refl s
  | cons x xs ih => exact (hf x s).trans (ih _)

theorem frame (s : State) {f : Frame} (hf : f.stream = 256 ∧ f.product = 16 ∧ f.samples = 1) :
    Issues s { s.bumpWrap F.BR_FRAME_SEQ_NEXT 1 with built := s.built ++ [f] } where
  changes := (OnlyChanges.put s F.BR_FRAME_SEQ_NEXT _ (by decide)).trans (.built _ _ (by decide))
  frames := ⟨[f], rfl, fun g hg => by rwa [List.mem_singleton.mp hg]⟩

end Issues

/-- The registers and the readback that show profile `j` once its frames are issued; the channel runs from then on. -/
def State.showProfile (s : State) (j : BrJob) (nofit : Nat) (anchor coil : Int) (spec : List (List Nat)) : State :=
  let shown := ((s.put F.BR_STATUS_BLOCKS j.blocks.length).put F.BR_PROFILE_LAUNCHES (j.blocks.foldl (fun a x => a + x.n) 0)).put
    F.BR_NOFIT_COUNT nofit
  let shown := (shown.putS F.BR_ANCHOR_OFFSET anchor).putS F.BR_ANCHOR_COIL_T coil
  let shown : State := { shown with br := { shown.br with job := none, specM := j.m, spec := spec } }
  if shown.get F.BR_STATUS_STATE = 2 then shown.put F.BR_STATUS_STATE 3 else shown

/-- A profile is anchored; its frames are issued where BR_EN has the stream's frames built; then it is shown. -/
theorem brProfile_shows (s : State) (j : BrJob) : ∃ v w nofit anchor coil spec, s.brProfile j = w.showProfile j nofit anchor coil spec ∧
    Anchors s v ∧ Issues v w ∧ (s.is F.CX_AUX_BR_EN = false → w = v) := by
  unfold State.brProfile
  extract_lets bs m n nb sp fits fcs enabled new held kind anchor was marked channel anchored told arr bins code live span hold fc snr nofit
  generalize coilTemp bs = temp
  obtain ⟨coilNow, faulty⟩ := temp
  dsimp -zeta only
  extract_lets coil preamble issued
  have hanchored : Anchors marked anchored := by
    clear_value new
    cases new with
    | some d => exact .set marked _
    | none => exact .refl marked
  have htold : Anchors s told := ((Anchors.mark s held).trans hanchored).trans (.ite (.raise _ _ _ _) (.ite (.raise _ _ _ _) (.refl _)))
  have henabled : told.is F.CX_AUX_BR_EN = s.is F.CX_AUX_BR_EN := htold.changes.is (by decide) (by decide)
  refine ⟨told, issued, nofit, code, coil, _, rfl, htold, ?_, fun hoff => if_neg (by rw [henabled, hoff]; decide)⟩
  show Issues told (if told.is F.CX_AUX_BR_EN then _ else told)
  split
  · exact .each (fun r v => .frame v ⟨rfl, rfl, rfl⟩) told
  · exact .refl told

/-- Nothing of the profile is left to form, and what it was formed of is shown. -/
theorem showProfile_shows (s : State) (j : BrJob) (nofit : Nat) (anchor coil : Int) (spec : List (List Nat)) {u : State}
    (hu : s.showProfile j nofit anchor coil spec = u) : u.br.job = none ∧ u.br.blocks = s.br.blocks ∧ u.built = s.built ∧
    u.get F.BR_STATUS_STATE = (if s.get F.BR_STATUS_STATE = 2 then 3 else s.get F.BR_STATUS_STATE) ∧
    u.get F.BR_STATUS_BLOCKS = j.blocks.length % 2 ^ F.BR_STATUS_BLOCKS.width ∧
    u.get F.BR_PROFILE_LAUNCHES = j.blocks.foldl (fun a x => a + x.n) 0 % 2 ^ F.BR_PROFILE_LAUNCHES.width := by
  unfold State.showProfile at hu
  extract_lets counted anchored channel shown at hu
  obtain ⟨v, hv⟩ : ∃ v, v = (s.put F.BR_STATUS_BLOCKS j.blocks.length).put F.BR_PROFILE_LAUNCHES
    (j.blocks.foldl (fun a x => a + x.n) 0) := ⟨_, rfl⟩
  have hshown : OnlyChanges [F.BR_NOFIT_COUNT, F.BR_ANCHOR_OFFSET, F.BR_ANCHOR_COIL_T] [.br] v shown := by
    rw [hv]
    exact (((OnlyChanges.put _ _ _ (by decide)).trans (.put _ _ _ (by decide))).trans (.put _ _ _ (by decide))).trans (.br anchored _ (by decide))
  have hstate : shown.get F.BR_STATUS_STATE = s.get F.BR_STATUS_STATE := by
    rw [hshown.1 _ (by decide) (by decide), hv, State.get_put_ne _ _ (by decide), State.get_put_ne _ _ (by decide)]
  have hblocks : shown.get F.BR_STATUS_BLOCKS = j.blocks.length % 2 ^ F.BR_STATUS_BLOCKS.width := by
    rw [hshown.1 _ (by decide) (by decide), hv, State.get_put_ne _ _ (by decide), State.get_put_same]
  have hlaunches : shown.get F.BR_PROFILE_LAUNCHES = j.blocks.foldl (fun a x => a + x.n) 0 % 2 ^ F.BR_PROFILE_LAUNCHES.width := by
    rw [hshown.1 _ (by decide) (by decide), hv, State.get_put_same]
  subst hu
  rw [hstate]
  split
  · refine ⟨rfl, rfl, rfl, State.get_put_same shown F.BR_STATUS_STATE 3, ?_, ?_⟩
    · rw [State.get_put_ne _ _ (by decide), hblocks]
    · rw [State.get_put_ne _ _ (by decide), hlaunches]
  · exact ⟨rfl, rfl, rfl, hstate, hblocks, hlaunches⟩

theorem profileIssue_issues {s : State} (t : Nat) {j : BrJob} (hjob : s.br.job = some j) (hleft : j.left = []) :
    ∃ u, exec (.profileIssue t) s = .next u ∧ u.br.job = none ∧ u.br.blocks = s.br.blocks ∧
    u.get F.BR_STATUS_STATE = (if s.get F.BR_STATUS_STATE = 2 then 3 else s.get F.BR_STATUS_STATE) ∧
    u.get F.BR_STATUS_BLOCKS = j.blocks.length % 2 ^ F.BR_STATUS_BLOCKS.width ∧
    u.get F.BR_PROFILE_LAUNCHES = j.blocks.foldl (fun a x => a + x.n) 0 % 2 ^ F.BR_PROFILE_LAUNCHES.width ∧
    (s.is F.CX_AUX_BR_EN = false → u.built = s.built) ∧
    (∃ fs, u.built = s.built ++ fs ∧ ∀ f, f ∈ fs → f.stream = 256 ∧ f.product = 16 ∧ f.samples = 1) := by
  have hrun : profileIssue (s.advance t) = (s.advance t).brProfile j := by
    simp only [profileIssue, State.advance_br, hjob, hleft, List.isEmpty_nil, if_true]
  obtain ⟨v, w, nofit, anchor, coil, spec, hshown, hanchors, hissues, hoff⟩ := brProfile_shows (s.advance t) j
  obtain ⟨a, ha⟩ := hanchors.anchor
  obtain ⟨fs, hfs, hframes⟩ := hissues.frames
  have hbr : w.br.blocks = s.br.blocks := by
    have hw : w.br = v.br := hissues.changes.2 .br (by decide)
    rw [hw, ha]
    rfl
  have hbuilt : v.built = s.built := hanchors.changes.2 .built (by decide)
  have hstate : w.get F.BR_STATUS_STATE = s.get F.BR_STATUS_STATE :=
    (hissues.changes.1 _ (by decide) (by decide)).trans (hanchors.changes.1 _ (by decide) (by decide))
  obtain ⟨hnone, hblocks, hkept, hnext, hcount, hlaunches⟩ := showProfile_shows w j nofit anchor coil spec rfl
  refine ⟨_, rfl, ?_⟩
  rw [hrun, hshown, State.answer_br, State.answer_built, State.get_answer _ _ (by decide), State.get_answer _ _ (by decide),
    State.get_answer _ _ (by decide), hnone, hblocks, hkept, hnext, hcount, hlaunches, hstate, hbr]
  exact ⟨rfl, rfl, rfl, rfl, rfl, fun hsilent => by rw [hoff hsilent, hbuilt], fs, by rw [hfs, hbuilt], hframes⟩

/-! ## The synthesiser (R261, R263) -/

section
variable {s u : State}

theorem brSynUnlock_unlocks (t : Nat) (hon : s.domainOn 7 = true) (hlock : s.is F.BR_STATUS_SYN_LOCK = true) :
    ∃ u, exec (.brSynUnlock t) s = .next u ∧ u.get F.BR_STATUS_SYN_LOCK = 0 ∧ u.br = { s.br with unlockFrom := some (max s.now t) } ∧
    OnlyChanges [F.BR_STATUS_SYN_LOCK] [.br] s u := by
  have hrun : inDomain 7 brSynUnlock (s.advance t) = State.raise { (s.advance t).put F.BR_STATUS_SYN_LOCK 0 with
      br := { s.br with unlockFrom := some (max s.now t) } } 0x0606 wide 0 := (inDomain_on (s := s.advance t) hon).trans (if_pos hlock)
  refine ⟨_, rfl, ?_, ?_, .answer (t := t) ?_⟩ <;> rw [hrun]
  · rw [State.get_answer _ _ (by decide), State.get_raise _ _ _ _ (by decide)]
    exact State.get_put_same (s.advance t) F.BR_STATUS_SYN_LOCK 0
  · rw [State.answer_br, State.raise_br]
  · exact ((OnlyChanges.put _ _ _ (by decide)).trans (.br _ _ (by decide))).trans (Posting.raise _ _ _ _).onlyChanges

/-- The blocks and the baseline are discarded; the synthesiser's lock is as it was. -/
structure Restarted (s u : State) : Prop where
  base : u.br.base = none
  blocks : u.br.blocks = []
  valid : u.get F.BR_STATUS_BASE_VALID = 0
  unlockFrom : u.br.unlockFrom = s.br.unlockFrom
  lock : u.get F.BR_STATUS_SYN_LOCK = s.get F.BR_STATUS_SYN_LOCK

namespace Restarted

theorem discarded (s : State) : Restarted s (s.brDiscard.put F.BR_STATUS_STATE 1) where
  base := rfl
  blocks := rfl
  valid := by
    rw [State.get_put_ne _ _ (by decide), State.brDiscard, State.get_put_ne _ _ (by decide), State.get_put_same]
    rfl
  unlockFrom := rfl
  lock := by
    rw [State.get_put_ne _ _ (by decide), State.brDiscard, State.get_put_ne _ _ (by decide), State.get_put_ne _ _ (by decide)]
    rfl

/-- A step that keeps the baseline, the blocks and the registers of the two. -/
theorem onward {v : State} (h : Restarted s u) (hbase : v.br.base = u.br.base) (hblocks : v.br.blocks = u.br.blocks)
    (hunlock : v.br.unlockFrom = u.br.unlockFrom) {fs : List Fld} {ps : List Part} (hv : OnlyChanges fs ps u v)
    (hvalid : F.BR_STATUS_BASE_VALID.key ∉ fs.map (·.key)) (hlock : F.BR_STATUS_SYN_LOCK.key ∉ fs.map (·.key)) : Restarted s v where
  base := hbase.trans h.base
  blocks := hblocks.trans h.blocks
  valid := (hv.1 _ (by decide) hvalid).trans h.valid
  unlockFrom := hunlock.trans h.unlockFrom
  lock := (hv.1 _ (by decide) hlock).trans h.lock

theorem raise (h : Restarted s u) (code inst val : Nat) : Restarted s (u.raise code inst val) :=
  h.onward (by rw [State.raise_br]) (by rw [State.raise_br]) (by rw [State.raise_br])
    (Posting.raise _ _ _ _).onlyChanges (fs := []) (ps := []) (by decide) (by decide)

theorem brRebase (h : Restarted s u) (i : Nat) : Restarted s (u.brRebase i) :=
  h.onward rfl rfl rfl (brRebase_onlyChanges u i) (by decide) (by decide)

theorem brHalt (h : Restarted s u) : Restarted s u.brHalt := by
  unfold State.brHalt
  split
  · exact h
  · refine raise ?_ _ _ _
    refine ⟨h.base, rfl, ?_, h.unlockFrom, ?_⟩ <;>
      rw [State.get_put_ne _ _ (by decide), State.get_put_ne _ _ (by decide), State.get_put_ne _ _ (by decide)]
    · exact h.valid
    · exact h.lock

end Restarted

/-- A restart takes a baseline, or halts where a lane of the channel is FAILED (R261). -/
theorem brRestart_restarts (s : State) (i : Nat) : Restarted s (s.brRestart i true) := by
  have htold := (Restarted.discarded s).raise 0x0602 wide 0
  simp only [State.brRestart, if_true]
  split
  · exact htold.brHalt
  · exact htold.brRebase i

/-- The synthesiser is locked again, which event 0x0607 tells. -/
def State.relock (s : State) : State :=
  State.raise { s.put F.BR_STATUS_SYN_LOCK 1 with br := { s.br with unlockFrom := none } } 0x0607 wide 0

theorem relock_onlyChanges (s : State) : OnlyChanges [F.BR_STATUS_SYN_LOCK] [.br] s s.relock :=
  ((OnlyChanges.put _ _ _ (by decide)).trans (.br _ _ (by decide))).trans (Posting.raise _ _ _ _).onlyChanges

theorem relock_locked (s : State) : s.relock.get F.BR_STATUS_SYN_LOCK = 1 ∧ s.relock.br.unlockFrom = none := by
  rw [State.relock, State.get_raise _ _ _ _ (by decide), State.raise_br]
  exact ⟨State.get_put_same s F.BR_STATUS_SYN_LOCK 1, rfl⟩

/-- Lock regained after 1 s or more restarts a channel that is neither OFF nor HALTED. -/
theorem brSynLocked_eq {t0 : Nat} (hlock : s.is F.BR_STATUS_SYN_LOCK = false) (hfrom : s.br.unlockFrom = some t0) :
    brSynLocked s = if t0 + 1000 * ms ≤ s.now ∧ s.get F.BR_STATUS_STATE ≠ 0 ∧ s.get F.BR_STATUS_STATE ≠ 4 then
      s.relock.brRestart s.relock.sweepIndex true else s.relock := by
  have hstate : s.relock.get F.BR_STATUS_STATE = s.get F.BR_STATUS_STATE := (relock_onlyChanges s).1 _ (by decide) (by decide)
  have hnow : s.relock.now = s.now := State.raise_now _ _ _ _
  unfold brSynLocked
  dsimp only
  rw [if_neg (by rw [hlock]; decide), hfrom, ← hstate, ← hnow]
  rfl

theorem brSynLocked_locks (t : Nat) {t0 : Nat} (hon : s.domainOn 7 = true) (hlock : s.is F.BR_STATUS_SYN_LOCK = false)
    (hfrom : s.br.unlockFrom = some t0) : ∃ u, exec (.brSynLocked t) s = .next u ∧
    u.get F.BR_STATUS_SYN_LOCK = 1 ∧ u.br.unlockFrom = none ∧
    (t0 + 1000 * ms ≤ max s.now t → s.get F.BR_STATUS_STATE ≠ 0 → s.get F.BR_STATUS_STATE ≠ 4 → u.br.base = none ∧ u.br.blocks = [] ∧
      u.get F.BR_STATUS_BASE_VALID = 0) ∧
    (max s.now t < t0 + 1000 * ms → OnlyChanges [F.BR_STATUS_SYN_LOCK] [.br] s u) := by
  have hrun : inDomain 7 brSynLocked (s.advance t) = _ := (inDomain_on (s := s.advance t) hon).trans (brSynLocked_eq hlock hfrom)
  obtain ⟨hlocked, hunlock⟩ := relock_locked (s.advance t)
  have hrestarted := brRestart_restarts (s.advance t).relock (s.advance t).relock.sweepIndex
  refine ⟨_, rfl, ?_⟩
  rw [hrun, State.get_answer _ _ (by decide), State.get_answer _ _ (by decide), State.answer_br]
  split
  case isTrue h =>
    exact ⟨hrestarted.lock.trans hlocked, hrestarted.unlockFrom.trans hunlock,
      fun _ _ _ => ⟨hrestarted.base, hrestarted.blocks, hrestarted.valid⟩, fun hshort => absurd h.1 (Nat.not_le.mpr hshort)⟩
  case isFalse h =>
    exact ⟨hlocked, hunlock, fun hlong hoff hhalted => absurd ⟨hlong, hoff, hhalted⟩ h, fun _ => .answer (t := t) (relock_onlyChanges _)⟩

end

/-! ## The readback of a spectrum (R264) -/

theorem brSpecDataRead_answers {s : State} (r : ReadAt) (hon : s.domainOn 7 = true) : ∃ u, exec (.brSpecDataRead r) s = .next u ∧
    u.resp = [pickBytes r.be s.specWord] ∧
    u.get F.BR_SPEC_SEL_POINT = (if s.get F.BR_SPEC_SEL_POINT = 64 then 0 else (s.get F.BR_SPEC_SEL_POINT + 1) % 2 ^ F.BR_SPEC_SEL_POINT.width) ∧
    OnlyChanges [F.BR_SPEC_SEL_POINT] [.resp] s u := by
  have hrun : readBytes r.be (access 0x160104 specDataRead) (s.advance r.at_) =
      { (s.advance r.at_).put F.BR_SPEC_SEL_POINT (if s.get F.BR_SPEC_SEL_POINT = 64 then 0 else s.get F.BR_SPEC_SEL_POINT + 1) with
        resp := [pickBytes r.be s.specWord] } := by
    rw [readBytes, access_on (addr := 0x160104) (s := s.advance r.at_) hon]
    rfl
  refine ⟨_, rfl, ?_, ?_, .answer (t := r.at_) ?_⟩ <;> rw [hrun]
  · rw [State.answer_resp]
  · rw [State.get_answer _ _ (by decide), State.get_mk, State.get_put_same]
    split <;> rfl
  · exact (OnlyChanges.put _ _ _ (by decide)).trans ((OnlyChanges.resp _ _).mono (by decide) (by decide))

end Sys2Proof.Machine

section
open Sys2Proof Sys2Proof.Machine

/-- Settles O31: each clause is a fact of its own about a baseline's end or beginning, a block's end, a profile's issue, the synthesiser's lock or
the readback. -/
theorem brillouinCommands : Obligations.BrillouinCommands := by
  unfold Obligations.BrillouinCommands
  intro s t
  exact ⟨fun _ _ => baselineComplete_completes t, baselinePeriodic_begins t, fun _ => baselineSignature_begins t, blockClose_closes t,
    fun _ => profileIssue_issues t, brSynUnlock_unlocks t, fun _ => brSynLocked_locks t, brSpecDataRead_answers⟩

end
